-- ==== Sys2Proof/Word.lean ====
section
/-! DEFINITION. The word types of the KG-4832 (spec/00_scope.md R4 to R7): bytes, 32-bit and 64-bit words, digests.
Only types stand here; the operations on them are in Machine/Bits.lean. -/

namespace Sys2Proof

/-- One byte of a structure, a frame or a memory. -/
abbrev Byte := BitVec 8

/-- A 16-bit field. -/
abbrev Half := BitVec 16

/-- A 32-bit register or field. -/
abbrev Word := BitVec 32

/-- A 64-bit field. -/
abbrev DWord := BitVec 64

/-- A 32-byte cryptographic byte string (a SHA3-256 digest); its first byte is the most significant one. -/
abbrev Digest := BitVec 256

end Sys2Proof
end

