-- ==== Sys2Proof/Syntax.lean ====
section
/-! DEFINITION. The commands of the block: one constructor per row of spec/opcode_table.json. -/

namespace Sys2Proof

/-- A DMA request a tile issued for a job in the transit that ends (R183, R184). -/
structure DmaReq where
  job : Nat
  addr : Nat
  len : Nat
  write : Bool
  /-- engine cycles of the slice that had run when the request was issued -/
  ran : Nat := 0
  deriving DecidableEq, Repr

/-- A reading of an engine tile in the transit that ends (R502): FROZEN_MASTER number, junction in °C, island in mV, margin
warning at 0.88 V. -/
structure TileReading where
  tile : Nat
  tempC : Int
  mv : Nat
  warn : Bool
  deriving DecidableEq, Repr

/-- What a transit's end brings from outside the digital core: samples of the ring oscillator pairs (pair 16 to 31, two counts,
word) and avalanche channels (channel, bits), the DMA requests of the transit, tile readings (DESIGN CHOICE, log 59). -/
structure TransitInput where
  pairs : List (Nat × Nat × Nat × List Bool) := []
  channels : List (Nat × List Bool) := []
  dma : List DmaReq := []
  tiles : List TileReading := []
  deriving DecidableEq, Repr

/-- One detector window of an optical source: the source and the raw bits its window gave (R310, R312). -/
structure RawWindow where
  source : Nat
  raw : List Bool := []
  deriving DecidableEq, Repr

/-- What one BIST run of a partition found (R507, R511): run 1 logic with its signature; run 2 memory with the instances tested
and failed and the first failing place. -/
structure BistFound where
  part : Nat
  run : Nat
  signature : List Byte := []
  tested : Nat := 0
  failed : Nat := 0
  first : Nat := 0
  deriving DecidableEq, Repr

/-- What a Dawn meets (R480 to R485): whether the main supplies came up after being out of range, and everything its steps read
from outside the state (DESIGN CHOICE, log 59). -/
structure DawnInput where
  cold : Bool := true
  /-- the event ring of the run before stands intact (R466) -/
  ringOk : Bool := true
  /-- the three reads of the life-cycle words agree (R448) -/
  otpAgree : Bool := true
  /-- words programmed while the part is BLANK (R446) -/
  factory : List (Nat × Nat) := []
  /-- the boot ROM's self-check passes (R494) -/
  romOk : Bool := true
  /-- an alarm of the always-on check: class, source (R443) -/
  alarm : Option (Nat × Nat) := none
  /-- flash regions whose contents were replaced while no power was good: 0, 1 carcass copies, 2 to 5 firmware copies -/
  flash : List (Nat × List Byte) := []
  /-- rows of ledger cells that no longer read as they were left -/
  rows : List (Nat × List Byte) := []
  /-- outcomes of the erases that complete a carry left open: counter, outcomes (R357) -/
  completes : List (Nat × List Nat) := []
  /-- what the writes of counter cells in this Dawn meet, in their order: counter, does the bit read back, outcomes of the erases after a
  carry (R355, R356) -/
  cells : List (Nat × Bool × List Nat) := []
  bist : List BistFound := []
  /-- how long the BIST step took, ms -/
  bistMs : Nat := 200
  /-- Keeper reports ready in time (R494) -/
  keeperReady : Bool := true
  /-- key store banks whose check fails (group, bank), entries whose tag does not open (slot) -/
  banksBad : List (Nat × Nat) := []
  entriesBad : List Nat := []
  /-- share store entries whose tag fails (R415) -/
  sharesBad : List Nat := []
  /-- RTC ticks of 30.517578125 µs since the always-on copy of ledger time (R48) -/
  rtcTicks : Nat := 0
  /-- transits from the first of this Dawn to the expected admission (R487) -/
  expect : Nat := 51270
  deriving DecidableEq, Repr

/-- An access of an applet (R375). -/
inductive Access where
  | read | write | exec
  deriving DecidableEq, Repr

/-- The commands of the block; `job` names a job slot. -/
inductive Instr where
  /-- TRANSIT_BOUNDARY (R33): a new transit begins; `inp` is what the transit that ends brought from outside -/
  | transitBoundary (inp : TransitInput)
  /-- METER_FRAME_BOUNDARY (R34): `bitOk`: a cell bit programmed at it reads back -/
  | meterFrameBoundary (bitOk : Bool)
  /-- ORBIT_BOUNDARY (R34) -/
  | orbitBoundary
  /-- PPS_EDGE (R42): `stamp` fabric cycles since L = 0, `cycle` within the transit -/
  | ppsEdge (stamp : Nat) (cycle : Nat)
  /-- PPS_INTERVAL_TIMEOUT (R42) -/
  | ppsIntervalTimeout
  /-- PLANNING_TAIL (R69) -/
  | planningTail
  /-- OPERAND_STAGED (R61): the bytes read at IN, AUX and the context record -/
  | operandStaged (job : Nat) (input : List Byte) (aux : List Byte) (extra : List Byte)
  /-- COMMIT_PHASE (R75): the phase begins or goes on, and issues up to `count` bytes -/
  | commitPhase (job : Nat) (count : Nat) (bitOk : Bool)
  /-- CARRY_COMPLETION (R355): `fail` 0 none, 1 the high row, 2 the thermometer row fails -/
  | carryCompletion (counter : Nat) (fail : Nat)
  /-- LANE_RECORD_WRITE (R360) -/
  | laneRecordWrite (lane : Nat) (bitOk : Bool)
  /-- SQ_DOORBELL (R142) -/
  | sqDoorbell (fn : Nat) (ring : Nat) (count : Word) (cycle : Nat)
  /-- CQ_DOORBELL (R142) -/
  | cqDoorbell (fn : Nat) (ring : Nat) (count : Word)
  /-- DESCRIPTOR_FETCH (R166): `bytes` is the descriptor read -/
  | descriptorFetch (fn : Nat) (ring : Nat) (bytes : List Byte)
  /-- CREDITLESS_ANSWER (R150) -/
  | creditlessAnswer (fn : Nat) (ring : Nat) (bytes : List Byte)
  /-- SQ_ENABLE (R141) -/
  | sqEnable (fn : Nat) (ring : Nat) (value : Nat)
  /-- SQ_DISABLE (R141) -/
  | sqDisable (fn : Nat) (ring : Nat) (value : Nat)
  /-- CQ_ENABLE (R141) -/
  | cqEnable (fn : Nat) (ring : Nat) (value : Nat)
  /-- CQ_DISABLE (R141) -/
  | cqDisable (fn : Nat) (ring : Nat) (value : Nat)
  /-- STATUS_BLOCK_ENABLE (R152) -/
  | statusBlockEnable (fn : Nat) (value : Nat)
  /-- FN_ATTN_CLEAR (R8) -/
  | fnAttnClear (fn : Nat) (value : Nat)
  /-- NOTICE_WRITE (R151) -/
  | noticeWrite (fn : Nat)
  /-- HOST_READ_FAILURE (R156): of a job, or of a descriptor fetch where `job` is none; cause 0 completion timeout, 1 Unsupported
  Request, 2 Completer Abort, 3 poisoned data -/
  | hostReadFailure (job : Option Nat) (fn : Nat) (ring : Nat) (addr : Nat) (cause : Nat)
  /-- FLR (R157) -/
  | flr (fn : Nat)
  /-- BUS_MASTER_ENABLE_CLEARED (R157) -/
  | busMasterEnableCleared (fn : Nat)
  /-- D3HOT_ENTRY (R157) -/
  | d3hotEntry (fn : Nat)
  /-- D3HOT_TO_D0 (R157) -/
  | d3hotToD0 (fn : Nat)
  /-- HOT_RESET (R158) -/
  | hotReset
  /-- LINK_DOWN (R158) -/
  | linkDown
  /-- VF_ENABLE_CLEARED (R157) -/
  | vfEnableCleared
  /-- BAD_ACCESS (R136) -/
  | badAccess (fn : Nat) (offset : Nat) (size : Nat) (write : Bool)
  /-- REGISTER_WRITE (R536): `path` 0 function 0, k VF k, 100 the DAP -/
  | registerWrite (path : Nat) (offset : Nat) (value : Nat)
  /-- LATCHING_READ (R538): a read on `path`; one of a low half latches its companions -/
  | latchingRead (path : Nat) (offset : Nat)
  /-- NOP (R176) -/
  | nop (job : Nat)
  /-- SYM_ENCRYPT (R233) -/
  | symEncrypt (job : Nat)
  /-- SYM_DECRYPT (R233) -/
  | symDecrypt (job : Nat)
  /-- SYM_AEAD_ENCRYPT (R233) -/
  | symAeadEncrypt (job : Nat)
  /-- SYM_AEAD_DECRYPT (R236) -/
  | symAeadDecrypt (job : Nat)
  /-- SYM_CMAC (R233) -/
  | symCmac (job : Nat)
  /-- SYM_KEY_WRAP (R234) -/
  | symKeyWrap (job : Nat)
  /-- SYM_KEY_UNWRAP (R236) -/
  | symKeyUnwrap (job : Nat)
  /-- SYM_CONTEXT_SAVE (R241) -/
  | symContextSave (job : Nat)
  /-- SYM_CONTEXT_RESTORE (R241) -/
  | symContextRestore (job : Nat)
  /-- SYM_REENCRYPT (R235) -/
  | symReencrypt (job : Nat)
  /-- DIG_HASH (R253) -/
  | digHash (job : Nat)
  /-- DIG_HMAC (R254) -/
  | digHmac (job : Nat)
  /-- DIG_KMAC (R254) -/
  | digKmac (job : Nat)
  /-- DIG_XOF (R256) -/
  | digXof (job : Nat)
  /-- DIG_CONTEXT_SAVE (R257) -/
  | digContextSave (job : Nat)
  /-- DIG_CONTEXT_RESTORE (R257) -/
  | digContextRestore (job : Nat)
  /-- DIG_RESULT_RELEASE (R260) -/
  | digResultRelease (job : Nat)
  /-- BIG_RSA_SIGN (R271) -/
  | bigRsaSign (job : Nat) (ok : Bool)
  /-- BIG_RSA_VERIFY (R266) -/
  | bigRsaVerify (job : Nat)
  /-- BIG_RSA_ENCRYPT (R266) -/
  | bigRsaEncrypt (job : Nat)
  /-- BIG_RSA_DECRYPT (R268) -/
  | bigRsaDecrypt (job : Nat) (ok : Bool)
  /-- BIG_ECDSA_SIGN (R271) -/
  | bigEcdsaSign (job : Nat) (ok : Bool)
  /-- BIG_ECDSA_VERIFY (R266) -/
  | bigEcdsaVerify (job : Nat)
  /-- BIG_ECDH (R268) -/
  | bigEcdh (job : Nat) (ok : Bool)
  /-- BIG_EC_EPHEMERAL (R268) -/
  | bigEcEphemeral (job : Nat) (ok : Bool)
  /-- BIG_EDDSA_SIGN (R266) -/
  | bigEddsaSign (job : Nat) (ok : Bool)
  /-- BIG_EDDSA_VERIFY (R266) -/
  | bigEddsaVerify (job : Nat)
  /-- BIG_XDH (R268) -/
  | bigXdh (job : Nat) (ok : Bool)
  /-- BIG_MODARITH (R276) -/
  | bigModarith (job : Nat)
  /-- POL_MLKEM_KEYPAIR (R283) -/
  | polMlkemKeypair (job : Nat) (check : Nat)
  /-- POL_MLKEM_ENCAPS (R285) -/
  | polMlkemEncaps (job : Nat) (check : Nat)
  /-- POL_MLKEM_DECAPS (R286) -/
  | polMlkemDecaps (job : Nat) (check : Nat)
  /-- POL_MLDSA_SIGN (R287) -/
  | polMldsaSign (job : Nat) (check : Nat)
  /-- POL_MLDSA_VERIFY (R283) -/
  | polMldsaVerify (job : Nat) (check : Nat)
  /-- POL_HE_ENCRYPT (R294) -/
  | polHeEncrypt (job : Nat) (back : List (List Byte))
  /-- ADOPT (R298) -/
  | adopt (job : Nat) (bytes : List Byte)
  /-- POL_HE_DECRYPT (R296) -/
  | polHeDecrypt (job : Nat) (back : List (List Byte))
  /-- POL_HE_ADD (R300) -/
  | polHeAdd (job : Nat) (back : List (List Byte))
  /-- POL_HE_MULTIPLY (R300) -/
  | polHeMultiply (job : Nat) (back : List (List Byte))
  /-- POL_HE_ROTATE (R300) -/
  | polHeRotate (job : Nat) (back : List (List Byte))
  /-- POL_HE_KEYSWITCH (R300) -/
  | polHeKeyswitch (job : Nat) (back : List (List Byte))
  /-- POL_HE_RESCALE (R300) -/
  | polHeRescale (job : Nat) (back : List (List Byte))
  /-- POL_HE_REFRESH (R302) -/
  | polHeRefresh (job : Nat) (back : List (List Byte))
  /-- POL_HANDLE_FREE (R297) -/
  | polHandleFree (job : Nat)
  /-- RNG_READ (R327) -/
  | rngRead (job : Nat)
  /-- LANE_STATUS (R351) -/
  | laneStatus (job : Nat)
  /-- SEAL_REQUEST (R367) -/
  | sealRequest (job : Nat) (ok : Bool)
  /-- LEDGER_READ (R373) -/
  | ledgerRead (job : Nat)
  /-- LEDGER_IDENTITY (R372) -/
  | ledgerIdentity (job : Nat)
  /-- KEY_GENERATE (R219): an asymmetric key is generated on `tile`; `outcome` is the generation's check -/
  | keyGenerate (job : Nat) (tile : Nat) (outcome : Nat)
  /-- KEY_IMPORT (R220) -/
  | keyImport (job : Nat)
  /-- KEY_EXPORT (R221) -/
  | keyExport (job : Nat)
  /-- KEY_DESTROY (R222) -/
  | keyDestroy (job : Nat)
  /-- KEY_LOAD_FERRIED (R216) -/
  | keyLoadFerried (job : Nat)
  /-- KEY_LOAD_PUBLIC (R218) -/
  | keyLoadPublic (job : Nat)
  /-- KEY_INFO (R223) -/
  | keyInfo (job : Nat)
  /-- KEY_EPHEMERAL_FREE (R206) -/
  | keyEphemeralFree (job : Nat)
  /-- DOVETAIL_APPROVE (R228) -/
  | dovetailApprove (job : Nat)
  /-- DOVETAIL_QUERY (R230) -/
  | dovetailQuery (job : Nat)
  /-- DOVETAIL_LAPSE (R229) -/
  | dovetailLapse (request : Nat)
  /-- THAW (R201) -/
  | thaw (job : Nat)
  /-- CARCASS_STAGE (R127) -/
  | carcassStage (job : Nat)
  /-- CARCASS_UNSTAGE (R127) -/
  | carcassUnstage (job : Nat)
  /-- CARCASS_READ (R127) -/
  | carcassRead (job : Nat)
  /-- CARCASS_COPY_WRITTEN (R129): `found` is what the read-back of the copy returns -/
  | carcassCopyWritten (found : List Byte)
  /-- CARCASS_INTENT_TIMEOUT (R129) -/
  | carcassIntentTimeout
  /-- CARCASS_COMMIT (R132) -/
  | carcassCommit (bitOk : Bool)
  /-- COPY_REPAIR (R124) -/
  | copyRepair (found : List Byte)
  /-- TIME_NONCE (R50) -/
  | timeNonce (job : Nat)
  /-- TIME_STATEMENT (R52) -/
  | timeStatement (job : Nat)
  /-- TIME_STEP_APPLY (R53) -/
  | timeStepApply
  /-- MESH_TUNNEL_IN (R413) -/
  | meshTunnelIn (job : Nat)
  /-- MESH_TUNNEL_OUT (R413) -/
  | meshTunnelOut (job : Nat)
  /-- CUSTODY_ROTATE (R416) -/
  | custodyRotate (job : Nat)
  /-- CUSTODY_RESTORE (R417) -/
  | custodyRestore (job : Nat)
  /-- MESH_AGGREGATE (R420) -/
  | meshAggregate (job : Nat) (back : List Byte)
  /-- APPLET_LOAD (R381) -/
  | appletLoad (job : Nat)
  /-- APPLET_STOP (R383) -/
  | appletStop (job : Nat)
  /-- APPLET_MESSAGE (R386) -/
  | appletMessage (job : Nat)
  /-- LCS_TRANSITION (R452) -/
  | lcsTransition (job : Nat) (bits : Nat)
  /-- DEBUG_CERT (R457) -/
  | debugCert (job : Nat)
  /-- DEBUG_CHALLENGE (R458) -/
  | debugChallenge (job : Nat)
  /-- DEBUG_RESPONSE (R458) -/
  | debugResponse (job : Nat)
  /-- CABINET_ZEROIZE (R460) -/
  | cabinetZeroize (job : Nat)
  /-- EVENT_SNAPSHOT (R471) -/
  | eventSnapshot (job : Nat)
  /-- JOURNAL_READ (R477) -/
  | journalRead (job : Nat)
  /-- SELFTEST (R514) -/
  | selftest (job : Nat)
  /-- POWER_POLICY (R503) -/
  | powerPolicy (job : Nat)
  /-- NIGHT_ENTER (R500) -/
  | nightEnter (job : Nat)
  /-- FIRMWARE_STAGE (R492) -/
  | firmwareStage (job : Nat)
  /-- FIRMWARE_COMMIT (R493) -/
  | firmwareCommit (job : Nat)
  /-- FIRMWARE_RESET (R493) -/
  | firmwareReset
  /-- PAGE_MAP (R186) -/
  | pageMap (job : Nat)
  /-- PAGE_UNMAP (R186) -/
  | pageUnmap (job : Nat)
  /-- PAGE_PROTECT (R186) -/
  | pageProtect (job : Nat)
  /-- PAGE_QUERY (R188) -/
  | pageQuery (job : Nat)
  /-- PAGE_WANTED_REPEAT (R195) -/
  | pageWantedRepeat (fn : Nat) (page : Nat)
  /-- PAGE_ABANDON_TIMEOUT (R197) -/
  | pageAbandonTimeout (job : Nat)
  /-- TILE_PARITY_ERROR (R250) -/
  | tileParityError (tile : Nat) (bank : Nat)
  /-- SOURCE_WINDOW_CLOSE (R312) -/
  | sourceWindowClose (source : RawWindow)
  /-- RNG_HEALTH_INTERMITTENT (R317) -/
  | rngHealthIntermittent (source : Nat) (raw : List Bool)
  /-- DRBG_RESEED (R320) -/
  | drbgReseed
  /-- DRBG_BLOCKED (R320) -/
  | drbgBlocked
  /-- DRBG_INSTANTIATE (R319) -/
  | drbgInstantiate
  /-- DRBG_KAT_FAILED (R322): `cause` 0 known answer, 1 parity -/
  | drbgKatFailed (cause : Nat)
  /-- LANE_CYCLE_START (R337) -/
  | laneCycleStart (lane : Nat)
  /-- READING (R336): `clean`: no code violation broke the response -/
  | reading (lane : Nat) (clean : Bool) (bytes : List Byte)
  /-- IDENTITY (R336) -/
  | identity (lane : Nat) (clean : Bool) (bytes : List Byte)
  /-- LANE_RESPONSE_TIMEOUT (R335) -/
  | laneResponseTimeout (lane : Nat)
  /-- LANE_RETRY (R337) -/
  | laneRetry (lane : Nat)
  /-- DECISION_POINT (R341) -/
  | decisionPoint (lane : Nat)
  /-- PULSE (R340) -/
  | pulse (lane : Nat)
  /-- LANE_BABBLING (R348) -/
  | laneBabbling (lane : Nat)
  /-- LANE_JOIN (R349) -/
  | laneJoin (lane : Nat)
  /-- WORLD_SWITCH (R378) -/
  | worldSwitch (quantum : Nat)
  /-- YIELD (R384) -/
  | yield (world : Nat)
  /-- MSG_RECV (R386) -/
  | msgRecv (world : Nat)
  /-- MSG_DONE (R386) -/
  | msgDone (world : Nat)
  /-- MSG_SEND (R386): `out` is what the outbox holds -/
  | msgSend (world : Nat) (len : Nat) (out : List Byte)
  /-- LEDGER_VIEW (R385) -/
  | ledgerView (world : Nat) (lane : Nat) (buf : Nat)
  /-- TIME (R385) -/
  | time (world : Nat) (buf : Nat)
  /-- L_NOW (R384) -/
  | lNow (world : Nat)
  /-- BAD_CALL (R384) -/
  | badCall (world : Nat) (number : Nat) (addr : Nat)
  /-- WORLD_VIOLATION (R375) -/
  | worldViolation (world : Nat) (kind : Option Access) (vaddr : Nat)
  /-- APPLET_RUN (R381) -/
  | appletRun (world : Nat)
  /-- WORLD_STOP (R383) -/
  | worldStop (world : Nat)
  /-- MESSAGE_DELIVERY (R386) -/
  | messageDelivery (world : Nat)
  /-- MESSAGE_TIMEOUT (R386) -/
  | messageTimeout (world : Nat)
  /-- LOCKSTEP_MISMATCH (R388) -/
  | lockstepMismatch (pair : Nat) (cause : Nat)
  /-- COMPARATOR_DEAD (R388) -/
  | comparatorDead (pair : Nat) (cause : Nat)
  /-- COMPARATOR_PROBE (R389) -/
  | comparatorProbe (pair : Nat) (rail : Nat) (cycles : Nat)
  /-- PAIR_RESTART (R390) -/
  | pairRestart (pair : Nat)
  /-- PAIR_RESTART_COMPLETE (R390): `bad`: worlds whose code fails its check -/
  | pairRestartComplete (pair : Nat) (bad : List Nat)
  /-- PAIR_RESTART_TIMEOUT (R390) -/
  | pairRestartTimeout (pair : Nat)
  /-- KEEPER_ABSENT_CLOSE (R392) -/
  | keeperAbsentClose
  /-- ADMISSION_REOPEN (R392) -/
  | admissionReopen
  /-- HOLD_ENTRY (R394) -/
  | holdEntry
  /-- PORT_LOCK_CHANGE (R396) -/
  | portLockChange (port : Nat) (pcs : Bool) (fec : Bool)
  /-- HELLO (R405) -/
  | hello (port : Nat) (bytes : List Byte)
  /-- KEY_INIT (R407) -/
  | keyInit (port : Nat) (bytes : List Byte)
  /-- KEY_REPLY (R407) -/
  | keyReply (port : Nat) (bytes : List Byte)
  /-- KEY_CONFIRM (R407) -/
  | keyConfirm (port : Nat) (bytes : List Byte)
  /-- HEARTBEAT (R412): `rx` is its RX_PHASE -/
  | heartbeat (port : Nat) (rx : Nat) (bytes : List Byte)
  /-- CREDIT (R401) -/
  | credit (port : Nat) (bytes : List Byte)
  /-- SHARE_PUT (R416) -/
  | sharePut (port : Nat) (bytes : List Byte)
  /-- SHARE_ACK (R416) -/
  | shareAck (port : Nat) (bytes : List Byte)
  /-- SHARE_COMMIT (R416) -/
  | shareCommit (port : Nat) (bytes : List Byte)
  /-- SHARE_REQUEST (R417) -/
  | shareRequest (port : Nat) (bytes : List Byte)
  /-- SHARE_RELEASE (R418) -/
  | shareRelease (port : Nat) (bytes : List Byte)
  /-- SHARE_REFUSE (R418) -/
  | shareRefuse (port : Nat) (bytes : List Byte)
  /-- SHARE_PROBE (R416) -/
  | shareProbe (port : Nat) (bytes : List Byte)
  /-- SHARE_DROP (R416) -/
  | shareDrop (port : Nat) (bytes : List Byte)
  /-- AGG_OFFER (R420) -/
  | aggOffer (port : Nat) (bytes : List Byte)
  /-- AGG_SHARE (R421) -/
  | aggShare (port : Nat) (bytes : List Byte)
  /-- AGG_PARTIAL (R421) -/
  | aggPartial (port : Nat) (bytes : List Byte)
  /-- AGG_CIPHER (R422) -/
  | aggCipher (port : Nat) (bytes : List Byte)
  /-- HELLO_TIMER (R405) -/
  | helloTimer (member : Nat)
  /-- HEARTBEAT_SEND (R409): TX_PHASE of each member's heartbeat -/
  | heartbeatSend (phases : List (Nat × Nat))
  /-- MEMBER_LOST (R410) -/
  | memberLost (member : Nat)
  /-- REKEY (R408) -/
  | rekey (member : Nat)
  /-- CREDIT_RETURN (R401) -/
  | creditReturn (member : Nat)
  /-- MESSAGE_RESEND (R402) -/
  | messageResend (member : Nat)
  /-- SHARE_SET_COMMIT (R416) -/
  | shareSetCommit (cab : Nat)
  /-- ROTATION_TIMEOUT (R416) -/
  | rotationTimeout (cab : Nat)
  /-- SHARE_SET_ERASE (R416) -/
  | shareSetErase
  /-- RESTORE_TIMEOUT (R418) -/
  | restoreTimeout (job : Nat)
  /-- AGG_ROUND_TIMEOUT (R420) -/
  | aggRoundTimeout (round : Nat)
  /-- INPUT_TRIPPED (R432) -/
  | inputTripped (input : Nat)
  /-- INPUT_DISCREPANCY (R432) -/
  | inputDiscrepancy (input : Nat)
  /-- DISCREPANCY_BRIEF (R432) -/
  | discrepancyBrief (input : Nat)
  /-- ESCUTCHEON (R427) -/
  | escutcheon (meander : Nat)
  /-- SENSOR_ALARM (R434) -/
  | sensorAlarm (cls : Nat) (source : Nat)
  /-- ZEROIZE_COMPLETE (R437) -/
  | zeroizeComplete (vaultOk : Bool) (sramOk : Bool)
  /-- LOW_BATTERY (R436) -/
  | lowBattery (mv : Nat)
  /-- AON_POWER_LOSS (R436) -/
  | aonPowerLoss
  /-- POWER_FAIL (R497) -/
  | powerFail
  /-- SENSOR_DISARM (R435) -/
  | sensorDisarm
  /-- POWER_RECOVERED (R498) -/
  | powerRecovered
  /-- POWER_GOOD (R481) -/
  | powerGood (inp : DawnInput)
  /-- ADMISSION_OPEN (R481): `ms` since power good -/
  | admissionOpen (ms : Nat)
  /-- LINK_TRAINING (R484): width, transfer rate, VF Enable -/
  | linkTraining (lanes : Nat) (gts : Nat) (vf : Bool)
  /-- WARM_RESET (R478) -/
  | warmReset
  /-- WAKE (R501): `cause` 0 WAKE_N, 1 the timer, 2 the supplies; seconds asleep -/
  | wake (cause : Nat) (secs : Nat)
  /-- BOOT_RETRY (R495) -/
  | bootRetry
  /-- BOOT_MAP (R486) -/
  | bootMap (fn : Nat) (value : Nat)
  /-- TILE_LIMIT_CHANGE (R502) -/
  | tileLimitChange (tile : Nat)
  /-- I2C_CEILING (R531): the bytes written up to the STOP -/
  | i2cCeiling (bytes : List Byte)
  /-- TAP_INSTRUCTION (R461) -/
  | tapInstruction (code : Nat)
  /-- LCS_DAP_DOORBELL (R453): bits of the step byte programmed before power is lost; 8 where it is not -/
  | lcsDapDoorbell (bits : Nat)
  /-- EVENT_INTAKE (R467) -/
  | eventIntake
  /-- EVT_ACK_SEQ (R468) -/
  | evtAckSeq (value : Word)
  /-- EVT_SEL_SEQ (R470) -/
  | evtSelSeq (value : Word)
  /-- EVT_JOURNAL_ACK (R477) -/
  | evtJournalAck (value : Word)
  /-- JOURNAL_PROGRAM (R474) -/
  | journalProgram (ok : Bool)
  /-- BIST_RUN_COMPLETE (R516) -/
  | bistRunComplete (part : Nat) (found : List BistFound)
  /-- BST_DAP_START (R519) -/
  | bstDapStart
  /-- TAMPER_MONITOR_SAMPLE (R431): channel bits of every input, the two sense lines of each meander, °C/16, mV, sensor conditions -/
  | tamperMonitorSample (a : Nat) (b : Nat) (lid : Bool × Bool) (board : Bool × Bool) (temp : Int) (mv : Nat) (present : Nat)
  /-- ALWAYS_ON_POWER_UP (R527) -/
  | alwaysOnPowerUp
  /-- KEY_BANK_ERASED (R211) -/
  | keyBankErased (group : Nat)
  /-- FIRMWARE_COPY_WRITTEN (R493) -/
  | firmwareCopyWritten (found : List Byte)
  /-- APPLET_STORE_WRITTEN (R381) -/
  | appletStoreWritten (world : Nat) (ok : Bool)
  /-- MESH_FRAME_REJECTED (R399): `fec`: the frame was lost to an uncorrected FEC block -/
  | meshFrameRejected (port : Nat) (fec : Bool) (bytes : List Byte)
  /-- DEBUG_PAIR_HALT (R455) -/
  | debugPairHalt (pair : Nat)
  /-- DEBUG_PAIR_RESUME (R455) -/
  | debugPairResume (pair : Nat)
  deriving DecidableEq, Repr

end Sys2Proof
end

