-- ==== Sys2Proof/Machine/Bits.lean ====
section
/-! DEFINITION. Bit fields and byte order (spec/00_scope.md R4, R5): little-endian reads and writes of byte strings,
bit ranges of a Nat, signed folding. -/

namespace Sys2Proof.Machine

/-- Bits [hi:lo] of `w`, both ends included (R5). -/
def bits (w hi lo : Nat) : Nat := (w >>> lo) % 2 ^ (hi + 1 - lo)

/-- Bit [n] of `w`. -/
def bit (w n : Nat) : Bool := Nat.testBit w n

/-- A condition as the value of a one-bit field. -/
def flag (b : Bool) : Nat := if b then 1 else 0

/-- Byte `i` of a byte string; beyond its end 0. -/
def byteAt (bs : List Byte) (i : Nat) : Nat := ((bs[i]?).getD 0).toNat

/-- The `n`-byte little-endian field of `bs` at byte `off` (R4). -/
def leAt (bs : List Byte) (off : Nat) : Nat → Nat
  | 0 => 0
  | n + 1 => byteAt bs off + 256 * leAt bs (off + 1) n

/-- The bytes of `bs` from `off`, `n` of them (fewer where `bs` ends). -/
def slice (bs : List Byte) (off n : Nat) : List Byte := (bs.drop off).take n

/-- `v` as `n` little-endian bytes (R4). -/
def leBytes : Nat → Nat → List Byte
  | 0, _ => []
  | n + 1, v => BitVec.ofNat 8 v :: leBytes n (v / 256)

/-- `v` as `n` big-endian bytes (a cryptographic byte string). -/
def beBytes (n v : Nat) : List Byte := (leBytes n v).reverse

/-- A byte string read as a big-endian number. -/
def beNat (bs : List Byte) : Nat := bs.foldl (fun a b => a * 256 + b.toNat) 0

/-- A 32-byte string as a digest. -/
def digestOf (bs : List Byte) : Digest := BitVec.ofNat 256 (beNat bs)

/-- A digest as its 32 bytes. -/
def digestBytes (d : Digest) : List Byte := beBytes 32 d.toNat

/-- `n` zero bytes. -/
def zeros (n : Nat) : List Byte := List.replicate n 0

/-- Are all bytes of the string 0? -/
def allZero (bs : List Byte) : Bool := bs.all (· == 0)

/-- The first index at which two byte strings differ (R122); none where they agree. -/
def firstDiff : List Byte → List Byte → Nat → Option Nat
  | [], [], _ => none
  | a :: as, b :: bs, i => if a = b then firstDiff as bs (i + 1) else some i
  | _, _, i => some i

/-- The first byte of `bs`, counted from `off`, that is not 0. -/
def firstNonZero : List Byte → Nat → Option Nat
  | [], _ => none
  | b :: bs, i => if b = 0 then firstNonZero bs (i + 1) else some i

/-- `v` rounded up to a multiple of `m`. -/
def roundUp (v m : Nat) : Nat := (v + m - 1) / m * m

/-- The quotient rounded up (`ceil` of the manual's pseudocode). -/
def ceilDiv (a b : Nat) : Nat := (a + b - 1) / b

/-- `i` kept in `lo` to `hi`. -/
def clampInt (lo hi i : Int) : Int := max lo (min hi i)

/-- A signed value as the two's complement word of `n` bits (register and parameter fields). -/
def signedField (n : Nat) (i : Int) : Nat := (i % (2 ^ n : Int)).toNat

/-- The signed value of an `n`-bit field. -/
def fieldSigned (n w : Nat) : Int := if w % 2 ^ n < 2 ^ (n - 1) then (w % 2 ^ n : Nat) else ((w % 2 ^ n : Nat) : Int) - 2 ^ n

/-- The signed 32-bit difference of two free-running counts (R142) (DEDUCED, log 60). -/
def diff32 (a b : Word) : Int := (a - b).toInt

/-- A count in a field of `n` bits that saturates (DEDUCED, log 60). -/
def saturate (n v : Nat) : Nat := min v (2 ^ n - 1)

/-- A one-bit-per-member map of the numbers below `n` that satisfy `p`. -/
def bitmapOf (n : Nat) (p : Nat → Bool) : Nat :=
  (List.range n).foldl (fun a i => a + flag (p i) * 2 ^ i) 0

/-- The low 32 bits of a 64-bit quantity (DEDUCED, log 60). -/
def lo32 (v : Nat) : Nat := v % 2 ^ 32

/-- Bits [63:32] of a 64-bit quantity. -/
def hi32 (v : Nat) : Nat := v / 2 ^ 32 % 2 ^ 32

/-- How many bits of `v` below bit `n` are set. -/
def popcount : Nat → Nat → Nat
  | 0, _ => 0
  | n + 1, v => v % 2 + popcount n (v / 2)

end Sys2Proof.Machine
end

