-- ==== Sys2Proof/Config.lean ====
section
/-! DEFINITION. What an implementation or an external standard fixes and this spec does not give: free values. Each is
an opaque constant with no body, so no proof can see a value of it. -/

namespace Sys2Proof.Config

/-- Byte `n` of the model's stream of free values: random bytes (R50, R319) and values the spec does not state (DESIGN CHOICE, log 2). -/
opaque freeByte : Nat → Byte

/-- SHA3-256 (FIPS 202, R253), a result of an external standard (DESIGN CHOICE, log 7). -/
opaque sha3 : List Byte → Digest

/-- Byte `i` of the result of a routine of an external standard (R18): routine number, numeric parameters, byte inputs (DESIGN CHOICE, log 7). -/
opaque standardByte : Nat → List Nat → List (List Byte) → Nat → Byte

/-- Does a check of an external standard hold (a signature, a tag, a key validity check)? Routine, parameters, inputs (DESIGN CHOICE, log 7). -/
opaque standardHolds : Nat → List Nat → List (List Byte) → Bool

/-- The trim the discipline loop heads for (R41, R43): source code, measurement, trim now. The spec fixes the step and the
range, not the control law (DESIGN CHOICE, log 10). -/
opaque trimTarget : Nat → Int → Int → Int

/-- Is page `n` of world 0 a code page? The spec gives Keeper's pages but not their rights (R374, R375) (DESIGN CHOICE, log 11). -/
opaque worldZeroCode : Nat → Bool

end Sys2Proof.Config
end

