-- ==== Sys2Proof/Machine/State.lean ====
section
/-! DEFINITION. The state of the KG-4832: every register, buffer, counter, mode and record the spec gives it, as plain data.
The value after `:=` is the value at reset; where the spec gives none it is a DESIGN CHOICE (log 1). Dimensions and
rules are listed in INVENTORY.md. -/

namespace Sys2Proof.Machine

/-! ### The carcass image's structure (spec/04_carcass_format.md R98 to R113) -/

/-- CABINET record (R99). Flags: [0] SEAL_LANES, [1] HOMOMORPHIC, [2] MESH_BACKUP, [3] EXPORT. -/
structure Cabinet where
  cab : Nat
  flags : Nat
  name : List Byte := []
  deriving DecidableEq, Repr

/-- QUORUM record (R100). -/
structure Quorum where
  cab : Nat
  m : Nat
  n : Nat
  deriving DecidableEq, Repr

/-- OFFICER record (R100). -/
structure Officer where
  cab : Nat
  index : Nat
  alg : Nat
  rights : Nat
  digest : Digest
  label : List Byte := []
  deriving DecidableEq, Repr

/-- FUNCTION record (R103). Flags: [0] PAGE_ADMIN, [1] EVENT_READ. -/
structure FnRec where
  fn : Nat
  cab : Nat
  flags : Nat
  sqs : Nat
  cqs : Nat
  deriving DecidableEq, Repr

/-- PAGE_WINDOW record (R104). -/
structure Window where
  first : Nat
  count : Nat
  cab : Nat
  rights : Nat
  fn : Nat
  deriving DecidableEq, Repr

/-- SLOT_RANGE record (R105). -/
structure SlotRange where
  first : Nat
  count : Nat
  cab : Nat
  ephemeral : Nat
  deriving DecidableEq, Repr

/-- LANE record (spec/04_carcass_format.md, LANES). Flags: [0] PULSE_USED, [1] IDENTITY_PINNED. -/
structure LaneRec where
  lane : Nat
  cab : Nat
  flags : Nat
  pulseConst : Nat
  identity : List Byte
  deriving DecidableEq, Repr

/-- LOTS record (R107). -/
structure Lots where
  cls : Nat
  tile : Nat
  cab : Nat
  lots : Nat
  deriving DecidableEq, Repr

/-- SHARES record (R107), engine cycles per transit at 3.0 GHz. -/
structure Shares where
  cls : Nat
  cab : Nat
  timely : Nat
  bulk : Nat
  deriving DecidableEq, Repr

/-- TAMPER_INPUT record (R109). -/
structure TamperRec where
  input : Nat
  unused : Bool
  ms : Nat
  deriving DecidableEq, Repr

/-- MESH_MEMBER record (R111). -/
structure MeshRec where
  member : Nat
  path : Nat
  eligible : Bool
  serial : Nat
  digest : Digest
  deriving DecidableEq, Repr

/-- CUSTODY record (R112); `holders` lists the member numbers whose bit is set. -/
structure Custody where
  cab : Nat
  t : Nat
  holders : List Nat
  deriving DecidableEq, Repr

/-- APPLET record (R113). -/
structure AppletRec where
  world : Nat
  cab : Nat
  pages : Nat
  share : Nat
  digest : Digest
  deriving DecidableEq, Repr

/-- A whole carcass structure: an image's records, or the bare carcass (R125). -/
structure Carcass where
  bare : Bool := false
  seq : Nat := 0
  serial : Nat := 0
  mortise : Nat := 0
  siteId : List Byte := []
  siteAlg : Nat := 0
  periodMin : Nat := 0
  siteRoot : Digest := 0
  cabinets : List Cabinet := []
  quorums : List Quorum := []
  officers : List Officer := []
  fns : List FnRec := []
  windows : List Window := []
  slots : List SlotRange := []
  lanes : List LaneRec := []
  owned : List (Nat × Nat) := []
  lots : List Lots := []
  shares : List Shares := []
  tamper : List TamperRec := []
  boardCover : Bool := false
  meshSelf : Option (Nat × Bool) := none
  members : List MeshRec := []
  custody : List Custody := []
  applets : List AppletRec := []
  deriving DecidableEq, Repr

/-- The vault site record (R117): active root, next root, cabinet 0 roster, tamper records. -/
structure SiteRecord where
  activeAlg : Nat
  activeRoot : Digest
  nextAlg : Nat
  nextRoot : Digest
  quorum : Quorum
  officers : List Officer
  tamper : List TamperRec
  boardCover : Bool
  deriving DecidableEq, Repr

/-- A commit intent (R116); at most one is open. -/
structure CommitIntent where
  seq : Nat
  imageDigest : Digest
  alg : Nat
  root : Digest
  openL : Nat
  job : Option Nat
  /-- the first copy (0 A, 1 B) and whether it has been written and read back (R129 step 1) -/
  firstCopy : Nat
  written : Bool
  deriving DecidableEq, Repr

/-- The staged image (R127). -/
structure Staged where
  bytes : List Byte
  image : Carcass
  imageDigest : Digest
  alg : Nat
  root : Digest
  job : Nat
  request : Option Nat
  deriving DecidableEq, Repr

/-- One bank of a two-bank record (R210): its body, its sequence, and whether its check, SHA3-256 of body ‖ sequence, passes. -/
structure RecBank (α : Type) where
  seq : Nat
  intact : Bool := true
  body : α
  deriving DecidableEq, Repr

/-- A two-bank record (R210): two banks, each erased or written, and the commit word, which the vault holds. -/
structure TwoBank (α : Type) where
  b0 : Option (RecBank α) := none
  b1 : Option (RecBank α) := none
  word : Nat := 0
  deriving DecidableEq, Repr

/-- Carcass state (spec/05_carcass_custody.md). -/
structure CarState where
  copyA : List Byte := []
  copyB : List Byte := []
  staged : Option Staged := none
  floor : Nat := 0
  intent : Option CommitIntent := none
  /-- the vault site record (R117), a two-bank record; its value is Sys2Proof.Machine.CarState.site -/
  siteBanks : TwoBank SiteRecord := {}
  active : Carcass := {}
  /-- CAR_STATUS.BARE: 0 image active, 1 no valid copy, 2 split image -/
  bareReason : Nat := 0
  /-- reason and offset of the last check of each copy -/
  reasonA : Nat × Nat := (0, 0)
  reasonB : Nat × Nat := (0, 0)
  aActive : Bool := false
  bActive : Bool := false
  repairPending : Bool := false
  /-- the orbit of the last repair that failed: the next is due at an orbit boundary (R124) -/
  repairFailed : Option Nat := none
  split : Option (Nat × Nat) := none
  deriving DecidableEq, Repr

/-! ### Time (spec/02_transit_orbit_time.md) -/

/-- Quality of ledger time (R48). -/
inductive Quality where
  | unset | carried | set
  deriving DecidableEq, Repr

/-- Trim source (R41; ORR_CLOCK_STATUS.SOURCE). -/
inductive TrimSource where
  | free | pps | mesh | holdover
  deriving DecidableEq, Repr

/-- A time step request (R53). -/
structure StepReq where
  target : Int
  /-- ledger time elapsed since the statement was verified, slews apart, in ps -/
  elapsedPs : Nat := 0
  digest : Digest
  request : Nat
  job : Nat
  /-- L at which its quorum was reached; none while it is open -/
  approvedL : Option Nat := none
  deriving DecidableEq, Repr

/-- Time bases of the device. -/
structure TimeState where
  L : Nat := 0
  genRunning : Bool := false
  /-- the generator stopped under R40 -/
  genStopped : Bool := false
  /-- L at which admission is expected to open (R487) -/
  admitExpectL : Nat := 0
  /-- L of the last transit whose tail has begun (R55, R69) -/
  tailL : Option Nat := none
  /-- always-on copy of L (R425) -/
  aonL : Nat := 0
  trim : Int := 0
  trimHistory : List Int := []
  source : TrimSource := .free
  ppsLast : Option Nat := none
  ppsRun : Nat := 0
  ppsMissed : Nat := 0
  /-- the interval under way has run past 1,000,200 µs and is counted (R42) -/
  ppsLate : Bool := false
  ppsIntervals : List Nat := []
  ppsQualified : Bool := false
  phaseError : Int := 0
  alignRun : Nat := 0
  misalignRun : Nat := 0
  aligned : Bool := false
  ledgerUs : Nat := 0
  subPs : Nat := 0
  slewPs : Int := 0
  /-- the pending slew is a statement's (R49) -/
  stmtSlew : Bool := false
  rate : Nat := 0x007D0000
  quality : Quality := .unset
  /-- interval carried by the RTC count, µs (R52) -/
  carriedUs : Nat := 0
  /-- ledger time copied at NIGHT entry or power loss (R48) -/
  aonTime : Option (Nat × Quality) := none
  stepped : Bool := false
  lastStep : Int := 0
  lastStepL : Nat := 0
  stepReq : Option StepReq := none
  /-- step requests with their quorum that wait for the next meter frame, oldest first (R53) -/
  stepDue : List StepReq := []
  /-- open nonces with their issue L, oldest first, at most 4 (R50) -/
  nonces : List (List Byte × Nat) := []
  deriving DecidableEq, Repr

/-! ### Host link (spec/06_host_transport.md) and messages (spec/07_ramrek_messages.md) -/

/-- Ring state (R141). -/
inductive RingState where
  | off | active | draining | fault
  deriving DecidableEq, Repr

/-- A submission ring (R138 to R150). -/
structure Sq where
  base : Nat := 0
  sizeLog2 : Nat := 0
  cq : Nat := 0
  enableBit : Bool := false
  st : RingState := .off
  error : Nat := 0
  limit : Word := 0
  head : Word := 0
  tail : Word := 0
  withheld : Nat := 0
  /-- job instants: the instant (fabric cycles since L = 0) of the doorbell that first covered a count (R144) -/
  bells : List (Word × Nat) := []
  ignoredLogged : Bool := false
  /-- ENABLE has been written 0 in FAULT (R141) -/
  offDue : Bool := false
  /-- which enabling of its CQ its credits and jobs hold entries of (R141, R146) -/
  cqGen : Nat := 0
  deriving DecidableEq, Repr

/-- A completion ring (R138 to R155). -/
structure Cq where
  base : Nat := 0
  sizeLog2 : Nat := 0
  intEn : Bool := false
  enableBit : Bool := false
  st : RingState := .off
  error : Nat := 0
  written : Word := 0
  consumed : Word := 0
  reserved : Nat := 0
  armed : Bool := false
  ignoredLogged : Bool := false
  /-- how often it has been enabled -/
  gen : Nat := 0
  deriving DecidableEq, Repr

/-- A completion entry (R168 to R172). -/
structure Completion where
  tag : Word
  status : Nat
  interim : Bool
  torn : Bool
  creditless : Bool
  sq : Nat
  phase : Bool
  when_ : Nat
  outLen : Nat
  w0 : Nat
  w1 : Nat
  w2 : Nat
  deriving DecidableEq, Repr

/-- A notice (R173, R174) as raised: type, subject, parameters, L of raising. -/
structure Notice where
  type : Nat
  subject : Nat
  p0 : Nat
  p1 : Nat
  p2 : Nat
  p3 : Nat
  raisedL : Nat
  deriving DecidableEq, Repr

/-- What the host programs in a function's configuration space (R133, R155, R156); its capabilities' constants are definitions of
Sys2Proof.Machine.configWord. The reset values of the programmed fields are PRESUMED, those of PCI Express (log 77). -/
structure FnConfig where
  busMaster : Bool := false
  /-- Max Payload Size and Max Read Request Size, as codes: 128 × 2^code bytes -/
  mps : Nat := 0
  mrrs : Nat := 2
  relaxed : Bool := true
  /-- Extended Tag Field Enable, 10-Bit Tag Requester Enable -/
  extTag : Bool := true
  tenBitTag : Bool := false
  /-- Completion Timeout Value of Device Control 2 -/
  timeout : Nat := 0
  /-- MSI-X Enable and Function Mask -/
  msixEnable : Bool := false
  msixMask : Bool := false
  /-- AER uncorrectable error status -/
  aer : Nat := 0
  deriving DecidableEq, Repr

/-- A function reset that waits for the commit phases in progress (R77, R157): function, cause, jobs withdrawn, those jobs. -/
structure ResetDue where
  fn : Nat
  cause : Nat
  withdrawn : Nat
  jobs : List Nat
  deriving DecidableEq, Repr

/-- One host function (R134, R135, R157). -/
structure Fn where
  ctrl : Nat := 0
  attn : Nat := 0
  sbPage : Nat := 0
  sbEnabled : Bool := false
  sbLast : List Nat := []
  noticeLost : Nat := 0
  lostSince : Nat := 0
  held : List Notice := []
  bootPage : Nat := 0
  bootFrameLo : Nat := 0
  bootFrameHi : Nat := 0
  bootResult : Nat := 0
  bootMade : Nat := 0
  sqs : Tab Sq := []
  cqs : Tab Cq := []
  nextSq : Nat := 0
  /-- the SQ from which the next descriptor is looked for (R144) -/
  fetchSq : Nat := 0
  slots : Nat := 0
  pool : Nat := 0
  badLogged : Bool := false
  msixTable : Tab Nat := []
  msixPba : Nat := 0
  d3hot : Bool := false
  cfg : FnConfig := {}
  deriving DecidableEq, Repr

/-- Host link state. -/
structure LinkState where
  up : Bool := false
  lanes : Nat := 0
  /-- transfer rate: 16, 8, 5 or 2 (2.5) GT/s -/
  gts : Nat := 0
  vfEnable : Bool := false
  fns : Tab Fn := []
  poolFree : Nat := 16128
  lastPoolFn : Nat := 64
  /-- the function from which the next descriptor is looked for (R144) -/
  fetchFn : Nat := 0
  resetsDue : List ResetDue := []
  /-- register addresses (path, offset) whose first reserved write was logged (R536) -/
  reservedLogged : List (Nat × Nat) := []
  deriving DecidableEq, Repr

/-! ### Jobs, pages and the Orrery (spec/08_jobs_memory.md, spec/03_orrery.md) -/

/-- A job descriptor (R163), its 64 bytes read as fields. -/
structure Desc where
  opcode : Nat
  cls : Nat
  classByte : Nat
  reserved3 : Nat
  tag : Word
  handleA : Nat
  handleB : Nat
  inAddr : Nat
  inLen : Nat
  outAddr : Nat
  outCap : Nat
  auxAddr : Nat
  auxLen : Nat
  /-- bytes 40 to 63 -/
  params : List Byte
  deriving DecidableEq, Repr

/-- State of a job slot (R179). -/
inductive SlotState where
  | queued | admitted | running | parked | saved
  deriving DecidableEq, Repr

/-- An account a charge stands in (R69, R249): cabinet share, owned lanes of a cabinet, or unreserved. -/
inductive Account where
  | own (cab cls : Nat)
  | lane (lane : Nat)
  | free (cls : Nat)
  deriving DecidableEq, Repr

/-- A planned piece of work: a slice of a job on a tile in a transit (R57, R70). -/
structure Booking where
  transit : Nat
  tile : Nat
  cycles : Nat
  lots : Nat
  /-- the lots are the cabinet's own (R70) -/
  own : Bool
  last : Bool
  deriving DecidableEq, Repr

/-- Key algorithm and attributes of a key record (R207). -/
structure KeyRec where
  handle : Nat
  type : Nat
  span : Nat := 1
  part : Nat := 0
  policy : Nat := 0
  length : Nat := 0
  flags : Nat := 0
  createdL : Nat := 0
  cskGen : Nat := 0
  deriving DecidableEq, Repr

/-- A ciphertext handle's record (R291): kind 0 ciphertext, 1 public, 2 relinearisation, 3 Galois, 4 switching key. -/
structure HeRec where
  handle : Nat
  cab : Nat
  kind : Nat
  set : Nat
  keyId : Nat
  level : Nat
  back : Nat
  backLen : Nat
  /-- SHA3-256 of the backing range, its first 16 bytes (R293) -/
  digest : List Byte
  /-- noise bound and scale in units of 2^-8 bit -/
  noise : Nat
  scale : Nat
  /-- the target key of a switching key, the element of a Galois key -/
  target : Nat := 0
  deriving DecidableEq, Repr

/-- A visible change a job makes in its commit phase (R75), beside its direct output. -/
inductive Effect where
  /-- a key is placed in its slots: in internal SRAM, and in the key store where it is persistent (R205, R210) -/
  | putKey (slot : Nat) (attr : KeyRec) (material : List Byte)
  /-- a persistent key's record is rewritten (EVER_EXPORTED, R221) -/
  | rewriteKey (slot : Nat) (flags : Nat)
  /-- a key is destroyed (R222); every slot of a cabinet is erased (R460): keep its backup? -/
  | destroyKey (handle : Nat)
  | zeroizeCab (cab : Nat) (keep : Bool)
  /-- debug rights open at the next boundary (R457), after the zeroization of R459 where it is forced: rights, source -/
  | openRights (rights source : Nat) (zeroize : Bool)
  /-- a life-cycle transition (R452): target, bits of the step byte programmed -/
  | transition (to_ bits : Nat)
  /-- a digest result slot is filled (R259) -/
  | putResult (cab index : Nat) (bytes : List Byte)
  /-- a ciphertext handle record commits, R293 -/
  | putHandle (index : Nat) (attr : HeRec)
  /-- the read point of the ring (R468) or of the journal (R477) moves on -/
  | ackRing (seq : Word)
  | ackJournal (seq : Word)
  /-- a lane's seal record and counters commit (R367) -/
  | sealRecord (lane seq : Nat)
  /-- a restored storage key is installed; a new one is created (R418) -/
  | installCsk (cab gen used : Nat) (key : List Byte)
  | newCsk (cab : Nat)
  /-- the ceilings set by POWER_POLICY (R503) -/
  | ceiling (policy : Nat)
  deriving DecidableEq, Repr

/-- The pending result of a job: what its routine computed, not yet visible. -/
structure Result where
  status : Nat
  output : List Byte := []
  /-- a context record written after the output (R240): device address and bytes -/
  record : Option (Nat × List Byte) := none
  w0 : Nat := 0
  w1 : Nat := 0
  w2 : Nat := 0
  effects : List Effect := []
  deriving DecidableEq, Repr

/-- A burst under way (R75, R76): the L at which the commit phase began and the output bytes issued. -/
structure Burst where
  beganL : Nat
  issued : Nat
  /-- host frames of the output pages, captured when the phase began (R186) -/
  frames : List Nat := []
  deriving DecidableEq, Repr

/-- What a bank of a tile holds of the job whose slice it runs: its key registers; and its round-key, share, state and accumulator
registers with its working memory (R232, R250, R263, R264, R281). Cleared, it holds nothing. -/
structure BankRegs where
  keys : List (List Byte) := []
  work : List Byte := []
  deriving DecidableEq, Repr

/-- A job holding a slot (R179). -/
structure Job where
  fn : Nat
  sq : Nat
  cq : Nat
  desc : Desc
  /-- doorbell instant D, in fabric cycles since L = 0 (R61) -/
  bellD : Nat
  plane : Nat := 0
  engine : Nat := 0
  outLen : Nat := 0
  /-- what it draws: masking bits, backing bytes read, key-generation bits, backing bytes written, IV-helper bits (R247,
  R303, R323) -/
  needs : List Nat := [0, 0, 0, 0, 0]
  /-- slices a control job's link allowance spreads over (R477) -/
  transits : Nat := 1
  st : SlotState := .queued
  staged : Bool := false
  /-- the transit whose slice the last prefetch serves (R189) -/
  fetched : Nat := 0
  /-- engine cycles of the slice of the transit under way that its tail has taken off the remaining cost (R74) -/
  slice : Nat := 0
  /-- the bank of the tile that runs its slice, cleared while none does; and what its drawer holds (R73) -/
  bank : BankRegs := {}
  drawer : List Byte := []
  input : List Byte := []
  aux : List Byte := []
  /-- the context record staging read (R239) -/
  extra : List Byte := []
  /-- the range of that record: device address and length; none where no record is read -/
  recordRead : Option (Nat × Nat) := none
  /-- it wants a digest result slot (R259); a ciphertext handle record with this output backing range (R291) -/
  wantSlot : Bool := false
  wantHe : Option (Nat × Nat) := none
  gotSlot : Option Nat := none
  gotHe : Option Nat := none
  /-- backing ranges of the ciphertext handles it names: device address and length (R184) -/
  backing : List (Nat × Nat) := []
  /-- a page staging met that is not present (R64) -/
  missing : Option Nat := none
  cost : Nat := 0
  account : Option Account := none
  granules : Nat := 0
  tile : Option Nat := none
  point : Nat := 0
  remaining : Nat := 0
  plan : List Booking := []
  expect : Option Nat := none
  /-- a FINAL answer to write in the answer window of the next transit: status, W0, W1, W2 (R62) -/
  answer : Option (Nat × Nat × Nat × Nat) := none
  /-- a DEFERRED answer to write in the answer window of the next transit -/
  deferDue : Bool := false
  interim : Bool := false
  /-- parked: page, right needed, L of parking -/
  park : Option (Nat × Nat × Nat) := none
  /-- parked before its commit phase, result held (R191) -/
  commitOnly : Bool := false
  request : Option Nat := none
  approved : Bool := false
  result : Option Result := none
  burst : Option Burst := none
  /-- the final completion is written (or dropped); the slot goes at the next boundary -/
  finished : Bool := false
  /-- its credit has been returned to the ring's withheld credits (R148) -/
  credited : Bool := false
  /-- entries of its CQ still reserved for it (R146) -/
  reserve : Nat := 2
  /-- its ring has gone: nothing is written or returned to it any more (R141, R157) -/
  orphan : Bool := false
  deriving DecidableEq, Repr

/-- A page owner table entry that is present (R181). -/
structure PageEntry where
  rights : Nat
  cab : Nat
  fn : Nat
  frame : Nat
  deriving DecidableEq, Repr

/-- A page command to apply at the next boundary (R186). -/
structure PageWork where
  job : Nat
  deriving DecidableEq, Repr

/-- A PAGE_WANTED stream (R195). -/
structure Wanted where
  fn : Nat
  page : Nat
  tag : Word
  lastL : Nat
  deriving DecidableEq, Repr

/-- A freeze and its forensic record (R200). -/
structure Freeze where
  kind : Nat
  number : Nat
  cause : Nat
  L : Nat
  addr : Nat
  tag : Word
  deriving DecidableEq, Repr

/-- Job and page state. -/
structure JobState where
  jobs : Tab Job := []
  nextJob : Nat := 0
  /-- the slot books of the last boundary: free, queued, admitted, running, parked, saved (R180) -/
  books : List Nat := [32768, 0, 0, 0, 0, 0]
  pot : Tab PageEntry := []
  wanted : List Wanted := []
  freezes : List Freeze := []
  /-- approved thaws to apply at the next boundary: kind, number, approving cabinet -/
  thawDue : List (Nat × Nat × Nat) := []
  deriving DecidableEq, Repr

/-- One engine tile; its key is its FROZEN_MASTER number (cipher 0, digest 32, big-number 64, polynomial 96). -/
structure Tile where
  /-- operating point: 0 3.0, 1 2.4, 2 1.5, 3 0.75 GHz -/
  point : Nat := 0
  /-- highest point the hardware limit allows (R502) -/
  limit : Nat := 0
  limitCause : Nat := 0
  limitDue : Bool := false
  parityOut : Bool := false
  verifyOut : Bool := false
  bistOut : Bool := false
  bistRun : Option Nat := none
  verifyFails : Nat := 0
  /-- readings of the last transit: junction, island, margin warning at 0.88 V; the transit counts of R502 -/
  tempC : Int := 0
  mv : Nat := 0
  warn : Bool := false
  hot : Nat := 0
  margin : Nat := 0
  clean : Nat := 0
  bankA : Option Nat := none
  /-- was the tile in capacity at the last boundary (R541)? -/
  inCap : Bool := true
  /-- the point the last tail planned for the next boundary (R78) -/
  planned : Option Nat := none
  deriving DecidableEq, Repr

/-- Orrery state. -/
structure OrrState where
  admitOpen : Bool := false
  admittedOnce : Bool := false
  tiles : Tab Tile := []
  /-- command and I²C ceilings, as points (R503) -/
  ceilPolicy : Nat := 0
  ceilI2c : Nat := 0
  /-- outstanding charges: (account, BULK?) and engine cycles -/
  charges : List ((Account × Bool) × Nat) := []
  /-- BULK cycles planned on own accounts: (transit, cabinet, class, cycles), last 256 transits -/
  service : List (Nat × Nat × Nat × Nat) := []
  drawerFree : Nat := 65536
  /-- clipped cabinets of the last POLICY_CLIPPED, as a bit map, and classes -/
  clipped : Nat := 0
  /-- the link commit bytes of the transit last planned: answer window and completion entries, other bursts, unused (R81) -/
  linkAnswer : Nat := 0
  linkBurst : Nat := 0
  linkUnused : Nat := 0
  maskPlanned : Nat := 0
  portPlanned : Nat := 0
  kgPlanned : Nat := 0
  deriving DecidableEq, Repr

/-! ### Event recorder (spec/21_event_recorder.md) -/

/-- An event as raised, before the recorder numbers it (R462). -/
structure Event where
  code : Nat
  sev : Nat
  source : Nat
  L : Nat
  p1 : Nat
  p2 : Nat
  p3 : Nat
  deriving DecidableEq, Repr

/-- A numbered record. -/
structure Record where
  seq : Word
  ev : Event
  deriving DecidableEq, Repr

/-- A journal block (R474). -/
structure JBlock where
  number : Nat
  openL : Nat
  openUs : Nat
  quality : Nat
  firstSeq : Word
  /-- places in order; none is a place lost to a torn write -/
  recs : List Record
  /-- a write failed for good here: the block takes no more (R474) -/
  skipped : Bool := false
  deriving DecidableEq, Repr

/-- Event recorder state. -/
structure EvtState where
  ring : List Record := []
  reserve : List Record := []
  next : Word := 0
  /-- the next sequence at the last boundary: what a snapshot of this transit may hold (R471) -/
  mark : Word := 0
  /-- records of the ring replaced in this transit: a snapshot of it still holds them (R471) -/
  replaced : List Record := []
  ack : Word := 0
  lost : Nat := 0
  overwritten : Nat := 0
  lost7 : Nat := 0
  frameLost : Nat := 0
  frameOver : Nat := 0
  frameLow : Option Nat := none
  pressLost : Nat := 0
  pressLow : Option Nat := none
  pressThis : Bool := false
  prevUnread : Nat := 0
  /-- raised records waiting for intake (R465), oldest first -/
  queue : List Event := []
  taken : Nat := 0
  latch : List Nat := [0, 0, 0, 0, 0, 0, 0, 0]
  selSeq : Word := 0
  found : Bool := false
  inReserve : Bool := false
  journal : List JBlock := []
  nextBlock : Nat := 0
  jQueue : List Record := []
  jAck : Word := 0
  jLost : Nat := 0
  jOver : Nat := 0
  ringRetained : Bool := false
  journalFound : Bool := false
  deriving DecidableEq, Repr

/-! ### Device conditions (spec/00_scope.md R1 to R3, spec/22_dawn_power.md) -/

/-- What the main domains are doing. -/
inductive Phase where
  /-- no power good yet -/
  | off
  /-- a Dawn runs (R481) -/
  | dawn
  /-- Dawn has ended; the device serves -/
  | run
  /-- NIGHT (R499, R500) -/
  | night
  /-- waiting to retry a failed boot (R495) -/
  | backoff
  /-- PWR_FAIL_N asserted (R497) -/
  | pwrfail
  /-- boundary scan holds the device (R461) -/
  | scan
  deriving DecidableEq, Repr

/-- The seven device states (R1). -/
inductive DevState where
  | dawn | service | limited | maintenance | hold | umbra | night
  deriving DecidableEq, Repr

/-- Conditions of the device. -/
structure GlbState where
  phase : Phase := .off
  umbra : Bool := false
  /-- the Dawn under way ends in UMBRA for an alarm not seen before (R443); it reports DAWN until admission opens (R487) -/
  dark : Bool := false
  hold : Bool := false
  maint : Bool := false
  limited : Bool := false
  lockdown : Bool := false
  resetCause : Nat := 0
  attempt : Nat := 0
  dawnMs : Nat := 0
  /-- GLB_HEALTH [6] (R392), [7] (R322), [8] (R356) -/
  keeperClosed : Bool := false
  katFailed : Bool := false
  counterWorn : Bool := false
  /-- PWR_REQ (R500) -/
  pwrReq : Bool := true
  deriving DecidableEq, Repr
/-! ### Management pairs and worlds (spec/17_worlds.md) -/

/-- A lockstep pair: 0 Keeper, 1 the monitor and worlds. -/
structure Pair where
  up : Bool := false
  /-- L at which the restart attempt under way began -/
  restartL : Option Nat := none
  /-- L at which it stopped, or at which its last attempt failed: the next attempt starts in a later transit -/
  downL : Option Nat := none
  /-- attempts since Dawn -/
  attempts : Nat := 0
  absentL : Option Nat := none
  /-- halted through the debugger (R455) -/
  halted : Bool := false
  dead : Bool := false
  deriving DecidableEq, Repr

/-- States of a world (WLD_WORLD_STATE). -/
inductive WorldState where
  | empty | loading | running | stopped | frozen
  deriving DecidableEq, Repr

/-- A message in an inbox or waiting for its reply: its job, length, sequence, L of delivery. -/
structure Msg where
  job : Nat
  len : Nat
  seq : Nat
  L : Nat
  deriving DecidableEq, Repr

/-- An applet world, 1 to 15 (R380 to R386). -/
structure World where
  st : WorldState := .empty
  /-- pages held, in virtual page order: code, data, inbox, outbox -/
  pages : List Nat := []
  codePages : Nat := 0
  dataPages : Nat := 0
  entry : Nat := 0
  /-- the image it is loaded from -/
  image : List Byte := []
  loadJob : Option Nat := none
  stored : Bool := false
  stopJob : Option Nat := none
  stopDue : Bool := false
  /-- jobs whose message waits to be delivered -/
  queue : List Nat := []
  inbox : Option Msg := none
  taken : Bool := false
  /-- delivered messages without a reply, oldest first -/
  awaiting : List Msg := []
  nextSeq : Nat := 0
  /-- registers a0, a1, a2 and the pc as the monitor leaves them -/
  a0 : Nat := 0
  a1 : Nat := 0
  a2 : Nat := 0
  pc : Nat := 0
  sp : Nat := 0
  deriving DecidableEq, Repr

/-- An entry of the internal page owner table (R374). -/
structure WorldPage where
  read : Bool
  write : Bool
  exec : Bool
  world : Nat
  mailbox : Bool
  vpage : Nat
  deriving DecidableEq, Repr

/-- Pairs and worlds. -/
structure WldState where
  pair0 : Pair := {}
  pair1 : Pair := {}
  worlds : Tab World := []
  /-- internal page owner table, applet pool entries that are present -/
  table : Tab WorldPage := []
  /-- world SRAM: byte address 0 to 8 MiB − 1 -/
  mem : List Host.Cell := []
  /-- the world pair 1 runs; whether it has yielded the rest of its run -/
  cur : Option Nat := none
  yielded : Bool := false
  /-- applet store slots in flash, by world -/
  store : Tab (List Byte) := []
  /-- L at which a comparator died, until HOLD is entered -/
  holdDue : Option Nat := none
  holdLatched : Bool := false
  fullBist : Bool := false
  deriving DecidableEq, Repr

/-! ### Dovetail approval (spec/09_cabinets_keys.md R225 to R230) -/

/-- A roster a request waits for: its cabinet, m, the right its officers need (none: any officer), who has counted. -/
structure Roster where
  cab : Nat
  m : Nat
  right : Option Nat
  counted : List Nat := []
  deriving DecidableEq, Repr

/-- An open dovetail request. -/
structure Request where
  num : Nat
  cab : Nat
  opcode : Nat
  job : Nat
  digest : Digest
  openL : Nat
  rosters : List Roster
  /-- the AUX bytes of the approvals counted (R417) -/
  approvals : List (List Byte) := []
  deriving DecidableEq, Repr

/-- Dovetail state. -/
structure DovState where
  reqs : List Request := []
  nextNum : Nat := 1
  deriving DecidableEq, Repr
/-! ### OTP, life cycle and debug (spec/20_lifecycle_debug.md) -/

/-- An open debug challenge (R458). -/
structure Challenge where
  bytes : List Byte
  rights : Nat
  issueL : Nat
  deriving DecidableEq, Repr

/-- OTP, life-cycle state and debug rights. -/
structure LcsState where
  /-- OTP words 0 to 127 that are not 0 (R446) -/
  otp : Tab Nat := []
  /-- life-cycle code as decoded at the last Dawn, 0xF in lockdown -/
  code : Nat := 0
  visits : Nat := 0
  tornCompleted : Bool := false
  pendingReset : Bool := false
  rights : Nat := 0
  rightsSource : Nat := 0
  challenge : Option Challenge := none
  /-- rights to open at the next boundary: rights, source -/
  rightsDue : Option (Nat × Nat) := none
  /-- cabinets whose storage key is to be created at the next boundary (R460) -/
  cskDue : List Nat := []
  tap : Nat := 1
  tapLogged : List Nat := []
  dapDesc : List Byte := []
  dapToken : List Byte := []
  dapCompletion : Option Completion := none
  deriving DecidableEq, Repr

/-! ### Engines (spec/10_cipher_lanes.md to 13_polynomial.md) -/

/-- Context keys, result slots and ciphertext handles. -/
structure EngState where
  /-- SYM_CTX_EPOCH -/
  epoch : Nat := 0
  /-- context key of each cabinet (R241) -/
  ctxKeys : Tab (List Byte) := []
  /-- occupied result slots: 64 × cabinet + slot, 64 bytes (R259) -/
  results : Tab (List Byte) := []
  /-- live handle records by record number, and the generation of each (R291) -/
  handles : Tab HeRec := []
  heGens : Tab Nat := []
  /-- SYM_MASK_ALLOW of the last plan; whether its fall has been logged -/
  maskAllow : Nat := 0
  maskFell : Bool := false
  /-- a fall of the masking allowance waits to be logged: bits planned, PROMPT jobs withdrawn (R248) -/
  maskLost : Option (Nat × Nat) := none
  deriving DecidableEq, Repr

/-! ### Randomness (spec/14_randomness.md) -/

/-- A noise source: channels 0 to 3, pairs 16 to 31 (R310, R311). -/
structure Source where
  /-- a raw bit that waits for its pair in the von Neumann stage, and one of that stage's bits in the XOR stage (R310) -/
  half : Option Bool := none
  vn : Option Bool := none
  /-- samples of the window in progress, the newest first, and how many equal its first (R312, R314) -/
  win : List Bool := []
  cnt : Nat := 0
  /-- the last sample, and how often it has come in a row (R314) -/
  last : Option Bool := none
  rep : Nat := 0
  /-- debiased bits of a channel, raw bits of a pair, in this transit (R314, R315) -/
  live : Nat := 0
  bits : List Bool := []
  /-- the RNG_READ that copies its samples out, those copied so far with the newest first, and whether the window holds one of them
  (R328) -/
  tap : Option Nat := none
  copied : List Bool := []
  tainted : Bool := false
  failed : Bool := false
  /-- its start-up test has passed (R316); transits of R315 passed since it started -/
  passed : Bool := false
  transits : Nat := 0
  faults : Nat := 0
  lastTest : Nat := 0
  ca : Nat := 0
  /-- words of the previous 4 transits (R315) -/
  words : List Nat := []
  deriving DecidableEq, Repr

/-- Pool and DRBG. -/
structure RngState where
  sources : Tab Source := []
  running : Bool := false
  held : Nat := 0
  produced : Nat := 0
  drawn : Nat := 0
  /-- the conditioned bits held, as bytes, the oldest first -/
  pool : List Byte := []
  /-- conditioned blocks of 256 bits to credit, and bits taken to record, at the next boundary (R312, R329) -/
  credits : List (List Byte) := []
  takeDue : Nat := 0
  /-- bits MODE 3 reads take at the next boundary (R328, R329) -/
  drawDue : Nat := 0
  ready : Bool := false
  blocked : Bool := false
  katFailed : Bool := false
  reseeds : Nat := 0
  lastReseedL : Nat := 0
  overdue : Bool := false
  blockedL : Nat := 0
  /-- software port bytes of the last plan (RNG_PORT_ALLOW) -/
  portAllow : Nat := 0
  deriving DecidableEq, Repr

/-! ### Firmware, boot and power (spec/22_dawn_power.md) -/

/-- A pair the boot ROM selected (R490): Keeper copy and bundle copy (0 A, 1 B), and whether it is mutually tested. -/
structure FwPick where
  keeper : Nat
  bundle : Nat
  tested : Bool
  deriving DecidableEq, Repr

/-- A firmware write under way (R492, R493): its job, the place (0 to 3 a copy in the order of PWR_COPY_REASON, 4 the staging
area), the image. -/
structure FwWrite where
  job : Nat
  place : Nat
  image : List Byte
  deriving DecidableEq, Repr

/-- A failed start attempt (R494, R495). -/
structure BootFail where
  attempt : Nat
  cause : Nat
  backoffMs : Nat
  deriving DecidableEq, Repr

/-- Firmware pairing and power state. -/
structure PwrState where
  /-- mortise version of the running Keeper (R86, R490) and of the running bundle -/
  mortise : Nat := 0
  bundleMortise : Nat := 0
  /-- firmware copies in flash: Keeper A, B, bundle A, B; the staging area (R488) -/
  copies : List (List Byte) := [[], [], [], []]
  staging : List Byte := []
  pick : Option FwPick := none
  keeperSeq : Nat := 0
  bundleSeq : Nat := 0
  /-- PWR_COPY_REASON, one code per copy -/
  reasons : List Nat := [0, 0, 0, 0]
  /-- pairs excluded from the next attempt (R494) -/
  excluded : List (Nat × Nat) := []
  /-- consecutive failed attempts k; the last failures, oldest first, at most 8; attempts since the last that reached the
  ledger step (R495, R496) -/
  fails : Nat := 0
  causes : List BootFail := []
  sinceLedger : Nat := 0
  /-- PWR_BOOT_ATTEMPTS: failed attempts before this Dawn, last cause -/
  beforeDawn : Nat := 0
  lastCause : Nat := 0
  /-- reset cause of the Dawn that is to start (GLB_RESET_CAUSE); none: a cold one -/
  cause : Option Nat := none
  write : Option FwWrite := none
  resetAtOrbit : Bool := false
  /-- wake delay in seconds of the NIGHT under way; how it ended: cause, seconds asleep (R499, R501) -/
  wakeDelay : Nat := 0
  woken : Option (Nat × Nat) := none
  /-- NIGHT_ENTER's last steps stand before its FINAL entry (R500): its job, the L of T -/
  nightJob : Option (Nat × Nat) := none
  /-- both always-on supplies were lost since the last Dawn (R436) -/
  aonLost : Bool := false
  /-- VDD_CORE_VID code (R525) -/
  vid : Nat := 30
  deriving DecidableEq, Repr


/-! ### Meter lanes (spec/15_meter_lanes.md) -/

/-- States of a lane (R344); their order is the code of R347. -/
inductive LaneState where
  | unbound | joining | live | suspect | frozen
  deriving DecidableEq, Repr

/-- One cycle on a lane (R337). -/
structure Cycle where
  /-- poll frame, as L / 128 -/
  frame : Nat
  /-- L of its first request -/
  reqL : Nat
  identify : Bool
  attempt : Nat := 1
  latch : Nat
  /-- the attempt under way has failed -/
  failed : Bool := false
  /-- payload of an accepted response -/
  resp : Option (List Byte) := none
  deriving DecidableEq, Repr

/-- A cross-check window (R343). -/
structure Win where
  imp : Nat
  latch : Nat
  frame : Nat
  deriving DecidableEq, Repr

/-- A meter lane. -/
structure Lane where
  st : LaneState := .unbound
  cause : Nat := 0
  /-- the frame from which its join may start (R349) -/
  joinFrom : Option Nat := none
  /-- an identity has been accepted in this join -/
  idDone : Bool := false
  /-- causes logged in this SUSPECT episode (R345) -/
  logged : List Nat := []
  seq : Nat := 0
  /-- SEQ of the last request -/
  lastSeq : Nat := 0
  missed : Nat := 0
  /-- TIMEOUT, LINE, CRC, FORMAT failures since Dawn -/
  errors : List Nat := [0, 0, 0, 0]
  pulses : Nat := 0
  /-- it has begun a join since Dawn, or since its LANE record changed: its pulse counter runs (R340) -/
  counting : Bool := false
  cycle : Option Cycle := none
  /-- POWER_COUNT of the last reading -/
  power : Option Nat := none
  identifyNext : Bool := false
  /-- poll frame of the last accepted reading of this join -/
  lastFrame : Option Nat := none
  repImp : Nat := 0
  repExp : Nat := 0
  repId : List Byte := []
  repFw : Nat := 0
  repPc : Nat := 0
  win : Option Win := none
  deriving DecidableEq, Repr

/-! ### Ledger (spec/16_ledger_seals.md) -/

/-- A forward-only counter (R354): B, K, the count of the active row, an open carry intent, worn, rows that failed. -/
structure Counter where
  base : Nat := 0
  k : Nat := 0
  count : Nat := 0
  intent : Bool := false
  /-- the place of that intent in the ring -/
  slot : Nat := 0
  worn : Bool := false
  badHigh : List Nat := []
  badTherm : List Nat := []
  deriving DecidableEq, Repr

/-- A lane record (R358, R360). -/
structure LaneRecord where
  seq : Nat := 0
  imp : Nat := 0
  exp : Nat := 0
  meterImp : Nat := 0
  meterExp : Nat := 0
  lastL : Nat := 0
  lastUs : Nat := 0
  openL : Nat := 0
  identity : List Byte := []
  period : Nat := 0
  baseline : Nat := 0
  kind : Nat := 0
  tainted : Bool := false
  released : Bool := false
  deriving DecidableEq, Repr

/-- A lane's ledger: its view now, the current record, the checkpoints that wait, a close that is due (frame, cause). -/
structure LaneLedger where
  view : LaneRecord := {}
  cur : Option LaneRecord := none
  wait : List LaneRecord := []
  closeDue : Option (Nat × Nat) := none
  /-- the current record was lost (R359) -/
  lost : Bool := false
  deriving DecidableEq, Repr

/-- A time anchor (R364). -/
structure Anchor where
  us : Nat := 0
  L : Nat := 0
  closed : Nat := 0
  step : Int := 0
  stepL : Nat := 0
  deriving DecidableEq, Repr

/-- The snapshot of a seal job (R367). -/
structure Snapshot where
  job : Nat
  lane : Nat
  rec_ : LaneRecord
  L : Nat
  us : Nat
  quality : Quality
  deriving DecidableEq, Repr

/-- Ledger state. -/
structure LdgState where
  /-- the ledger cells (R352): rows of 32 bytes; one that is not listed is erased -/
  cells : Tab (List Byte) := []
  /-- the next place of the intent ring -/
  ringAt : Nat := 0
  /-- the counters as the last Dawn's recovery and the increments since then leave them (R357) -/
  counters : Tab Counter := []
  lanes : Tab LaneLedger := []
  /-- last closed boundary C, µs -/
  closed : Nat := 0
  anchor : Option Anchor := none
  /-- an anchor waiting for its counter's carry -/
  anchorWait : Option Anchor := none
  snaps : List Snapshot := []
  lrVersion : Nat := 0
  lrDigest : Digest := 0
  lrL : Nat := 0
  intentDone : Bool := false
  recordLost : Bool := false
  deriving DecidableEq, Repr

/-! ### Keys (spec/09_cabinets_keys.md R203 to R223) -/

/-- A key in internal SRAM, at its first slot; the slots of its span that R213 left empty for a bad entry are its gaps. -/
structure KeySlot where
  attr : KeyRec
  material : List Byte
  gaps : List Nat := []
  deriving DecidableEq, Repr

/-- One entry of a key store bank that is not zero (R212): slot, attribute record with its part, nonce, this slot's 432 bytes of
material, the storage key they are encrypted under, and whether nothing has spoilt it since. -/
structure BankEntry where
  slot : Nat
  attr : KeyRec
  nonce : List Byte := []
  text : List Byte := []
  under : List Byte := []
  good : Bool := true
  deriving DecidableEq, Repr

/-- A cabinet storage key (R215). -/
structure Csk where
  key : List Byte
  gen : Nat
  deriving DecidableEq, Repr

/-- A draw of the carcass and key store step (R482). -/
inductive Draw where
  | identity
  | csk (cab : Nat)
  | ctx (cab : Nat)
  | escutcheon
  deriving DecidableEq, Repr

/-- Keys and their stores. -/
structure KeyState where
  slots : Tab KeySlot := []
  gens : Tab Nat := []
  /-- key store groups (R212): a bank's body is its entries that are not zero -/
  groups : Tab (TwoBank (List BankEntry)) := []
  /-- storage keys (R215), two-bank records; their values are Sys2Proof.Machine.KeyState.csk -/
  cskBanks : Tab (TwoBank Csk) := []
  /-- last generation the vault recorded for each cabinet number -/
  cskLast : Tab Nat := []
  vaultEmpty : Bool := true
  storeLoaded : Bool := false
  rollback : Bool := false
  gensReset : Bool := false
  groupsBad : Nat := 0
  /-- banks written and read back whose commit word waits for a job's commit phase: job, group (R211) -/
  preps : List (Nat × Nat) := []
  /-- bank erases that stand before a FINAL entry: job, group (R211, R222) -/
  eraseDue : List (Nat × Nat) := []
  /-- draws of the carcass and key store step that wait for the DRBG, in the order of R482 -/
  draws : List Draw := []
  deriving DecidableEq, Repr
/-! ### Tamper monitor and always-on domain (spec/19_tamper.md) -/

/-- One channel of a tamper input: is the last sample tripped, and the filtered level; none before (R430, R431). -/
structure Channel where
  raw : Option Bool := none
  filt : Option Bool := none
  deriving DecidableEq, Repr

/-- A tamper input (R425, R431 to R433). -/
structure TamInput where
  d : Nat := 656
  unused : Bool := false
  a : Channel := {}
  b : Channel := {}
  len : Nat := 0
  start : Nat := 0
  alarmed : Bool := false
  /-- starts of the last brief disagreements, newest first, at most 2 -/
  starts : List Nat := []
  /-- alarms the last samples qualified: both channels tripped; a discrepancy, with the channel bits of its source -/
  trippedDue : Bool := false
  discDue : Option Nat := none
  /-- brief disagreements that ended and are not yet reported: start, length -/
  briefDue : List (Nat × Nat) := []
  /-- brief disagreements of the last NIGHT: count, longest, repeated ones (samples from the first start to the third) -/
  nightCount : Nat := 0
  nightMax : Nat := 0
  nightRep : List Nat := []
  deriving DecidableEq, Repr

/-- A meander (R427): its LFSR, the mismatches of the last 4 ticks (newest first), mismatched ticks since Dawn, and whether it
has come into alarm without the alarm having been raised. -/
structure Meander where
  lfsr : Nat := 1
  hist : List Bool := []
  count : Nat := 0
  due : Bool := false
  deriving DecidableEq, Repr

/-- Always-on tamper state. -/
structure TamState where
  latched : Bool := false
  unseen : Bool := false
  vaultErased : Bool := false
  lowSupply : Bool := false
  lastClass : Nat := 0
  lastSource : Nat := 0
  alarmL : Nat := 0
  count : Nat := 0
  inputs : Tab TamInput := []
  cover : Bool := false
  lid : Meander := {}
  board : Meander := {}
  /-- ticks counted; ticks at the last update of the always-on copy of L -/
  ticks : Nat := 0
  aonTick : Nat := 0
  /-- crystal edges since the always-on supply came up, counted to 1,024; is the always-on supply up (R527)? -/
  edges : Nat := 1024
  up : Bool := true
  temp : Int := 0
  mv : Nat := 0
  /-- sensor conditions present now: bit c − 4 for class c -/
  present : Nat := 0
  disarmed : Bool := false
  /-- TAM_LOW_BATTERY logged since Dawn; one of NIGHT waits, mV -/
  lowLogged : Bool := false
  lowNight : Option Nat := none
  /-- classes and sources whose repeat was logged in the orbit under way -/
  repeats : List (Nat × Nat) := []
  /-- the alarm whose TAM_ALARM event waits: class, source, L, samples since the copy of L -/
  alarmLog : Option (Nat × Nat × Nat × Nat) := none
  /-- ALARM_AT_DAWN waits for CQ 0 of function 0: class, source, L of the alarm, L at which it was raised -/
  dawnNotice : Option (Nat × Nat × Nat × Nat) := none
  /-- zeroization under way: the transit of A (R437) -/
  zeroDue : Option Nat := none
  deriving DecidableEq, Repr

/-! ### Self-test (spec/23_self_test.md) -/

/-- One run of a partition: run 1 logic, 2 memory, with the entry fields of the result record. -/
structure BistEntry where
  part : Nat
  run : Nat
  result : Nat
  patterns : Nat := 0
  failed : Nat := 0
  first : Nat := 0
  sig : List Byte := []
  deriving DecidableEq, Repr

/-- The last run of a selection as the registers show it: result, SOURCE (0 Dawn, 1 command, 2 DAP), details, signature. -/
structure BistResult where
  src : Nat
  entry : BistEntry
  deriving DecidableEq, Repr

/-- A command run (R514): its job (none for the DAP), scope, the partitions still to test (the first is under test once it
runs), what came of the others. -/
structure BistRun where
  job : Option Nat
  scope : Nat
  todo : List Nat
  bellL : Nat
  startL : Option Nat := none
  /-- L at which the runs of the partition under test end -/
  endL : Nat := 0
  entries : List BistEntry := []
  failed : Nat := 0
  returned : Nat := 0
  deriving DecidableEq, Repr

/-- Self-test state. -/
structure BstState where
  running : Option BistRun := none
  waiting : List BistRun := []
  /-- FULL_NEXT_DAWN, in the always-on domain -/
  fullNext : Bool := false
  dawnPass : Bool := false
  dawnFail : Nat := 0
  /-- last results by 2 × partition + run − 1 -/
  results : Tab BistResult := []
  dapRefused : Bool := false
  dapScope : Nat := 0
  dapMap : Nat := 0
  deriving DecidableEq, Repr

/-! ### Register read paths (spec/25_register_index.md R538) -/

/-- Selectors and latches of a read path: values by register address (a selector by its own address, a latch by the address of
the register it fills). -/
structure ReadPath where
  sel : Tab Nat := []
  latch : Tab Nat := []
  deriving DecidableEq, Repr


/-! ### The Ulyel mesh (spec/18_ulyel_mesh.md) -/

/-- States of a member in the active image (R404). -/
inductive MemberState where
  | down | keying | live | lost | frozen
  deriving DecidableEq, Repr

/-- A keyed link: epoch, keys and counters of the two directions, L at which its keying completed. -/
structure Link where
  epoch : Nat
  tx : List Byte
  rx : List Byte
  txCount : Nat := 0
  rxCount : Nat := 0
  keyedL : Nat
  deriving DecidableEq, Repr

/-- A keying under way: epoch, the initiator's X25519 secret and ML-KEM material, KEY_INIT payload, transcript digest and link
keys of a responder. -/
structure Keying where
  epoch : Nat
  x : List Byte := []
  kem : List Byte := []
  init : List Byte
  digest : Digest := 0
  keys : List Byte := []
  deriving DecidableEq, Repr

/-- A mesh frame that waits for a credit (R401): TYPE, the BUSY flag's place in FLAGS, FRAGMENT, the EPOCH of a KEY frame, payload. -/
structure QFrame where
  type : Nat
  flags : Nat
  frag : Nat
  epoch : Nat
  payload : List Byte
  deriving DecidableEq, Repr

/-- A mesh member. -/
structure Member where
  st : MemberState := .down
  cause : Nat := 0
  link : Option Link := none
  /-- the epoch before, accepted until a frame of the new one arrives: epoch, receive key, last COUNTER -/
  old : Option (Nat × List Byte × Nat) := none
  lastEpoch : Nat := 0
  keying : Option Keying := none
  helloSent : Bool := false
  helloSerial : Option Nat := none
  helloAt : Option Nat := none
  /-- r of R405, drawn once -/
  stagger : Option Nat := none
  credits : Nat := 32
  /-- buffers freed and not yet returned, and L at which the first of them was freed (R401) -/
  freed : Nat := 0
  freedL : Nat := 0
  /-- frames waiting for a credit -/
  queue : List QFrame := []
  heardL : Nat := 0
  tagFails : Nat := 0
  tagOrbit : Nat := 0
  /-- heartbeats sent: sequence and TX_PHASE; last received: sequence and RX_PHASE; its REF, HOPS and REF_OFFSET -/
  seq : Nat := 0
  sent : List (Nat × Nat) := []
  lastSeq : Nat := 0
  lastPhase : Nat := 0xFFFFFFFF
  adv : Option (Nat × Nat × Int) := none
  /-- last message in fragments, type and payload, and L from which it is sent again (R402) -/
  lastMsg : Option (Nat × List Byte) := none
  resendAt : Option Nat := none
  deriving DecidableEq, Repr

/-- A mesh port: PCS and FEC lock; CRC, FORMAT, TAG and FEC errors. -/
structure Port where
  pcs : Bool := false
  fec : Bool := false
  errors : List Nat := [0, 0, 0, 0]
  deriving DecidableEq, Repr

/-- A message in reassembly (R402): member, type, fragments so far, bytes. -/
structure Place where
  member : Nat
  type : Nat
  next : Nat
  bytes : List Byte
  deriving DecidableEq, Repr

/-- A share store entry (R415): its number in the store and the nonce it is sealed under, then its fields. -/
structure Share where
  slot : Nat := 0
  nonce : List Byte := []
  owner : Nat
  cab : Nat
  gen : Nat
  x : Nat
  t : Nat
  L : Nat
  roster : Digest
  y : List Byte
  blob : List Byte
  committed : Bool := false
  /-- L of the orbit boundary at which it is erased -/
  eraseAt : Option Nat := none
  deriving DecidableEq, Repr

/-- A rotation under way (R416). -/
structure Rotation where
  gen : Nat
  startL : Nat
  acks : List Nat
  job : Option Nat
  deriving DecidableEq, Repr

/-- The vault custody record of a cabinet (R416): the committed set's generation and the roster digest. -/
structure CustodyRecord where
  gen : Nat
  roster : Digest
  deriving DecidableEq, Repr

/-- Custody of one cabinet: its vault record, rotation. -/
structure CabCustody where
  /-- the vault custody record, a two-bank record (R210, R416); empty before the first set commits -/
  banks : TwoBank CustodyRecord := {}
  rot : Option Rotation := none
  /-- a rotation is to start: with the job that asked for it -/
  due : Option (Option Nat) := none
  overlapUntil : Option Nat := none
  /-- every set generation started -/
  made : List Nat := []
  /-- the storage key generation the last trigger saw -/
  seenGen : Nat := 0
  deriving DecidableEq, Repr

/-- A restore after its quorum (R418). -/
structure Restore where
  job : Nat
  cab : Nat
  wanted : Nat
  startL : Nat
  holders : List Nat
  t : Nat
  shares : List Share := []
  refused : List Nat := []
  deriving DecidableEq, Repr

/-- A ciphertext contribution of mode 2 (R422). -/
structure Contribution where
  member : Nat
  set : Nat
  keyId : Nat
  level : Nat
  noise : Nat
  scale : Nat
  bytes : List Byte
  deriving DecidableEq, Repr

/-- An aggregation round (R420): identifier, what this device submitted, what it received. -/
structure Round where
  id : Nat
  job : Option Nat := none
  mode : Nat := 0
  count : Nat := 0
  bitmap : List Byte := []
  firstL : Nat
  /-- offers received: member, mode, COUNT, bitmap bytes -/
  offers : List (Nat × Nat × Nat × List Byte) := []
  kept : List Nat := []
  shares : List (Nat × List Nat) := []
  partials : List (Nat × List Nat) := []
  partialSent : Bool := false
  /-- the contributions the collector holds -/
  ciphers : List Contribution := []
  deriving DecidableEq, Repr

/-- Mesh state. -/
structure MshState where
  /-- seed of the identity key, in the vault (R403) -/
  idSeed : Option (List Byte) := none
  /-- the share-store key, in the vault, that the entries are sealed under (R415) -/
  shareKey : Option (List Byte) := none
  members : Tab Member := []
  ports : Tab Port := []
  ref : Option Nat := none
  parent : Option Nat := none
  hops : Nat := 255
  tunnel : List (Nat × List Byte) := []
  shares : List Share := []
  custody : Tab CabCustody := []
  restores : List Restore := []
  rounds : List Round := []
  places : List Place := []
  deriving DecidableEq, Repr

/-- One thing that has left the block, in the order it left. -/
inductive Out where
  /-- a completion entry written to a CQ: function, CQ, index, host address, entry, its 32 bytes (R168) -/
  | entry (fn cq index addr : Nat) (e : Completion) (bytes : List Byte)
  /-- a notice entry written to CQ 0: function, index, host address, lost count, phase, notice, its 32 bytes (R173) -/
  | notice (fn index addr lost : Nat) (phase : Bool) (n : Notice) (bytes : List Byte)
  /-- direct output or backing bytes: host address and bytes (R190) -/
  | hostWrite (addr : Nat) (bytes : List Byte)
  /-- a status block burst: function, host address, bytes 0 to 255 (R152) -/
  | statusBlock (fn addr : Nat) (bytes : List Byte)
  /-- an MSI-X message (R155) -/
  | msix (fn vector : Nat)
  /-- an error reported through AER (R156): function, bit of the uncorrectable error status -/
  | aer (fn status : Nat)
  /-- the value a register read returns: path (0 BAR0 of function 0, k a VF, 100 the DAP), offset, value -/
  | readData (path offset value : Nat)
  /-- a frame sent on a meter lane (R333) -/
  | meterFrame (lane : Nat) (chips : List Bool)
  /-- a mesh frame sent on a port, with its CRC (R399) -/
  | meshFrame (port : Nat) (bytes : List Byte)
  /-- the DAP mailbox completion (R453) -/
  | dapEntry (e : Completion)
  deriving DecidableEq, Repr

/-- The whole machine. -/
structure State where
  /-- commands waiting, first in first out -/
  pending : List Instr := []
  /-- the model's counter of free values drawn so far (log 2) -/
  freeCtr : Nat := 0
  /-- what has left the block, oldest first (log 3) -/
  out : List Out := []
  glb : GlbState := {}
  time : TimeState := {}
  orr : OrrState := {}
  job : JobState := {}
  car : CarState := {}
  hlk : LinkState := {}
  evt : EvtState := {}
  wld : WldState := {}
  dov : DovState := {}
  key : KeyState := {}
  lcs : LcsState := {}
  eng : EngState := {}
  rng : RngState := {}
  pwr : PwrState := {}
  mtr : Tab Lane := []
  ldg : LdgState := {}
  msh : MshState := {}
  tam : TamState := {}
  bst : BstState := {}
  /-- the two read paths: BAR0 of function 0, and the DAP -/
  bar0 : ReadPath := {}
  dap : ReadPath := {}
  deriving DecidableEq, Repr

/-- Reasons a step can stop. No command of the block stops: each rule gives an effect, and a command whose trigger does
not hold changes nothing (log 4). -/
inductive Fault where
  /-- raised by no command; a stop is always safe -/
  | none_
  deriving DecidableEq, Repr

/-- Reasons a command has no meaning. -/
inductive Refusal where
  /-- a command of the table not modelled yet, by its mnemonic; safe -/
  | notModelled (mnemonic : String)
  deriving DecidableEq, Repr

/-- The machine right after cold reset, before the first power good. -/
def State.reset : State := {}

end Sys2Proof.Machine
end

