-- ==== Sys2Proof/Machine/Ops.lean ====
section
/-! DEFINITION. The named operations over the state that every family shares: free values, output, events, attention and
interrupts, notices, the records of the active carcass, completion entries and the end of a job. -/

namespace Sys2Proof.Machine

/-- One transit in fabric cycles (R33). -/
def transitCycles : Nat := 24576
/-- Transits in an orbit (R34). -/
def orbitL : Nat := 2 ^ 20
/-- Transits in a meter frame (R34). -/
def frameL : Nat := 128

/-! ### Free values and output -/

/-- The next `n` bytes of the stream of free values (DESIGN CHOICE, log 2). -/
def freeBytes (s : State) (n : Nat) : List Byte := (List.range n).map (fun i => Config.freeByte (s.freeCtr + i))

/-- Advance past `n` free bytes (DESIGN CHOICE, log 2). -/
def drawFree (n : Nat) (s : State) : State := { s with freeCtr := s.freeCtr + n }

/-- Something leaves the block (DESIGN CHOICE, log 3). -/
def emit (o : Out) (s : State) : State := { s with out := s.out ++ [o] }

/-- The result of a routine of an external standard: `len` bytes. -/
def standardBytes (routine : Nat) (ps : List Nat) (inputs : List (List Byte)) (len : Nat) : List Byte :=
  (List.range len).map (Config.standardByte routine ps inputs)

/-- An object's fold over a list of numbers. -/
def forEach {α : Type} (l : List α) (f : α → State → State) (s : State) : State := l.foldl (fun s a => f a s) s

/-! ### Device state -/

/-- Has Dawn ended in the run under way? A failing supply leaves the state as it is until its reset (R497). -/
def served (s : State) : Bool := s.glb.phase == .run || (s.glb.phase == .pwrfail && s.orr.admittedOnce)

/-- The device state reported (R1, R2): NIGHT, then the first condition in the order of R2, and DAWN until admission has opened
(R487). The spec names no state for the waits in which the core is held in reset (before power good, R495, R461); the model
reports DAWN there (DESIGN CHOICE, log 69). -/
def devState (s : State) : DevState :=
  match s.glb.phase with
  | .night => .night
  | _ =>
    if s.glb.umbra then .umbra
    else if s.glb.hold then .hold
    else if !served s then .dawn
    else if s.glb.maint then .maintenance
    else if s.glb.limited then .limited
    else .service

/-- Is the device in UMBRA, or in a Dawn that ends in it (R443, R483)? -/
def umbral (s : State) : Bool := s.glb.umbra || s.glb.dark

/-- Are transits running? -/
def running (s : State) : Bool := s.time.genRunning

/-- The L an event raised now carries (R462). -/
def eventL (s : State) : Nat :=
  if s.time.genStopped then 2 ^ 64 - 1
  else match s.glb.phase with
    | .dawn => s.time.L
    | .run => s.time.L
    | .pwrfail => if s.time.genRunning then s.time.L else s.time.aonL
    | _ => s.time.aonL

/-! ### Events (R462 to R465) -/

/-- Source field of R464. -/
def source (kind number : Nat) : Nat := kind * 1024 + number % 1024

/-- A record that is lost before numbering, or dropped at placement, is counted (R465, R467, R540): an EVT_RECORDS_LOST
record's own loss counts everywhere but toward a further EVT_RECORDS_LOST. -/
def countLost (code : Nat) (s : State) : State :=
  { s with evt := { s.evt with
      lost := saturate 32 (s.evt.lost + 1)
      frameLost := if code = 0x0011 then s.evt.frameLost else s.evt.frameLost + 1
      pressLost := s.evt.pressLost + 1
      pressThis := true } }

/-- Raise an event: it enters the intake queue, or is lost where the queue holds 1,024 records (R465). -/
def raiseFrom (src code sev p1 p2 p3 : Nat) (s : State) : State :=
  if s.evt.queue.length < 1024 then
    { s with evt := { s.evt with queue := s.evt.queue ++
        [{ code := code, sev := sev, source := src, L := eventL s % 2 ^ 64, p1 := p1 % 2 ^ 32, p2 := p2 % 2 ^ 32, p3 := p3 % 2 ^ 32 }] } }
  else countLost code s

/-- The agent on whose behalf an event with these parameters is raised (R464): the function, meter lane or mesh member its parameters
name, the always-on domain for tamper, the debug access port for the TAP and its BIST runs, otherwise the device or Keeper
(DEDUCED, log 88). -/
def eventAgent (code p1 p2 p3 : Nat) : Nat :=
  if code = 0x4012 ∨ code = 0x4013 ∨ code = 0x0411 then source 1 p2
  else if code = 0xC012 ∨ code = 0xC013 then source 5 p1
  else if code = 0xE010 ∨ code = 0xE011 ∨ code = 0xE012 ∨ code = 0xE015 then source 4 p1
  else if code / 0x1000 = 15 then source 6 0
  else if code = 0x0417 ∨ (code = 0x0512 ∧ p1 = 2) ∨ (code = 0x0513 ∧ p3 = 2) then source 7 0
  else 0

/-- Raise an event on behalf of the agent it concerns. -/
def raiseEv (code sev p1 p2 p3 : Nat) (s : State) : State := raiseFrom (eventAgent code p1 p2 p3) code sev p1 p2 p3 s

/-! ### Functions of the host link -/

/-- The record of a host function. -/
def State.fnOf (s : State) (f : Nat) : Fn := Tab.getD s.hlk.fns f {}

/-- Replace the record of a host function. -/
def setFn (f : Nat) (x : Fn) (s : State) : State := { s with hlk := { s.hlk with fns := Tab.put s.hlk.fns f x } }

/-- Change the record of a host function. -/
def modFn (f : Nat) (g : Fn → Fn) (s : State) : State := setFn f (g (s.fnOf f)) s

/-- Does the function exist on the link (R134)? -/
def fnExists (s : State) (f : Nat) : Bool := decide (f ≤ 64) && (f == 0 || s.hlk.vfEnable)

/-- The FUNCTION record of a function (R103). -/
def fnRec? (s : State) (f : Nat) : Option FnRec := s.car.active.fns.find? (fun r => r.fn == f)

/-- The cabinet a function is bound to; 0 where unbound (FN_STATUS.CABINET). -/
def cabOfFn (s : State) (f : Nat) : Nat := ((fnRec? s f).map (·.cab)).getD 0

/-- Is the function bound (R160)? -/
def bound (s : State) (f : Nat) : Bool := (fnRec? s f).isSome

/-- The functions bound to a cabinet. -/
def fnsOfCab (s : State) (c : Nat) : List Nat := (s.car.active.fns.filter (fun r => r.cab == c)).map (·.fn)

/-- Every bound function. -/
def boundFns (s : State) : List Nat := s.car.active.fns.map (·.fn)

/-- A ring of a function. -/
def State.sqOf (s : State) (f n : Nat) : Sq := Tab.getD (s.fnOf f).sqs n {}
/-- A completion ring of a function. -/
def State.cqOf (s : State) (f n : Nat) : Cq := Tab.getD (s.fnOf f).cqs n {}
/-- Change a submission ring. -/
def modSq (f n : Nat) (g : Sq → Sq) (s : State) : State := modFn f (fun x => { x with sqs := Tab.modify x.sqs n {} g }) s
/-- Change a completion ring. -/
def modCq (f n : Nat) (g : Cq → Cq) (s : State) : State := modFn f (fun x => { x with cqs := Tab.modify x.cqs n {} g }) s

/-- The word of a vector's control in the MSI-X table: word 4v + 3; the mask bit is set at reset (PRESUMED, log 28). -/
def msixMasked (x : Fn) (v : Nat) : Bool := x.cfg.msixMask || bit (Tab.getD x.msixTable (4 * v + 3) 1) 0

/-- Signal a vector: the message leaves, or its pending bit is set while the vector or the whole function is masked; no message leaves
a function whose MSI-X is not enabled (R155) (PRESUMED, log 77). -/
def signal (f v : Nat) (s : State) : State :=
  if !(s.fnOf f).cfg.msixEnable then s
  else if msixMasked (s.fnOf f) v then
    modFn f (fun x => { x with msixPba := if bit x.msixPba v then x.msixPba else x.msixPba + 2 ^ v }) s
  else emit (.msix f v) s

/-- Set a bit of FN_ATTN; vector 16 is sent when it goes from 0 to 1 while ATTN_INT_EN is set (R155). -/
def setAttn (b f : Nat) (s : State) : State :=
  if bit (s.fnOf f).attn b then s
  else
    let s := modFn f (fun x => { x with attn := x.attn + 2 ^ b }) s
    if bit (s.fnOf f).ctrl 0 then signal f 16 s else s

/-- Set a bit of FN_ATTN of every function on the link. -/
def attnAll (b : Nat) (s : State) : State := forEach (s.hlk.fns.map (·.1)) (setAttn b) s

/-- Apply a change of the device; where the reported state changes, FN_ATTN.STATE_CHANGED is set, and where ADMIT_OPEN
changes, FN_ATTN.ADMIT_CHANGED. -/
def watched (g : State → State) (s : State) : State :=
  let s' := g s
  let s'' := if devState s = devState s' then s' else attnAll 3 s'
  if s.orr.admitOpen = s'.orr.admitOpen then s'' else attnAll 5 s''

/-! ### Notices (R151, R173 to R175) -/

/-- Replace a held notice of the same type and subject (SUBJECT with P0, R174). -/
def replaceHeld (n : Notice) : List Notice → Option (List Notice)
  | [] => none
  | h :: t =>
    if h.type = n.type ∧ h.subject = n.subject ∧ h.p0 = n.p0 then some (n :: t)
    else (replaceHeld n t).map (h :: ·)

/-- Hold a notice for a function until CQ 0 takes it (R151). -/
def holdNotice (f : Nat) (n : Notice) (s : State) : State :=
  let x := s.fnOf f
  match replaceHeld n x.held with
  | some h => setFn f { x with held := h } s
  | none =>
    if x.held.length < 256 then setFn f { x with held := x.held ++ [n] } s
    else setAttn 4 f (setFn f { x with noticeLost := saturate 32 (x.noticeLost + 1), lostSince := saturate 16 (x.lostSince + 1) } s)

/-- Send a notice to a function. -/
def notify (type subject p0 p1 p2 p3 : Nat) (f : Nat) (s : State) : State :=
  holdNotice f { type := type, subject := subject, p0 := p0 % 2 ^ 32, p1 := p1 % 2 ^ 32, p2 := p2 % 2 ^ 32, p3 := p3 % 2 ^ 32,
                 raisedL := eventL s } s

/-- Send a notice to each function of a cabinet that has CQ 0 ACTIVE (R175). -/
def notifyCab (type subject p0 p1 p2 p3 : Nat) (c : Nat) (s : State) : State :=
  forEach ((fnsOfCab s c).filter (fun f => (s.cqOf f 0).st == .active)) (notify type subject p0 p1 p2 p3) s

/-- Send a notice to function 0 and to a cabinet's functions, one copy each. -/
def notifyZeroAndCab (type subject p0 p1 p2 p3 : Nat) (c : Nat) (s : State) : State :=
  notify type subject p0 p1 p2 p3 0
    (forEach (((fnsOfCab s c).filter (fun f => (s.cqOf f 0).st == .active)).filter (fun f => f != 0)) (notify type subject p0 p1 p2 p3) s)

/-! ### Completion rings (R138 to R146) -/

/-- Entries of a ring. -/
def ringSize (sizeLog2 : Nat) : Nat := 2 ^ sizeLog2

/-- Free space of a CQ (R146): size − entries not consumed − reservations − 64 for CQ 0. -/
def cqFree (n : Nat) (q : Cq) : Nat :=
  ringSize q.sizeLog2 - (q.written - q.consumed).toNat - q.reserved - (if n = 0 then 64 else 0)

/-- Free entries of CQ 0 for a notice: the 64 notice-only entries are open to it (R151). -/
def noticeRoom (q : Cq) : Nat := ringSize q.sizeLog2 - (q.written - q.consumed).toNat - q.reserved

/-- The phase bit of the next entry (R143): 1 on the first pass, inverted on every later one. -/
def cqPhase (q : Cq) : Bool := q.written.toNat / ringSize q.sizeLog2 % 2 == 0

/-- The index of the next entry (R142). -/
def cqIndex (q : Cq) : Nat := q.written.toNat % ringSize q.sizeLog2

/-- The host address of a device address, through the page owner table (R181). -/
def hostAddr (s : State) (addr : Nat) : Nat :=
  match Tab.get? s.job.pot (addr / 4096) with
  | some e => e.frame * 4096 + addr % 4096
  | none => addr % 4096

/-- Count one entry written and interrupt an armed CQ (R155). -/
def entryWritten (f n : Nat) (s : State) : State :=
  let q := s.cqOf f n
  let s := modCq f n (fun q => { q with written := q.written + 1 }) s
  if q.armed && q.intEn then signal f n (modCq f n (fun q => { q with armed := false }) s) else s

/-- The FLAGS word of an entry: [1:0] KIND, [2] TORN, [3] CREDITLESS, [7:4] SQ, [15] PHASE (R168, R173). -/
def entryFlags (kind : Nat) (torn creditless : Bool) (sq : Nat) (phase : Bool) : Nat :=
  kind + flag torn * 4 + flag creditless * 8 + sq % 16 * 16 + flag phase * 32768

/-- The 32 bytes of a completion entry (R168). -/
def completionBytes (e : Completion) : List Byte :=
  leBytes 4 e.tag.toNat ++ leBytes 2 e.status ++ leBytes 2 (entryFlags (flag e.interim) e.torn e.creditless e.sq e.phase)
    ++ leBytes 8 e.when_ ++ leBytes 4 e.outLen ++ leBytes 4 e.w0 ++ leBytes 4 e.w1 ++ leBytes 4 e.w2

/-- The 32 bytes of a notice entry (R173, R174). -/
def noticeBytes (n : Notice) (lost : Nat) (phase : Bool) : List Byte :=
  leBytes 2 n.type ++ leBytes 2 lost ++ leBytes 2 n.subject ++ leBytes 2 (entryFlags 2 false false 0 phase)
    ++ leBytes 8 n.raisedL ++ leBytes 4 n.p0 ++ leBytes 4 n.p1 ++ leBytes 4 n.p2 ++ leBytes 4 n.p3

/-- Write a completion entry to a CQ that is ACTIVE; no entry is written otherwise (R141). -/
def writeEntry (f n : Nat) (e : Bool → Completion) (s : State) : State :=
  let q := s.cqOf f n
  if q.st = .active then
    entryWritten f n
      (emit (.entry f n (cqIndex q) (hostAddr s (q.base * 4096 + cqIndex q * 32)) (e (cqPhase q)) (completionBytes (e (cqPhase q)))) s)
  else s

/-- Do the entries reserved for an SQ's credits and jobs still stand in its CQ: the CQ has not been enabled anew since (R141)? -/
def cqStands (s : State) (f n : Nat) : Bool := (s.cqOf f (s.sqOf f n).cq).gen == (s.sqOf f n).cqGen

/-- Give back `k` entries of the CQ of an SQ (R146). -/
def giveBack (f n k : Nat) (s : State) : State :=
  if cqStands s f n then modCq f (s.sqOf f n).cq (fun c => { c with reserved := c.reserved - k }) s else s

/-! ### Two-bank records (R210) -/

/-- The bank in force: its check passes and its sequence equals the commit word. -/
def TwoBank.active {α : Type} (r : TwoBank α) : Option Nat :=
  if r.b0.any (fun b => b.intact && b.seq == r.word) then some 0
  else if r.b1.any (fun b => b.intact && b.seq == r.word) then some 1 else none

/-- The value of a record. -/
def TwoBank.value {α : Type} (r : TwoBank α) : Option α :=
  match r.active with
  | some 0 => r.b0.map (·.body)
  | some _ => r.b1.map (·.body)
  | none => none

/-- Steps 1 and 2 of an update: the inactive bank takes the body and sequence + 1, and is read back. -/
def TwoBank.prepare {α : Type} (v : α) (r : TwoBank α) : TwoBank α :=
  let b : RecBank α := { seq := r.word + 1, body := v }
  if r.active = some 0 then { r with b1 := some b } else { r with b0 := some b }

/-- Step 3: the commit word moves to the bank prepared. -/
def TwoBank.commit {α : Type} (r : TwoBank α) : TwoBank α := { r with word := r.word + 1 }

/-- The bank that is not in force is erased; both where none is. -/
def TwoBank.eraseOther {α : Type} (r : TwoBank α) : TwoBank α :=
  match r.active with
  | some 0 => { r with b1 := none }
  | some _ => { r with b0 := none }
  | none => { r with b0 := none, b1 := none }

/-- A whole update of a record of the vault. -/
def TwoBank.store {α : Type} (v : α) (r : TwoBank α) : TwoBank α := (r.prepare v).commit

/-- The site record's value (R117); none while it is empty. -/
def CarState.site (c : CarState) : Option SiteRecord := c.siteBanks.value

/-- The set generation of a cabinet's custody record; 0 while it is empty (R416). -/
def CabCustody.gen (c : CabCustody) : Nat := (c.banks.value.map (·.gen)).getD 0
/-- Has a share set of the cabinet committed (R416)? -/
def CabCustody.committed (c : CabCustody) : Bool := c.banks.value.isSome

/-- The storage keys held (R215). -/
def KeyState.csk (k : KeyState) : Tab Csk := k.cskBanks.filterMap (fun e => e.2.value.map (fun v => (e.1, v)))

/-! ### Freezes -/

/-- Is a master frozen (R198)? Kinds: 0 function, 1 engine lane, 2 world, 3 mesh peer, 4 meter lane. -/
def isFrozen (s : State) (kind number : Nat) : Bool :=
  s.job.freezes.any (fun z => z.kind == kind && z.number == number)

/-! ### Tiles -/

/-- Class of a tile's FROZEN_MASTER number. -/
def tileClass (t : Nat) : Nat := t / 32
/-- Tile numbers of a class: 24 cipher lanes, 16 digest, 8 big-number, 8 polynomial engines. -/
def classCount (cls : Nat) : Nat := if cls = 0 then 24 else if cls = 1 then 16 else 8
/-- The tiles of a class, by FROZEN_MASTER number. -/
def tilesOfClass (cls : Nat) : List Nat := (List.range (classCount cls)).map (· + 32 * cls)
/-- Every tile. -/
def allTiles : List Nat := tilesOfClass 0 ++ tilesOfClass 1 ++ tilesOfClass 2 ++ tilesOfClass 3
/-- The record of a tile. -/
def State.tile (s : State) (t : Nat) : Tile := Tab.getD s.orr.tiles t {}
/-- Change a tile. -/
def modTile (t : Nat) (g : Tile → Tile) (s : State) : State := { s with orr := { s.orr with tiles := Tab.modify s.orr.tiles t {} g } }

/-! ### Jobs -/

/-- A job that holds a slot (DESIGN CHOICE, log 8). -/
def State.jobOf (s : State) (j : Nat) : Option Job := Tab.get? s.job.jobs j

/-- A noise source's record. -/
def sourceOf (s : State) (n : Nat) : Source := Tab.getD s.rng.sources n {}
/-- Change a noise source. -/
def modSource (n : Nat) (g : Source → Source) (s : State) : State :=
  { s with rng := { s.rng with sources := Tab.modify s.rng.sources n {} g } }

/-- Change a job. -/
def modJob (j : Nat) (g : Job → Job) (s : State) : State := { s with job := { s.job with jobs := Tab.update s.job.jobs j g } }

/-- Write an entry of a job, which uses one of its reservations (R146); nothing is written once its SQ is in FAULT or its ring has
gone (R141, R157). -/
def jobEntry (j : Nat) (x : Job) (e : Bool → Completion) (s : State) : State :=
  if x.orphan || (s.sqOf x.fn x.sq).st == .fault then s
  else modJob j (fun y => { y with reserve := y.reserve - 1 }) (giveBack x.fn x.sq 1 (writeEntry x.fn x.cq e s))

/-- The jobs that have not finished. -/
def liveJobs (s : State) : List (Nat × Job) := s.job.jobs.filter (fun e => !e.2.finished)

/-- Is the job in its commit phase (R75)? -/
def inCommit (x : Job) : Bool := x.burst.isSome

/-- Charges of an account (R69). -/
def chargeOf (s : State) (a : Account) (bulk : Bool) : Nat :=
  ((s.orr.charges.find? (fun e => decide (e.1 = (a, bulk)))).map (·.2)).getD 0

/-- Change the charge of an account. -/
def setCharge (a : Account) (bulk : Bool) (v : Nat) (s : State) : State :=
  let others := s.orr.charges.filter (fun e => decide (e.1 ≠ (a, bulk)))
  { s with orr := { s.orr with charges := if v = 0 then others else ((a, bulk), v) :: others } }

/-- The completion entry of a job's FINAL answer (R168 to R172). -/
def finalEntry (s : State) (x : Job) (status outLen w0 w1 w2 : Nat) (phase : Bool) : Completion :=
  { tag := x.desc.tag, status := status, interim := false, torn := status == 0x7003, creditless := false, sq := x.sq,
    phase := phase, when_ := if status = 0x1002 then 2 ^ 64 - 1 else s.time.L, outLen := outLen,
    w0 := w0 % 2 ^ 32, w1 := w1 % 2 ^ 32, w2 := w2 % 2 ^ 32 }

/-- What a job that ends leaves behind: its open dovetail request is cancelled, an image it staged is discarded unless a
commit intent is open for it, and a time step it asked for is dropped (R127, R157 step 3, R229). -/
def dropHolds (j : Nat) (s : State) : State :=
  { s with
    dov := { s.dov with reqs := s.dov.reqs.filter (fun r => r.job != j) }
    car := { s.car with staged := match s.car.staged with
      | some g => if g.job = j ∧ s.car.intent = none then none else some g
      | none => none }
    time := { s.time with
      stepReq := s.time.stepReq.filter (fun q => q.job != j)
      stepDue := s.time.stepDue.filter (fun q => q.job != j) } }

/-- The job ends: its slot, charge and drawer go at the next boundary (R69, R72, R179). -/
def markFinished (j : Nat) (s : State) : State :=
  dropHolds j (modJob j (fun x => { x with finished := true, plan := [], park := none, bank := {} }) s)

/-- OUTPUT_LENGTH of a job's FINAL entry (R171): all of its direct output, or of a torn one what has left, the bytes of a context
record apart (R240). -/
def outputLength (x : Job) (status : Nat) : Nat :=
  match x.result with
  | none => 0
  | some r =>
    if status = 0 then r.output.length
    else if status = 0x7003 then min r.output.length ((x.burst.map (·.issued)).getD 0)
    else 0

/-- The rest of a job's CQ reservations goes (R146). -/
def releaseReserve (j : Nat) (s : State) : State :=
  match s.jobOf j with
  | none => s
  | some x => modJob j (fun y => { y with reserve := 0 }) (if x.orphan then s else giveBack x.fn x.sq x.reserve s)

/-- End a job with its FINAL entry (R169), where its ring and CQ still stand (R141). Its remaining CQ reservations are
released (R146). -/
def endJob (j status w0 w1 w2 : Nat) (s : State) : State :=
  match s.jobOf j with
  | none => s
  | some x =>
    if x.finished then s
    else markFinished j (releaseReserve j (jobEntry j x (finalEntry s x status (outputLength x status) w0 w1 w2) s))

/-- End a job without an entry; its CQ reservations go with its slot (R141, R157 step 2). -/
def dropJob (j : Nat) (s : State) : State := markFinished j s

/-- A ring fault is reported (R139 to R142): attention, and HLK_RING_FAULT with the ring's code. -/
def ringFaultEvent (f ring error : Nat) (s : State) : State :=
  setAttn 0 f (raiseFrom (source 1 f) 0x3011 4 f ring error s)

/-- The jobs of an SQ that entered FAULT end as under R157 steps 1 and 2: those in a commit phase finish it, the others
end WITHDRAWN with no entry. -/
def dropSqJobs (f n : Nat) (s : State) : State :=
  forEach ((liveJobs s).filter (fun e => e.2.fn == f && e.2.sq == n && !inCommit e.2)) (fun e => dropJob e.1) s

/-- An SQ enters FAULT (R141). -/
def faultSq (f n error : Nat) (s : State) : State :=
  dropSqJobs f n (ringFaultEvent f n error (modSq f n (fun q => { q with st := .fault, error := error, offDue := false }) s))

/-- A CQ enters FAULT; every SQ bound to it that is not OFF enters FAULT with NO_CQ in the same transit (R141). -/
def faultCq (f n error : Nat) (s : State) : State :=
  let s := ringFaultEvent f (16 + n) error (modCq f n (fun q => { q with st := .fault, error := error }) s)
  forEach (((s.fnOf f).sqs.filter (fun e => e.2.cq == n && (e.2.st == .active || e.2.st == .draining))).map (·.1))
    (fun k => faultSq f k 0x05) s

end Sys2Proof.Machine
end

