-- ==== Sys2Proof/Machine/Flags.lean ====
section
/-! DEFINITION. The status words computed from the state: device status and health, function and ring status, the status
block (spec/22_dawn_power.md, spec/06_host_transport.md, Formats). -/

namespace Sys2Proof.Machine

/-- GLB_STATUS.STATE. NIGHT is never read. -/
def stateCode : DevState → Nat
  | .dawn => 0 | .service => 1 | .limited => 2 | .maintenance => 3 | .hold => 4 | .umbra => 5 | .night => 0

/-- GLB_STATUS: [2:0] STATE, [6:3] CONDITIONS, [7] LOCKDOWN. -/
def glbStatus (s : State) : Nat :=
  stateCode (devState s) + flag s.glb.limited * 8 + flag s.glb.maint * 16 + flag s.glb.hold * 32
    + flag s.glb.umbra * 64 + flag s.glb.lockdown * 128

/-- GLB_HEALTH: the causes of HEALTH_N (R504). -/
def glbHealth (s : State) : Nat :=
  flag (devState s == .dawn) + flag s.glb.limited * 2 + flag s.glb.maint * 4 + flag s.glb.hold * 8 + flag s.glb.umbra * 16
    + flag s.glb.lockdown * 32 + flag s.glb.keeperClosed * 64 + flag s.glb.katFailed * 128 + flag s.glb.counterWorn * 256

/-- HEALTH_N is driven low (R504): from power good until admission opens, through the wait of R495, and while any bit of
GLB_HEALTH is 1. -/
def healthLow (s : State) : Bool :=
  match s.glb.phase with
  | .off => false
  | .night => false
  | .backoff => true
  | .dawn => true
  | _ => glbHealth s != 0

/-- FN_STATUS of a function. -/
def fnStatus (s : State) (f : Nat) : Nat :=
  match fnRec? s f with
  | none => f % 128 + flag (isFrozen s 0 f) * 2 ^ 14 + flag s.orr.admitOpen * 2 ^ 15
  | some r => f % 128 + 2 ^ 7 + r.cab * 2 ^ 8 + flag (isFrozen s 0 f) * 2 ^ 14 + flag s.orr.admitOpen * 2 ^ 15
      + (r.sqs - 1) * 2 ^ 16 + (r.cqs - 1) * 2 ^ 20

/-- FN_SLOTS: [15:0] slots held; [31:16] current limit, 256 guaranteed and what may still be drawn from the pool, up to
4,352 (R147). -/
def fnSlots (s : State) (f : Nat) : Nat :=
  let x := s.fnOf f
  x.slots % 2 ^ 16 + (256 + min 4096 (x.pool + s.hlk.poolFree)) * 2 ^ 16

/-- STATE field of a ring. -/
def ringCode : RingState → Nat
  | .off => 0 | .active => 1 | .draining => 2 | .fault => 3

/-- SQn_STATUS. -/
def sqStatus (q : Sq) : Nat := ringCode q.st + q.error * 256
/-- CQn_STATUS. -/
def cqStatus (q : Cq) : Nat := ringCode q.st + q.error * 256

/-- The words of bytes 8 to 255 of the status block (R152). -/
def statusWords (s : State) (f : Nat) : List Nat :=
  let x := s.fnOf f
  [glbStatus s, fnStatus s f, x.attn] ++ List.replicate 11 0
    ++ (List.range 16).map (fun n => let q := Tab.getD x.sqs n {}; if q.st = .off then 0 else q.limit.toNat)
    ++ (List.range 16).map (fun n => (Tab.getD x.sqs n {}).head.toNat)
    ++ (List.range 16).map (fun n => (Tab.getD x.cqs n {}).written.toNat)

/-- Keeper is absent (R391, R455): pair 0 is not up, or the debugger has halted it. -/
def keeperAbsent (s : State) : Bool := !s.wld.pair0.up || s.wld.pair0.halted

end Sys2Proof.Machine
end

