-- ==== Sys2Proof/Machine/HostLink.lean ====
section
/-! DEFINITION. Host link commands (spec/06_host_transport.md): rings, doorbells, credits, notices, the status block,
function resets and bad accesses. -/

namespace Sys2Proof.Machine

/-- Can this function's host reach the device now? The link is up and the function exists on it (R134, R162). -/
def hostReaches (s : State) (f : Nat) : Bool := s.hlk.up && fnExists s f

/-! ### Rings (R138 to R141) -/

/-- Pages a ring or block occupies: whole pages. -/
def ringPages (base bytes : Nat) : List Nat := (List.range (ceilDiv bytes 4096)).map (· + base)

/-- Does a page meet R139 for a function: present, owned by its cabinet, naming it or any function, with a right
(1 read, 2 write)? -/
def pageGood (s : State) (f right page : Nat) : Bool :=
  match Tab.get? s.job.pot page with
  | none => false
  | some e => e.cab == cabOfFn s f && (e.fn == f || e.fn == 0x7F) && bit e.rights (right - 1)

/-- The device pages of an SQ. -/
def sqPages (q : Sq) : List Nat := ringPages q.base (2 ^ q.sizeLog2 * 64)
/-- The device pages of a CQ. -/
def cqPages (q : Cq) : List Nat := ringPages q.base (2 ^ q.sizeLog2 * 32)

/-- The checks of R141 for an SQ, in order; 0 where all pass. -/
def sqEnableError (s : State) (f n : Nat) (q : Sq) : Nat :=
  match fnRec? s f with
  | none => 0x06
  | some r =>
    if ¬ n < r.sqs then 0x04
    else if ¬ (6 ≤ q.sizeLog2 ∧ q.sizeLog2 ≤ 16) then 0x01
    else if 2 ^ 32 < q.base * 4096 + 2 ^ q.sizeLog2 * 64 then 0x02
    else if (s.cqOf f q.cq).st ≠ .active ∨ (s.cqOf f 0).st ≠ .active then 0x05
    else if (sqPages q).all (pageGood s f 1) then 0 else 0x03

/-- The checks of R141 for a CQ, in order; 0 where all pass. -/
def cqEnableError (s : State) (f n : Nat) (q : Cq) : Nat :=
  match fnRec? s f with
  | none => 0x06
  | some r =>
    if ¬ n < r.cqs then 0x04
    else if ¬ (6 ≤ q.sizeLog2 ∧ q.sizeLog2 ≤ 16) then 0x01
    else if n = 0 ∧ 2 ^ q.sizeLog2 < 256 then 0x08
    else if 2 ^ 32 < q.base * 4096 + 2 ^ q.sizeLog2 * 32 then 0x02
    else if n ≠ 0 ∧ (s.cqOf f 0).st ≠ .active then 0x05
    else if (cqPages q).all (pageGood s f 2) then 0 else 0x03

/-- The CTRL fields of an SQ written to a ring that is OFF. -/
def sqWithCtrl (q : Sq) (w : Nat) : Sq := { q with sizeLog2 := bits w 4 0, cq := bits w 19 16 }
/-- The CTRL fields of a CQ written to a ring that is OFF; INT_EN is written in any state. -/
def cqWithCtrl (q : Cq) (w : Nat) : Cq := { q with sizeLog2 := bits w 4 0, intEn := bit w 9 }

/-- A write of SQn_CTRL to a ring that is not OFF: its fields stay, and a change of them is an error (R141). -/
def sqCtrlKept (q : Sq) (w : Nat) : Sq :=
  if bits w 4 0 = q.sizeLog2 ∧ bits w 19 16 = q.cq then q else { q with error := 0x0B }
/-- A write of CQn_CTRL to a ring that is not OFF. -/
def cqCtrlKept (q : Cq) (w : Nat) : Cq :=
  let q := { q with intEn := bit w 9 }
  if bits w 4 0 = q.sizeLog2 then q else { q with error := 0x0B }

/-- SQ_ENABLE (R141): SQn_CTRL written with ENABLE = 1. -/
def sqEnable (f n : Nat) (w : Nat) (s : State) : State :=
  let q := s.sqOf f n
  if q.st = .off then
    let q := { sqWithCtrl q w with error := 0, enableBit := true }
    let e := sqEnableError s f n q
    if e = 0 then
      modSq f n (fun _ => { q with
        st := .active, limit := 0, head := 0, tail := 0, withheld := ringSize q.sizeLog2, bells := [], offDue := false,
        cqGen := (s.cqOf f q.cq).gen }) s
    else modSq f n (fun _ => { q with error := e, enableBit := false }) s
  else modSq f n (fun q => sqCtrlKept q w) s

/-- CQ_ENABLE (R141): CQn_CTRL written with ENABLE = 1. -/
def cqEnable (f n : Nat) (w : Nat) (s : State) : State :=
  let q := s.cqOf f n
  if q.st = .off then
    let q := { cqWithCtrl q w with error := 0, enableBit := true }
    let e := cqEnableError s f n q
    if e = 0 then
      modCq f n (fun _ => { q with st := .active, written := 0, consumed := 0, reserved := 0, armed := false, gen := q.gen + 1 }) s
    else modCq f n (fun _ => { q with error := e, enableBit := false }) s
  else modCq f n (fun q => cqCtrlKept q w) s

/-- The unfinished jobs fetched from an SQ. -/
def sqJobs (s : State) (f n : Nat) : List (Nat × Job) := (liveJobs s).filter (fun e => e.2.fn == f && e.2.sq == n)

/-- The credits of a ring that have backed no job lapse with it: their slots, pool places and CQ reservations go (R145 to
R147). -/
def releaseCredits (f n : Nat) (s : State) : State :=
  let q := s.sqOf f n
  let k := (q.limit - q.head).toNat
  let p := min (s.fnOf f).pool k
  let s := giveBack f n (2 * k) s
  let s := modFn f (fun x => { x with slots := x.slots - k, pool := x.pool - p }) s
  { s with hlk := { s.hlk with poolFree := s.hlk.poolFree + p } }

/-- The jobs of an SQ that goes: what is still to be written or returned to the ring is not (R141, R145, R157). -/
def orphanJobs (gone : Job → Bool) (s : State) : State :=
  { s with job := { s.job with jobs := Tab.mapAll s.job.jobs (fun _ x => if gone x then { x with orphan := true } else x) } }

/-- A ring becomes OFF: its credits lapse, and no credit of its old jobs comes back to it. -/
def sqOff (f n : Nat) (s : State) : State :=
  let s := forEach (s.job.jobs.filter (fun e => e.2.fn == f && e.2.sq == n && e.2.finished)) (fun e => releaseReserve e.1) s
  let s := releaseCredits f n s
  let s := orphanJobs (fun x => x.fn == f && x.sq == n) s
  modSq f n (fun q => { q with
    st := .off, enableBit := false, offDue := false, limit := 0, head := 0, tail := 0, withheld := 0, bells := [] }) s

/-- A DRAINING SQ whose last final completion is written, and a faulted SQ written ENABLE = 0, become OFF once none of their jobs
is left in a commit phase (R141, R77). -/
def settleSq (f n : Nat) (s : State) : State :=
  let q := s.sqOf f n
  if (sqJobs s f n).isEmpty ∧ (q.st = .draining ∨ (q.st = .fault ∧ q.offDue = true)) then sqOff f n s else s

/-- Every draining or disabled ring settles. -/
def settleAll (s : State) : State :=
  forEach s.hlk.fns (fun e s => forEach e.2.sqs (fun r s => settleSq e.1 r.1 s) s) s

/-- SQ_DISABLE (R141): SQn_CTRL written with ENABLE = 0. -/
def sqDisable (f n : Nat) (w : Nat) (s : State) : State :=
  let q := s.sqOf f n
  match q.st with
  | .off => modSq f n (fun q => { sqWithCtrl q w with enableBit := false }) s
  | .active => settleSq f n (modSq f n (fun q => { sqCtrlKept q w with st := .draining, enableBit := false }) s)
  | .draining => modSq f n (fun q => sqCtrlKept q w) s
  | .fault => settleSq f n (modSq f n (fun q => { sqCtrlKept q w with enableBit := false, offDue := true }) s)

/-- Is another ring of the function not OFF? -/
def otherRingsUp (x : Fn) : Bool :=
  x.sqs.any (fun e => e.2.st != .off) || x.cqs.any (fun e => e.1 != 0 && e.2.st != .off)

/-- CQ_DISABLE (R140, R141): CQn_CTRL written with ENABLE = 0. -/
def cqDisable (f n : Nat) (w : Nat) (s : State) : State :=
  let x := s.fnOf f
  let q := s.cqOf f n
  match q.st with
  | .off => modCq f n (fun q => { cqWithCtrl q w with enableBit := false }) s
  | .active =>
    if x.sqs.any (fun e => e.2.cq == n && e.2.st != .off) || (n == 0 && otherRingsUp x) then
      modCq f n (fun q => { cqCtrlKept q w with error := 0x07 }) s
    else modCq f n (fun q => { cqCtrlKept q w with st := .off, enableBit := false, reserved := 0, armed := false }) s
  | .draining => s
  | .fault => modCq f n (fun q => { cqCtrlKept q w with st := .off, enableBit := false, reserved := 0, armed := false }) s

/-! ### Doorbells (R142) -/

/-- A doorbell to a ring that takes none is logged once per ring and Dawn. -/
def logIgnored (f ring st : Nat) (logged : Bool) (s : State) : State :=
  if logged then s else raiseFrom (source 1 f) 0x3015 2 f ring st s

/-- SQ_DOORBELL. -/
def sqDoorbell (f n : Nat) (count : Word) (cycle : Nat) (s : State) : State :=
  let q := s.sqOf f n
  if q.st = .active then
    if diff32 count q.head < 0 ∨ (ringSize q.sizeLog2 : Int) < diff32 count q.head then faultSq f n 0x0C s
    else modSq f n (fun q => { q with tail := count, bells := q.bells ++ [(count, s.time.L * transitCycles + cycle)] }) s
  else modSq f n (fun q => { q with ignoredLogged := true }) (logIgnored f n (ringCode q.st) q.ignoredLogged s)

/-- CQ_DOORBELL. -/
def cqDoorbell (f n : Nat) (count : Word) (s : State) : State :=
  let q := s.cqOf f n
  if q.st = .active then
    if diff32 count q.consumed < 0 ∨ diff32 q.written count < 0 then faultCq f n 0x0C s
    else
      let s := modCq f n (fun q => { q with consumed := count, armed := true }) s
      if q.intEn ∧ count ≠ q.written then signal f n (modCq f n (fun q => { q with armed := false }) s) else s
  else modCq f n (fun q => { q with ignoredLogged := true }) (logIgnored f (16 + n) (ringCode q.st) q.ignoredLogged s)

/-- The doorbell instant of the descriptor at a count: the first doorbell that covers it (R144). -/
def bellInstant (q : Sq) (count : Word) (now : Nat) : Nat :=
  ((q.bells.find? (fun b => decide (0 < diff32 b.1 count))).map (·.2)).getD now

/-- Count one descriptor fetched and forget the doorbells no later descriptor needs. -/
def fetched (q : Sq) : Sq :=
  { q with head := q.head + 1, bells := q.bells.filter (fun b => decide (0 < diff32 b.1 (q.head + 1))) }

/-! ### Answers beyond the credit limit (R150, R487) -/

/-- Is a descriptor pending in the ring (R144)? -/
def descPending (q : Sq) : Bool := q.st == .active && decide (0 < diff32 q.tail q.head)
/-- Is the next descriptor within the credit limit (R145)? (DEDUCED, log 20). -/
def withinLimit (q : Sq) : Bool := decide (0 < diff32 q.limit q.head)

/-- Does a function reset wait for commit phases (R77)? The function fetches and grants nothing until it is done. -/
def resetting (s : State) (f : Nat) : Bool := s.hlk.resetsDue.any (fun r => r.fn == f)

/-- Does the device fetch now: it runs, and the function's host is reached? -/
def mayFetch (s : State) (f : Nat) : Bool :=
  (s.glb.phase == .run || s.glb.phase == .dawn) && hostReaches s f && !resetting s f

/-- Can the next descriptor of a ring be fetched: within the credit limit, or beyond it into free space of its CQ (R144, R150)? -/
def fetchable (s : State) (f n : Nat) : Bool :=
  let q := s.sqOf f n
  descPending q && mayFetch s f
    && (withinLimit q || ((s.cqOf f q.cq).st == .active && decide (1 ≤ cqFree q.cq (s.cqOf f q.cq))))

/-- A list turned so that it starts with the first element not below `k`. -/
def turned (k : Nat) (l : List Nat) : List Nat := l.filter (fun n => decide (k ≤ n)) ++ l.filter (fun n => decide (n < k))

/-- The ring of a function whose descriptor is fetched next: round robin in ascending ring number (R144). -/
def nextRing (s : State) (f : Nat) : Option Nat :=
  (turned (s.fnOf f).fetchSq ((s.fnOf f).sqs.map (·.1))).find? (fetchable s f)

/-- The function and ring whose descriptor is fetched next: round robin in ascending function number (R144). -/
def nextFetch (s : State) : Option (Nat × Nat) :=
  (turned s.hlk.fetchFn (s.hlk.fns.map (·.1))).findSome? (fun f => (nextRing s f).map (fun n => (f, n)))

/-- The round robin moves past a function and its ring (R144). -/
def passTurn (f n : Nat) (s : State) : State :=
  let s := modFn f (fun x => { x with fetchSq := (n + 1) % 16 }) s
  { s with hlk := { s.hlk with fetchFn := (f + 1) % 65 } }

/-- An answer that is no job: BUSY_STARTING carries the retry hint, any other the L of the write (R170). -/
def plainAnswer (s : State) (tag : Word) (n status : Nat) (creditless : Bool) (phase : Bool) : Completion :=
  { tag := tag, status := status, interim := false, torn := false, creditless := creditless, sq := n, phase := phase,
    when_ := if status = 0x1002 then
        (if s.time.genStopped then 2 ^ 64 - 1 else s.time.admitExpectL - s.time.L)
      else s.time.L,
    outLen := 0, w0 := 0, w1 := 0, w2 := 0 }

/-- The status of a descriptor beyond its credits: BUSY_STARTING in DAWN (R150) and once the generator has stopped (R40),
CREDIT_EXCEEDED otherwise. -/
def creditlessStatus (s : State) : Nat := if !served s || s.time.genStopped then 0x1002 else 0x2020

/-- CREDITLESS_ANSWER: the descriptor whose turn it is, beyond its credits, is answered in one free entry; the credit limit moves on
with it, so that the credits held stay as they were (log 20) (DEDUCED, log 23). -/
def creditlessAnswer (f n : Nat) (bs : List Byte) (s : State) : State :=
  let q := s.sqOf f n
  if nextFetch s = some (f, n) ∧ withinLimit q = false then
    let status := creditlessStatus s
    let s := passTurn f n (modSq f n (fun q => { fetched q with limit := q.limit + 1 }) s)
    writeEntry f q.cq (plainAnswer s (BitVec.ofNat 32 (leAt bs 4 4)) n status true) s
  else s

/-! ### Credits (R145 to R149) -/

/-- The state of one pass over a function's rings: credits go while a ring has withheld credits, its CQ holds a full answer
and slots remain. -/
def grantLoop (f n : Nat) : Nat → State → State
  | 0, s => s
  | k + 1, s =>
    let x := s.fnOf f
    let q := s.sqOf f n
    if 0 < q.withheld ∧ 2 ≤ cqFree q.cq (s.cqOf f q.cq) ∧ (x.slots < 256 ∨ (x.pool < 4096 ∧ 0 < s.hlk.poolFree)) then
      let fromPool := decide (256 ≤ x.slots)
      let s := modSq f n (fun q => { q with limit := q.limit + 1, withheld := q.withheld - 1 }) s
      let s := modCq f q.cq (fun c => { c with reserved := c.reserved + 2 }) s
      let s := modFn f (fun x => { x with slots := x.slots + 1, pool := if fromPool then x.pool + 1 else x.pool, nextSq := (n + 1) % 16 }) s
      let s := if fromPool then { s with hlk := { s.hlk with poolFree := s.hlk.poolFree - 1, lastPoolFn := f } } else s
      grantLoop f n k s
    else s

/-- The rings of a function that are enabled, round robin from its next ring (R148). -/
def grantRings (x : Fn) : List Nat := turned x.nextSq ((x.sqs.filter (fun e => e.2.st == .active)).map (·.1))

/-- The credits a ring holds, C − tail (R145); a tail beyond the limit holds none. -/
def creditsHeld (q : Sq) : Nat := (diff32 q.limit q.tail).toNat

/-- Grant the credits of one function. -/
def grantFn (f : Nat) (s : State) : State :=
  if resetting s f then s else forEach (grantRings (s.fnOf f)) (fun n s => grantLoop f n (s.sqOf f n).withheld s) s

/-- The credits, slots and pool places of the jobs that finished in the transit are released (R148), and the CQ reservations of those
that ended without an entry (R141). -/
def creditJob (e : Nat × Job) (s : State) : State :=
  if e.2.finished && !e.2.credited then
    let x := s.fnOf e.2.fn
    let fromPool := decide (0 < x.pool)
    let s := modFn e.2.fn (fun x => { x with slots := x.slots - 1, pool := x.pool - 1 }) s
    let s := if fromPool then { s with hlk := { s.hlk with poolFree := s.hlk.poolFree + 1 } } else s
    let s := if (s.sqOf e.2.fn e.2.sq).st = .active ∧ e.2.orphan = false then
      modSq e.2.fn e.2.sq (fun q => { q with withheld := q.withheld + 1 }) s else s
    modJob e.1 (fun x => { x with credited := true }) (releaseReserve e.1 s)
  else s

/-- CREDIT_BATCH (R148, R149), at transit end; credits are granted only while admission is open and no worn counter 0 has closed it
(R40). -/
def creditBatch (s : State) : State :=
  let s := forEach s.job.jobs creditJob s
  if s.orr.admitOpen && !s.time.genStopped then
    forEach (turned ((s.hlk.lastPoolFn + 1) % 65) ((s.hlk.fns.map (·.1)))) grantFn s
  else s

/-- Vector 17 of each function with CREDIT_INT_EN of which a ring went from no credits in `old` to some (R155). -/
def signalCredits (old s : State) : State :=
  forEach (s.hlk.fns.map (·.1)) (fun f s =>
    if bit (s.fnOf f).ctrl 1
        && (s.fnOf f).sqs.any (fun e => e.2.st == .active && creditsHeld e.2 != 0 && creditsHeld (old.sqOf f e.1) == 0) then signal f 17 s
    else s) s

/-! ### Status block (R152) -/

/-- Write one function's status block: bytes 0 to 255, L and the words (R152). -/
def writeStatusBlock (f : Nat) (s : State) : State :=
  let x := s.fnOf f
  let ws := statusWords s f
  modFn f (fun x => { x with sbLast := ws })
    (emit (.statusBlock f (hostAddr s (x.sbPage * 4096)) (leBytes 8 s.time.L ++ ws.flatMap (leBytes 4))) s)

/-- At transit end: each enabled block is written where a value in bytes 8 to 255 changed, and at the first transit end
of a meter frame. -/
def statusBlocks (s : State) : State :=
  forEach (s.hlk.fns.map (·.1)) (fun f s =>
    let x := s.fnOf f
    if x.sbEnabled && !resetting s f && (x.sbLast != statusWords s f || s.time.L % frameL == 0) then writeStatusBlock f s else s) s

/-- STATUS_BLOCK_ENABLE: FN_SB_BASE written. The page field keeps the value; ENABLE holds only where the page meets R139. -/
def statusBlockEnable (f w : Nat) (s : State) : State :=
  let page := bits w 31 12
  let on := bit w 0 && bound s f && pageGood s f 2 page
  modFn f (fun x => { x with sbPage := page, sbEnabled := on, sbLast := if on && x.sbEnabled && x.sbPage == page then x.sbLast else statusWords s f }) s

/-- FN_ATTN_CLEAR (R8): writing 1 to an FN_ATTN bit clears it. -/
def fnAttnClear (f w : Nat) (s : State) : State :=
  modFn f (fun x => { x with attn := (List.range 6).foldl (fun a i => a + flag (bit x.attn i && !bit w i) * 2 ^ i) 0 }) s

/-! ### Notices -/

/-- The oldest held notice goes to CQ 0 where it is ACTIVE and has a free entry (R151). -/
def writeNotice (f : Nat) (s : State) : State :=
  let x := s.fnOf f
  let q := s.cqOf f 0
  match x.held with
  | [] => s
  | n :: rest =>
    if q.st = .active ∧ 0 < noticeRoom q ∧ resetting s f = false then
      let s := setFn f { x with held := rest, lostSince := 0 } s
      entryWritten f 0 (emit (.notice f (cqIndex q) (hostAddr s (q.base * 4096 + cqIndex q * 32)) x.lostSince (cqPhase q) n
        (noticeBytes n x.lostSince (cqPhase q))) s)
    else s

/-- At the end of a transit every held notice that has room is written (R151). -/
def writeNotices (s : State) : State :=
  forEach (s.hlk.fns.map (·.1)) (fun f s => forEach (List.range (s.fnOf f).held.length) (fun _ => writeNotice f) s) s

/-- NOTICE_WRITE (R151): at the end of a transit, which for the command begins with its tail (DESIGN CHOICE, log 78). What is still
held when the transit ends is written by TRANSIT_BOUNDARY. -/
def noticeWrite (f : Nat) (s : State) : State := if s.time.tailL = some s.time.L then writeNotice f s else s

/-! ### Bad accesses (R136) -/

/-- BAD_ACCESS: the first of each function after each Dawn is logged; a read returns zeros. -/
def badAccess (f offset size : Nat) (write : Bool) (s : State) : State :=
  let s := if (s.fnOf f).badLogged then s
    else modFn f (fun x => { x with badLogged := true }) (raiseFrom (source 1 f) 0x3013 2 f offset size s)
  if write then s else emit (.readData f offset 0) s

/-- MSI-X vectors unmasked with their pending bit set send their message (R155). -/
def flushPending (f : Nat) (s : State) : State :=
  forEach (List.range 18) (fun v s =>
    let x := s.fnOf f
    if x.cfg.msixEnable && bit x.msixPba v && !msixMasked x v then emit (.msix f v) (modFn f (fun x => { x with msixPba := x.msixPba - 2 ^ v }) s) else s) s

end Sys2Proof.Machine
end

