-- ==== Sys2Proof/Machine/Operands.lean ====
section
/-! DEFINITION. Operand forms of a job (spec/07_ramrek_messages.md R163, R164, R166): the descriptor's fields, what an
opcode says about them, and the generic checks. -/

namespace Sys2Proof.Machine

/-- The 64 bytes of a descriptor as fields (R163). -/
def Desc.parse (bs : List Byte) : Desc :=
  { opcode := leAt bs 0 2, cls := byteAt bs 2 % 4, classByte := byteAt bs 2, reserved3 := byteAt bs 3,
    tag := BitVec.ofNat 32 (leAt bs 4 4), handleA := leAt bs 8 4, handleB := leAt bs 12 4,
    inAddr := leAt bs 16 4, inLen := leAt bs 20 4, outAddr := leAt bs 24 4, outCap := leAt bs 28 4,
    auxAddr := leAt bs 32 4, auxLen := leAt bs 36 4, params := slice bs 40 24 }

/-- A parameter field, by its descriptor offset (40 to 63). -/
def Desc.par (d : Desc) (off n : Nat) : Nat := leAt d.params (off - 40) n

/-- No handle (R163). -/
def noHandle : Nat := 0xFFFFFFFF

/-- The plane of an opcode (R176): engine tile, control, management. -/
inductive Plane where
  | D | C | M
  deriving DecidableEq, Repr

/-- What the owning chapter of an opcode says of one descriptor. -/
structure OpInfo where
  plane : Plane
  /-- engine class of its tile -/
  engine : Nat := 0
  usesA : Bool := false
  usesB : Bool := false
  usesIn : Bool := false
  usesOut : Bool := false
  usesAux : Bool := false
  /-- parameter checks of step 3 in descriptor order: offset, and whether the field is as it must be -/
  fields : List (Nat × Bool) := []
  /-- engine cycles, none where not known at step 5 -/
  cost : Option Nat := some 0
  /-- an owning chapter rules this form out of PROMPT, with this cause -/
  promptBar : Option Nat := none
  /-- direct output bytes the job will write, as far as fixed -/
  outLen : Nat := 0
  /-- step 6 beside the page ranges: status, W0, W1 -/
  owner : Option (Nat × Nat × Nat) := none
  /-- step 7: W0 -/
  policy : Option (Nat × Nat × Nat) := none
  /-- step 8: descriptor offset and largest value -/
  length : Option (Nat × Nat × Nat) := none
  /-- step 8 after the length limits: status and W0 to W2 (R295, R301) -/
  late : Option (Nat × Nat × Nat × Nat) := none
  /-- step 9: output bytes required -/
  needOut : Option Nat := none
  /-- masking bits, backing bytes read, key-generation bits, backing bytes written, IV-helper bits (R247, R303, R323) -/
  needs : List Nat := [0, 0, 0, 0, 0]
  /-- further named ranges of step 6: address, length, descriptor offset (R239, R292) -/
  ranges : List (Nat × Nat × Nat) := []
  /-- the context record staging reads (R239) -/
  recordRead : Option (Nat × Nat) := none
  /-- a digest result slot; a handle record with its output backing range (R259, R291) -/
  wantSlot : Bool := false
  wantHe : Option (Nat × Nat) := none
  /-- backing ranges of the ciphertext handles it names (R184) -/
  backing : List (Nat × Nat) := []
  /-- transits a control job's own link allowance takes (R477) -/
  transits : Nat := 1

/-- An address and length pair is well formed (R164). -/
def pairOk (used : Bool) (addr len : Nat) : Bool :=
  if used then (len != 0 || addr == 0) && decide (addr + len ≤ 2 ^ 32) else addr == 0 && len == 0

/-- The first field of step 3 that fails, by descriptor offset (R164). -/
def badField (d : Desc) (i : OpInfo) : Option Nat :=
  let checks : List (Nat × Bool) :=
    [(2, decide (d.classByte < 4)), (3, d.reserved3 == 0),
     (8, i.usesA || d.handleA == noHandle), (12, i.usesB || d.handleB == noHandle),
     (16, pairOk i.usesIn d.inAddr d.inLen), (24, pairOk i.usesOut d.outAddr d.outCap),
     (32, pairOk i.usesAux d.auxAddr d.auxLen)] ++ i.fields
  (checks.find? (fun c => !c.2)).map (·.1)

/-- The 4 KiB pages a byte range touches (R183). -/
def pagesOf (addr len : Nat) : List Nat :=
  if len = 0 then [] else (List.range ((addr + len - 1) / 4096 + 1 - addr / 4096)).map (· + addr / 4096)

/-- Is every page of a range inside the windows of a cabinet (R166 step 6)? Checked over windows, not page by page. -/
def inWindows (s : State) (cab addr len : Nat) : Bool :=
  let ws := s.car.active.windows.filter (fun w => w.cab == cab)
  if len = 0 then true
  else
    let first := addr / 4096
    let last := (addr + len - 1) / 4096
    -- windows are in ascending order of first page and never overlap (R104)
    (ws.foldl (fun next w => if w.first ≤ next ∧ next < w.first + w.count then w.first + w.count else next) first) > last

/-- The first range of a descriptor outside its cabinet's windows, by the offset of its address field. -/
def badRange (s : State) (cab : Nat) (d : Desc) (i : OpInfo) : Option Nat :=
  if i.usesIn && !inWindows s cab d.inAddr d.inLen then some 16
  else if i.usesOut && !inWindows s cab d.outAddr d.outCap then some 24
  else if i.usesAux && !inWindows s cab d.auxAddr d.auxLen then some 32
  else (i.ranges.find? (fun r => !inWindows s cab r.1 r.2.1)).map (·.2.2)

/-- Bytes that must be 0: the parameter bytes from `off` up to 63. -/
def reservedFrom (d : Desc) (off : Nat) : List (Nat × Bool) :=
  [(off + ((firstNonZero (d.params.drop (off - 40)) 0).getD 0), (firstNonZero (d.params.drop (off - 40)) 0).isNone)]

/-- A descriptor field by offset must be 0. -/
def zeroField (d : Desc) (off n : Nat) : Nat × Bool := (off, d.par off n == 0)

/-- Slices of the pages a host write touches: bytes at a device address, split where pages end. -/
def hostPieces (s : State) (addr : Nat) (bs : List Byte) : Nat → List Out
  | 0 => []
  | fuel + 1 =>
    if bs.isEmpty then []
    else
      let room := 4096 - addr % 4096
      .hostWrite (hostAddr s addr) (bs.take room) :: hostPieces s (addr + room) (bs.drop room) fuel

/-- Write bytes to the device address window (R190): in ascending address order. -/
def writeHost (addr : Nat) (bs : List Byte) (s : State) : State :=
  { s with out := s.out ++ hostPieces s addr bs (bs.length / 4096 + 2) }

end Sys2Proof.Machine
end

