-- ==== Sys2Proof/Machine/Jobs.lean ====
section
/-! DEFINITION. Jobs, pages and freezes (spec/08_jobs_memory.md): parking and release, PAGE_WANTED, the freeze of a master
and its end, the slot books, and the commit phase of a job (spec/03_orrery.md R75 to R77). -/

namespace Sys2Proof.Machine

/-! ### Freezing a master (R198 to R201) -/

/-- The cabinet that owns a master (R200). -/
def ownerOfMaster (s : State) (kind number : Nat) : Nat :=
  if kind = 0 then cabOfFn s number
  else if kind = 1 then ((s.car.active.owned.find? (fun o => o.1 == number)).map (·.2)).getD 0
  else if kind = 2 then ((s.car.active.applets.find? (fun a => a.world == number)).map (·.cab)).getD 0
  else if kind = 4 then ((s.car.active.lanes.find? (fun l => l.lane == number)).map (·.cab)).getD 0
  else 0

/-- Event source of a master (R464). -/
def masterSource (kind number : Nat) : Nat :=
  source (if kind = 0 then 1 else if kind = 1 then 2 else if kind = 2 then 3 else if kind = 3 then 4 else 5) number

/-- Is a job planned on a tile, now or later: a booking there, or a slice of it that runs there now? -/
def plannedOn (x : Job) (t : Nat) : Bool := x.plan.any (fun b => b.tile == t) || (x.st == .running && x.plane == 0 && x.tile == some t)

/-- The jobs a freeze ends: of a frozen function all its jobs, of a frozen tile every job planned on it; a job in its commit phase
finishes it (R199). -/
def jobsOfMaster (s : State) (kind number : Nat) : List (Nat × Job) :=
  if kind = 0 then (liveJobs s).filter (fun e => e.2.fn == number && !inCommit e.2)
  else if kind = 1 then (liveJobs s).filter (fun e => plannedOn e.2 number && !inCommit e.2)
  else []

/-- How a job of a frozen master ends: the offender and queued jobs of a frozen function FROZEN, the others WITHDRAWN. -/
def frozenStatus (kind : Nat) (offender : Option Nat) (e : Nat × Job) : Nat :=
  if offender = some e.1 ∨ (kind = 0 ∧ e.2.st = .queued) then 0x3004 else 0x7001

/-- A violation freezes its master at once (R198 to R200). -/
def freezeMaster (kind number cause addr : Nat) (tag : Word) (offender : Option Nat) (s : State) : State :=
  if isFrozen s kind number then s
  else
    let js := jobsOfMaster s kind number
    let ended := js ++ ((liveJobs s).filter (fun e => some e.1 == offender && !(js.any (fun d => d.1 == e.1))))
    let s := { s with job := { s.job with freezes := s.job.freezes ++
      [{ kind := kind, number := number, cause := cause, L := eventL s, addr := addr, tag := tag }] } }
    let s := forEach ended (fun e => endJob e.1 (frozenStatus kind offender e) 0 0 0) s
    let s := notifyZeroAndCab 0x0002 kind number cause ended.length 0 (ownerOfMaster s kind number) s
    let s := if kind = 0 then setAttn 1 number s else s
    raiseFrom (masterSource kind number) 0x4010 5 (kind * 256 + number) cause addr s

/-- A freeze ends (R201): the forensic record goes, THAWED is set, the thaw is logged. -/
def thawMaster (kind number cab : Nat) (s : State) : State :=
  if isFrozen s kind number then
    let s := { s with job := { s.job with freezes := s.job.freezes.filter (fun z => !(z.kind == kind && z.number == number)) } }
    let s := if kind = 0 then setAttn 2 number s else s
    raiseFrom (masterSource kind number) 0x4011 4 (kind * 256 + number) cab 0 s
  else s

/-! ### Terminal bursts (R190, R240) -/

/-- The ranges a job's commit phase writes: direct output, then a context record (R190, R240). -/
def commitRanges (x : Job) (r : Result) : List (Nat × List Byte) :=
  (x.desc.outAddr, r.output) :: (match r.record with | some (a, b) => [(a, b)] | none => [])

/-- Bytes of the terminal burst. -/
def burstLen (x : Job) (r : Result) : Nat := ((commitRanges x r).map (fun e => e.2.length)).sum

/-- Has a burst under way bytes left to issue, so that a break tears it (R202, R438)? -/
def burstBroken (x : Job) : Bool :=
  match x.burst, x.result with
  | some b, some r => b.issued != burstLen x r
  | _, _ => false

/-! ### Page faults (R183, R194 to R197) -/

/-- What an access meets at a page (R183): a fault, a violation by its cause, or nothing. -/
inductive PageMeet where
  | ok | fault | violation (cause : Nat)
  deriving DecidableEq, Repr

/-- The check of one page for a function and a right (1 read, 2 write). -/
def meetPage (s : State) (f right page : Nat) : PageMeet :=
  match Tab.get? s.job.pot page with
  | none => .fault
  | some e =>
    if e.fn ≠ f ∧ e.fn ≠ 0x7F then .violation 0x01
    else if bit e.rights (right - 1) then .ok else .violation 0x02

/-- The jobs of a function parked on a page. -/
def parkedOn (s : State) (f page : Nat) : List (Nat × Job) :=
  (liveJobs s).filter (fun e => e.2.fn == f && e.2.park.any (fun p => p.1 == page))

/-- The union of the rights the jobs of a function parked on a page need: [0] read, [1] write. -/
def rightsWanted (s : State) (f page : Nat) : Nat :=
  flag ((parkedOn s f page).any (fun e => e.2.park.any (fun p => p.2.1 == 1)))
    + 2 * flag ((parkedOn s f page).any (fun e => e.2.park.any (fun p => p.2.1 == 2)))

/-- PAGE_WANTED for a function and page (R195). -/
def pageWanted (f page : Nat) (tag : Word) (s : State) : State :=
  notify 0x0001 0 page (rightsWanted s f page) tag.toNat (parkedOn s f page).length f s

/-- The job keeps what it has run of the slice of this transit and takes the rest back (R74): `ran` engine cycles, whether or not the
tail has already taken the slice off the remaining cost. -/
def keepRan (L ran : Nat) (x : Job) : Job :=
  if x.slice ≠ 0 then { x with remaining := x.remaining + (x.slice - ran), slice := 0 }
  else { x with remaining := x.remaining - min ran (((x.plan.filter (fun b => b.transit == L)).map (·.cycles)).sum) }

/-- A slice that ran to its end. -/
def wholeSlice : Nat := 2 ^ 32

/-- A job parks on a page after `ran` cycles of the slice under way (R74, R194, R195); the first of its function there starts the
PAGE_WANTED stream. -/
def parkJob (j page right ran : Nat) (s : State) : State :=
  match s.jobOf j with
  | none => s
  | some x =>
    let first := (parkedOn s x.fn page).isEmpty
    let s := modJob j (fun x => { keepRan s.time.L ran x with st := .parked, park := some (page, right, s.time.L), plan := [] }) s
    if first then
      let s := { s with job := { s.job with wanted := s.job.wanted ++ [{ fn := x.fn, page := page, tag := x.desc.tag, lastL := s.time.L }] } }
      pageWanted x.fn page x.desc.tag s
    else s

/-- The streams whose last parked job has gone stop (R197). -/
def pruneWanted (s : State) : State :=
  { s with job := { s.job with wanted := s.job.wanted.filter (fun w => !(parkedOn s w.fn w.page).isEmpty) } }

/-- A job ends PAGE_ABANDONED (R197). -/
def abandonJob (j page : Nat) (s : State) : State :=
  match s.jobOf j with
  | none => s
  | some x => pruneWanted (endJob j 0x7005 page 0 0 (raiseEv 0x4013 2 x.desc.tag.toNat x.fn page s))

/-- The device address a job asks for in a page: the first byte of its named ranges, or of its context record, that lies there (R200). -/
def addrIn (x : Job) (page : Nat) : Nat :=
  let ranges := [(x.desc.inAddr, x.desc.inLen), (x.desc.outAddr, x.desc.outCap), (x.desc.auxAddr, x.desc.auxLen)] ++ x.backing
    ++ x.recordRead.toList ++ (match x.result with | some r => (r.record.map (fun e => (e.1, e.2.length))).toList | none => [])
  ((ranges.find? (fun r => (pagesOf r.1 r.2).contains page)).map (fun r => max r.1 (page * 4096))).getD (page * 4096)

/-- One parked job at the boundary at which its page is present (R196): released, or into a violation. -/
def releaseJob (j : Nat) (s : State) : State :=
  match s.jobOf j with
  | none => s
  | some x =>
    match x.park with
    | none => s
    | some (page, right, _) =>
      match meetPage s x.fn right page with
      | .ok => modJob j (fun x => { x with
          park := none, st := if x.desc.cls = 3 ∨ (x.remaining = x.cost ∧ x.result.isNone) then .admitted else .saved }) s
      | .fault => s
      | .violation cause => freezeMaster 0 x.fn cause (addrIn x page) x.desc.tag (some j) s

/-- The jobs parked on a page of a list. -/
def parkedAmong (s : State) (pages : List Nat) : List (Nat × Job) :=
  (liveJobs s).filter (fun e => e.2.park.any (fun p => pages.contains p.1))

/-- Does a parked job leave its page now: it is present, whether or not the job's check there passes (R196)? -/
def leavesPark (s : State) (j : Nat) : Bool :=
  (s.jobOf j).any (fun x => x.park.any (fun p => meetPage s x.fn p.2.1 p.1 != .fault))

/-- Release every job parked on a page of the list (R196), with the number released. -/
def releaseCounted (pages : List Nat) (s : State) : State × Nat :=
  (parkedAmong s pages).foldl (fun (a : State × Nat) e => if leavesPark a.1 e.1 then (releaseJob e.1 a.1, a.2 + 1) else a) (s, 0)

/-- Release every job parked on a page of the list (R196). -/
def releasePages (pages : List Nat) (s : State) : State := pruneWanted (releaseCounted pages s).1

/-- A DMA request of a job's slice: device address, length, direction, and the tile that issued it. -/
def jobRanges (x : Job) : List (Nat × Nat) :=
  [(x.desc.inAddr, x.desc.inLen), (x.desc.outAddr, x.desc.outCap), (x.desc.auxAddr, x.desc.auxLen)] ++ x.backing

/-- Does the request lie inside one range of the job (R184)? -/
def insideRanges (x : Job) (addr len : Nat) : Bool :=
  (jobRanges x).any (fun r => decide (r.1 ≤ addr ∧ addr + len ≤ r.1 + r.2))

/-- The first page of a request that does not answer ok, with what it meets. -/
def firstMeet (s : State) (f right : Nat) : List Nat → Option (Nat × PageMeet)
  | [] => none
  | p :: ps => match meetPage s f right p with
    | .ok => firstMeet s f right ps
    | m => some (p, m)

/-- Backing bytes leave page by page (R183, R292): `k` goes on once every page has let them. A page that is not present parks the job, or
abandons it, and one whose entry forbids the write freezes its function; the slice is run again whole (DEDUCED, log 80). -/
def writeBacking (j : Nat) (x : Job) (addr : Nat) (bs : List Byte) (k : State → State) (s : State) : State :=
  match firstMeet s x.fn 2 (pagesOf addr bs.length) with
  | some (page, .fault) =>
    let s := writeHost addr (bs.take (page * 4096 - addr)) s
    if x.desc.cls = 0 ∨ x.plane = 1 then abandonJob j page s else parkJob j page 2 0 s
  | some (page, .violation cause) =>
    freezeMaster 0 x.fn cause (max addr (page * 4096)) x.desc.tag (some j) (writeHost addr (bs.take (page * 4096 - addr)) s)
  | _ => k (writeHost addr bs s)

/-- One DMA request of a running job (R183, R184, R194, R198). A job whose routine has ended, or that is not running, issues none. -/
def dmaRequest (r : DmaReq) (s : State) : State :=
  match s.jobOf r.job with
  | none => s
  | some x =>
    if x.finished ∨ x.st = .parked ∨ x.result.isSome ∨ isFrozen s 0 x.fn then s
    else if !insideRanges x r.addr r.len then
      match x.tile with
      | some t => freezeMaster 1 t 0x03 r.addr x.desc.tag (some r.job) s
      | none => s
    else
      match firstMeet s x.fn (if r.write then 2 else 1) (pagesOf r.addr r.len) with
      | none => s
      | some (page, .fault) =>
        if x.desc.cls = 0 ∨ x.plane = 1 then abandonJob r.job page s else parkJob r.job page (if r.write then 2 else 1) r.ran s
      | some (_, .violation cause) => freezeMaster 0 x.fn cause r.addr x.desc.tag (some r.job) s
      | some (_, .ok) => s

/-! ### Slot books (R179, R180) -/

/-- The jobs in a slot state. -/
def countState (s : State) (st : SlotState) : Nat := (s.job.jobs.filter (fun e => e.2.st == st)).length

/-- The six counts: free, queued, admitted, running, parked, saved. -/
def slotBooks (s : State) : List Nat :=
  [32768 - s.job.jobs.length, countState s .queued, countState s .admitted, countState s .running, countState s .parked,
   countState s .saved]

/-- At a boundary: the charges of finished jobs are refunded, their drawers and slots released (R69, R72, R179). -/
def releaseFinished (s : State) : State :=
  let done := s.job.jobs.filter (fun e => e.2.finished && e.2.credited)
  let s := forEach done (fun e s =>
    let s := match e.2.account with
      | some a => setCharge a (e.2.desc.cls == 2) (chargeOf s a (e.2.desc.cls == 2) - e.2.cost) s
      | none => s
    { s with orr := { s.orr with drawerFree := min 65536 (s.orr.drawerFree + e.2.granules) } }) s
  let s := { s with job := { s.job with jobs := s.job.jobs.filter (fun e => !(e.2.finished && e.2.credited)) } }
  settleAll s

/-! ### Bookings -/

/-- Every booking of a live job with its job number. -/
def bookings (s : State) : List (Nat × Job × Booking) :=
  (liveJobs s).flatMap (fun e => e.2.plan.map (fun b => (e.1, e.2, b)))

/-- Bookings on a tile in a transit. -/
def booked (s : State) (t tau : Nat) : List (Nat × Job × Booking) :=
  (bookings s).filter (fun e => e.2.2.tile == t && e.2.2.transit == tau)

/-- The place of a piece of work in the order of a tile (R57): PROMPT jobs, the slice of the bank A job, the other single-slice
jobs. -/
def turnRank (x : Job) (b : Booking) : Nat := if b.lots ≠ 0 then 0 else if b.cycles ≠ x.cost then 1 else 2

/-- Has every routine that a tile runs before a job's own in this transit ended (R57)? -/
def hisTurn (s : State) (j : Nat) (x : Job) : Bool :=
  (x.plan.filter (fun b => b.transit == s.time.L && b.tile < 128)).all (fun b =>
    (booked s b.tile s.time.L).all (fun e =>
      e.1 == j || !e.2.2.last || e.2.1.result.isSome || decide (turnRank x b ≤ turnRank e.2.1 e.2.2)))

/-! ### Running a routine -/

/-- The job an opcode command runs: it holds a slot, names the opcode, has no result yet, its operands are staged, and it is
in its last slice (R75) and its tile's turn has come to it (R57) or, for a management job, admitted. -/
def runnable (s : State) (j op : Nat) : Option Job :=
  match s.jobOf j with
  | none => none
  | some x =>
    if x.finished = false ∧ x.desc.opcode = op ∧ x.result = none ∧ x.staged = true ∧ x.park = none ∧ hisTurn s j x = true ∧
        ((x.st = .running ∧ (x.remaining = 0 ∨ x.plan.any (fun b => b.transit == s.time.L && b.last)))
          ∨ (x.desc.cls = 3 ∧ x.st = .admitted ∧ !keeperAbsent s))
    then some x else none

/-- Record the pending result of a job. -/
def setResult (j : Nat) (r : Result) (s : State) : State := modJob j (fun x => { x with result := some r }) s

/-- A job ends in a status that is not OK, with detail words (R172). -/
def failJob (j status w0 w1 w2 : Nat) (s : State) : State := endJob j status w0 w1 w2 s

/-! ### Page commands (R185 to R188) -/

/-- The frame list or first frame of a PAGE_MAP, as one frame per page. -/
def mapFrames (x : Job) : List Nat :=
  let d := x.desc
  let n := d.par 44 4
  if bit (d.par 59 1) 0 then (List.range n).map (fun i => leAt x.aux (8 * i) 8)
  else (List.range n).map (fun i => d.par 48 8 + i)

/-- The FUNCTION an entry stores: 0xFFFF is stored as 0x7F (R186). -/
def entryFn (v : Nat) : Nat := if v = 0xFFFF then 0x7F else v % 128

/-- Does an entry back a ring or a status block that is not OFF (R139)? (DEDUCED, log 31). -/
def pagePinned (s : State) (page : Nat) : Bool :=
  s.hlk.fns.any (fun e =>
    e.2.sqs.any (fun q => q.2.st != .off && (sqPages q.2).contains page)
      || e.2.cqs.any (fun q => q.2.st != .off && (cqPages q.2).contains page)
      || (e.2.sbEnabled && e.2.sbPage == page))

/-- The pages of a page command. -/
def cmdPages (x : Job) : List Nat := (List.range (x.desc.par 44 4)).map (· + x.desc.par 40 4)

/-- Change the page owner table and count the entries whose value changes. -/
def potChange (page : Nat) (e : Option PageEntry) (s : State) : State :=
  { s with job := { s.job with pot := match e with
    | some v => Tab.put s.job.pot page v
    | none => Tab.del s.job.pot page } }

/-- May an entry be present under a structure: its page lies in a window of its cabinet that allows its rights and function (R104)? -/
def entryStays (c : Carcass) (page : Nat) (e : PageEntry) : Bool :=
  c.windows.any (fun w => decide (w.first ≤ page ∧ page < w.first + w.count) && w.cab == e.cab && (e.rights &&& w.rights) == e.rights
    && (w.fn == 0xFFFF || w.fn == e.fn))

/-- An entry as a page command leaves it: the value asked for where a window allows it (R104), else the one it has. A commit may have
changed the windows since the command was checked (DESIGN CHOICE, log 79). -/
def allowedEntry (s : State) (page : Nat) (e : PageEntry) : Option PageEntry :=
  if entryStays s.car.active page e then some e else Tab.get? s.job.pot page

/-- The new value of an entry under a page command; none keeps it not present (R186). -/
def newEntry (s : State) (x : Job) (page frame : Nat) : Option PageEntry :=
  let d := x.desc
  let fnOf := entryFn (d.par 56 2)
  match d.opcode with
  | 0xE001 => allowedEntry s page { rights := d.par 58 1 % 4, cab := cabOfFn s x.fn, fn := fnOf, frame := frame }
  | 0xE003 => (Tab.get? s.job.pot page).bind (fun e => allowedEntry s page { e with rights := d.par 58 1 % 4 })
  | _ => none

/-- PAGE_MAP, PAGE_UNMAP and PAGE_PROTECT: all entry changes together at the boundary that begins the transit in which the
command runs, or none (R185, R186); W0 entries changed, W1 jobs released (R188). -/
def pageCommand (j op : Nat) (s : State) : State :=
  match runnable s j op with
  | none => s
  | some x =>
    let pages := cmdPages x
    let frames := mapFrames x
    match (if op = 0xE001 ∧ bit (x.desc.par 59 1) 0 then frames.findIdx? (fun f => decide (2 ^ 48 ≤ f)) else none) with
    | some i => failJob j 0x2001 32 (8 * i) 0 s
    | none =>
      match pages.find? (pagePinned s) with
      | some p => failJob j 0x3010 p 0 0 s
      | none =>
        let news := (pages.zip (frames ++ pages.map (fun _ => 0))).map (fun pf => (pf.1, newEntry s x pf.1 pf.2))
        let changed := (news.filter (fun e => decide (Tab.get? s.job.pot e.1 ≠ e.2))).length
        let r := releaseCounted pages (forEach news (fun e => potChange e.1 e.2) s)
        setResult j { status := 0, w0 := changed, w1 := r.2 } (pruneWanted r.1)

/-- NOP (R176): it completes OK with nothing read or written. -/
def nopJob (j : Nat) (s : State) : State :=
  match runnable s j 0x0001 with
  | none => s
  | some _ => setResult j { status := 0 } s

/-- The entry of a page as the 64 bits of R181. -/
def entryBits (e : PageEntry) : Nat := 1 + e.rights * 2 + e.cab * 8 + e.fn * 512 + e.frame * 65536

/-- PAGE_QUERY (R188). -/
def pageQuery (j : Nat) (s : State) : State :=
  match runnable s j 0xE004 with
  | none => s
  | some x =>
    let page := x.desc.par 40 4
    let v := ((Tab.get? s.job.pot page).map entryBits).getD 0
    let parked := ((liveJobs s).filter (fun e => e.2.park.any (fun p => p.1 == page))).length
    setResult j { status := 0, w0 := lo32 v, w1 := hi32 v,
                  w2 := flag (pagePinned s page) + 2 * flag (s.job.wanted.any (fun w => w.page == page)) + saturate 16 parked * 65536 } s

/-- PAGE_WANTED_REPEAT (R195): every 1,024 transits while jobs of the function stay parked on a page not present. -/
def pageWantedRepeat (f page : Nat) (s : State) : State :=
  match s.job.wanted.find? (fun w => w.fn == f && w.page == page) with
  | none => s
  | some w =>
    if w.lastL + 1024 ≤ s.time.L ∧ Tab.get? s.job.pot page = none ∧ !(parkedOn s f page).isEmpty then
      let s := { s with job := { s.job with wanted := s.job.wanted.map (fun v =>
        if v.fn = f ∧ v.page = page then { v with lastL := s.time.L } else v) } }
      pageWanted f page w.tag s
    else s

/-- PAGE_ABANDON_TIMEOUT (R197): a BULK job parked for an orbit, a MANAGEMENT job at the earlier of that and the end of its
four orbits. -/
def pageAbandonTimeout (j : Nat) (s : State) : State :=
  match s.jobOf j with
  | none => s
  | some x =>
    match x.park with
    | none => s
    | some (page, _, since) =>
      if x.finished = false ∧ ((x.desc.cls = 2 ∧ since + orbitL ≤ s.time.L)
          ∨ (x.desc.cls = 3 ∧ (since + orbitL ≤ s.time.L ∨ x.bellD / transitCycles + 4 * orbitL ≤ s.time.L + 1))) then
        abandonJob j page s
      else s

end Sys2Proof.Machine
end

