-- ==== Sys2Proof/Machine/Orrery.lean ====
section
/-! DEFINITION. The Orrery (spec/03_orrery.md R55 to R80, R541): capacity, lots and shares, admission, planning, operating
points. Tiles are named by FROZEN_MASTER number. -/

namespace Sys2Proof.Machine

/-! ### Capacity (R56, R67, R78, R80) -/

/-- Engine cycles of the slice window at a point (R56). -/
def windowCycles (point : Nat) : Nat :=
  if point = 0 then 21504 else if point = 1 then 17203 else if point = 2 then 10752 else 5376
/-- PROMPT lots per tile at a point (R56). -/
def lotsAt (point : Nat) : Nat := if point = 0 then 4 else if point = 1 then 3 else if point = 2 then 2 else 1
/-- Engine cycles of a PROMPT lot. -/
def lotCycles : Nat := 3072
/-- The management hold of a tile in capacity (R68, R80). -/
def holdCycles : Nat := 1024

/-- Does nothing take the tile out of capacity now: no freeze, no parity error, no second internal check failure, no BIST (R65)? -/
def tileFit (s : State) (t : Nat) : Bool :=
  let x := s.tile t
  !isFrozen s 1 t && !x.parityOut && !x.verifyOut && !x.bistOut && x.bistRun.isNone

/-- Is a tile in capacity? What takes it out, or brings it back, takes effect at the next boundary (R541). -/
def inCapacity (s : State) (t : Nat) : Bool := (s.tile t).inCap

/-- The boundary at which tiles leave and rejoin capacity (R198, R250, R541). -/
def latchCapacity (s : State) : State :=
  forEach (allTiles.filter (fun t => inCapacity s t != tileFit s t)) (fun t => modTile t (fun x => { x with inCap := !x.inCap })) s

/-- The owner of an owned cipher lane (R106). -/
def laneOwner (s : State) (t : Nat) : Option Nat := (s.car.active.owned.find? (fun o => o.1 == t)).map (·.2)

/-- The pooled tiles of a class. -/
def pooledTiles (s : State) (cls : Nat) : List Nat := (tilesOfClass cls).filter (fun t => (laneOwner s t).isNone)

/-- The ceiling of a class: the lower of the two (R503). -/
def ceilingOf (s : State) (cls : Nat) : Nat :=
  max (bits s.orr.ceilPolicy (2 * cls + 1) (2 * cls)) (bits s.orr.ceilI2c (2 * cls + 1) (2 * cls))

/-- Effective ceilings, in the encoding of POWER_POLICY (R503). -/
def ceilings (s : State) : Nat := (List.range 4).foldl (fun a c => a + ceilingOf s c * 4 ^ c) 0

/-- A tile's target point: the lower of the ceiling and H (R503). -/
def targetPoint (s : State) (t : Nat) : Nat := max (ceilingOf s (tileClass t)) (s.tile t).limit

/-- May new work be booked on a tile: it stays in capacity, and no change of its point is pending (R78)? -/
def bookable (s : State) (t : Nat) : Bool := inCapacity s t && tileFit s t && targetPoint s t == (s.tile t).point

/-- The highest point a tile of the class in capacity holds; none where no tile is in capacity (R65). -/
def bestPoint (s : State) (cls : Nat) : Option Nat :=
  ((tilesOfClass cls).filter (inCapacity s)).foldl (fun a t =>
    match a with
    | none => some (s.tile t).point
    | some p => some (min p (s.tile t).point)) none

/-- PROMPT lots a tile has at its current point. -/
def tileLots (s : State) (t : Nat) : Nat := if inCapacity s t then lotsAt (s.tile t).point else 0

/-- Lots bound on a tile: (cabinet, lots) in ascending cabinet number, from the carcass. -/
def boundLots (s : State) (t : Nat) : List (Nat × Nat) :=
  (s.car.active.lots.filter (fun l => l.cls * 32 + l.tile == t)).map (fun l => (l.cab, l.lots))

/-- Keep the lots that fit, the lowest cabinet first (R80). -/
def keepLots : Nat → List (Nat × Nat) → List (Nat × Nat)
  | _, [] => []
  | room, (c, n) :: t => (c, min n room) :: keepLots (room - min n room) t

/-- Lots held now, before rebinding: (tile, cabinet, lots). -/
def keptLots (s : State) (cls : Nat) : List (Nat × Nat × Nat) :=
  (pooledTiles s cls).flatMap (fun t => (keepLots (tileLots s t) (boundLots s t)).map (fun e => (t, e.1, e.2)))

/-- Sum of the lots of a list on a tile. -/
def lotsOn (l : List (Nat × Nat × Nat)) (t : Nat) : Nat := ((l.filter (fun e => e.1 == t)).map (·.2.2)).sum

/-- Lots lost: (tile, cabinet, lots), by ascending cabinet (R80). -/
def lostLots (s : State) (cls : Nat) : List (Nat × Nat × Nat) :=
  let lost := (pooledTiles s cls).flatMap (fun t =>
    ((boundLots s t).zip (keepLots (tileLots s t) (boundLots s t))).map (fun e => (t, e.1.1, e.1.2 - e.2.2)))
  (List.range 64).flatMap (fun c => lost.filter (fun e => e.2.1 == c && e.2.2 != 0))

/-- Rebind one cabinet's lost lots of one tile: together to the lowest tile with that many free, else one by one. -/
def rebind (s : State) (cls : Nat) (held : List (Nat × Nat × Nat)) (e : Nat × Nat × Nat) : List (Nat × Nat × Nat) :=
  let free := fun t => tileLots s t - lotsOn held t
  match (pooledTiles s cls).find? (fun t => decide (e.2.2 ≤ free t)) with
  | some t => held ++ [(t, e.2.1, e.2.2)]
  | none => ((pooledTiles s cls).foldl (fun (a : List (Nat × Nat × Nat) × Nat) t =>
      let k := min a.2 (free t)
      if k = 0 then a else (a.1 ++ [(t, e.2.1, k)], a.2 - k)) (held, e.2.2)).1

/-- Lots held now, with rebinding (R80). -/
def heldLots (s : State) (cls : Nat) : List (Nat × Nat × Nat) :=
  (lostLots s cls).foldl (rebind s cls) (keptLots s cls)

/-- Lots a cabinet holds now on a tile; on its owned lane all of the lane's lots (R249). -/
def ownLots (s : State) (t cab : Nat) : Nat :=
  match laneOwner s t with
  | some o => if o = cab then tileLots s t else 0
  | none => (((heldLots s (tileClass t)).filter (fun e => e.1 == t && e.2.1 == cab)).map (·.2.2)).sum

/-- Capacity of a class: slice-window cycles of its pooled tiles in capacity at their points. -/
def classCapacity (s : State) (cls : Nat) : Nat :=
  (((pooledTiles s cls).filter (inCapacity s)).map (fun t => windowCycles (s.tile t).point)).sum

/-- Holds of the pooled tiles in capacity. -/
def classHolds (s : State) (cls : Nat) : Nat := ((pooledTiles s cls).filter (inCapacity s)).length * holdCycles

/-- Shares of a cabinet in a class (R107): TIMELY and BULK. -/
def nominalShares (s : State) (cls cab : Nat) : Nat × Nat :=
  ((s.car.active.shares.find? (fun r => r.cls == cls && r.cab == cab)).map (fun r => (r.timely, r.bulk))).getD (0, 0)

/-- Lot cycles, TIMELY and BULK shares reserved in a class. -/
def reservedParts (s : State) (cls : Nat) : Nat × Nat × Nat :=
  ((((s.car.active.lots.filter (fun l => l.cls == cls)).map (·.lots)).sum) * lotCycles,
   ((s.car.active.shares.filter (fun r => r.cls == cls)).map (·.timely)).sum,
   ((s.car.active.shares.filter (fun r => r.cls == cls)).map (·.bulk)).sum)

/-- ORR_RESERVED: lots × 3,072 + shares + holds of the pooled tiles. -/
def reservedTotal (s : State) (cls : Nat) : Nat :=
  let r := reservedParts s cls
  r.1 + r.2.1 + r.2.2 + (pooledTiles s cls).length * holdCycles

/-- Is the capacity of a class's pooled tiles, less the holds, below its reservations (R80)? -/
def cycleShort (s : State) (cls : Nat) : Bool :=
  let r := reservedParts s cls
  decide (classCapacity s cls - classHolds s cls < r.1 + r.2.1 + r.2.2)

/-- Bound lots of a class that no tile holds now (R80). -/
def lotsMissing (s : State) (cls : Nat) : Nat :=
  ((s.car.active.lots.filter (fun l => l.cls == cls)).map (·.lots)).sum - ((heldLots s cls).map (·.2.2)).sum

/-- Engine cycles an owned lane delivers now. -/
def laneCycles (s : State) (t : Nat) : Nat := if inCapacity s t then windowCycles (s.tile t).point else 0

/-- The owned lanes whose capacity has fallen below what their owner has reserved, all of it (R67). -/
def lanesShort (s : State) (cls : Nat) : List (Nat × Nat) :=
  if cls = 0 then s.car.active.owned.filter (fun o => laneCycles s o.1 != windowCycles 0) else []

/-- Does R80 apply to a class: has its capacity fallen below the reservations of R67, in cycles, in lots or on an owned lane? -/
def shortfall (s : State) (cls : Nat) : Bool :=
  cycleShort s cls || decide (0 < lotsMissing s cls) || !(lanesShort s cls).isEmpty

/-- A share cut in proportion, rounded down: R80 gives no rounding (DESIGN CHOICE, log 73). -/
def cut (share total room : Nat) : Nat := if total ≤ room then share else share * room / total

/-- Shares of a cabinet as R80 leaves them: lots first, then TIMELY, then BULK in proportion. -/
def effShares (s : State) (cls cab : Nat) : Nat × Nat :=
  let r := reservedParts s cls
  let n := nominalShares s cls cab
  let room := classCapacity s cls - classHolds s cls
  let lotsHeld := ((heldLots s cls).map (·.2.2)).sum * lotCycles
  let roomT := room - lotsHeld
  (cut n.1 r.2.1 roomT, cut n.2 r.2.2 (roomT - min roomT r.2.1))

/-- Unreserved capacity of a class (R69): what no reservation covers. -/
def unreservedCycles (s : State) (cls : Nat) : Nat :=
  let r := reservedParts s cls
  classCapacity s cls - classHolds s cls - (r.1 + r.2.1 + r.2.2)

/-- Unreserved lots of a pooled tile; they are the first to go while the cycles of the class fall short (R80). -/
def unreservedLots (s : State) (t : Nat) : Nat :=
  if cycleShort s (tileClass t) || (laneOwner s t).isSome then 0 else tileLots s t - lotsOn (heldLots s (tileClass t)) t

/-- B_link: bytes per transit for the negotiated link (R59). -/
def bLink (s : State) : Nat :=
  if s.hlk.up then
    98304 * s.hlk.lanes / 8 / (if s.hlk.gts = 16 then 1 else if s.hlk.gts = 8 then 2 else if s.hlk.gts = 5 then 4 else 8)
  else 0

/-- The largest direct output of one job (R60). -/
def maxOutput (s : State) : Nat := bLink s * 11 / 12

/-- The PROMPT cost limit of a class now (R65). -/
def promptLimit (s : State) (cls : Nat) : Nat :=
  match bestPoint s cls with
  | none => 0
  | some p => lotCycles * lotsAt p

/-! ### Bookings -/

/-- Cycles booked on a tile in a transit by all but one job. -/
def bookedCycles (s : State) (t tau : Nat) (j : Nat) : Nat :=
  (((booked s t tau).filter (fun e => e.1 != j)).map (·.2.2.cycles)).sum

/-- Cycles booked outside the bound lots. -/
def bookedFree (s : State) (t tau : Nat) (j : Nat) : Nat :=
  (((booked s t tau).filter (fun e => e.1 != j && !e.2.2.own)).map (·.2.2.cycles)).sum

/-- Is bank A of a tile taken in a transit by another job's multi-slice work (R57)? -/
def bankATaken (s : State) (t tau j : Nat) : Bool :=
  (booked s t tau).any (fun e => e.1 != j && e.2.2.cycles != 0 && e.2.2.cycles != e.2.1.cost)

/-- The last slices booked in a transit, of all but one job. -/
def lastsIn (s : State) (tau j : Nat) : List Job :=
  ((bookings s).filter (fun e => e.1 != j && e.2.2.transit == tau && e.2.2.last)).map (·.2.1)

/-- The refusals and DEFERRED answers of all but one job that leave in the next transit's answer window (R59, R62). -/
def answersDue (s : State) (j : Nat) : Nat :=
  ((liveJobs s).filter (fun e => e.1 != j && (e.2.answer.isSome || e.2.deferDue))).length

/-- The part of a need a slice takes, in proportion to its cycles (R247, R303, R324). -/
def needShare (x : Job) (k cycles : Nat) : Nat := if x.cost = 0 then x.needs.getD k 0 else ceilDiv (x.needs.getD k 0 * cycles) x.cost

/-- What other jobs planned of need `k` in a transit. -/
def needPlanned (s : State) (k tau j : Nat) : Nat :=
  (((bookings s).filter (fun e => e.1 != j && e.2.2.transit == tau)).map (fun e => needShare e.2.1 k e.2.2.cycles)).sum

/-- Link bytes that are no burst of direct output outside the answer window: PROMPT outputs, and 32 bytes for each completion
entry (R59). -/
def answerBytes (s : State) (tau j : Nat) : Nat :=
  ((lastsIn s tau j).map (fun x => 32 + (if x.desc.cls = 0 then x.outLen else 0))).sum
    + (if tau = s.time.L + 1 then 32 * answersDue s j else 0)


/-- The other bursts of a transit: direct output, and the backing bytes planned for it (R59, R303). -/
def burstBytes (s : State) (tau j : Nat) : Nat :=
  ((lastsIn s tau j).map (fun x => if x.desc.cls = 0 then 0 else x.outLen)).sum + needPlanned s 3 tau j

/-- Does the link commit budget of a transit hold a job's output and completion (R76)? Bursts outside the answer window leave it
its share, B_link / 12 (R59). -/
def linkFits (s : State) (x : Job) (j tau : Nat) : Bool :=
  decide (answerBytes s tau j + burstBytes s tau j + x.outLen + 32 ≤ bLink s)
    && (x.desc.cls == 0 || decide (burstBytes s tau j + x.outLen ≤ maxOutput s))

/-- The nominal masking allowance of the cipher lanes, bits per transit (R326). -/
def maskNominal : Nat := 1001472

/-- Does the DRBG serve its consumers (R319, R320)? (DEDUCED, log 38). -/
def drbgServes (s : State) : Bool := s.rng.ready && !s.rng.blocked

/-- The allowance of a transit: masking bits, backing bytes read, key-generation bits, backing bytes written, IV-helper
bits (R303, R323, R326). -/
def allowOf (s : State) (k : Nat) : Nat :=
  if k = 1 then bLink s / 2
  else if k = 3 then maxOutput s
  else if !drbgServes s then 0
  else if k = 0 then maskNominal else if k = 2 then 32768 else 4096

/-- Does the job draw on the DRBG: a need of its own, or the masked kernels of a polynomial tile (R282)? -/
def drawsRandom (x : Job) : Bool := x.engine == 3 || x.needs.getD 0 0 != 0 || x.needs.getD 2 0 != 0 || x.needs.getD 4 0 != 0

/-- The most cycles of a job a transit's allowances leave room for. Backing bytes come in whole bytes, so their last cycle
may be a part of one (R303). -/
def needCap (s : State) (x : Job) (j tau cycles : Nat) : Nat :=
  if drawsRandom x && !drbgServes s then 0
  else (List.range 5).foldl (fun c k =>
    if x.needs.getD k 0 = 0 then c
    else
      let left := if k = 3 then min (allowOf s 3 - burstBytes s tau j) (bLink s - answerBytes s tau j - burstBytes s tau j)
        else allowOf s k - needPlanned s k tau j
      min c (if k = 1 ∨ k = 3 then ceilDiv (left * x.cost) (x.needs.getD k 0) else left * x.cost / x.needs.getD k 0)) cycles

/-- Does a slice fit the allowances of a transit? -/
def needsFit (s : State) (x : Job) (j tau cycles : Nat) : Bool :=
  !(drawsRandom x && !drbgServes s) && needCap s x j tau cycles == cycles

/-- Does the last 2 transits' rule of a pending commit forbid a last slice in this transit (R131)? (DEDUCED, log 63). -/
def commitBars (s : State) (tau : Nat) : Bool :=
  match s.car.intent with
  | some i => i.written && decide ((tau + 2) % orbitL < 2 ∧ 0 < tau)
  | none => false

/-! ### Placing jobs (R70) -/

/-- Lots a PROMPT job needs. -/
def lotsNeeded (c : Nat) : Nat := ceilDiv c lotCycles

/-- Own lots of a cabinet in use on a tile in a transit. -/
def ownUsed (s : State) (t tau cab : Nat) : Nat :=
  (((booked s t tau).filter (fun e => e.2.2.own && cabOfFn s e.2.1.fn == cab)).map (·.2.2.lots)).sum

/-- Unreserved lots in use on a tile in a transit. -/
def unreservedUsed (s : State) (t tau : Nat) : Nat :=
  (((booked s t tau).filter (fun e => !e.2.2.own)).map (·.2.2.lots)).sum

/-- Unreserved lots free on a tile: those whose cycles no admitted plan uses (R70). -/
def unreservedFree (s : State) (t tau : Nat) : Nat :=
  let timely := (((booked s t tau).filter (fun e => !e.2.2.own && e.2.2.lots == 0)).map (·.2.2.cycles)).sum
  let spare := windowCycles (s.tile t).point - lotsOn (heldLots s (tileClass t)) t * lotCycles - timely
  min (unreservedLots s t) (spare / lotCycles) - unreservedUsed s t tau

/-- Lots of a cabinet free on a tile in a transit: its bound lots not in use; on its owned lane the lots whose cycles no plan of
its TIMELY and BULK work takes (R249). -/
def ownFree (s : State) (t tau cab : Nat) : Nat :=
  let sliced := (((booked s t tau).filter (fun e => e.2.2.lots == 0)).map (·.2.2.cycles)).sum
  let lots := match laneOwner s t with
    | some _ => min (ownLots s t cab) ((windowCycles (s.tile t).point - sliced) / lotCycles)
    | none => ownLots s t cab
  lots - ownUsed s t tau cab

/-- The tile, of those a job may use, and the kind of lots a PROMPT job takes in a transit: first the lanes its cabinet owns
(R249), then the tiles of the class in ascending number (R70). -/
def promptTile (s : State) (x : Job) (tau : Nat) (may : Nat → Bool) : Option (Nat × Bool) :=
  let cab := cabOfFn s x.fn
  let k := lotsNeeded x.cost
  let ts := (tilesOfClass x.engine).filter may
  match (ts.filter (fun t => laneOwner s t == some cab) ++ ts.filter (fun t => laneOwner s t != some cab)).find? (fun t => decide (k ≤ ownFree s t tau cab)) with
  | some t => some (t, true)
  | none => (ts.find? (fun t => decide (k ≤ unreservedFree s t tau))).map (fun t => (t, false))

/-- Engine cycles of a tile free for a sliced plan in a transit: on a pooled tile what the bound lots and the plans leave, on an
owned lane what its owner's plans leave (R70, R249). -/
def timelyRoom (s : State) (t tau j : Nat) : Nat :=
  match laneOwner s t with
  | some _ => windowCycles (s.tile t).point - bookedCycles s t tau j
  | none => windowCycles (s.tile t).point - lotsOn (heldLots s (tileClass t)) t * lotCycles - bookedFree s t tau j

/-- Lay a job's remaining cycles from a transit on, at most `fuel` transits; none where they do not fit. While a change of the
tile's point is planned it takes single-slice work alone (R78). -/
def layOut (s : State) (x : Job) (j t : Nat) : Nat → Nat → Nat → Option (List Booking)
  | 0, _, _ => none
  | fuel + 1, tau, left =>
    let room := timelyRoom s t tau j
    if left ≤ room ∧ linkFits s x j tau ∧ needsFit s x j tau left ∧ !commitBars s tau
        ∧ (left = x.cost ∨ left = 0 ∨ (!bankATaken s t tau j && (s.tile t).planned.isNone)) then
      some [{ transit := tau, tile := t, cycles := left, lots := 0, own := false, last := true }]
    else
      let give := if bankATaken s t tau j || (s.tile t).planned.isSome then 0 else needCap s x j tau (min (left - 1) room)
      (layOut s x j t fuel (tau + 1) (left - give)).map (fun l =>
        if give = 0 then l else { transit := tau, tile := t, cycles := give, lots := 0, own := false, last := false } :: l)

/-- Tiles an account covers (R69, R249). -/
def accountTiles (s : State) : Account → List Nat
  | .lane t => [t]
  | .own _ cls => pooledTiles s cls
  | .free cls => pooledTiles s cls

/-- The share of an account for a class of work: TIMELY 16 and BULK 256 times it is the horizon (R69). -/
def accountLimit (s : State) (a : Account) (bulk : Bool) : Nat :=
  let per := match a with
    | .lane t => laneCycles s t
    | .own cab cls => if bulk then (effShares s cls cab).2 else (effShares s cls cab).1
    | .free cls => unreservedCycles s cls
  (if bulk then 256 else 16) * per

/-- Has an account room for a cost? -/
def hasRoom (s : State) (a : Account) (bulk : Bool) (c : Nat) : Bool :=
  decide (chargeOf s a bulk + c ≤ accountLimit s a bulk)

/-- The accounts of a job in their fixed order (R69). -/
def accountsOf (s : State) (x : Job) : List Account :=
  let cab := cabOfFn s x.fn
  (if x.engine = 0 then (s.car.active.owned.filter (fun o => o.2 == cab)).map (fun o => .lane o.1) else [])
    ++ [.own cab x.engine, .free x.engine]

/-- May a tile take the job: one that has been costed runs only at the point it was costed at (R78). -/
def atPoint (s : State) (x : Job) (t : Nat) : Bool := bookable s t && (x.account.isNone || (s.tile t).point == x.point)

/-- A TIMELY plan from a transit on, on the tiles of an account, that meets a last transit. The section does not say which tile
takes it, nor that a plan stays on one: the model lays it whole on the lowest tile that takes it (DESIGN CHOICE, log 71). -/
def planBy (s : State) (x : Job) (j : Nat) (a : Account) (from_ last : Nat) : Option (List Booking) :=
  ((accountTiles s a).filter (atPoint s x)).findSome? (fun t => layOut s x j t (last + 1 - from_) from_ x.remaining)

/-- The last transit in which the final slice of a TIMELY job may run. R65 asks for the result within 16 transits of D, and the
model takes that as a final slice no later than transit L(D) + 15, whose commit is over within the bound (DESIGN CHOICE, log 75). -/
def timelyLast (x : Job) : Nat := x.bellD / transitCycles + 15

/-- The lanes of a class a cabinet owns. -/
def lanesOf (s : State) (cls cab : Nat) : List Nat :=
  if cls = 0 then (s.car.active.owned.filter (fun o => o.2 == cab)).map (·.1) else []

/-- PROMPT lots of a cabinet's reservation in a class (R67): the bound ones, and all of its owned lanes. -/
def lotsReserved (s : State) (cls cab : Nat) : Nat :=
  ((s.car.active.lots.filter (fun l => l.cls == cls && l.cab == cab)).map (·.lots)).sum + lotsAt 0 * (lanesOf s cls cab).length

/-- Lots of its own a cabinet uses in a class in a transit. -/
def lotsInUse (s : State) (cls cab tau : Nat) : Nat :=
  (((bookings s).filter (fun e => e.2.2.transit == tau && e.2.2.own && tileClass e.2.2.tile == cls && cabOfFn s e.2.1.fn == cab)).map
    (·.2.2.lots)).sum

/-- Is a job within its cabinet's reservation (R69, R70): the lots left of it, or the room its accounts would have at full
capacity? -/
def withinReservation (s : State) (x : Job) : Bool :=
  let cab := cabOfFn s x.fn
  if x.desc.cls = 0 then
    decide (lotsNeeded x.cost + lotsInUse s x.engine cab (s.time.L + 1) ≤ lotsReserved s x.engine cab)
  else
    decide (chargeOf s (.own cab x.engine) false + x.cost ≤ 16 * (nominalShares s x.engine cab).1)
      || (lanesOf s x.engine cab).any (fun t => decide (chargeOf s (.lane t) false + x.cost ≤ 16 * windowCycles 0))

/-- The answer of a job that finds no place: POLICY_SHORTFALL within its reservation while capacity has fallen,
BUDGET_EXCEEDED otherwise (R69, R70); BUDGET_EXCEEDED where only masking bits were missing and their allowance is at its nominal
value (R248). -/
def noPlaceStatus (s : State) (x : Job) (maskOnly : Bool) : Nat :=
  if !maskOnly && withinReservation s x && shortfall s x.engine then 0x4008 else 0x4004

/-- The refusal of a job for want of budget: class, cost and point (R172); while the DRBG is blocked a job that draws on it
ends POLICY_SHORTFALL with W0 = 0 (R248, R324). `maskOnly` says that masking bits alone were missing. -/
def refuseBudget (j : Nat) (x : Job) (maskOnly : Bool) (s : State) : State :=
  let pt := (bestPoint s x.engine).getD 3
  let a := if drawsRandom x && !drbgServes s then (0x4008, 0, x.cost, pt) else (noPlaceStatus s x maskOnly, x.engine, x.cost, pt)
  modJob j (fun y => { y with answer := some a, plan := [] }) s

/-- The job without its need of masking bits (R247). -/
def unmasked (x : Job) : Job := { x with needs := x.needs.set 0 0 }

/-! ### Records and slots reserved at admission (R259, R291) -/

/-- Do two byte ranges meet? -/
def bytesMeet (a n b m : Nat) : Bool := decide (0 < n ∧ 0 < m ∧ a < b + m ∧ b < a + n)

/-- The lowest result slot of a cabinet that is neither occupied nor reserved (R259). -/
def freeResult (s : State) (cab : Nat) : Option Nat :=
  (List.range 64).find? (fun i => !Tab.has s.eng.results (64 * cab + i)
    && !((liveJobs s).any (fun e => e.2.gotSlot == some i && cabOfFn s e.2.fn == cab)))

/-- Handle records a cabinet holds, live or pending (R291). -/
def heHeld (s : State) (cab : Nat) : Nat :=
  (s.eng.handles.filter (fun e => e.2.cab == cab)).length + ((liveJobs s).filter (fun e => e.2.gotHe.isSome && cabOfFn s e.2.fn == cab)).length

/-- The lowest handle record that is neither live nor pending. -/
def freeHe (s : State) : Option Nat :=
  (List.range 16384).find? (fun i => !Tab.has s.eng.handles i && !((liveJobs s).any (fun e => e.2.gotHe == some i)))

/-- Does an output range meet the range of a live or pending handle (R292)? -/
def backTaken (s : State) (a n : Nat) : Bool :=
  s.eng.handles.any (fun e => bytesMeet a n e.2.back e.2.backLen)
    || (liveJobs s).any (fun e => e.2.gotHe.isSome && e.2.wantHe.any (fun r => bytesMeet a n r.1 r.2))

/-- What a job reserves at admission, or the answer that refuses it. -/
def claim (s : State) (x : Job) : Except (Nat × Nat × Nat × Nat) (Option Nat × Option Nat) :=
  let cab := cabOfFn s x.fn
  if x.wantSlot then
    match freeResult s cab with
    | some i => .ok (some i, none)
    | none => .error (0x4001, 0, 0, 0)
  else
    match x.wantHe with
    | none => .ok (none, none)
    | some (a, n) =>
      if backTaken s a n then .error (0x2001, 48, 0, 0)
      else if 2048 ≤ heHeld s cab then .error (0x4011, 0, 0, 0)
      else
        match freeHe s with
        | some i => .ok (none, some i)
        | none => .error (0x4011, 0, 0, 0)

/-- Plan a queued job; where the plan admits it, it takes its reservations or is refused from the state before. -/
def claiming (plan : Nat → State → State) (j : Nat) (s : State) : State :=
  match s.jobOf j with
  | none => s
  | some x =>
    let s' := plan j s
    if x.st = .queued ∧ (s'.jobOf j).any (fun y => y.st == .admitted && y.answer.isNone) then
      match claim s x with
      | .ok g => modJob j (fun y => { y with gotSlot := g.1, gotHe := g.2 }) s'
      | .error a => modJob j (fun y => { y with answer := some a }) s
    else s'

/-- May the last slice of a job stand in a transit: its output fits the link (R76), and no commit of an image bars it (R131)? (DEDUCED, log 63). -/
def lastFits (s : State) (x : Job) (j tau : Nat) : Bool := linkFits s x j tau && !commitBars s tau

/-- The first transit from `tau` on, at most `n` of them, that may hold the last slice of a control job (R76, R131) (DEDUCED, log 63). -/
def controlTransit (s : State) (x : Job) (j tau n : Nat) : Option Nat :=
  ((List.range n).map (tau + ·)).find? (lastFits s x j)

/-- Plan one PROMPT job (R64, R69, R70, R76, R131). -/
def planPrompt (j : Nat) (s : State) : State :=
  match s.jobOf j with
  | none => s
  | some x =>
    match x.missing with
    | some page => modJob j (fun y => { y with answer := some (0x7005, page, 0, 0) }) s
    | none =>
      if !x.staged then
        -- the last planning tail is the first that starts at or after D + 7,168 (R64)
        if x.bellD + 7168 ≤ s.time.L * transitCycles + 22528 then modJob j (fun y => { y with answer := some (0x2011, 0, 0, 0) }) s else s
      else if x.plane = 0 ∧ promptLimit s x.engine < x.cost then modJob j (fun y => { y with answer := some (0x2010, 0, 0, 0) }) s
      else if !lastFits s x j (s.time.L + 1) then refuseBudget j x false s
      else if x.plane = 1 then
        modJob j (fun y => { y with
          st := .admitted,
          plan := [{ transit := s.time.L + 1, tile := 1000, cycles := 0, lots := 0, own := false, last := true }] }) s
      else
        match promptTile s x (s.time.L + 1) (bookable s) with
        | some (t, own) =>
          if needsFit s x j (s.time.L + 1) x.cost then
            modJob j (fun y => { y with
              st := .admitted, tile := some t, point := (s.tile t).point,
              plan := [{ transit := s.time.L + 1, tile := t, cycles := x.cost, lots := lotsNeeded x.cost, own := own, last := true }] }) s
          else refuseBudget j x (needsFit s (unmasked x) j (s.time.L + 1) x.cost) s
        | none => refuseBudget j x false s

/-- Reserve the drawer of a multi-slice job (R72). -/
def reserveDrawer (j n : Nat) (s : State) : State :=
  modJob j (fun x => { x with granules := n }) { s with orr := { s.orr with drawerFree := s.orr.drawerFree - n } }

/-- Granules of a drawer of a class (R72). -/
def drawerSize (cls : Nat) : Nat := if cls = 0 then 1 else if cls = 1 then 2 else if cls = 2 then 64 else 16

/-- Is a job multi-slice under a plan (R57): its whole cost does not stand in one transit? A commit-only last slice needs no
drawer of its own. -/
def multiSlice (x : Job) (plan : List Booking) : Bool :=
  !x.commitOnly && (decide (1 < plan.length) || plan.any (fun b => !b.last) || x.remaining != x.cost)

/-- The drawer a job still needs under a plan (R72). -/
def drawerNeed (x : Job) (plan : List Booking) : Nat := if multiSlice x plan && x.granules == 0 then drawerSize x.engine else 0

/-- Admit a job with a plan on an account: charge it, reserve its drawer where it has more than one slice, and defer it
where it does not end in the next transit (R62, R69, R72). -/
def admitWith (j : Nat) (a : Account) (plan : List Booking) (s : State) : State :=
  match s.jobOf j with
  | none => s
  | some x =>
    let g := drawerNeed x plan
    if s.orr.drawerFree < g then modJob j (fun y => { y with answer := some (0x4002, g, 0, 0), plan := [] }) s
    else
      let s := reserveDrawer j g s
      let s := setCharge a (x.desc.cls == 2) (chargeOf s a (x.desc.cls == 2) + x.cost) s
      let lastT := ((plan.getLast?).map (·.transit)).getD (s.time.L + 1)
      let t := ((plan.head?).map (·.tile)).getD 0
      modJob j (fun y => { y with
        st := .admitted, account := some a, plan := plan, tile := some t, point := (s.tile t).point,
        expect := some lastT, deferDue := decide (s.time.L + 1 < lastT) }) s

/-- The first account of a TIMELY job that has room and whose tiles take a plan that meets the deadline (R69). -/
def accountPlan (s : State) (x : Job) (j : Nat) : Option (Account × List Booking) :=
  (accountsOf s x).findSome? (fun a =>
    if hasRoom s a false x.cost then (planBy s x j a (s.time.L + 1) (timelyLast x)).map (fun p => (a, p)) else none)

/-- Plan one TIMELY job: the first account with room and a plan that meets the deadline (R69, R70). -/
def planTimely (j : Nat) (s : State) : State :=
  match s.jobOf j with
  | none => s
  | some x =>
    if maxOutput s < x.outLen then modJob j (fun y => { y with answer := some (0x4010, x.outLen, maxOutput s, 0) }) s
    else if x.plane = 1 then
      match controlTransit s x j (s.time.L + x.transits) (timelyLast x + 1 - (s.time.L + x.transits)) with
      | some tau =>
        modJob j (fun y => { y with
          st := .admitted, expect := some tau, deferDue := decide (s.time.L + 1 < tau),
          plan := [{ transit := tau, tile := 1000, cycles := 0, lots := 0, own := false, last := true }] }) s
      | none => refuseBudget j x false s
    else
      match accountPlan s x j with
      | some (a, p) => admitWith j a p s
      | none => refuseBudget j x (accountPlan s (unmasked x) j).isSome s

/-- Re-plan an admitted TIMELY job whose plan no longer covers its remaining cost, within its expected transit; it never
runs late (R71). -/
def replanTimely (j : Nat) (s : State) : State :=
  match s.jobOf j with
  | none => s
  | some x =>
    match x.account with
    | none => s
    | some a =>
      match planBy s x j a (s.time.L + 1) (x.expect.getD (timelyLast x)) with
      | some p =>
        let g := drawerNeed x p
        if s.orr.drawerFree < g then modJob j (fun y => { y with answer := some (0x4002, g, 0, 0), plan := [] }) s
        else modJob j (fun y => { y with plan := p, tile := (p.head?).map (·.tile) }) (if g = 0 then s else reserveDrawer j g s)
      | none => modJob j (fun y => { y with answer := some (0x7001, 0, 0, 0), plan := [] }) s

/-- Let an admitted plan use the cycles that idle lots leave in the next transit (R70): the slice grows, the later ones
shrink from the end. -/
def shrinkEnd : List Booking → Nat → List Booking
  | l, 0 => l
  | l, n =>
    (l.foldr (fun b (a : List Booking × Nat) =>
      if a.2 = 0 then (b :: a.1, 0)
      else if b.cycles ≤ a.2 then (a.1, a.2 - b.cycles)
      else ({ b with cycles := b.cycles - a.2 } :: a.1, 0)) ([], n)).1

/-- The slice of the next transit takes what the tile has left, but never the last booked slice's own end: the job's last
slice stays in its transit. -/
def useIdle (j : Nat) (s : State) : State :=
  match s.jobOf j with
  | none => s
  | some x =>
    match x.plan with
    | b :: rest =>
      if b.transit = s.time.L + 1 ∧ b.last = false ∧ b.lots = 0 then
        let later := (rest.map (·.cycles)).sum
        let room := windowCycles (s.tile b.tile).point - bookedCycles s b.tile b.transit j
        let extra := needCap s x j b.transit (b.cycles + min (room - b.cycles) (later - 1)) - b.cycles
        modJob j (fun y => { y with plan := { b with cycles := b.cycles + extra } :: shrinkEnd rest extra }) s
      else s
    | [] => s

/-- BULK cycles planned on a cabinet's own accounts of a class in the last 256 transits (R69). -/
def serviceOf (s : State) (cab cls : Nat) : Nat :=
  ((s.orr.service.filter (fun e => e.2.1 == cab && e.2.2.1 == cls)).map (·.2.2.2)).sum

/-- Does the first cabinet's ratio come before the second's: lower service per share, ties to the lower number (R69)? -/
def ratioBefore (s : State) (cls c1 c2 : Nat) : Bool :=
  let a := serviceOf s c1 cls * (nominalShares s cls c2).2
  let b := serviceOf s c2 cls * (nominalShares s cls c1).2
  decide (a < b) || (a == b && decide (c1 < c2))

/-- Own-account BULK work comes before work only the unreserved account can take. -/
def hasOwnAccount (s : State) (x : Job) : Bool :=
  (accountsOf s x).any (fun a => match a with
    | .free _ => false
    | a => hasRoom s a true x.cost)

/-- Is it own-account work: charged to an account of its cabinet, or not yet charged with room on one? -/
def onOwnAccount (s : State) (x : Job) : Bool :=
  match x.account with
  | some (.free _) => false
  | some _ => true
  | none => hasOwnAccount s x

/-- The next BULK job of a list: own-account work by service ratio, then the rest in doorbell order (R69). -/
def bulkBefore (s : State) (e d : Nat × Job) : Bool :=
  let oe := onOwnAccount s e.2
  let od := onOwnAccount s d.2
  let ce := cabOfFn s e.2.fn
  let cd := cabOfFn s d.2.fn
  if oe != od then oe
  else if oe && ce != cd && e.2.engine == d.2.engine then ratioBefore s e.2.engine ce cd
  else decide (e.2.bellD < d.2.bellD) || (e.2.bellD == d.2.bellD && decide (e.1 < d.1))

/-- The first of a list under `bulkBefore`. -/
def pickBulk (s : State) : List (Nat × Job) → Option (Nat × Job)
  | [] => none
  | e :: l => match pickBulk s l with
    | none => some e
    | some d => if bulkBefore s e d then some e else some d

/-- Cycles of a tile no plan uses in a transit (R70). -/
def spareCycles (s : State) (t tau j : Nat) : Nat := windowCycles (s.tile t).point - bookedCycles s t tau j

/-- A BULK slice on a tile for a transit: what is spare, in bank A unless the whole job fits (R57); the whole job or nothing
while a change of the tile's point is planned (R78). -/
def bulkSlice (s : State) (x : Job) (j tau t : Nat) : Option Booking :=
  let spare := spareCycles s t tau j
  let whole := decide (x.remaining ≤ spare) && linkFits s x j tau && !commitBars s tau && needsFit s x j tau x.remaining
  let give := if whole then x.remaining else needCap s x j tau (min spare (x.remaining - 1))
  let single := whole && (x.remaining == x.cost || x.remaining == 0)
  if (give = 0 ∧ !(whole && x.remaining == 0)) ∨ ((bankATaken s t tau j || (s.tile t).planned.isSome) ∧ !single) then none
  else some { transit := tau, tile := t, cycles := give, lots := 0, own := false, last := whole }

/-- Tiles a BULK job may use: of its account, at its costed point. The section does not say which comes first: the model takes
its own tile, then the others in ascending number (DESIGN CHOICE, log 72). -/
def bulkTiles (s : State) (x : Job) (a : Account) : List Nat :=
  let ts := (accountTiles s a).filter (atPoint s x)
  match x.tile with
  | some t => if ts.contains t then t :: ts.filter (· != t) else ts
  | none => ts

/-- The estimated transit of a BULK job: its cost over the cycles free of lots on its tile (R65, R70). -/
def bulkEstimate (s : State) (x : Job) (t j : Nat) : Nat :=
  s.time.L + ceilDiv x.remaining (max 1 (timelyRoom s t (s.time.L + 1) j))

/-- Count planned BULK work toward the service ratio (R69). -/
def countService (cab cls cycles : Nat) (s : State) : State :=
  { s with orr := { s.orr with service := s.orr.service ++ [(s.time.L + 1, cab, cls, cycles)] } }

/-- The tile a BULK job is costed for at admission, and its point from the next boundary on (R78): one that may take it, else the
lowest of its account's tiles in capacity. -/
def bulkHome (s : State) (x : Job) (a : Account) : Nat × Nat :=
  match bulkTiles s x a with
  | t :: _ => (t, (s.tile t).point)
  | [] =>
    match (accountTiles s a).find? (inCapacity s) with
    | some t => (t, targetPoint s t)
    | none => (((accountTiles s a).head?).getD 0, 0)

/-- A BULK slice is booked: it counts toward the service ratio, and a job that now takes several slices reserves its drawer
(R69, R72). -/
def bookBulk (j : Nat) (x : Job) (a : Account) (b : Booking) (s : State) : State :=
  let g := drawerNeed x [b]
  if s.orr.drawerFree < g then modJob j (fun y => { y with answer := some (0x4002, g, 0, 0), plan := [] }) s
  else
    let s := match a with
      | .free _ => s
      | _ => countService (cabOfFn s x.fn) x.engine b.cycles s
    modJob j (fun y => { y with plan := [b], tile := some b.tile }) (if g = 0 then s else reserveDrawer j g s)

/-- A BULK job is admitted on an account, with a slice of the next transit where a tile has one spare, and its estimate (R65, R69,
R72). -/
def admitBulk (j : Nat) (x : Job) (a : Account) (b : Option Booking) (s : State) : State :=
  let plan := b.toList
  let g := if plan.isEmpty then drawerSize x.engine else drawerNeed x plan
  if s.orr.drawerFree < g then modJob j (fun y => { y with answer := some (0x4002, g, 0, 0) }) s
  else
    let home := bulkHome s x a
    let tile := (b.map (·.tile)).getD home.1
    let whole := b.any (·.last)
    let s := match a, b with
      | .free _, _ => s
      | _, some b => countService (cabOfFn s x.fn) x.engine b.cycles s
      | _, none => s
    let s := setCharge a true (chargeOf s a true + x.cost) (reserveDrawer j g s)
    modJob j (fun y => { y with
      st := .admitted, account := some a, plan := plan, tile := some tile, point := if b.isSome then (s.tile tile).point else home.2,
      deferDue := !whole, expect := some (if whole then s.time.L + 1 else bulkEstimate s x tile j) }) s

/-- Give one BULK job its slice of the next transit; a queued one is admitted on the first account with room, whether or not a
tile has cycles to spare then, and stays queued where none has (R69). -/
def planBulkJob (j : Nat) (s : State) : State :=
  match s.jobOf j with
  | none => s
  | some x =>
    if x.st = .queued ∧ maxOutput s < x.outLen then
      modJob j (fun y => { y with answer := some (0x4010, x.outLen, maxOutput s, 0) }) s
    else if x.plane = 1 then
      -- one that fits nowhere near stays queued
      match controlTransit s x j (s.time.L + x.transits) 16 with
      | some tau =>
        modJob j (fun y => { y with
          st := .admitted, expect := some tau, deferDue := decide (s.time.L + 1 < tau),
          plan := [{ transit := tau, tile := 1000, cycles := 0, lots := 0, own := false, last := true }] }) s
      | none => s
    else
      let slice := fun (a : Account) => (bulkTiles s x a).findSome? (bulkSlice s x j (s.time.L + 1))
      match x.account with
      | some a =>
        match slice a with
        | some b => bookBulk j x a b s
        | none => modJob j (fun y => { y with plan := [] }) s
      | none =>
        match (accountsOf s x).find? (fun a => hasRoom s a true x.cost) with
        | some a => admitBulk j x a (slice a) s
        | none => s

/-- Plan the BULK jobs of a list, the best placed first at each choice. -/
def planBulk : Nat → List Nat → State → State
  | 0, _, s => s
  | fuel + 1, todo, s =>
    match pickBulk s ((liveJobs s).filter (fun e => todo.contains e.1)) with
    | none => s
    | some e => planBulk fuel (todo.filter (· != e.1)) (claiming planBulkJob e.1 s)

/-- A MANAGEMENT job is taken by Keeper: DEFERRED with L(D) + 4 orbits (R65). -/
def planManagement (j : Nat) (s : State) : State :=
  modJob j (fun x => { x with st := .admitted, deferDue := true, expect := some (x.bellD / transitCycles + 4 * orbitL) }) s

/-- A MANAGEMENT job, or one of the software port, whose result stands and waits for its commit phase takes the first transit whose
link budget holds its output and completion (R76, R191). -/
def planCommit (j : Nat) (s : State) : State :=
  match s.jobOf j with
  | none => s
  | some x =>
    match controlTransit s x j (s.time.L + 1) 256 with
    | some tau =>
      modJob j (fun y => { y with plan := [{ transit := tau, tile := 1002, cycles := 0, lots := 0, own := false, last := true }] }) s
    | none => s

/-- Insert by a key, keeping equal keys in order. -/
def insertBy {α : Type} (key : α → Nat) (a : α) : List α → List α
  | [] => [a]
  | b :: l => if key a < key b then a :: b :: l else b :: insertBy key a l

/-- Sort by a key, stable. -/
def sortBy {α : Type} (key : α → Nat) (l : List α) : List α := l.foldl (fun acc b => insertBy key b acc) []

/-- Jobs to plan: not finished, not parked, not answered, no burst under way. -/
def plannable (x : Job) : Bool := !x.finished && x.park.isNone && x.answer.isNone && x.burst.isNone
  && (x.result.isNone || (x.commitOnly && x.plane == 0))

/-- Does a booking of a job still stand: its tile in capacity at the costed point, the allowances for its cycles, and the link's
budget for a last slice (R71)? -/
def bookingStands (s : State) (x : Job) (j : Nat) (b : Booking) : Bool :=
  (inCapacity s b.tile && tileFit s b.tile && (s.tile b.tile).point == x.point) && needsFit s x j b.transit b.cycles
    && (!b.last || linkFits s x j b.transit)

/-- Does an admitted job's plan cover its remaining cost from the next transit on? -/
def planCovers (s : State) (x : Job) (j : Nat) : Bool :=
  let ahead := x.plan.filter (fun b => decide (s.time.L < b.transit))
  !(drawsRandom x && !drbgServes s) && ahead.all (bookingStands s x j)
    && decide (x.remaining ≤ (ahead.map (·.cycles)).sum)
    && (!ahead.isEmpty || (x.remaining == 0 && x.st == .running))

/-- Cycles a job will still need after the transit under way. -/
def afterThis (s : State) (x : Job) : Nat :=
  x.remaining - (((x.plan.filter (fun b => b.transit == s.time.L)).map (·.cycles)).sum)

/-! ### The software port (R323, R327) -/

/-- RNG_READ jobs are planned against the software port alone. -/
def isPort (x : Job) : Bool := x.desc.opcode == 0x5001

/-- Blocks of the hardware shares planned in a transit: masking, key generation, IV helper, polynomial slices (R323). -/
def hardBlocks (s : State) (tau : Nat) : Nat :=
  let poly := ((bookings s).filter (fun e => e.2.2.transit == tau && tileClass e.2.2.tile == 3 && e.2.2.tile != 1000 && e.2.2.tile != 1001)).length
  ceilDiv (needPlanned s 0 tau s.job.nextJob) 128 + ceilDiv (needPlanned s 2 tau s.job.nextJob) 128
    + ceilDiv (needPlanned s 4 tau s.job.nextJob) 128 + 2 * poly

/-- Bytes of the software port in a transit: every block the plan leaves, none while the DRBG does not serve. -/
def portBytes (s : State) (tau : Nat) : Nat := if drbgServes s then (8128 - hardBlocks s tau) * 16 else 0

/-- Port bytes already given to RNG_READ jobs in a transit. -/
def portGiven (s : State) (tau : Nat) : Nat :=
  (((bookings s).filter (fun e => e.2.2.tile == 1001 && e.2.2.transit == tau)).map (·.2.2.lots)).sum

/-- Lay the bytes of an RNG_READ over the transits from `tau`, at most `fuel` of them; the last fits the link too. -/
def layPort (s : State) (x : Job) (j : Nat) : Nat → Nat → Nat → Option (List Booking)
  | 0, _, _ => none
  | fuel + 1, tau, left =>
    let give := min left (portBytes s tau - portGiven s tau)
    let done := decide (give = left) && linkFits s x j tau && !commitBars s tau
    let give := if give = left && !done then left - 1 else give
    let b : Booking := { transit := tau, tile := 1001, cycles := 0, lots := give, own := false, last := done }
    if done then some [b] else (layPort s x j fuel (tau + 1) (left - give)).map (fun l => if give = 0 then l else b :: l)

/-- Bits of the pool a draw of the next transit may take, after the reseed its schedule needs (R328). -/
def poolLeft (s : State) (after : Bool) : Nat :=
  s.rng.held - s.rng.takeDue - s.rng.drawDue - (if after && (s.time.L + 1) % 64 == 0 then 384 else 0)

/-- Plan one MODE 3 read: each transit gives it the pool's bits (R328, R329). -/
def planConditioned (j : Nat) (x : Job) (s : State) : State :=
  let left := if x.st = .queued then x.desc.par 44 4 else x.remaining
  let give := min left (poolLeft s true / 8)
  let done := decide (give = left) && linkFits s x j (s.time.L + 1) && !commitBars s (s.time.L + 1)
  let give := if give = left && !done then left - 1 else give
  if give = 0 then s
  else
    let bytes := slice s.rng.pool ((s.rng.takeDue + s.rng.drawDue) / 8) give
    modJob j (fun y => { y with
        st := .admitted, remaining := left - give, input := y.input ++ bytes, deferDue := y.st == .queued && !done,
        expect := some (s.time.L + max 1 (ceilDiv (8 * left) 576)),
        plan := [{ transit := s.time.L + 1, tile := 1001, cycles := 0, lots := 0, own := false, last := done }] })
      { s with rng := { s.rng with drawDue := s.rng.drawDue + 8 * give } }

/-- Plan one MODE 1 or MODE 2 read (R328): its source's samples are copied to it from then on, to one read at a time; once it
has them all, its last slice is planned. The estimate is at 96 samples a transit (R312). -/
def planTap (j : Nat) (x : Job) (s : State) : State :=
  let n := x.desc.par 42 1
  let len := x.desc.par 44 4
  if x.st = .queued then
    if (sourceOf s n).tap.any (fun i => (s.jobOf i).any (fun y => !y.finished)) then s
    else
      modJob j (fun y => { y with st := .admitted, deferDue := true, expect := some (s.time.L + 1 + ceilDiv (8 * len) 96) })
        (modSource n (fun z => { z with tap := some j, copied := [] }) s)
  else if lastFits s x j (s.time.L + 1) then
    modJob j (fun y => { y with
      plan := [{ transit := s.time.L + 1, tile := 1001, cycles := 0, lots := 0, own := false, last := true }] }) s
  else s

/-- Plan one RNG_READ (R327, R328): PROMPT in the next transit, TIMELY by its deadline, BULK when it fits. -/
def planPortJob (j : Nat) (s : State) : State :=
  match s.jobOf j with
  | none => s
  | some x =>
    let mode := x.desc.par 40 1
    let fuel := if x.desc.cls = 0 then 1 else if x.desc.cls = 1 then timelyLast x - s.time.L else 256
    if x.desc.cls ≠ 0 ∧ x.st = .queued ∧ maxOutput s < x.outLen then
      modJob j (fun y => { y with answer := some (0x4010, x.outLen, maxOutput s, 0) }) s
    else if mode = 3 then planConditioned j x s
    else if mode ≠ 0 then planTap j x s
    else
      let plan := if bit (x.desc.par 41 1) 0 && decide (poolLeft s false < 384) then none
        else layPort s x j fuel (s.time.L + 1) (x.desc.par 44 4)
      match plan with
      | some p =>
        let lastT := ((p.getLast?).map (·.transit)).getD (s.time.L + 1)
        modJob j (fun y => { y with st := .admitted, plan := p, expect := some lastT, deferDue := decide (s.time.L + 1 < lastT) }) s
      | none => if x.desc.cls = 2 then s else refuseBudget j x false s

/-- Every RNG_READ in plan order: PROMPT, TIMELY by deadline, BULK in turn. -/
def planPort (s : State) : State :=
  let js := (liveJobs s).filter (fun e => plannable e.2 && isPort e.2
    && (e.2.st == .queued || (e.2.plan.isEmpty && (if e.2.desc.par 40 1 == 3 then e.2.remaining != 0 else e.2.input.length == e.2.desc.par 44 4))))
  let s := forEach ((js.filter (fun e => e.2.desc.cls == 0)) ++ sortBy (fun e => timelyLast e.2) (js.filter (fun e => e.2.desc.cls == 1))
    ++ js.filter (fun e => e.2.desc.cls == 2)) (fun e => planPortJob e.1) s
  { s with rng := { s.rng with portAllow := portBytes s (s.time.L + 1) } }

/-- The tail takes what the slices of its transit have run off the remaining cost (R74). -/
def takeSlice (s : State) (x : Job) : Job :=
  if x.finished then x
  else
    let left := afterThis s x
    { x with remaining := left, slice := x.remaining - left, plan := x.plan.filter (fun b => decide (s.time.L < b.transit)) }

/-- Does a booking hold a pending change of its tile's point back: work costed at another point that stands on the tile in the
next transit, or single-slice work that stands on it later (R78)? -/
def holdsPoint (s : State) (t : Nat) : Bool :=
  (bookings s).any (fun e => e.2.2.tile == t && e.2.1.point != targetPoint s t
    && (e.2.2.transit == s.time.L + 1 || (decide (s.time.L + 1 < e.2.2.transit) && e.2.2.cycles == e.2.1.cost)))

/-- The tiles that change point at the next boundary (R78). -/
def tilesToChange (s : State) : List Nat := allTiles.filter (fun t => (s.tile t).point != targetPoint s t && !holdsPoint s t)

/-- Plan with the tiles of a list at the points they take at the next boundary, where they change (R78). -/
def withNextPoints (ts : List Nat) (f : State → State) (s : State) : State :=
  let s' := f (forEach ts (fun t => modTile t (fun x => { x with point := targetPoint s t, planned := some (targetPoint s t) })) s)
  forEach ts (fun t => modTile t (fun x => { x with point := (s.tile t).point })) s'

/-- Jobs the Orrery plans in a tail: those of the software port and of MANAGEMENT apart. -/
def openJobs (s : State) : List (Nat × Job) := (liveJobs s).filter (fun e => plannable e.2 && !isPort e.2)

/-- An admitted TIMELY job of a tile that the tail looks at again (R71): not one whose last slice has just run. -/
def replannable (s : State) (e : Nat × Job) : Bool :=
  e.2.desc.cls == 1 && e.2.plane == 0 && e.2.st != .queued && e.2.account.isSome && !planCovers s e.2 e.1
    && (e.2.remaining != 0 || e.2.commitOnly || e.2.st == .saved)

/-- A BULK job that a tail gives a slice: queued, or with cost or its commit left to run. -/
def bulkWants (e : Nat × Job) : Bool :=
  e.2.desc.cls == 2 && (e.2.st == .queued || (e.2.plane == 0 && (e.2.remaining != 0 || e.2.commitOnly || e.2.st == .saved)))

/-- Jobs whose result waits for a transit to commit in: MANAGEMENT jobs, and released jobs of the software port. -/
def commitWants (e : Nat × Job) : Bool :=
  !e.2.finished && e.2.park.isNone && e.2.answer.isNone && e.2.burst.isNone && e.2.plan.isEmpty && e.2.result.isSome
    && (e.2.desc.cls == 3 || (isPort e.2 && e.2.commitOnly))

/-- The order of planning (R69): PROMPT, admitted TIMELY work whose plan has stopped covering it (R71), TIMELY by deadline, BULK by
share, MANAGEMENT, the software port. R70 gives no order among the PROMPT jobs of a tail: the model takes doorbell order (DESIGN
CHOICE, log 70). -/
def planAll (s : State) : State :=
  let prompt := sortBy (fun e => e.2.bellD) ((openJobs s).filter (fun e => e.2.desc.cls == 0 && e.2.st == .queued))
  let s := forEach prompt (fun e => claiming planPrompt e.1) s
  let s := forEach (sortBy (fun e => timelyLast e.2) ((openJobs s).filter (replannable s))) (fun e => replanTimely e.1) s
  let timely := sortBy (fun e => timelyLast e.2) ((openJobs s).filter (fun e => e.2.desc.cls == 1 && e.2.st == .queued))
  let s := forEach timely (fun e => claiming planTimely e.1) s
  let s := forEach ((openJobs s).filter (fun e => e.2.desc.cls == 1)) (fun e => useIdle e.1) s
  let bulk := (openJobs s).filter bulkWants
  let s := planBulk bulk.length (bulk.map (·.1)) s
  let s := forEach ((openJobs s).filter (fun e => e.2.desc.cls == 3 && e.2.st == .queued)) (fun e => planManagement e.1) s
  let s := forEach ((liveJobs s).filter commitWants) (fun e => planCommit e.1) s
  planPort s

/-- The books of the transit a tail has planned: allowances (R247, R303, R323) and the link's bytes (R81). -/
def planBooks (s : State) : State :=
  let tau := s.time.L + 1
  let answers := answerBytes s tau s.job.nextJob
  let bursts := burstBytes s tau s.job.nextJob
  { s with
    eng := { s.eng with maskAllow := allowOf s 0 }
    orr := { s.orr with
      linkAnswer := answers
      linkBurst := bursts
      linkUnused := bLink s - answers - bursts
      maskPlanned := needPlanned s 0 tau s.job.nextJob
      portPlanned := min (allowOf s 1) (needPlanned s 1 tau s.job.nextJob)
      kgPlanned := needPlanned s 2 tau s.job.nextJob } }

/-- SYM_MASK_SHORT, once for each fall, with the veneer jobs it made the device withdraw: PROMPT ones at the fall, TIMELY ones in the
tail that could not plan them again (R248). -/
def reportMask (s : State) : State :=
  match s.eng.maskLost with
  | none => s
  | some (planned, n) =>
    let late := (liveJobs s).filter (fun e => e.2.desc.cls == 1 && e.2.needs.getD 0 0 != 0 && decide (e.2.answer = some (0x7001, 0, 0, 0)))
    raiseEv 0x6012 4 (allowOf s 0) planned (n + late.length) { s with eng := { s.eng with maskLost := none } }

/-- What a slice leaves of a job's state in its bank. The manual states no contents: a free value, of the drawer's size and without the
key (DESIGN CHOICE, log 82). -/
def sliceState (x : Job) : List Byte :=
  standardBytes (0x1D00 + x.engine) [x.desc.opcode, x.cost - x.remaining] [x.desc.params, x.input, x.aux, x.extra] (256 * drawerSize x.engine)

/-- Does a bank A job go on in bank A of the same tile in the next transit (R73)? -/
def goesOn (L : Nat) (x : Job) : Bool := x.plan.any (fun b => b.transit == L + 1 && x.tile == some b.tile && b.cycles != x.cost)

/-- The end of a slice: a bank's key registers are cleared (R232, R263, R265). The state of a job with cycles left is saved to its
drawer and the bank cleared (R73, R264); lanes and digest engines clear theirs after every slice (R232, R263), the working memory of
the others stands where the job goes on in it. A job that has run to its end leaves nothing (R264, R281). -/
def endSlice (L : Nat) (x : Job) : Job :=
  if x.bank = {} then x
  else if x.remaining = 0 then { x with bank := {} }
  else if 2 ≤ x.engine && goesOn L x then { x with bank := { work := sliceState x } }
  else { x with bank := {}, drawer := sliceState x }

/-- Every slice of the transit has ended. -/
def endSlices (s : State) : State := { s with job := { s.job with jobs := Tab.mapAll s.job.jobs (fun _ x => endSlice s.time.L x) } }

/-- PLANNING_TAIL (R62, R69): the tail of transit L plans transit L + 1 (DESIGN CHOICE, log 12) (DESIGN CHOICE, log 61). -/
def planTail (s : State) : State :=
  let s := { s with job := { s.job with jobs := Tab.mapAll s.job.jobs (fun _ x => takeSlice s x) } }
  let s := { s with orr := { s.orr with service := s.orr.service.filter (fun e => decide (s.time.L < e.1 + 256)) } }
  reportMask (planBooks (endSlices (withNextPoints (tilesToChange s) planAll s)))

/-- Can a parked TIMELY job still be planned to finish by its expected transit (R197)? -/
def stillPlannable (s : State) (x : Job) (j : Nat) : Bool :=
  let last := x.expect.getD (timelyLast x)
  match x.account with
  | some a => (planBy s x j a (s.time.L + 1) last).isSome
  | none => (controlTransit s x j (s.time.L + 1) (last - s.time.L)).isSome

/-- A TIMELY job parked past the point where its remaining cost can still be planned ends PAGE_ABANDONED (R197). -/
def abandonTimely (s : State) : State :=
  forEach ((liveJobs s).filter (fun e => e.2.desc.cls == 1 && e.2.park.isSome)) (fun e s =>
    match e.2.park with
    | some (page, _, _) => if stillPlannable s e.2 e.1 then s else abandonJob e.1 page s
    | none => s) s

/-! ### The boundary (R57, R62, R78, R79, R541) -/

/-- Write the answers due in the answer window of the transit that begins (R62). -/
def writeAnswers (s : State) : State :=
  forEach (liveJobs s) (fun e s =>
    match e.2.answer with
    | some (st, w0, w1, w2) =>
      let s := if st = 0x7005 then raiseEv 0x4013 2 e.2.desc.tag.toNat e.2.fn w0 s else s
      endJob e.1 st w0 w1 w2 s
    | none =>
      if e.2.deferDue then
        modJob e.1 (fun x => { x with deferDue := false, interim := true })
          (jobEntry e.1 e.2 (fun ph =>
            { tag := e.2.desc.tag, status := 0x1001, interim := true, torn := false, creditless := false, sq := e.2.sq, phase := ph,
              when_ := e.2.expect.getD 0, outLen := 0, w0 := 0, w1 := 0, w2 := 0 }) s)
      else s) s

/-- May a slice start: nothing is left to prefetch, its inputs have been prefetched for this transit (R189), or the routine reads
its operands itself as it runs, as control opcodes and the big-number engines do? -/
def sliceReady (L : Nat) (x : Job) : Bool := x.staged || x.commitOnly || decide (L ≤ x.fetched) || x.plane != 0 || x.engine == 2

/-- A job in the transit `L` that begins: booked and ready it runs; a booked one whose inputs are late loses its slice, and its plan
covers it no longer (R71); a job that ran and is not booked is saved (R57, R73). -/
def startJob (L : Nat) (x : Job) : Job :=
  let x := { x with slice := 0 }
  if x.finished || x.park.isSome || x.st == .queued then x
  else if x.plan.any (fun b => b.transit == L) then
    if sliceReady L x then { x with st := .running }
    else { x with plan := x.plan.filter (fun b => b.transit != L), st := if x.st == .running then .saved else x.st }
  else if x.desc.cls == 3 then x
  else if x.result.isSome || (x.remaining == 0 && x.st == .running) then { x with st := .running }
  else if x.st == .running then { x with st := .saved }
  else x

/-- The jobs booked in the transit that begins run; the others of a tile are saved (R57, R73). -/
def startSlices (s : State) : State :=
  let s := { s with job := { s.job with jobs := Tab.mapAll s.job.jobs (fun _ x => startJob s.time.L x) } }
  { s with orr := { s.orr with
      tiles := Tab.mapAll s.orr.tiles (fun t x =>
        { x with bankA := (((booked s t s.time.L).filter (fun b => b.2.2.cycles != b.2.1.cost)).map (·.1)).head? }) } }

/-- Does a commit phase on the tile keep its point for now (R77, R79)? -/
def committingOn (s : State) (t : Nat) : Bool := (liveJobs s).any (fun e => e.2.tile == some t && inCommit e.2)

/-- Operating points change at the boundary: a sustained limit forces the target at once (R79), else the tile takes the point its
plan was made for (R78); a commit phase on the tile ends first. -/
def changePoints (s : State) : State :=
  forEach allTiles (fun t s =>
    let x := s.tile t
    if (x.planned.isNone && !x.limitDue) || committingOn s t then s
    else modTile t (fun x => { x with
      point := if x.limitDue then targetPoint s t else x.planned.getD x.point, planned := none, limitDue := false }) s) s

/-- Work of the transit that begins whose tile has left capacity or is not at its costed point (R79, R541). -/
def displaced (s : State) : List (Nat × Job) :=
  (liveJobs s).filter (fun e => !inCommit e.2 && e.2.plan.any (fun b => b.transit == s.time.L && allTiles.contains b.tile
    && (!inCapacity s b.tile || (s.tile b.tile).point != e.2.point)))

/-- The order in which R80 protects the work of a class: bound lots from the lowest cabinet, TIMELY, BULK, unreserved lots. -/
def protection (s : State) (x : Job) : Nat :=
  if x.desc.cls = 0 then (if x.plan.any (·.own) then cabOfFn s x.fn else 200) else if x.desc.cls = 1 then 100 else 150

/-- A tile that PROMPT work costed for another tile may move to: at its costed point (R78). -/
def atPointNow (s : State) (x : Job) (t : Nat) : Bool := bookable s t && (s.tile t).point == x.point

/-- A job gives its planned work up. -/
def unplan (j : Nat) (s : State) : State := modJob j (fun x => { x with plan := [] }) s

/-- Place a job without a plan in the transit that has just begun, at its costed point; none where it does not fit (R71). -/
def placeNow (s : State) (j : Nat) (x : Job) : Option State :=
  let L := s.time.L
  if x.desc.cls = 0 then
    match promptTile s x L (atPointNow s x) with
    | some (u, own) =>
      if needsFit s x j L x.cost then
        some (modJob j (fun y => { y with
          tile := some u, plan := [{ transit := L, tile := u, cycles := x.cost, lots := lotsNeeded x.cost, own := own, last := true }] }) s)
      else none
    | none => none
  else
    match x.account with
    | none => none
    | some a =>
      if x.desc.cls = 1 then
        (planBy s x j a L (x.expect.getD (timelyLast x))).map (fun p =>
          modJob j (fun y => { y with plan := p, tile := (p.head?).map (·.tile) }) s)
      else
        ((bulkTiles s x a).findSome? (bulkSlice s x j L)).map (fun b => modJob j (fun y => { y with plan := [b], tile := some b.tile }) s)

/-- The work of a class in the transit under way that R80 protects least, where it protects it less than `rank`. -/
def leastProtected (s : State) (cls rank : Nat) : Option (Nat × Nat) :=
  ((liveJobs s).filter (fun e => e.2.engine == cls && !inCommit e.2 && e.2.plan.any (fun b => b.transit == s.time.L && allTiles.contains b.tile))).foldl
    (fun best e =>
      let r := protection s e.2
      if r ≤ rank ∨ best.any (fun b => decide (r ≤ b.1)) then best else some (r, e.1)) none

/-- Displaced work without a place: a BULK job waits for a tile at its point (R79), a TIMELY job ends WITHDRAWN (R79). The section
states no end for a PROMPT job, which cannot wait: it ends WITHDRAWN too (DESIGN CHOICE, log 74). -/
def loseSlice (j : Nat) (x : Job) (s : State) : State :=
  if x.desc.cls = 2 then modJob j (fun y => { y with st := if y.st = .running then .saved else y.st }) s
  else endJob j 0x7001 0 0 0 s

/-- Displaced work finds another place, the best protected first; work that is protected less gives way to it, and is then placed in
its turn (R80, R541). The list holds (protection, job). -/
def resettle : Nat → List (Nat × Nat) → State → State
  | 0, _, s => s
  | _, [], s => s
  | fuel + 1, (r, j) :: rest, s =>
    match s.jobOf j with
    | none => resettle fuel rest s
    | some x =>
      match placeNow s j x with
      | some s' => resettle fuel rest s'
      | none =>
        match leastProtected s x.engine r with
        | some (q, v) => resettle fuel ((r, j) :: insertBy (·.1) (q, v) rest) (unplan v s)
        | none => resettle fuel rest (loseSlice j x s)

/-- The plan of the transit that begins is revised for the tiles that left capacity or were forced down (R79, R541). -/
def revisePlans (s : State) : State :=
  let js := displaced s
  let list := sortBy (·.1) (js.map (fun e => (protection s e.2, e.1)))
  resettle (2 * s.job.jobs.length + js.length) list (forEach js (fun e => unplan e.1) s)

/-- Capacity lost to the reservations, engine cycles, over the classes in shortfall: cycles of the pooled tiles, or else lots that no
tile holds, and cycles of owned lanes (DEDUCED, log 76). -/
def capacityLost (s : State) : Nat :=
  ((List.range 4).map (fun c =>
    let r := reservedParts s c
    max (r.1 + r.2.1 + r.2.2 - (classCapacity s c - classHolds s c)) (lotsMissing s c * lotCycles)
      + ((lanesShort s c).map (fun o => windowCycles 0 - laneCycles s o.1)).sum)).sum

/-- Cabinets clipped: those whose lots, shares or owned lanes of a class in shortfall are cut. -/
def clippedCabs (s : State) : Nat :=
  bitmapOf 64 (fun cab => (List.range 4).any (fun c => shortfall s c &&
    (decide (effShares s c cab ≠ nominalShares s c cab) || (lanesShort s c).any (fun o => o.2 == cab) ||
      decide ((((heldLots s c).filter (fun e => e.2.1 == cab)).map (·.2.2)).sum
        ≠ ((s.car.active.lots.filter (fun l => l.cls == c && l.cab == cab)).map (·.lots)).sum))))

/-- The classes in shortfall. -/
def clippedClasses (s : State) : Nat := bitmapOf 4 (shortfall s)

/-- The set of clipped cabinets, held to see it change (R80). -/
def holdClipped (cabs : Nat) (s : State) : State := { s with orr := { s.orr with clipped := cabs } }

/-- What is announced when the set of clipped cabinets changes to `cabs`: POLICY_CLIPPED and one event (R80). -/
def announceClipped (cabs classes : Nat) (s : State) : State :=
  raiseEv 0x0142 4 classes (capacityLost s) 0 (notify 0x0003 classes (lo32 cabs) (hi32 cabs) (capacityLost s) 0 0 s)

/-- POLICY_CLIPPED each time the set of clipped cabinets changes, with one event (R80). -/
def reportClipped (s : State) : State :=
  holdClipped (clippedCabs s)
    (if clippedCabs s = s.orr.clipped then s else announceClipped (clippedCabs s) (clippedClasses s) s)

/-- The pages whose bytes a prefetch reads: what follows the bytes staged so far of the input, the auxiliary data and the context
record (R183, R189). -/
def stagePages (x : Job) (input aux extra : List Byte) : List (Nat × Nat) :=
  let part := fun (addr len have_ n : Nat) => if min n (len - have_) = 0 then [] else
    (pagesOf (addr + have_) (min n (len - have_))).map (fun p => (p, max (addr + have_) (p * 4096)))
  part x.desc.inAddr x.desc.inLen x.input.length input.length ++ part x.desc.auxAddr x.desc.auxLen x.aux.length aux.length
    ++ (match x.recordRead with | some (a, n) => part a n x.extra.length extra.length | none => [])

/-- The job with the bytes of a prefetch; `staged` once every byte it names is there. -/
def stageBytes (L : Nat) (input aux extra : List Byte) (x : Job) : Job :=
  let i := (x.input ++ input).take x.desc.inLen
  let a := (x.aux ++ aux).take x.desc.auxLen
  let n := ((x.recordRead.map (·.2)).getD 0)
  let e := (x.extra ++ extra).take n
  { x with
    input := i, aux := a, extra := e, fetched := L + 1
    staged := decide (i.length = x.desc.inLen) && decide (a.length = x.desc.auxLen) && decide (e.length = n) }

/-- OPERAND_STAGED (R61, R64, R189, R194): bytes of a job's input, its auxiliary data and the context record it names arrive in operand
staging. A PROMPT job's arrive before it is planned; another job's are prefetched for its next slice, once it has been planned. A
page that is not present ends a PROMPT job in the next tail, ends a control opcode, and parks any other job. -/
def operandStaged (j : Nat) (input aux extra : List Byte) (s : State) : State :=
  match s.jobOf j with
  | none => s
  | some x =>
    if x.finished ∨ x.staged ∨ x.park.isSome ∨ (x.desc.cls ≠ 0 ∧ x.st = .queued) then s
    else
      match (stagePages x input aux extra).findSome? (fun p =>
          match meetPage s x.fn 1 p.1 with
          | .ok => none
          | m => some (p, m)) with
      | some (p, .fault) =>
        if x.desc.cls = 0 then modJob j (fun y => { y with missing := some p.1 }) s
        else if x.plane = 1 then abandonJob j p.1 s
        else parkJob j p.1 1 wholeSlice s
      | some (p, .violation cause) => freezeMaster 0 x.fn cause p.2 x.desc.tag (some j) s
      | _ => modJob j (stageBytes s.time.L input aux extra) s

end Sys2Proof.Machine
end

