-- ==== Sys2Proof/Machine/Events.lean ====
section
/-! DEFINITION. The event recorder (spec/21_event_recorder.md R462 to R477, R540): intake, placement, reading, the ring's
pressure and the journal. -/

namespace Sys2Proof.Machine

/-- One step of CRC-32C (reflected polynomial 0x82F63B78; PRESUMED, log 9). -/
def crc32cBit (c : Nat) : Nat := if c % 2 = 1 then Nat.xor (c / 2) 0x82F63B78 else c / 2
/-- A byte of CRC-32C (PRESUMED, log 9). -/
def crc32cByte (c : Nat) (b : Byte) : Nat := (List.range 8).foldl (fun a _ => crc32cBit a) (Nat.xor c b.toNat)
/-- CRC-32C of a byte string (R462) (PRESUMED, log 9). -/
def crc32c (bs : List Byte) : Nat := Nat.xor (bs.foldl crc32cByte 0xFFFFFFFF) 0xFFFFFFFF

/-- The 32 bytes of a record (R462). -/
def recordBytes (r : Record) : List Byte :=
  let body := leBytes 4 r.seq.toNat ++ leBytes 2 r.ev.code ++ leBytes 2 (r.ev.sev * 8192 + r.ev.source % 8192) ++ leBytes 8 r.ev.L
    ++ leBytes 4 r.ev.p1 ++ leBytes 4 r.ev.p2 ++ leBytes 4 r.ev.p3
  body ++ leBytes 4 (crc32c body)

/-- Does a sequence lie before another (R465: modulo 2^32 within a window of 2^31)? -/
def seqBefore (a b : Word) : Bool := decide (0 < diff32 b a)

/-- Records of the general ring that are unread (R468). -/
def unread (s : State) : Nat := (s.evt.ring.filter (fun r => !seqBefore r.seq s.evt.ack)).length

/-- The oldest record of a severity, as the ring without it. -/
def takeOldest (v : Nat) : List Record → Option (Record × List Record)
  | [] => none
  | r :: l => if r.ev.sev = v then some (r, l) else (takeOldest v l).map (fun p => (p.1, r :: p.2))

/-- The record a new record of severity `sev` replaces in a full ring: the oldest of the lowest severity held (R467). -/
def victim (sev : Nat) (ring : List Record) : Option (Record × List Record) :=
  (List.range (min sev 6 + 1)).findSome? (fun v => takeOldest v ring)

/-- An unread record is overwritten (R467, R469, R540). -/
def countOver (code sev : Nat) (s : State) : State :=
  let low := fun (o : Option Nat) => some (match o with | none => sev | some v => min v sev)
  { s with evt := { s.evt with
      overwritten := saturate 32 (s.evt.overwritten + 1)
      frameOver := if code = 0x0011 then s.evt.frameOver else s.evt.frameOver + 1
      frameLow := if code = 0x0011 then s.evt.frameLow else low s.evt.frameLow
      pressLost := s.evt.pressLost + 1
      pressLow := low s.evt.pressLow
      pressThis := true } }

/-- Queue a record of severity 5 or above for the journal; a full queue loses it there (R474). -/
def journalQueue (r : Record) (s : State) : State :=
  if r.ev.sev < 5 then s
  else if s.evt.jQueue.length < 256 then { s with evt := { s.evt with jQueue := s.evt.jQueue ++ [r] } }
  else
    let s := { s with evt := { s.evt with jLost := saturate 32 (s.evt.jLost + 1) } }
    raiseEv 0x0012 6 s.evt.jLost 0 0 s

/-- Place a numbered record (R467). -/
def place (r : Record) (s : State) : State :=
  let s := journalQueue r s
  if r.ev.sev = 7 ∧ s.evt.reserve.length < 1024 then { s with evt := { s.evt with reserve := s.evt.reserve ++ [r] } }
  else if s.evt.ring.length < 65536 then { s with evt := { s.evt with ring := s.evt.ring ++ [r] } }
  else
    match victim r.ev.sev s.evt.ring with
    | none =>
      let s := if r.ev.sev = 7 then { s with evt := { s.evt with lost7 := saturate 16 (s.evt.lost7 + 1) } } else s
      countLost r.ev.code s
    | some (v, ring) =>
      let s := if seqBefore v.seq s.evt.ack then s else countOver r.ev.code v.ev.sev s
      { s with evt := { s.evt with ring := ring ++ [r], replaced := v :: s.evt.replaced } }

/-- EVENT_INTAKE (R465, R467): the oldest raised record is numbered and placed; at most 64 a transit. -/
def eventIntake (s : State) : State :=
  match s.evt.queue with
  | [] => s
  | e :: rest =>
    if s.evt.taken < 64 then
      place { seq := s.evt.next, ev := e }
        { s with evt := { s.evt with queue := rest, next := s.evt.next + 1, taken := s.evt.taken + 1 } }
    else s

/-- Move the ring's read point to a later value (R468). -/
def ackRing (w : Word) (s : State) : State :=
  if seqBefore s.evt.ack w then { s with evt := { s.evt with ack := w } } else s

/-- Move the journal's read point to a later value (R468, R477). -/
def ackJournal (w : Word) (s : State) : State :=
  if seqBefore s.evt.jAck w then { s with evt := { s.evt with jAck := w } } else s

/-- EVT_SEL_SEQ (R470): latch the record of a sequence, in the ring or the reserve; a missing one zeroes the latch. -/
def selectRecord (w : Word) (s : State) : State :=
  let fill := fun (r : Record) (res : Bool) =>
    { s with evt := { s.evt with
        selSeq := w, found := true, inReserve := res,
        latch := (List.range 8).map (fun i => leAt (recordBytes r) (4 * i) 4) } }
  match s.evt.ring.find? (fun r => r.seq == w) with
  | some r => fill r false
  | none =>
    match s.evt.reserve.find? (fun r => r.seq == w) with
    | some r => fill r true
    | none => { s with evt := { s.evt with selSeq := w, found := false, inReserve := false, latch := List.replicate 8 0 } }

/-- The oldest retained general-ring sequence; 0 where none. -/
def oldestSeq (s : State) : Nat := ((s.evt.ring.head?).map (fun r => r.seq.toNat)).getD 0

/-- What is raised at one boundary is raised in one fabric cycle: it is taken in ascending subsystem order (R465) (DEDUCED, log 88). -/
def inOneCycle (f : State → State) (s : State) : State :=
  let n := s.evt.queue.length
  let t := f s
  { t with evt := { t.evt with queue := t.evt.queue.take n ++ sortBy (fun e => e.code / 0x1000) (t.evt.queue.drop n) } }

/-! ### Snapshots (R471, R477) -/

/-- Records at or after FROM in ascending sequence, of a severity at least MIN. -/
def selected (recs : List Record) (from_ : Word) (minSev : Nat) : List Record :=
  sortBy (fun r => (r.seq - from_).toNat) (recs.filter (fun r => decide (0 ≤ diff32 r.seq from_) && decide (minSev ≤ r.ev.sev)))

/-- The result of a snapshot: as many whole records as fit, W0 to W2 (R471). -/
def snapshotResult (recs wanted : List Record) (from_ : Word) (room : Nat) (ack : Option (Word → Effect)) : Result :=
  let out := wanted.take (room / 32)
  let w1 := match out.getLast? with
    | some r => r.seq + 1
    | none => from_
  let held := (recs.filter (fun r => decide (0 ≤ diff32 r.seq from_) && seqBefore r.seq w1)).length
  { status := 0, output := out.flatMap recordBytes, w0 := out.length, w1 := w1.toNat,
    w2 := saturate 16 ((w1 - from_).toNat - held) + flag (decide (out.length < wanted.length)) * 65536,
    effects := match ack with | some f => [f w1] | none => [] }

/-- EVENT_SNAPSHOT (R471): the records held at the boundary that began the transit. -/
def eventSnapshot (j : Nat) (s : State) : State :=
  match runnable s j 0xC001 with
  | none => s
  | some x =>
    let from_ : Word := BitVec.ofNat 32 (x.desc.par 40 4)
    let fl := x.desc.par 44 1
    let held := (s.evt.ring ++ s.evt.replaced ++ s.evt.reserve).filter (fun r => seqBefore r.seq s.evt.mark)
    let pool := if bit fl 1 then s.evt.reserve.filter (fun r => seqBefore r.seq s.evt.mark) else held
    setResult j (snapshotResult held (selected pool from_ (x.desc.par 45 1)) from_ (min x.desc.outCap (maxOutput s))
      (if bit fl 0 then some Effect.ackRing else none)) s

/-- Every journal record, oldest block first. -/
def journalRecords (s : State) : List Record := s.evt.journal.flatMap (·.recs)

/-- JOURNAL_READ (R477). -/
def journalRead (j : Nat) (s : State) : State :=
  match runnable s j 0xC002 with
  | none => s
  | some x =>
    let from_ : Word := BitVec.ofNat 32 (x.desc.par 40 4)
    let recs := journalRecords s
    setResult j (snapshotResult recs (selected recs from_ (x.desc.par 45 1)) from_ (min x.desc.outCap (maxOutput s))
      (if bit (x.desc.par 44 1) 0 then some Effect.ackJournal else none)) s

/-! ### The journal (R474 to R476) -/

/-- A journal block in external flash: the 64-byte header and its records; the places not yet written read 0xFF (R474). -/
def blockBytes (b : JBlock) : List Byte :=
  let head := leBytes 4 0x424A474B ++ leBytes 2 1 ++ zeros 2 ++ leBytes 8 b.number ++ leBytes 8 b.openL ++ leBytes 8 b.openUs ++ leBytes 1 b.quality
    ++ zeros 3 ++ leBytes 4 b.firstSeq.toNat ++ zeros 20
  let used := head ++ leBytes 4 (crc32c head) ++ b.recs.flatMap recordBytes
  used ++ List.replicate (4096 - used.length) 0xFF

/-- LDG_TIME_STATUS.QUALITY (R48). -/
def qualityCode : Quality → Nat
  | .unset => 0 | .carried => 1 | .set => 2

/-- Open the next journal block; when all 2,048 are in use the lowest is erased, its unread records counted (R476). -/
def openBlock (first : Word) (s : State) : State :=
  let b : JBlock :=
    { number := s.evt.nextBlock, openL := eventL s, openUs := s.time.ledgerUs, quality := qualityCode s.time.quality,
      firstSeq := first, recs := [] }
  let s := if s.evt.journal.length < 2048 then s
    else match s.evt.journal with
      | [] => s
      | old :: rest =>
        let n := (old.recs.filter (fun r => !seqBefore r.seq s.evt.jAck)).length
        let s := { s with evt := { s.evt with journal := rest } }
        if n = 0 then s
        else raiseEv 0x0013 6 (lo32 old.number) n 0 { s with evt := { s.evt with jOver := saturate 32 (s.evt.jOver + n) } }
  { s with evt := { s.evt with journal := s.evt.journal ++ [b], nextBlock := s.evt.nextBlock + 1 } }

/-- Add a record to the open (last) block. -/
def appendJournal (r : Record) (s : State) : State :=
  match s.evt.journal.getLast? with
  | none => s
  | some b => { s with evt := { s.evt with journal := s.evt.journal.dropLast ++ [{ b with recs := b.recs ++ [r] }] } }

/-- Is there an open block with a free place? -/
def blockOpen (s : State) : Bool :=
  match s.evt.journal.getLast? with
  | some b => decide (b.recs.length < 126) && !b.skipped
  | none => false

/-- JOURNAL_PROGRAM (R474): the oldest queued record is programmed into the open block; a write that keeps failing skips
the block and is logged. -/
def journalProgram (ok : Bool) (s : State) : State :=
  match s.evt.jQueue with
  | [] => s
  | r :: rest =>
    let s := if blockOpen s then s else openBlock r.seq s
    if ok then appendJournal r { s with evt := { s.evt with jQueue := rest } }
    else
      match s.evt.journal.getLast? with
      | none => s
      | some b =>
        raiseEv 0x0014 6 (lo32 b.number) b.recs.length 0
          { s with evt := { s.evt with journal := s.evt.journal.dropLast ++ [{ b with skipped := true }] } }

/-! ### End of transit and of meter frame -/

/-- EVENT_RING_PRESSURE at transit end (R469) (DEDUCED, log 26). -/
def ringPressure (s : State) : State :=
  let u := unread s
  let due := s.evt.pressThis || (decide (49152 ≤ u) && decide (s.evt.prevUnread < u))
  let s := if due then
      let readers := (s.car.active.fns.filter (fun r => bit r.flags 1)).map (·.fn)
      let s := forEach readers (notify 0x000C 0 u s.evt.pressLost (s.evt.pressLow.getD 0xFFFFFFFF) 0) s
      { s with evt := { s.evt with pressLost := 0, pressLow := none } }
    else s
  { s with evt := { s.evt with prevUnread := u, pressThis := false, taken := 0, mark := s.evt.next, replaced := [] } }

/-- EVT_RECORDS_LOST at the end of a meter frame with losses (R540). -/
def recordsLost (s : State) : State :=
  let e := s.evt
  let s := { s with evt := { s.evt with frameLost := 0, frameOver := 0, frameLow := none } }
  if e.frameLost = 0 ∧ e.frameOver = 0 then s
  else raiseEv 0x0011 4 e.frameLost e.frameOver (e.frameLow.getD 0xFFFFFFFF) s

/-- EVT_TIME_ANCHOR (R473), which Keeper logs; none while Keeper is absent. -/
def timeAnchor (s : State) : State :=
  if keeperAbsent s then s
  else raiseEv 0x1010 1 (lo32 s.time.ledgerUs) (hi32 s.time.ledgerUs)
    (qualityCode s.time.quality + flag s.time.stepped * 4) s

/-- EVENT_SNAPSHOT and JOURNAL_READ at the descriptor checks (R471, R472, R477). -/
def eventInfo (s : State) (f : Nat) (d : Desc) : OpInfo :=
  let read := (fnRec? s f).any (fun r => bit r.flags 1)
  let snap := d.opcode == 0xC001
  { plane := .C, usesOut := true,
    fields := [(44, decide (d.par 44 1 < if snap then 4 else 2)), (45, decide (d.par 45 1 ≤ 7))] ++ reservedFrom d 46,
    owner := if read then none else some (0x3001, 2, 0),
    promptBar := if snap then none else some 1,
    outLen := min d.outCap (maxOutput s),
    needOut := some 32,
    transits := if snap then 1 else max 1 (ceilDiv (min d.outCap (maxOutput s)) 2048) }

end Sys2Proof.Machine
end

