-- ==== Sys2Proof/Machine/Time.lean ====
section
/-! DEFINITION. Transit, trim and ledger time (spec/02_transit_orbit_time.md R33 to R49): the trim source and its steps, the
advance of ledger time at a boundary, and the 1PPS. -/

namespace Sys2Proof.Machine

/-- Code of a trim source (ORR_CLOCK_STATUS.SOURCE). -/
def sourceCode : TrimSource → Nat
  | .free => 0 | .pps => 1 | .mesh => 2 | .holdover => 3

/-- The trim source, in the order of R41: mesh, 1PPS, holdover once a source has been lost, free. -/
def trimSource (meshLive : Bool) (t : TimeState) : TrimSource :=
  if meshLive then .mesh
  else if t.ppsQualified then .pps
  else if t.source = .free then .free else .holdover

/-- The mean of the last updates, rounded toward zero: R41 gives no rounding (DESIGN CHOICE, log 66). -/
def meanTrim (l : List Int) : Int := if l.isEmpty then 0 else l.sum.tdiv l.length

/-- The trim that a phase error asks for (R43): a local boundary that comes late (e > 0) asks for a faster clock, an early one
for a slower clock, so that e is driven toward 0. Beyond the alignment bound the loop heads for the end of its range, which leaves
it the 60 ppm that R44 counts on (DEDUCED, log 10); within it the pace is open (DESIGN CHOICE, log 10). -/
def meshGoal (e trim : Int) : Int :=
  if 1000 < e then 6400
  else if e < -1000 then -6400
  else if 0 < e then trim + ((Config.trimTarget 2 e trim).natAbs : Int)
  else if e < 0 then trim - ((Config.trimTarget 2 e trim).natAbs : Int)
  else trim

/-- The trim the loop heads for: 0 when free, the mean of the last 64 updates in holdover, else by the measurement; the law by
which 1PPS sets it is open (DESIGN CHOICE, log 10). -/
def trimGoal (t : TimeState) (src : TrimSource) : Int :=
  match src with
  | .free => 0
  | .holdover => meanTrim t.trimHistory
  | .mesh => meshGoal t.phaseError t.trim
  | .pps => Config.trimTarget 1 ((t.ppsIntervals.sum : Nat) : Int) t.trim

/-- One trim step: at most ±16 units toward the goal, within ±6,400 (R41) (DESIGN CHOICE, log 10). -/
def trimStep (trim goal : Int) : Int := clampInt (-6400) 6400 (trim + clampInt (-16) 16 (goal - trim))

/-- TRIM_UPDATE at a boundary (R41); ALIGNED falls when the source stops being mesh (R43). An update of the 64 that holdover
averages is one made while the source is mesh or 1PPS: R41 does not say (DESIGN CHOICE, log 66). -/
def trimUpdate (meshLive : Bool) (t : TimeState) : TimeState :=
  let src := trimSource meshLive t
  let trim := trimStep t.trim (trimGoal t src)
  { t with
    source := src
    trim := trim
    trimHistory := if src = .mesh ∨ src = .pps then (t.trimHistory ++ [trim]).drop (t.trimHistory.length + 1 - 64) else t.trimHistory
    aligned := t.aligned && src == .mesh
    alignRun := if src = .mesh then t.alignRun else 0
    misalignRun := if src = .mesh then t.misalignRun else 0 }

/-- Round a quotient of positive numbers to the nearest whole number. -/
def roundDiv (a b : Nat) : Nat := (2 * a + b) / (2 * b)

/-- The base rate in picoseconds per transit (R46): by the mean of the last 8 accepted 1PPS intervals while 1PPS is
qualified, else by the trim. -/
def baseRate (t : TimeState) : Nat :=
  if t.ppsQualified ∧ 0 < t.ppsIntervals.sum then roundDiv (8192000 * 3000000000 * t.ppsIntervals.length) t.ppsIntervals.sum
  else 8192000 * 64000000 / (64000000 + t.trim).toNat

/-- The adjustment a pending slew makes to one transit (R46, R47): at most 8,192 ps. -/
def slewAdj (t : TimeState) : Int := clampInt (-8192) 8192 t.slewPs

/-- LEDGER_TIME_ADVANCE at a boundary (R46). -/
def advanceLedger (t : TimeState) : TimeState :=
  let rate := ((baseRate t : Int) + slewAdj t).toNat
  let sub := t.subPs + rate
  { t with
    slewPs := t.slewPs - slewAdj t
    stmtSlew := t.stmtSlew && decide (t.slewPs - slewAdj t ≠ 0)
    stepReq := t.stepReq.map (fun q => { q with elapsedPs := q.elapsedPs + baseRate t })
    stepDue := t.stepDue.map (fun q => { q with elapsedPs := q.elapsedPs + baseRate t })
    ledgerUs := t.ledgerUs + sub / 1000000
    subPs := sub % 1000000
    rate := rate }

/-- Is a 1PPS interval accepted (R42): 3,000,000,000 ± 600,000 fabric cycles? -/
def ppsAccepts (interval : Nat) : Bool := decide (2999400000 ≤ interval ∧ interval ≤ 3000600000)

/-- Ledger time at an instant inside the transit under way, µs. The spec moves ledger time at boundaries only; the model takes
the rate applied last over the fabric cycles since the boundary (DESIGN CHOICE, log 64). -/
def ledgerAt (t : TimeState) (cycle : Nat) : Nat := t.ledgerUs + (t.subPs + t.rate * cycle / 24576) / 1000000

/-- The phase of ledger time at a pulse, folded into (−500,000, +500,000] µs (R49). -/
def ppsPhase (us : Nat) : Int := if us % 1000000 ≤ 500000 then (us % 1000000 : Nat) else ((us % 1000000 : Nat) : Int) - 1000000

/-- An interval without an accepted pulse: the fourth in a row loses 1PPS (R42). -/
def ppsMiss (t : TimeState) : TimeState :=
  { t with ppsRun := 0, ppsMissed := t.ppsMissed + 1, ppsQualified := t.ppsQualified && decide (t.ppsMissed + 1 < 4) }

/-- The interval that an edge too late ends: it is counted where its timeout has not counted it yet (R42). -/
def ppsReject (t : TimeState) : TimeState := if t.ppsLate then t else ppsMiss t

/-- The resolution of the 1PPS capture: one cycle of domain 212, 1.333 ns, is 4 fabric cycles (R36, R42). -/
def captured (cycles : Nat) : Nat := cycles / 4 * 4

/-- PPS_EDGE (R42, R49): the instant of the edge in fabric cycles, and the cycle of the transit it falls in, as domain 212
captures them. -/
def ppsEdge (instant inTransit : Nat) (s : State) : State :=
  let stamp := captured instant
  let cycle := captured inTransit
  if !running s then s
  else
    let t := s.time
    match t.ppsLast with
    | none => { s with time := { t with ppsLast := some stamp, ppsLate := false } }
    | some prev =>
      if ppsAccepts (stamp - prev) then
        let t := { t with
          ppsLast := some stamp
          ppsRun := t.ppsRun + 1
          ppsMissed := 0
          ppsLate := false
          ppsIntervals := (t.ppsIntervals ++ [stamp - prev]).drop (t.ppsIntervals.length + 1 - 8)
          ppsQualified := t.ppsQualified || decide (8 ≤ t.ppsRun + 1) }
        let t := if t.ppsQualified ∧ t.quality = .set ∧ t.stmtSlew = false then
            { t with slewPs := -(ppsPhase (ledgerAt t cycle)) * 1000000 }
          else t
        { s with time := t }
      else { s with time := { ppsReject t with ppsLast := some stamp, ppsLate := false } }

/-- PPS_INTERVAL_TIMEOUT (R42): no edge within 1,000,200 µs. -/
def ppsIntervalTimeout (s : State) : State := if !running s then s else { s with time := { ppsMiss s.time with ppsLate := true } }

/-- A phase measurement from a heartbeat (R43): four in a row within 1,000 ns set ALIGNED, four beyond clear it. -/
def phaseMeasured (e : Int) (t : TimeState) : TimeState :=
  let small := decide (-1000 ≤ e ∧ e ≤ 1000)
  let run := if small then t.alignRun + 1 else 0
  let mis := if small then 0 else t.misalignRun + 1
  { t with phaseError := e, alignRun := run, misalignRun := mis,
           aligned := if 4 ≤ run then true else if 4 ≤ mis then false else t.aligned }

/-- A phase folded into (−4,096, +4,096] ns (R43). -/
def foldPhase (e : Int) : Int := let m := e % 8192; if m ≤ 4096 then m else m - 8192

/-- ORR_CLOCK_STATUS. -/
def clockStatus (t : TimeState) : Nat :=
  sourceCode t.source + flag t.aligned * 4 + flag t.ppsQualified * 8 + signedField 16 t.trim * 256

/-- LDG_TIME_STATUS. -/
def timeStatus (t : TimeState) : Nat :=
  qualityCode t.quality + flag t.stepped * 4 + flag (decide (t.slewPs ≠ 0)) * 8 + flag t.stepReq.isSome * 16

/-- LDG_SLEW_REMAIN: pending slew in µs, signed and saturating. -/
def slewRemain (t : TimeState) : Nat := signedField 32 (clampInt (-(2 ^ 31)) (2 ^ 31 - 1) (t.slewPs.tdiv 1000000))

end Sys2Proof.Machine
end

