-- ==== Sys2Proof/Machine/Image.lean ====
section
/-! DEFINITION. The carcass image (spec/04_carcass_format.md): its parts, its records and the validation order of R96. A
check answers the first failing reason and offset, or the structure the image describes. -/

namespace Sys2Proof.Machine

/-- A failed check: reason code and byte offset (R96). -/
abbrev Bad := Nat × Nat

/-- The first failing check of a list. -/
def firstBad : List (Bool × Bad) → Option Bad
  | [] => none
  | (ok, b) :: l => if ok then firstBad l else some b

/-- One record as found: offset, tag, value bytes. -/
structure Raw where
  off : Nat
  tag : Nat
  val : List Byte
  deriving DecidableEq, Repr

/-- Value length of a tag (R91); none where the tag is unknown. -/
def tagLen (tag : Nat) : Option Nat :=
  match tag with
  | 0x0101 => some 56 | 0x0201 => some 16 | 0x0301 => some 4 | 0x0302 => some 56 | 0x0401 => some 8 | 0x0501 => some 16
  | 0x0601 => some 8 | 0x0701 => some 24 | 0x0801 => some 4 | 0x0901 => some 4 | 0x0902 => some 12 | 0x0A01 => some 4
  | 0x0A02 => some 4 | 0x0B01 => some 8 | 0x0B02 => some 48 | 0x0B03 => some 36 | 0x0C01 => some 48
  | _ => none

/-- The key of a record as one number, in the order of R91. -/
def recKey (tag : Nat) (v : List Byte) : Nat :=
  match tag with
  | 0x0201 => byteAt v 0 | 0x0301 => byteAt v 0 | 0x0302 => byteAt v 0 * 256 + byteAt v 1 | 0x0401 => leAt v 0 2
  | 0x0501 => leAt v 0 4 | 0x0601 => leAt v 0 2 | 0x0701 => byteAt v 0 | 0x0801 => byteAt v 0
  | 0x0901 => byteAt v 0 * 65536 + byteAt v 1 * 256 + byteAt v 2 | 0x0902 => byteAt v 0 * 256 + byteAt v 1
  | 0x0A01 => byteAt v 0 | 0x0B02 => byteAt v 0 | 0x0B03 => byteAt v 0 | 0x0C01 => byteAt v 0
  | _ => 0

/-- A reserved field of a byte string must be 0: its first byte where it is not (R96: "the offset of the first byte of the
offending field"). -/
def zeroRange (v : List Byte) (off n : Nat) : Option Nat := if allZero (slice v off n) then none else some off

/-- A reserved bit of the field at `off` is set. -/
def bitsSet (b : Bool) (off : Nat) : Option Nat := if b then some off else none

/-- Reserved fields and bits of a record, in byte order: the value offset of the first that is not 0 (R83). -/
def recReserved (tag : Nat) (v : List Byte) : Option Nat :=
  (match tag with
  | 0x0101 => [zeroRange v 20 4]
  | 0x0201 => [zeroRange v 1 1, bitsSet (decide (16 ≤ leAt v 2 2)) 2]
  | 0x0301 => [zeroRange v 3 1]
  | 0x0302 => [bitsSet (decide (256 ≤ leAt v 4 4)) 4]
  | 0x0401 => [bitsSet (decide (4 ≤ byteAt v 3)) 3, zeroRange v 6 2]
  | 0x0501 => [bitsSet (decide (4 ≤ byteAt v 9)) 9, zeroRange v 12 4]
  | 0x0601 => [zeroRange v 5 1]
  | 0x0701 => [bitsSet (decide (4 ≤ leAt v 2 2)) 2, zeroRange v 6 2]
  | 0x0801 => [zeroRange v 2 2]
  | 0x0902 => [zeroRange v 2 2]
  | 0x0A01 => [bitsSet (decide (2 ≤ byteAt v 1)) 1]
  | 0x0A02 => [bitsSet (decide (2 ≤ byteAt v 0)) 0, zeroRange v 1 3]
  | 0x0B01 => [bitsSet (decide (2 ≤ byteAt v 1)) 1, zeroRange v 2 6]
  | 0x0B02 => [bitsSet (decide (2 ≤ byteAt v 2)) 2, zeroRange v 3 5]
  | 0x0B03 => [zeroRange v 2 2]
  | 0x0C01 => [zeroRange v 2 2, zeroRange v 8 8]
  | _ => []).findSome? id

/-- Flags of a cabinet read so far. -/
def cabFlags (c : Carcass) (cab : Nat) : Option Nat := (c.cabinets.find? (fun r => r.cab == cab)).map (·.flags)

/-- Rights a cabinet's officers may hold (R100): KEY_EXPORT needs EXPORT, CARCASS and TIME_STEP cabinet 0, CUSTODY MESH_BACKUP.
A cabinet with no record has no flag to look at, and the reference to it fails at step 13 (R99) (DEDUCED, log 83). -/
def rightsOk (c : Carcass) (cab rights : Nat) : Bool :=
  match cabFlags c cab with
  | none => cab == 0 || (!bit rights 4 && !bit rights 5)
  | some f => (!bit rights 1 || bit f 3) && (!bit rights 4 || cab == 0) && (!bit rights 5 || cab == 0) && (!bit rights 6 || bit f 2)

/-- The members whose bit is set in the 32 bytes of a CUSTODY record (R112). -/
def holderList (v : List Byte) : List Nat := (List.range 256).filter (fun i => bit (byteAt v (4 + i / 8)) (i % 8))

/-- Field values of a record outside their Valid column: the value offset of the first (R96 steps 9 to 12). -/
def recRange (c : Carcass) (tag : Nat) (v : List Byte) : Option Nat :=
  let b := byteAt v
  let bad := fun (l : List (Bool × Nat)) => (l.find? (fun e => !e.1)).map (·.2)
  match tag with
  | 0x0101 => bad [(decide (1 ≤ leAt v 16 2 ∧ leAt v 16 2 ≤ 3), 16), ([15, 30, 60, 120, 240, 360, 720, 1440].contains (leAt v 18 2), 18)]
  | 0x0201 => bad [(decide (b 0 < 64), 0)]
  | 0x0301 => bad [(decide (2 ≤ b 1 ∧ b 1 ≤ 8), 1), (decide (b 1 ≤ b 2 ∧ b 2 ≤ 16), 2)]
  | 0x0302 =>
    let n := ((c.quorums.find? (fun q => q.cab == b 0)).map (·.n)).getD 16
    bad [(decide (b 1 < n), 1), (decide (1 ≤ leAt v 2 2 ∧ leAt v 2 2 ≤ 3), 2), (rightsOk c (b 0) (leAt v 4 4), 4)]
  | 0x0401 => bad [(decide (leAt v 0 2 ≤ 64), 0), (decide (leAt v 0 2 ≠ 0 ∨ b 2 = 0), 2), (decide (leAt v 0 2 ≠ 0 ∨ b 3 = 3), 3),
      (decide (1 ≤ b 4 ∧ b 4 ≤ 16), 4), (decide (1 ≤ b 5 ∧ b 5 ≤ 16), 5)]
  | 0x0501 => bad [(decide (leAt v 0 4 ≤ 1048575), 0), (decide (1 ≤ leAt v 4 4 ∧ leAt v 0 4 + leAt v 4 4 ≤ 1048576), 4), (b 9 != 0, 9)]
  | 0x0601 => bad [(decide (leAt v 0 2 ≤ 8191), 0), (decide (1 ≤ leAt v 2 2 ∧ leAt v 0 2 + leAt v 2 2 ≤ 8192), 2),
      (decide (leAt v 6 2 ≤ leAt v 2 2), 6)]
  | 0x0701 => bad [(decide (b 0 ≤ 47), 0),
      (if bit (b 2) 0 then decide (100 ≤ leAt v 4 2 ∧ leAt v 4 2 ≤ 10000) else leAt v 4 2 == 0, 4),
      (bit (b 2) 1 || allZero (slice v 8 16), 8)]
  | 0x0801 => bad [(decide (b 0 ≤ 23), 0)]
  | 0x0901 => bad [(decide (b 0 ≤ 3), 0), (decide (b 1 < classCount (b 0)), 1), (decide (1 ≤ b 3 ∧ b 3 ≤ 4), 3)]
  | 0x0902 => bad [(decide (b 0 ≤ 3), 0)]
  | 0x0A01 => bad [(decide (b 0 ≤ 7), 0),
      (if bit (b 1) 0 then leAt v 2 2 == 0 else decide (1 ≤ leAt v 2 2 ∧ leAt v 2 2 ≤ 1000), 2)]
  | 0x0B02 => bad [(decide (c.meshSelf.all (fun m => m.1 ≠ b 0)), 0), (decide (b 1 ≤ 4), 1), (leAt v 8 8 != 0, 8)]
  | 0x0B03 => bad [(decide (2 ≤ b 1 ∧ b 1 ≤ (holderList v).length), 1), (decide (2 ≤ (holderList v).length), 4)]
  | 0x0C01 => bad [(decide (1 ≤ b 0 ∧ b 0 ≤ 15), 0), (decide (1 ≤ leAt v 4 2 ∧ leAt v 4 2 ≤ 1536), 4),
      (decide (1 ≤ leAt v 6 2 ∧ leAt v 6 2 ≤ 256), 6)]
  | _ => none

/-- Add a record to the structure read so far. -/
def addRecord (c : Carcass) (tag : Nat) (v : List Byte) : Carcass :=
  let b := byteAt v
  match tag with
  | 0x0101 => { c with siteId := slice v 0 16, siteAlg := leAt v 16 2, periodMin := leAt v 18 2, siteRoot := digestOf (slice v 24 32) }
  | 0x0201 => { c with cabinets := c.cabinets ++ [{ cab := b 0, flags := leAt v 2 2, name := slice v 4 12 }] }
  | 0x0301 => { c with quorums := c.quorums ++ [{ cab := b 0, m := b 1, n := b 2 }] }
  | 0x0302 => { c with officers := c.officers ++ [{ cab := b 0, index := b 1, alg := leAt v 2 2, rights := leAt v 4 4, digest := digestOf (slice v 8 32), label := slice v 40 16 }] }
  | 0x0401 => { c with fns := c.fns ++ [{ fn := leAt v 0 2, cab := b 2, flags := b 3, sqs := b 4, cqs := b 5 }] }
  | 0x0501 => { c with windows := c.windows ++ [{ first := leAt v 0 4, count := leAt v 4 4, cab := b 8, rights := b 9, fn := leAt v 10 2 }] }
  | 0x0601 => { c with slots := c.slots ++ [{ first := leAt v 0 2, count := leAt v 2 2, cab := b 4, ephemeral := leAt v 6 2 }] }
  | 0x0701 => { c with lanes := c.lanes ++ [{ lane := b 0, cab := b 1, flags := leAt v 2 2, pulseConst := leAt v 4 2, identity := slice v 8 16 }] }
  | 0x0801 => { c with owned := c.owned ++ [(b 0, b 1)] }
  | 0x0901 => { c with lots := c.lots ++ [{ cls := b 0, tile := b 1, cab := b 2, lots := b 3 }] }
  | 0x0902 => { c with shares := c.shares ++ [{ cls := b 0, cab := b 1, timely := leAt v 4 4, bulk := leAt v 8 4 }] }
  | 0x0A01 => { c with tamper := c.tamper ++ [{ input := b 0, unused := bit (b 1) 0, ms := leAt v 2 2 }] }
  | 0x0A02 => { c with boardCover := bit (b 0) 0 }
  | 0x0B01 => { c with meshSelf := some (b 0, bit (b 1) 0) }
  | 0x0B02 => { c with members := c.members ++ [{ member := b 0, path := b 1, eligible := bit (b 2) 0, serial := leAt v 8 8, digest := digestOf (slice v 16 32) }] }
  | 0x0B03 => { c with custody := c.custody ++ [{ cab := b 0, t := b 1, holders := holderList v }] }
  | 0x0C01 => { c with applets := c.applets ++ [{ world := b 0, cab := b 1, pages := leAt v 4 2, share := leAt v 6 2, digest := digestOf (slice v 16 32) }] }
  | _ => c

/-- Walk the records of one section (R90, R91, R96 steps 9 to 12). -/
def walkRecords (bs : List Byte) (type stop : Nat) :
    Nat → Nat → Nat → Nat → Carcass → List Raw → Except Bad (Carcass × List Raw)
  | 0, off, _, _, _, _ => .error (0x0A, off)
  | fuel + 1, off, prevTag, prevKey, c, acc =>
    if off = stop then .ok (c, acc)
    else
      let tag := leAt bs off 2
      let len := leAt bs (off + 2) 2
      let v := slice bs (off + 4) len
      let size := roundUp (4 + len) 8
      let key := recKey tag v
      match tagLen tag with
      | none => .error (0x0A, off)
      | some want =>
        if tag / 256 ≠ type then .error (0x0A, off)
        else if len ≠ want then .error (0x0A, off + 2)
        else if tag < prevTag ∨ (tag = prevTag ∧ key < prevKey) then .error (0x0A, off)
        else if stop < off + size then .error (0x0A, off)
        else
          match (zeroRange bs (off + 4 + len) (size - 4 - len)).or ((recReserved tag v).map (off + 4 + ·)) with
          | some o => .error (0x0B, o)
          | none =>
            match recRange c tag v with
            | some o => .error (0x0C, off + 4 + o)
            | none => walkRecords bs type stop fuel (off + size) tag key (addRecord c tag v) (acc ++ [{ off := off, tag := tag, val := v }])

/-- One directory entry: offset in the image of the entry, type, section offset, length, record count. -/
structure DirEntry where
  at_ : Nat
  type : Nat
  off : Nat
  len : Nat
  count : Nat

/-- The directory (R88). -/
def directory (bs : List Byte) : List DirEntry :=
  (List.range (leAt bs 28 4)).map (fun i =>
    let a := 128 + 16 * i
    { at_ := a, type := leAt bs a 2, off := leAt bs (a + 4) 4, len := leAt bs (a + 8) 4, count := leAt bs (a + 12) 4 })

/-- Directory checks in entry order, with the type before and the offset expected (R82, R88, R89). -/
def checkDir (bs : List Byte) : List DirEntry → Nat → Nat → Option Bad
  | [], _, _ => none
  | e :: l, prev, next =>
    if ¬ (1 ≤ e.type ∧ e.type ≤ 12) ∨ e.type ≤ prev then some (0x09, e.at_)
    else if e.off ≠ next then some (0x09, e.at_ + 4)
    else if e.len % 8 ≠ 0 ∨ e.len < 8 then some (0x09, e.at_ + 8)
    else match zeroRange bs (e.at_ + 2) 2 with
      | some o => some (0x0B, o)
      | none => checkDir bs l e.type (next + e.len)

/-- A required section that is missing: the offset at which its entry would stand. -/
def missingSection (ds : List DirEntry) : Option Bad :=
  match [1, 2, 3, 4, 5].find? (fun t => !ds.any (fun e => e.type == t)) with
  | none => none
  | some t => some (0x09, ((ds.find? (fun e => decide (t < e.type))).map (·.at_)).getD (128 + 16 * ds.length))

/-- Walk every section; after a section its record count (R96). -/
def walkSections (bs : List Byte) : List DirEntry → Carcass → List Raw → Except Bad (Carcass × List Raw)
  | [], c, acc => .ok (c, acc)
  | e :: l, c, acc =>
    match walkRecords bs e.type (e.off + e.len) (e.len / 8 + 1) e.off 0 0 c [] with
    | .error b => .error b
    | .ok (c, rs) => if rs.length ≠ e.count then .error (0x09, e.at_ + 12) else walkSections bs l c (acc ++ rs)

/-! ### Steps 13 to 15 -/

/-- The lowest offset among the records that satisfy `p`, given with the records before them. -/
def lowestBad (p : List Raw → Raw → Bool) : List Raw → List Raw → Option Nat
  | _, [] => none
  | before, r :: l => if p before r then some r.off else lowestBad p (before ++ [r]) l

/-- The cabinet a record names by its cabinet field (R128). -/
def recCab (r : Raw) : Option Nat :=
  match r.tag with
  | 0x0201 => some (byteAt r.val 0) | 0x0301 => some (byteAt r.val 0) | 0x0302 => some (byteAt r.val 0)
  | 0x0401 => some (byteAt r.val 2) | 0x0501 => some (byteAt r.val 8) | 0x0601 => some (byteAt r.val 4)
  | 0x0701 => some (byteAt r.val 1) | 0x0801 => some (byteAt r.val 1) | 0x0901 => some (byteAt r.val 2)
  | 0x0902 => some (byteAt r.val 1) | 0x0B03 => some (byteAt r.val 0) | 0x0C01 => some (byteAt r.val 1)
  | _ => none

/-- Do two ranges of numbers meet? -/
def rangesMeet (a n b m : Nat) : Bool := decide (a < b + m ∧ b < a + n)

/-- Step 13 (R96): references and overlaps; `before` are the records of lower offset. -/
def conflictAt (c : Carcass) (before : List Raw) (r : Raw) : Bool :=
  let v := r.val
  let b := byteAt v
  let twin := before.any (fun q => q.tag == r.tag && recKey q.tag q.val == recKey r.tag v)
  let cabGone := (recCab r).any (fun k => (cabFlags c k).isNone)
  twin || cabGone ||
  (match r.tag with
  | 0x0201 =>
    -- one QUORUM per cabinet; CUSTODY exactly with MESH_BACKUP; cabinet 0 present
    !c.quorums.any (fun q => q.cab == b 0) || (bit (b 2) 2 && !c.custody.any (fun u => u.cab == b 0))
      || (!before.any (fun q => q.tag == 0x0201) && b 0 != 0)
  | 0x0301 => ((c.officers.filter (fun o => o.cab == b 0)).length != b 2)
  | 0x0401 => !before.any (fun q => q.tag == 0x0401) && leAt v 0 2 != 0
  | 0x0501 => before.any (fun q => q.tag == 0x0501 && rangesMeet (leAt q.val 0 4) (leAt q.val 4 4) (leAt v 0 4) (leAt v 4 4))
      || (leAt v 10 2 != 0xFFFF && !c.fns.any (fun f => f.fn == leAt v 10 2 && f.cab == b 8))
  | 0x0601 => before.any (fun q => q.tag == 0x0601 &&
      (rangesMeet (leAt q.val 0 2) (leAt q.val 2 2) (leAt v 0 2) (leAt v 2 2) || byteAt q.val 4 == b 4))
  | 0x0701 => (cabFlags c (b 1)).any (fun f => !bit f 0)
  | 0x0901 => b 0 == 0 && c.owned.any (fun o => o.1 == b 1)
  | 0x0B02 => (before.any (fun q => q.tag == 0x0B02 && byteAt q.val 1 == b 1 && b 1 != 4)) || c.meshSelf.isNone
  | 0x0B03 => (cabFlags c (b 0)).any (fun f => !bit f 2)
      || (holderList v).any (fun h => !(c.meshSelf.any (fun m => m.1 == h) || c.members.any (fun m => m.member == h)))
  | _ => false)

/-- Pooled tiles of a class under a structure. -/
def pooledCount (c : Carcass) (cls : Nat) : Nat := if cls = 0 then 24 - c.owned.length else classCount cls

/-- Cycles a record counts toward its class (R108). -/
def recCycles (cls : Nat) (r : Raw) : Nat :=
  if byteAt r.val 0 ≠ cls then 0
  else if r.tag = 0x0901 then byteAt r.val 3 * 3072
  else if r.tag = 0x0902 then leAt r.val 4 4 + leAt r.val 8 4 else 0

/-- A running sum first passes its limit at this record. -/
def sumBreaks (w : Raw → Nat) (limit : Nat) (before : List Raw) (r : Raw) : Bool :=
  decide ((before.map w).sum ≤ limit) && decide (limit < (before.map w).sum + w r)

/-- Step 14 (R96, R108, R106, R113). -/
def capacityAt (c : Carcass) (before : List Raw) (r : Raw) : Bool :=
  match r.tag with
  | 0x0801 => decide (16 ≤ (before.filter (fun q => q.tag == 0x0801)).length)
  | 0x0901 =>
    sumBreaks (fun q => if q.tag = 0x0901 ∧ byteAt q.val 0 = byteAt r.val 0 ∧ byteAt q.val 1 = byteAt r.val 1 then byteAt q.val 3 else 0) 4 before r
      || sumBreaks (recCycles (byteAt r.val 0)) (20480 * pooledCount c (byteAt r.val 0)) before r
  | 0x0902 => sumBreaks (recCycles (byteAt r.val 0)) (20480 * pooledCount c (byteAt r.val 0)) before r
  | 0x0C01 =>
    sumBreaks (fun q => if q.tag = 0x0C01 then leAt q.val 4 2 else 0) 1536 before r
      || sumBreaks (fun q => if q.tag = 0x0C01 then leAt q.val 6 2 else 0) 256 before r
  | _ => false

/-- Officers of a cabinet that hold a right. -/
def holdersOf (c : Carcass) (cab right : Nat) : Nat :=
  (c.officers.filter (fun o => o.cab == cab && bit o.rights right)).length

/-- Step 15 (R102): a right held by some officer is held by fewer than m, or cabinet 0 has fewer than m CARCASS officers. -/
def quorumAt (c : Carcass) (_ : List Raw) (r : Raw) : Bool :=
  r.tag == 0x0301 &&
    ((List.range 8).any (fun k => holdersOf c (byteAt r.val 0) k != 0 && decide (holdersOf c (byteAt r.val 0) k < byteAt r.val 1))
      || (byteAt r.val 0 == 0 && decide (holdersOf c 0 4 < byteAt r.val 1)))

/-! ### The whole check -/

/-- What a check of an image is made against. -/
structure ImageCtx where
  serial : Nat
  /-- vendor root digest of OTP -/
  vendorRoot : Digest
  /-- selectors the life-cycle state permits (R95) -/
  allows1 : Bool
  allows2 : Bool
  /-- site root: algorithm and digest held for this check (R118) -/
  siteRoot : Option (Nat × Digest)
  keeperMortise : Nat

/-- Key and signature lengths of an algorithm (R93). -/
def algLens (alg : Nat) : Nat × Nat := if alg = 1 then (97, 96) else if alg = 2 then (32, 64) else (1952, 3309)

/-- Routine number of a signature check by algorithm code: 1 ECDSA P-384, 2 Ed25519, 3 ML-DSA-65. -/
def sigHolds (alg : Nat) (key msg sig : List Byte) : Bool := Config.standardHolds (0x0100 + alg) [] [key, msg, sig]

/-- Mortise rule (R86, R490): same major part, minor at least. -/
def mortiseRuns (running wanted : Nat) : Bool := running / 65536 == wanted / 65536 && decide (wanted % 65536 ≤ running % 65536)

/-- Step 1 (R96). -/
def formatChecks (bs : List Byte) : List (Bool × Bad) :=
  let sb := leAt bs 36 4
  let cnt := leAt bs 28 4
  let lastEnd := leAt bs (128 + 16 * (cnt - 1) + 4) 4 + leAt bs (128 + 16 * (cnt - 1) + 8) 4
  let alg := leAt bs (sb + 6) 2
  let total := roundUp (sb + 16 + leAt bs (sb + 8) 4 + leAt bs (sb + 12) 4) 8
  [(leAt bs 0 4 == 0x4143474B, (0x01, 0)), (leAt bs 4 2 == 1, (0x01, 4)), (leAt bs 6 2 == 128, (0x01, 6)),
   (leAt bs 24 4 == bs.length && leAt bs 24 4 == total && decide (256 ≤ bs.length ∧ bs.length ≤ 1048576), (0x01, 24)),
   (leAt bs 32 4 == 128, (0x01, 32)), (sb == lastEnd, (0x01, 36)), (sb % 8 == 0, (0x01, 36)),
   (decide (5 ≤ cnt ∧ cnt ≤ 12), (0x01, 28)), (leAt bs sb 4 == 0x4253474B, (0x01, sb)),
   (decide (1 ≤ leAt bs (sb + 4) 2 ∧ leAt bs (sb + 4) 2 ≤ 2), (0x01, sb + 4)), (decide (1 ≤ alg ∧ alg ≤ 3), (0x01, sb + 6)),
   (leAt bs (sb + 8) 4 == (algLens alg).1, (0x01, sb + 8)), (leAt bs (sb + 12) 4 == (algLens alg).2, (0x01, sb + 12))]

/-- Root digest and algorithm an image is signed under. -/
def imageRoot (bs : List Byte) : Nat × Digest :=
  let sb := leAt bs 36 4
  (leAt bs (sb + 6) 2, Config.sha3 (slice bs (sb + 16) (leAt bs (sb + 8) 4)))

/-- Steps 2 to 8 (R96). -/
def identityChecks (x : ImageCtx) (bs : List Byte) : List (Bool × Bad) :=
  let sb := leAt bs 36 4
  let sel := leAt bs (sb + 4) 2
  let alg := leAt bs (sb + 6) 2
  let kl := leAt bs (sb + 8) 4
  let key := slice bs (sb + 16) kl
  let root := if sel = 1 then some x.vendorRoot else x.siteRoot.map (·.2)
  [(leAt bs 16 8 == x.serial && leAt bs 16 8 != 0, (0x02, 16)),
   (decide (Config.sha3 (slice bs 128 (sb - 128)) = digestOf (slice bs 72 32)), (0x03, 72)),
   (if sel = 1 then x.allows1 else x.allows2 && x.siteRoot.isSome, (0x04, sb + 4)),
   (if sel = 1 then alg == 3 else (x.siteRoot.map (·.1)) == some alg, (0x04, sb + 6)),
   (decide (some (Config.sha3 key) = root), (0x05, sb + 16)),
   (sigHolds alg key (slice bs 0 (sb + 16 + kl)) (slice bs (sb + 16 + kl) (leAt bs (sb + 12) 4)), (0x06, sb + 16 + kl)),
   (leAt bs 8 8 != 0, (0x07, 8)),
   (mortiseRuns x.keeperMortise (leAt bs 40 4), (0x08, 40))]

/-- The structure an image describes, with the checks of steps 9 to 15 (R96). -/
def imageRecords (bs : List Byte) : Except Bad Carcass :=
  let sb := leAt bs 36 4
  let ds := directory bs
  let start : Carcass := { seq := leAt bs 8 8, serial := leAt bs 16 8, mortise := leAt bs 40 4 }
  let pad := sb + 16 + leAt bs (sb + 8) 4 + leAt bs (sb + 12) 4
  match (zeroRange bs 44 4).or (zeroRange bs 104 24) with
  | some o => .error (0x0B, o)
  | none =>
    match (match checkDir bs ds 0 (128 + 16 * ds.length) with | some b => some b | none => missingSection ds) with
    | some b => .error b
    | none =>
      match walkSections bs ds start [] with
      | .error b => .error b
      | .ok (c, rs) =>
        match zeroRange bs pad (bs.length - pad) with
        | some o => .error (0x0B, o)
        | none =>
          match lowestBad (conflictAt c) [] rs with
          | some o => .error (0x0D, o)
          | none =>
            match lowestBad (capacityAt c) [] rs with
            | some o => .error (0x0E, o)
            | none =>
              match lowestBad (quorumAt c) [] rs with
              | some o => .error (0x0F, o)
              | none => .ok c

/-- The validation order of R96, whole. -/
def checkImage (x : ImageCtx) (bs : List Byte) : Except Bad Carcass :=
  match firstBad (formatChecks bs ++ identityChecks x bs) with
  | some b => .error b
  | none => imageRecords bs

/-- The bytes of a flash copy: the total length of its header (R114). -/
def copyBytes (flash : List Byte) : List Byte := flash.take (leAt flash 24 4)

/-- SHA3-256 of the whole image (R116). -/
def imageDigest (bs : List Byte) : Digest := Config.sha3 bs

/-- Sample threshold of a discrepancy time (R109). -/
def sampleThreshold (ms : Nat) : Nat := ceilDiv (ms * 32768) 1000

/-- The bare carcass (R125), with cabinet 0's roster and the tamper records of the site record. -/
def bareCarcass (site : Option SiteRecord) : Carcass :=
  { bare := true, cabinets := [{ cab := 0, flags := 0 }],
    quorums := (site.map (fun r => [r.quorum])).getD [], officers := (site.map (·.officers)).getD [],
    fns := [{ fn := 0, cab := 0, flags := 3, sqs := 16, cqs := 16 }],
    windows := [{ first := 0, count := 512, cab := 0, rights := 3, fn := 0 }],
    tamper := (site.map (·.tamper)).getD [], boardCover := (site.map (·.boardCover)).getD false }

/-- Cabinet c exists in a structure. -/
def hasCab (c : Carcass) (cab : Nat) : Bool := (cabFlags c cab).isSome

/-- Do two structures say the same of a cabinet, by every record but LOTS and SHARES (R128)? -/
def cabSame (a b : Carcass) (cab : Nat) : Bool :=
  decide (a.cabinets.filter (·.cab == cab) = b.cabinets.filter (·.cab == cab))
    && decide (a.quorums.filter (·.cab == cab) = b.quorums.filter (·.cab == cab))
    && decide (a.officers.filter (·.cab == cab) = b.officers.filter (·.cab == cab))
    && decide (a.fns.filter (·.cab == cab) = b.fns.filter (·.cab == cab))
    && decide (a.windows.filter (·.cab == cab) = b.windows.filter (·.cab == cab))
    && decide (a.slots.filter (·.cab == cab) = b.slots.filter (·.cab == cab))
    && decide (a.lanes.filter (·.cab == cab) = b.lanes.filter (·.cab == cab))
    && decide (a.owned.filter (·.2 == cab) = b.owned.filter (·.2 == cab))
    && decide (a.custody.filter (·.cab == cab) = b.custody.filter (·.cab == cab))
    && decide (a.applets.filter (·.cab == cab) = b.applets.filter (·.cab == cab))

/-- The affected cabinets of a change other than 0 (R128). -/
def affected (old new : Carcass) : List Nat :=
  (List.range 64).filter (fun k => k != 0 && !cabSame old new k)

end Sys2Proof.Machine
end

