-- ==== Sys2Proof/Machine/Keys.lean ====
section
/-! DEFINITION. Keys (spec/09_cabinets_keys.md R203 to R223): handles and their resolution, types and policies, placing and
removing keys, the two-bank key store, storage keys and the key commands. -/

namespace Sys2Proof.Machine

/-! ### Handles and types (R203 to R207) -/

/-- Cabinet, class, slot and generation fields of a key handle. -/
def hCab (h : Nat) : Nat := bits h 31 26
def hClass (h : Nat) : Nat := bits h 25 24
def hSlot (h : Nat) : Nat := bits h 12 0
def hGen (h : Nat) : Nat := bits h 23 13

/-- Build a handle (R203). -/
def mkHandle (cab cls slot gen : Nat) : Nat := cab * 2 ^ 26 + cls * 2 ^ 24 + gen * 2 ^ 13 + slot

/-- Usage policy bits (R207). -/
def polEncrypt : Nat := 0
def polDecrypt : Nat := 1
def polSign : Nat := 2
def polVerify : Nat := 3
def polMac : Nat := 4
def polAgree : Nat := 5
def polEncaps : Nat := 6
def polDerive : Nat := 7
def polWrap : Nat := 8
def polUnwrap : Nat := 9
def polSeal : Nat := 10
def polTime : Nat := 11
def polHe : Nat := 12
def polExportable : Nat := 13
def polReveal : Nat := 14
def polCtxClear : Nat := 15

/-- A policy with the given bits. -/
def polMask (l : List Nat) : Nat := (l.map (2 ^ ·)).sum

/-- Policy bits a key type allows (R205). -/
def allowedPolicy (t : Nat) : Nat :=
  if t = 0x03 then polMask [0, 1, 4, 8, 9, 15, 13]
  else if t = 0x01 ∨ t = 0x02 then polMask [0, 1, 4, 15, 13]
  else if 0x04 ≤ t ∧ t ≤ 0x06 then polMask [0, 1, 15, 13]
  else if t = 0x07 then polMask [4, 7, 14, 13]
  else if t = 0x10 then polMask [2, 1, 10, 13]
  else if t = 0x11 then polMask [3, 0]
  else if 0x20 ≤ t ∧ t ≤ 0x24 then polMask [2, 5, 10, 14, 13]
  else if t = 0x29 then polMask [3, 5, 11]
  else if 0x28 ≤ t ∧ t ≤ 0x2C then polMask [3, 5]
  else if t = 0x30 ∨ t = 0x31 then polMask [2, 10, 13]
  else if t = 0x32 ∨ t = 0x33 then polMask [5, 14, 13]
  else if t = 0x38 then polMask [3, 11]
  else if t = 0x39 then polMask [3]
  else if t = 0x3A ∨ t = 0x3B then polMask [5]
  else if t = 0x40 then polMask [5, 14, 13]
  else if t = 0x41 ∨ t = 0x42 then polMask [5, 9, 14, 13]
  else if t = 0x48 then polMask [6]
  else if t = 0x49 ∨ t = 0x4A then polMask [6, 8]
  else if 0x50 ≤ t ∧ t ≤ 0x52 then polMask [2, 10, 13]
  else if t = 0x59 then polMask [3, 11]
  else if t = 0x58 ∨ t = 0x5A then polMask [3]
  else if t = 0x60 then polMask [12]
  else 0

/-- Is a type in the table of R205? -/
def typeKnown (t : Nat) : Bool :=
  decide ((0x01 ≤ t ∧ t ≤ 0x07) ∨ t = 0x10 ∨ t = 0x11 ∨ (0x20 ≤ t ∧ t ≤ 0x24) ∨ (0x28 ≤ t ∧ t ≤ 0x2C) ∨ (0x30 ≤ t ∧ t ≤ 0x33)
    ∨ (0x38 ≤ t ∧ t ≤ 0x3B) ∨ (0x40 ≤ t ∧ t ≤ 0x42) ∨ (0x48 ≤ t ∧ t ≤ 0x4A) ∨ (0x50 ≤ t ∧ t ≤ 0x52) ∨ (0x58 ≤ t ∧ t ≤ 0x5A) ∨ t = 0x60)

/-- Is a type a public one? -/
def typePublic (t : Nat) : Bool :=
  decide (t = 0x11 ∨ (0x28 ≤ t ∧ t ≤ 0x2C) ∨ (0x38 ≤ t ∧ t ≤ 0x3B) ∨ (0x48 ≤ t ∧ t ≤ 0x4A) ∨ (0x58 ≤ t ∧ t ≤ 0x5A))

/-- Field length of an elliptic curve by curve index 0 P-256, 1 P-384, 2 P-521, 3 and 4 brainpool. -/
def curveLen (c : Nat) : Nat := if c = 0 ∨ c = 3 then 32 else if c = 2 then 66 else 48

/-- Material bytes of a type (R205); `n` is the RSA modulus in bits or the bytes of a generic secret. -/
def materialLen (t n : Nat) : Nat :=
  match t with
  | 0x01 => 16 | 0x02 => 24 | 0x03 => 32 | 0x04 => 32 | 0x05 => 64 | 0x06 => 32 | 0x07 => n
  | 0x10 => 7 * n / 16 + 8 | 0x11 => n / 8 + 8
  | 0x20 => 96 | 0x21 => 144 | 0x22 => 198 | 0x23 => 96 | 0x24 => 144
  | 0x28 => 64 | 0x29 => 96 | 0x2A => 132 | 0x2B => 64 | 0x2C => 96
  | 0x30 => 64 | 0x31 => 114 | 0x32 => 64 | 0x33 => 112 | 0x38 => 32 | 0x39 => 57 | 0x3A => 32 | 0x3B => 56
  | 0x40 => 96 | 0x41 => 96 | 0x42 => 96 | 0x48 => 800 | 0x49 => 1184 | 0x4A => 1568
  | 0x50 => 96 | 0x51 => 96 | 0x52 => 96 | 0x58 => 1312 | 0x59 => 1952 | 0x5A => 2592
  | 0x60 => 36
  | _ => 0

/-- Slots a key of a type occupies (R205). -/
def spanOf (t n : Nat) : Nat := max 1 (ceilDiv (materialLen t n) 432)

/-- RSA modulus bits of a private or public key's material length. -/
def rsaBits (k : KeyRec) : Nat := if k.type = 0x10 then (k.length - 8) * 16 / 7 else (k.length - 8) * 8

/-- The slot range of a cabinet (R105): first and count. -/
def rangeOf (s : State) (cab : Nat) : Nat × Nat :=
  ((s.car.active.slots.find? (fun r => r.cab == cab)).map (fun r => (r.first, r.count))).getD (0, 0)

/-- Current generation of a slot (R214). -/
def slotGen (s : State) (slot : Nat) : Nat := Tab.getD s.key.gens slot 0

/-- The key a handle names, where it resolves (R204): its first slot holds it, and no slot of its span has been emptied (R213)
(DEDUCED, log 33). -/
def keyOf? (s : State) (h : Nat) : Option KeySlot :=
  match Tab.get? s.key.slots (hSlot h) with
  | none => none
  | some k => if k.attr.handle = h ∧ k.gaps = [] then some k else none

/-- The start of a slice: the bank loads the key from its slot into its key registers, and a saved job's state from its drawer (R73,
R232, R263, R265). -/
def loadBank (s : State) (x : Job) : Job :=
  if x.plane = 0 ∧ x.finished = false ∧ x.st = .running ∧ x.plan.any (fun b => b.transit == s.time.L && b.cycles != 0) then
    { x with bank := {
        keys := [x.desc.handleA, x.desc.handleB].filterMap (fun h => (keyOf? s h).map (·.material))
        work := if x.bank.work = [] then x.drawer else x.bank.work } }
  else x

/-- The slices of the transit that begins load their banks. -/
def loadBanks (s : State) : State := { s with job := { s.job with jobs := Tab.mapAll s.job.jobs (fun _ x => loadBank s x) } }

/-- Has a KEY_DESTROY of a handle reached its quorum (R222 step 1)? -/
def destroyed (s : State) (h : Nat) : Bool :=
  (liveJobs s).any (fun e => e.2.result.any (fun r => r.effects.contains (.destroyKey h)))

/-- Step 6 of R204 for a handle field at descriptor offset `w0`. -/
def handleOwner (s : State) (cab h w0 : Nat) : Option (Nat × Nat × Nat) :=
  let r := rangeOf s cab
  if hCab h ≠ cab ∨ ¬ (r.1 ≤ hSlot h ∧ hSlot h < r.1 + r.2) then some (0x3001, w0, 0) else none

/-- Step 7 of R204: the handle resolves, to a key that is not being destroyed, and the key's policy holds the bit. -/
def handlePolicy (s : State) (h w0 : Nat) (need : Option Nat) : Option (Nat × Nat × Nat) :=
  match (keyOf? s h).filter (fun _ => !destroyed s h) with
  | none => some (0x5022, 0, 0)
  | some k =>
    match need with
    | none => none
    | some b => if bit k.attr.policy b then none else some (0x3002, w0, 0)

/-- Step 7 for a key that must also be of a kind the opcode takes: KEY_INVALID comes before the policy (R204) (DEDUCED, log 18). -/
def handleServes (s : State) (h w0 : Nat) (ok : Bool) (need : Option Nat) : Option (Nat × Nat × Nat) :=
  match handlePolicy s h w0 none with
  | some e => some e
  | none => if ok then handlePolicy s h w0 need else some (0x5022, 0, 0)

/-- Does a cabinet have a flag (R99)? -/
def cabHas (s : State) (cab b : Nat) : Bool := (cabFlags s.car.active cab).any (fun f => bit f b)

/-- The policy rules of a creation request (R208). -/
def policyOk (s : State) (cab t policy : Nat) (persistentPublic : Bool) : Bool :=
  decide (policy < 2 ^ 16)
    && (List.range 16).all (fun b => !bit policy b || bit (allowedPolicy t) b)
    && (!bit policy polSeal || cabHas s cab 0)
    && (!bit policy polHe || cabHas s cab 1)
    && (!bit policy polExportable || cabHas s cab 3)
    && (!bit policy polTime || (persistentPublic && cab == 0))

/-- The policy rules of an ephemeral result (R209): a generic secret with MAC and DERIVE, and REVEAL_DERIVED only from a
parent that holds it. -/
def derivedPolicyOk (parent policy : Nat) : Bool :=
  (List.range 32).all (fun b => !bit policy b || b == polMac || b == polDerive || (b == polReveal && bit parent polReveal))

/-! ### Placing and removing keys (R205, R206, R214) -/

/-- Keys that jobs past their final check are about to place: slot and record. -/
def pendingKeys (s : State) : List (Nat × KeyRec) :=
  (liveJobs s).flatMap (fun e => match e.2.result with
    | some r => r.effects.filterMap (fun f => match f with
      | .putKey slot k _ => some (slot, k)
      | _ => none)
    | none => [])

/-- The slots a key at `first` holds: its span from its first part on, without its gaps. -/
def heldSlots (first : Nat) (k : KeySlot) : List Nat :=
  ((List.range k.attr.span).map (· + (first - k.attr.part))).filter (fun n => !k.gaps.contains n)

/-- Is a slot covered by some key, or about to be? -/
def slotTaken (s : State) (slot : Nat) : Bool :=
  s.key.slots.any (fun e => (heldSlots e.1 e.2).contains slot)
    || (pendingKeys s).any (fun e => decide (e.1 ≤ slot ∧ slot < e.1 + e.2.span))

/-- The lowest free span of a cabinet's range that lies within one group (R205). -/
def freeSpan (s : State) (cab span : Nat) : Option Nat :=
  let r := rangeOf s cab
  ((List.range r.2).map (· + r.1)).find? (fun a =>
    decide (a + span ≤ r.1 + r.2 ∧ a / 16 = (a + span - 1) / 16) && (List.range span).all (fun i => !slotTaken s (a + i)))

/-- Slots of class 2 a cabinet holds. -/
def ephemeralHeld (s : State) (cab : Nat) : Nat :=
  ((s.key.slots.filter (fun e => hCab e.2.attr.handle == cab && hClass e.2.attr.handle == 2)).map (·.2.attr.span)).sum

/-- Slots of class 2 a cabinet holds or is about to. -/
def ephemeralUsed (s : State) (cab : Nat) : Nat :=
  ephemeralHeld s cab
    + (((pendingKeys s).filter (fun e => hCab e.2.handle == cab && hClass e.2.handle == 2)).map (·.2.span)).sum

/-- Is there room under the cabinet's ephemeral limit (R206)? -/
def ephemeralRoom (s : State) (cab span : Nat) : Bool :=
  decide (ephemeralUsed s cab + span ≤ ((s.car.active.slots.find? (fun r => r.cab == cab)).map (·.ephemeral)).getD 0)

/-- The next generation (R203). -/
def nextGen (g : Nat) : Nat := if g < 2046 then g + 1 else 0

/-- Slots stop holding a key: their generations advance (R214). -/
def advanceGens (slots : List Nat) (s : State) : State :=
  { s with key := { s.key with gens := slots.foldl (fun t n => Tab.put t n (nextGen (Tab.getD t n 0))) s.key.gens } }

/-- Remove a key from internal SRAM; its slots advance. -/
def removeKey (slot : Nat) (s : State) : State :=
  match Tab.get? s.key.slots slot with
  | none => s
  | some k => advanceGens (heldSlots slot k) { s with key := { s.key with slots := Tab.del s.key.slots slot } }

/-- Is a key held in the key store? -/
def persistent (k : KeyRec) : Bool := bit k.flags 0

/-! ### The key store (R210 to R212) -/

/-- A group of the key store. -/
def groupOf (s : State) (g : Nat) : TwoBank (List BankEntry) := Tab.getD s.key.groups g {}

/-- Change a group. -/
def modGroup (g : Nat) (f : TwoBank (List BankEntry) → TwoBank (List BankEntry)) (s : State) : State :=
  { s with key := { s.key with groups := Tab.modify s.key.groups g {} f } }

/-- The entries in force of a group. -/
def activeEntries (s : State) (g : Nat) : List BankEntry := (groupOf s g).value.getD []

/-- External flash address of a bank (R212). -/
def bankAddr (g k : Nat) : Nat := 0x400000 + g * 0x4000 + k * 0x2000

/-- The attribute record as 32 bytes. -/
def attrBytes (k : KeyRec) : List Byte :=
  leBytes 4 k.handle ++ leBytes 2 k.type ++ leBytes 1 k.span ++ leBytes 1 k.part ++ leBytes 4 k.policy ++ leBytes 2 k.length
    ++ leBytes 1 k.flags ++ [0] ++ leBytes 8 k.createdL ++ leBytes 4 k.cskGen ++ zeros 4

/-- AES-256-GCM under a key: ciphertext of the length, and 16 tag bytes. -/
def gcmSeal (key nonce aad plain : List Byte) : List Byte :=
  standardBytes 0x1003 [256] [key, nonce, aad, plain] plain.length ++ standardBytes 0x11003 [256] [key, nonce, aad, plain] 16
/-- Does a GCM message open? -/
def gcmOpens (key nonce aad sealed : List Byte) : Bool := Config.standardHolds 0x1004 [256] [key, nonce, aad, sealed]
/-- The plaintext of a GCM message. -/
def gcmPlain (key nonce aad sealed : List Byte) : List Byte := standardBytes 0x1004 [256] [key, nonce, aad, sealed] (sealed.length - 16)

/-- The 496 bytes of an entry (R212): attribute record, nonce, the sealed part of the material with its tag, 4 reserved bytes. -/
def keyEntryBytes (e : BankEntry) : List Byte :=
  attrBytes e.attr ++ e.nonce
    ++ gcmSeal e.under e.nonce (attrBytes e.attr ++ leBytes 2 e.slot ++ leBytes 4 e.attr.cskGen) e.text ++ zeros 4

/-- Bytes 0 to 7,951 of a bank (R212): 16 entries, the sequence, the group number. -/
def bankBody (g : Nat) (b : RecBank (List BankEntry)) : List Byte :=
  (List.range 16).flatMap (fun i => ((b.body.find? (fun e => e.slot == 16 * g + i)).map keyEntryBytes).getD (zeros 496))
    ++ leBytes 8 b.seq ++ leBytes 2 g ++ zeros 6

/-- Bytes 0 to 7,983 of a bank, the check last. -/
def bankBytes (g : Nat) (b : RecBank (List BankEntry)) : List Byte := bankBody g b ++ digestBytes (Config.sha3 (bankBody g b))

/-- The entries of a key at its slots: part i of the material, padded with 0 to 432 bytes, under a storage key, each with its nonce. -/
def keyEntries (slot : Nat) (attr : KeyRec) (material under nonces : List Byte) : List BankEntry :=
  (List.range attr.span).map (fun i =>
    { slot := slot + i, attr := { attr with part := i }, nonce := slice nonces (12 * i) 12, under := under
      text := (slice material (432 * i) 432 ++ zeros 432).take 432 })

/-- The storage key of a cabinet; empty where it holds none. -/
def cskBytes (s : State) (cab : Nat) : List Byte := ((Tab.get? s.key.csk cab).map (·.key)).getD []

/-- The groups of a cabinet's entries in force. -/
def cabinetGroups (s : State) (cab : Nat) : List Nat :=
  (s.key.groups.filter (fun e => (e.2.value.getD []).any (fun b => hCab b.attr.handle == cab))).map (·.1)

/-- The groups a visible change rewrites (R205, R211, R221, R222, R460). -/
def effectGroups (s : State) (e : Effect) : List Nat :=
  match e with
  | .putKey slot attr _ => if persistent attr then [slot / 16] else []
  | .rewriteKey slot _ => [slot / 16]
  | .destroyKey h => [hSlot h / 16]
  | .zeroizeCab cab _ => cabinetGroups s cab
  | _ => []

/-- A group's entries as a visible change leaves them; what it encrypts anew takes nonces of the key-generation consumer (R212). -/
def effectEntries (s : State) (e : Effect) (es : List BankEntry) : List BankEntry :=
  match e with
  | .putKey slot attr material => es ++ keyEntries slot attr material (cskBytes s (hCab attr.handle)) (freeBytes s 192)
  | .rewriteKey slot flags =>
    es.map (fun b => if b.slot - b.attr.part = slot then
      { b with attr := { b.attr with flags := flags }, nonce := slice (freeBytes s 192) (12 * b.attr.part) 12 } else b)
  | .destroyKey h => es.filter (fun b => b.attr.handle != h)
  | .zeroizeCab cab _ => es.filter (fun b => hCab b.attr.handle != cab)
  | _ => es

/-- The groups the visible changes of a result rewrite. -/
def resultGroups (s : State) (r : Result) : List Nat := (r.effects.flatMap (effectGroups s)).eraseDups

/-- Are the new banks of a result written and read back, so that its commit phase may begin (R211)? -/
def prepared (s : State) (j : Nat) (r : Result) : Bool := (resultGroups s r).all (fun g => s.key.preps.contains (j, g))

/-- The banks that live jobs have prepared. -/
def livePreps (s : State) : List (Nat × Nat) := s.key.preps.filter (fun e => (liveJobs s).any (fun y => y.1 == e.1))

/-- Is a group free to be written: no other update of it stands prepared, and no erase of its inactive bank is due? -/
def groupFree (s : State) (g : Nat) : Bool := !(livePreps s).any (fun e => e.2 == g) && !s.key.eraseDue.any (fun e => e.2 == g)

/-- Steps 1 and 2 of R210 for the changes of a job, before its commit phase (R211); they wait while another update of a group stands
(DEDUCED, log 34). -/
def prepareUpdate (j : Nat) (s : State) : State :=
  match (s.jobOf j).bind (·.result) with
  | none => s
  | some r =>
    let gs := resultGroups s r
    if gs.isEmpty || prepared s j r || !gs.all (groupFree s) then s
    else
      let s' := drawFree 192 (forEach gs (fun g t =>
        modGroup g (fun b => b.prepare (r.effects.foldl (fun es e => effectEntries s e es) (activeEntries s g))) t) s)
      { s' with key := { s'.key with preps := livePreps s ++ gs.map (fun g => (j, g)) } }

/-- The pending result of a job that may change the key store: its banks are written at once where they can be. -/
def setKeyResult (j : Nat) (r : Result) (s : State) : State := prepareUpdate j (setResult j r s)

/-- The commit word of a group moves to the bank prepared for a job (R210 step 3), and its old bank is to be erased before the job's
FINAL entry (R211) (DEDUCED, log 34). -/
def commitGroup (j g : Nat) (s : State) : State :=
  let s := modGroup g TwoBank.commit s
  { s with key := { s.key with preps := s.key.preps.filter (fun e => e != (j, g)), eraseDue := s.key.eraseDue ++ [(j, g)] } }

/-- Entries of the bank in force, changed in place: the creation L of a key is that of the commit phase that was placed for it
(DEDUCED, log 34). -/
def stampEntries (g handle L : Nat) (s : State) : State :=
  let stamp := fun (b : RecBank (List BankEntry)) => { b with body := b.body.map (fun e =>
    if e.attr.handle = handle then { e with attr := { e.attr with createdL := L } } else e) }
  modGroup g (fun r => if r.active = some 0 then { r with b0 := r.b0.map stamp } else { r with b1 := r.b1.map stamp }) s

/-- Erase the bank of a group that is not in force (R211). -/
def eraseInactive (g : Nat) (s : State) : State := modGroup g TwoBank.eraseOther s

/-- A group is rewritten with the entries kept, and its old bank erased, at a boundary; an update prepared for it is dropped (R132). -/
def keepEntries (g : Nat) (keep : BankEntry → Bool) (s : State) : State :=
  if (activeEntries s g).all keep then s
  else
    let s := modGroup g (fun b => ((b.prepare ((activeEntries s g).filter keep)).commit).eraseOther) s
    { s with key := { s.key with preps := s.key.preps.filter (fun e => e.2 != g) } }

/-- Place a key in its slots (R205, R211): slot contents in SRAM, and the commit word of its group where it is persistent. -/
def placeKey (j slot : Nat) (rec : KeyRec) (material : List Byte) (s : State) : State :=
  let L := s.time.L
  let s := { s with key := { s.key with slots := Tab.put s.key.slots slot { attr := { rec with createdL := L }, material := material } } }
  if persistent rec then
    raiseEv 0x5010 4 rec.handle rec.type (flag (bit rec.flags 2)) (stampEntries (slot / 16) rec.handle L (commitGroup j (slot / 16) s))
  else s

/-- Change the flags of a persistent key with the commit word of its group (R221). -/
def reflagKey (j slot flags : Nat) (s : State) : State :=
  commitGroup j (slot / 16) { s with key := { s.key with slots := Tab.update s.key.slots slot (fun k => { k with attr := { k.attr with flags := flags } }) } }

/-- A key is destroyed with the commit word of its group (R222 step 3). -/
def dropKey (j h : Nat) (s : State) : State :=
  match keyOf? s h with
  | none => s
  | some k => raiseEv 0x5011 4 h k.attr.type 0 (removeKey (hSlot h) (commitGroup j (hSlot h / 16) s))

/-- Does a descriptor name a key handle, in a field that holds one? Homomorphic handles are numbered on their own (R291). -/
def namesKeyHandle (d : Desc) (h : Nat) : Bool :=
  if 0x4021 ≤ d.opcode ∧ d.opcode ≤ 0x4028 then (d.opcode == 0x4021 || d.opcode == 0x4027) && d.handleB == h
  else d.handleA == h || d.handleB == h

/-- Jobs that name a handle and have not reached their commit phase end WITHDRAWN (R206, R222). -/
def withdrawNaming (h : Nat) (except_ : Nat) (s : State) : State :=
  forEach ((liveJobs s).filter (fun e => e.1 != except_ && namesKeyHandle e.2.desc h && !inCommit e.2))
    (fun e => endJob e.1 0x7001 0 0 0) s

/-- Erase a key from both banks and SRAM (R132). -/
def eraseKey (slot : Nat) (s : State) : State :=
  match Tab.get? s.key.slots slot with
  | none => s
  | some k => keepEntries (slot / 16) (fun e => e.attr.handle != k.attr.handle) (removeKey slot s)

/-! ### Storage keys (R215) -/

/-- Create a cabinet's storage key with the next generation. -/
def createCsk (cab : Nat) (s : State) : State :=
  let gen := Tab.getD s.key.cskLast cab 0 + 1
  drawFree 32 { s with key := { s.key with
    cskBanks := Tab.modify s.key.cskBanks cab {} (fun b => b.store { key := freeBytes s 32, gen := gen })
    cskLast := Tab.put s.key.cskLast cab gen
    vaultEmpty := false } }

/-- Erase a cabinet's storage key; its last generation stays. -/
def eraseCsk (cab : Nat) (s : State) : State := { s with key := { s.key with cskBanks := Tab.del s.key.cskBanks cab } }

/-! ### Commands on keys (R216 to R223) -/

/-- The public encoding of a key's material (Formats under R220); empty for symmetric, generic and homomorphic keys. -/
def publicEncoding (k : KeySlot) : List Byte :=
  let t := k.attr.type
  let m := k.material
  if t = 0x10 then m.take (rsaBits k.attr / 8) ++ m.drop (m.length - 8)
  else if 0x20 ≤ t ∧ t ≤ 0x24 then 4 :: m.drop (curveLen (t - 0x20))
  else if 0x28 ≤ t ∧ t ≤ 0x2C then 4 :: m
  else if 0x30 ≤ t ∧ t ≤ 0x33 then m.drop (m.length / 2)
  else if typePublic t then m
  else if 0x40 ≤ t ∧ t ≤ 0x42 then standardBytes 0x2040 [t] [m] (materialLen (t + 8) 0)
  else if 0x50 ≤ t ∧ t ≤ 0x52 then standardBytes 0x2050 [t] [m] (materialLen (t + 8) 0)
  else []

/-- The material of a public encoding: the point without its leading 0x04, else the bytes. -/
def publicMaterial (t : Nat) (bs : List Byte) : List Byte := if 0x28 ≤ t ∧ t ≤ 0x2C then bs.drop 1 else bs

/-- Length of a public encoding. -/
def publicLen (t n : Nat) : Nat := if 0x28 ≤ t ∧ t ≤ 0x2C then materialLen t n + 1 else materialLen t n

/-- A ferried blob (R216). -/
def ferriedBlob (cab : Nat) (c : Csk) (k : KeyRec) (L : Nat) (nonce material : List Byte) : List Byte :=
  let head := leBytes 4 0x4B46474B ++ leBytes 2 1 ++ leBytes 1 cab ++ [0] ++ leBytes 4 c.gen ++ leBytes 2 k.type ++ leBytes 2 material.length
    ++ leBytes 4 k.policy ++ zeros 4 ++ leBytes 8 L
  head ++ nonce ++ gcmSeal c.key nonce head material

/-- RSA modulus bits or secret bytes named by a creation request. -/
def sizeParam (d : Desc) : Nat := d.par 52 2

/-- Does a type take a size: a modulus in bits, or the bytes of a generic secret (parameter table)? -/
def takesSize (t : Nat) : Bool := t == 0x07 || t == 0x10 || t == 0x11

/-- Bytes 52 and 53 of a creation request: 0 for a type that takes no size. -/
def sizeField (d : Desc) : Nat × Bool := (52, takesSize (d.par 40 2) || sizeParam d == 0)

/-- Is a size one the type has (R205, R267)? -/
def sizeOk (t n : Nat) : Bool :=
  if t = 0x07 then decide (16 ≤ n ∧ n ≤ 256)
  else if t = 0x10 then decide (2048 ≤ n ∧ n ≤ 8192 ∧ n % 128 = 0)
  else if t = 0x11 then decide (1024 ≤ n ∧ n ≤ 8192 ∧ n % 64 = 0)
  else n == 0

/-- Lengths KEY_GENERATE refuses (R219): a public type, another modulus, a secret of another length; W1 is the largest allowed (R172). -/
def generateLength (d : Desc) : Option (Nat × Nat × Nat) :=
  let t := d.par 40 2
  let n := sizeParam d
  if typePublic t then some (0x5001, 40, 0)
  else if t = 0x10 ∧ n ≠ 2048 ∧ n ≠ 3072 ∧ n ≠ 4096 then some (0x5001, 52, 4096)
  else if t = 0x07 ∧ ¬ (16 ≤ n ∧ n ≤ 256) then some (0x5001, 52, 256)
  else none

/-- Bytes 48 to 51 of KEY_GENERATE: the exponent of an RSA key (R219), the parameter set of a homomorphic one, else 0 (DEDUCED, log 18). -/
def generateField (d : Desc) : Bool :=
  let t := d.par 40 2
  let v := d.par 48 4
  if t = 0x10 then v == 0 || (decide (65537 ≤ v) && v % 2 == 1)
  else if t = 0x60 then [0x101, 0x102, 0x103, 0x201, 0x202].contains v else v == 0

/-- The key store is being updated (KEY_STATUS.UPDATE_BUSY). -/
def updateBusy (s : State) : Bool := !(livePreps s).isEmpty || !s.key.eraseDue.isEmpty

/-- A created key: into slots of the cabinet's range, or as a ferried blob (R205, R216, R219). -/
def createKey (j : Nat) (x : Job) (cab cls : Nat) (flags : Nat) (material : List Byte) (s : State) : State :=
  let d := x.desc
  let t := d.par 40 2
  match Tab.get? s.key.csk cab with
  | none => failJob j 0x5022 0 0 0 s
  | some c =>
    let rec_ : KeyRec := {
      handle := 0xFFFFFFFF, type := t, span := max 1 (ceilDiv material.length 432), policy := d.par 44 4,
      length := material.length, flags := flags, cskGen := c.gen }
    if d.par 42 1 = 1 then
      let nonce := freeBytes s 12
      let out := ferriedBlob cab c rec_ s.time.L nonce material
      if d.outCap < out.length then failJob j 0x2014 out.length 0 0 s
      else drawFree 12 (setResult j { status := 0, output := out, w0 := noHandle, w1 := t, w2 := rec_.span } s)
    else
      match freeSpan s cab rec_.span with
      | none => failJob j 0x4001 0 0 0 s
      | some slot =>
        let h := mkHandle cab cls slot (slotGen s slot)
        setKeyResult j { status := 0, w0 := h, w1 := t, w2 := rec_.span,
                         effects := [.putKey slot { rec_ with handle := h, flags := flags + 1 } material] } s

/-- An RSA public key's modulus is odd and `n` bits long, its exponent odd from 3 to 2^32 − 1 (R218, R267). -/
def rsaPublicOk (n : Nat) (enc : List Byte) : Bool :=
  let m := beNat (enc.take (n / 8))
  let e := beNat (enc.drop (n / 8))
  decide (m % 2 = 1 ∧ 2 ^ (n - 1) ≤ m ∧ 3 ≤ e ∧ e % 2 = 1 ∧ e < 2 ^ 32)

/-- Public key checks of the engine chapters (R218): the length of its type, an RSA key's modulus and exponent, the leading byte of a
point, and what its standard asks. -/
def publicValid (t n : Nat) (enc : List Byte) : Bool :=
  sizeOk t n && enc.length == publicLen t n && (t != 0x11 || rsaPublicOk n enc)
    && (!decide (0x28 ≤ t ∧ t ≤ 0x2C) || byteAt enc 0 == 4) && Config.standardHolds 0x7006 [t, n] [enc]

/-- Is imported material consistent (R220): of an RSA key n = p × q and e as R219; the rest is what the standard asks. -/
def materialValid (t n : Nat) (m : List Byte) : Bool :=
  (t != 0x10 || (decide (beNat (m.take (n / 8)) = beNat (slice m (n / 8) (n / 16)) * beNat (slice m (n / 8 + n / 16) (n / 16)))
      && decide (65537 ≤ beNat (m.drop (m.length - 8)) ∧ beNat (m.drop (m.length - 8)) % 2 = 1 ∧ beNat (m.drop (m.length - 8)) < 2 ^ 32)))
    && (t != 0x11 || rsaPublicOk n m)
    && Config.standardHolds 0x17002 [t] [m]

/-- The transfer header and material of an envelope, opened (R220): none where the wrap fails. -/
def openEnvelope (s : State) (x : Job) : Option (List Byte) :=
  match keyOf? s x.desc.handleB with
  | none => none
  | some k =>
    let m := x.desc.par 43 1
    if Config.standardHolds 0x7002 [m, k.attr.type] [k.material, x.input] then
      let n := if m = 1 then x.input.length - 8 else x.input.length - 8 - (if k.attr.type = 0x41 then 1088 else 1568)
      let p := standardBytes 0x7002 [m, k.attr.type] [k.material, x.input] n
      -- KWP pads to a multiple of 8: the plaintext is as long as its own header says
      some (p.take (32 + leAt p 12 2))
    else none

/-- Is a transfer header well formed for a request (R220)? -/
def headerOk (p : List Byte) (t n : Nat) : Bool :=
  sizeOk t n && leAt p 0 4 == 0x4B58474B && leAt p 4 2 == 1 && leAt p 6 2 == t && allZero (slice p 14 2) && allZero (slice p 24 8)
    && leAt p 12 2 == materialLen t n && p.length == 32 + materialLen t n

/-- The material KEY_IMPORT finds in its envelope, or the status and detail it is refused with (R220): these checks need no approval,
so they come before its request opens (R225). -/
def importMaterial (s : State) (x : Job) : Except (Nat × Nat) (List Byte) :=
  let d := x.desc
  let t := d.par 40 2
  let n := sizeParam d
  if d.par 43 1 = 0 then (if publicValid t n x.input then .ok (publicMaterial t x.input) else .error (0x5022, 0))
  else
    match openEnvelope s x with
    | none => .error (0x5023, 0)
    | some p =>
      if !headerOk p t n then .error (0x5023, 0)
      else if !materialValid t n (p.drop 32) then .error (0x5022, 0)
      else if (List.range 32).all (fun b => !bit (d.par 44 4) b || bit (leAt p 8 4) b) then .ok (p.drop 32)
      else .error (0x3002, 44)

/-- KEY_IMPORT after quorum (R220). -/
def runKeyImport (j : Nat) (x : Job) (s : State) : State :=
  match importMaterial s x with
  | .error e => failJob j e.1 e.2 0 0 s
  | .ok m => createKey j x (cabOfFn s x.fn) (if x.desc.par 42 1 = 3 then 3 else 0) 4 m s

/-- Transfer header of an export (R221). -/
def transferHeader (k : KeyRec) (serial : Nat) : List Byte :=
  leBytes 4 0x4B58474B ++ leBytes 2 1 ++ leBytes 2 k.type ++ leBytes 4 k.policy ++ leBytes 2 k.length ++ zeros 2 ++ leBytes 8 serial ++ zeros 8

/-- Output bytes of KEY_EXPORT (R221). -/
def exportLen (method matLen wrapType : Nat) : Nat :=
  8 + ceilDiv (32 + matLen) 8 * 8 + (if method = 2 then (if wrapType = 0x49 then 1088 else 1568) else 0)

/-- KEY_EXPORT after quorum (R221). -/
def runKeyExport (serial j : Nat) (x : Job) (s : State) : State :=
  let d := x.desc
  match keyOf? s d.handleA, keyOf? s d.handleB with
  | some a, some b =>
    let p := transferHeader a.attr serial ++ a.material
    let n := exportLen (d.par 42 1) a.material.length b.attr.type
    let s := raiseEv 0x5012 5 d.handleA d.handleB (d.par 42 1) s
    setKeyResult j { status := 0, output := standardBytes 0x7003 [d.par 42 1, b.attr.type] [b.material, p, freeBytes s 32] n,
                     effects := if persistent a.attr && !bit a.attr.flags 3 then [.rewriteKey (hSlot d.handleA) (a.attr.flags + 8)] else [] } (drawFree 32 s)
  | _, _ => failJob j 0x5022 0 0 0 s

/-- KEY_DESTROY at quorum (R222): the jobs that name the handle are withdrawn and new ones refused; the group is written without it, and
the commit phase of this transit destroys it. -/
def runKeyDestroy (j : Nat) (x : Job) (s : State) : State :=
  match keyOf? s x.desc.handleA with
  | none => failJob j 0x5022 0 0 0 s
  | some _ =>
    setKeyResult j { status := 0, effects := [.destroyKey x.desc.handleA] } (withdrawNaming x.desc.handleA j s)

/-- KEY_BANK_ERASED (R211, R222): the inactive bank is erased; the FINAL entry of its command may follow (DEDUCED, log 34). -/
def keyBankErased (g : Nat) (s : State) : State :=
  if s.key.eraseDue.any (fun e => e.2 == g) then
    eraseInactive g { s with key := { s.key with eraseDue := s.key.eraseDue.filter (fun e => e.2 != g) } }
  else s

/-- Is the header of a ferried blob good under a storage key generation: every field but the cabinet's (R216)? -/
def ferriedHeaderOk (gen : Nat) (b : List Byte) : Bool :=
  leAt b 0 4 == 0x4B46474B && leAt b 4 2 == 1 && leAt b 7 1 == 0 && leAt b 8 4 == gen && typeKnown (leAt b 12 2) && leAt b 20 4 == 0
    && b.length == 60 + leAt b 14 2

/-- What the header of a ferried blob is refused with when it is staged: its cabinet first, then any other field (R216). -/
def ferriedRefusal (s : State) (x : Job) : Option (Nat × Nat × Nat × Nat) :=
  let cab := cabOfFn s x.fn
  if leAt x.input 6 1 ≠ cab then some (0x3001, 16, 6, 0)
  else match Tab.get? s.key.csk cab with
    | none => none
    | some c => if ferriedHeaderOk c.gen x.input then none else some (0x5023, 0, 0, 0)

/-- OPERAND_STAGED as a whole: the header of a ferried blob is checked as it is staged, before any engine cycle (R61, R216). -/
def takeOperands (j : Nat) (input aux extra : List Byte) (s : State) : State :=
  let s := operandStaged j input aux extra s
  match s.jobOf j with
  | none => s
  | some x =>
    if x.desc.opcode = 0x7005 ∧ x.staged ∧ x.finished = false ∧ x.answer = none then
      match ferriedRefusal s x with
      | some a => modJob j (fun y => { y with answer := some a, plan := [] }) s
      | none => s
    else s

/-- KEY_LOAD_FERRIED (R216). -/
def keyLoadFerried (j : Nat) (s : State) : State :=
  match runnable s j 0x7005 with
  | none => s
  | some x =>
    let b := x.input
    let cab := cabOfFn s x.fn
    if leAt b 6 1 ≠ cab then failJob j 0x3001 16 6 0 s
    else
      match Tab.get? s.key.csk cab with
      | none => failJob j 0x5022 0 0 0 s
      | some c =>
        let t := leAt b 12 2
        let n := leAt b 14 2
        if ferriedHeaderOk c.gen b ∧ gcmOpens c.key (slice b 32 12) (b.take 32) (b.drop 44) then
          let span := max 1 (ceilDiv n 432)
          match freeSpan s cab span with
          | none => failJob j 0x4001 0 0 0 s
          | some slot =>
            let h := mkHandle cab 1 slot (slotGen s slot)
            setResult j { status := 0, w0 := h, w1 := t, w2 := span,
                          effects := [.putKey slot { handle := h, type := t, span := span, policy := leAt b 16 4, length := n }
                            (gcmPlain c.key (slice b 32 12) (b.take 32) (b.drop 44))] } s
        else failJob j 0x5023 0 0 0 s

/-- KEY_LOAD_PUBLIC (R218). -/
def keyLoadPublic (j : Nat) (s : State) : State :=
  match runnable s j 0x7006 with
  | none => s
  | some x =>
    let t := x.desc.par 40 2
    let cab := cabOfFn s x.fn
    if !publicValid t (sizeParam x.desc) x.input then failJob j 0x5022 0 0 0 s
    else
      let m := publicMaterial t x.input
      let span := max 1 (ceilDiv m.length 432)
      match freeSpan s cab span with
      | none => failJob j 0x4001 0 0 0 s
      | some slot =>
        let h := mkHandle cab 3 slot (slotGen s slot)
        setResult j { status := 0, w0 := h, w1 := t, w2 := span,
                      effects := [.putKey slot { handle := h, type := t, span := span, policy := x.desc.par 44 4, length := m.length } m] } s

/-- KEY_INFO (R223). -/
def keyInfo (j : Nat) (s : State) : State :=
  match runnable s j 0x7007 with
  | none => s
  | some x =>
    match keyOf? s x.desc.handleA with
    | none => failJob j 0x5022 0 0 0 s
    | some k =>
      let enc := publicEncoding k
      let dig := if enc.isEmpty then zeros 32 else digestBytes (Config.sha3 enc)
      let out := attrBytes k.attr ++ dig ++ (if bit (x.desc.par 40 1) 0 then enc else [])
      if x.desc.outCap < out.length then failJob j 0x2014 out.length 0 0 s
      else setResult j { status := 0, output := out } s

/-- KEY_EPHEMERAL_FREE (R206): at the boundary that begins the transit in which it runs, the jobs naming the handle are
withdrawn and its slots freed. -/
def keyEphemeralFree (j : Nat) (s : State) : State :=
  match runnable s j 0x7008 with
  | none => s
  | some x =>
    let h := x.desc.handleA
    match keyOf? s h with
    | none => failJob j 0x5022 0 0 0 s
    | some k =>
      if hClass h = 1 ∨ hClass h = 2 ∨ (hClass h = 3 ∧ !persistent k.attr) then
        setResult j { status := 0 } (removeKey (hSlot h) (withdrawNaming h j s))
      else failJob j 0x5022 0 0 0 s

/-! ### Descriptor checks -/

/-- Engine class and cost of KEY_LOAD_PUBLIC by type (R277, R305). -/
def loadPublicCost (t k : Nat) : Nat × Nat :=
  if t = 0x11 then (2, 400 + k / 16)
  else if 0x28 ≤ t ∧ t ≤ 0x2C then (2, [600, 700, 800, 650, 760].getD (t - 0x28) 0)
  else if 0x38 ≤ t ∧ t ≤ 0x3B then (2, [1100, 1500, 450, 460].getD (t - 0x38) 0)
  else if 0x48 ≤ t ∧ t ≤ 0x4A then (3, [300, 420, 540].getD (t - 0x48) 0)
  else (3, [200, 250, 300].getD (t - 0x58) 0)

/-- Cost of KEY_LOAD_FERRIED by blob length: a plain whole-message AES-256 GCM decryption of the material with 32 bytes of AAD (R246). -/
def ferriedCost (len : Nat) : Nat := 96 + 4 * ceilDiv (len - 60) 16 + 2 * 2 + (15 + 2)

/-- Is HANDLE_B of KEY_IMPORT a class 0 key of its method's type: AES-256, or ML-KEM-768 or ML-KEM-1024 decapsulation (R220)? -/
def wrapKeyOk (s : State) (d : Desc) : Bool :=
  let t := ((keyOf? s d.handleB).map (·.attr.type)).getD 0
  hClass d.handleB == 0 && (if d.par 43 1 = 1 then t == 0x03 else t == 0x41 || t == 0x42)

/-- What the key commands ask of a descriptor (R204, R208, R216 to R223). -/
def keyInfoOf (s : State) (cab : Nat) (d : Desc) : OpInfo :=
  let t := d.par 40 2
  let dest := d.par 42 1
  match d.opcode with
  | 0x7001 =>
    { plane := .M, usesOut := dest == 1,
      fields := [(40, typeKnown t), (42, decide (dest ≤ 1)), zeroField d 43 1, (48, generateField d), sizeField d] ++ reservedFrom d 54,
      policy := if (Tab.get? s.key.csk cab).isNone then some (0x5022, 0, 0)
        else if !policyOk s cab t (d.par 44 4) false then some (0x3002, 44, 0) else none,
      length := generateLength d,
      outLen := if dest = 1 then 60 + materialLen t (sizeParam d) else 0,
      needOut := if dest = 1 then some (60 + materialLen t (sizeParam d)) else none }
  | 0x7002 =>
    let m := d.par 43 1
    { plane := .M, usesB := m != 0, usesIn := true, usesOut := dest == 1,
      fields := [(40, typeKnown t && (m != 0 || typePublic t)), (42, dest == 0 || dest == 1 || (dest == 3 && typePublic t)), (43, decide (m ≤ 2)),
        zeroField d 48 4, sizeField d] ++ reservedFrom d 54,
      owner := if m = 0 then none else handleOwner s cab d.handleB 12,
      policy := if (Tab.get? s.key.csk cab).isNone then some (0x5022, 0, 0)
        else match (if m = 0 then none else handleServes s d.handleB 12 (wrapKeyOk s d) (some polUnwrap)) with
          | some e => some e
          | none =>
            if !policyOk s cab t (d.par 44 4) (dest == 3) then some (0x3002, 44, 0) else none,
      outLen := if dest = 1 then 60 + materialLen t (sizeParam d) else 0,
      needOut := if dest = 1 then some (60 + materialLen t (sizeParam d)) else none }
  | 0x7003 =>
    let m := d.par 42 1
    let n := match keyOf? s d.handleA, keyOf? s d.handleB with
      | some a, some b => exportLen m a.material.length b.attr.type
      | _, _ => 0
    { plane := .M, usesA := true, usesB := true, usesOut := true,
      fields := [zeroField d 40 2, (42, m == 1 || m == 2)] ++ reservedFrom d 43,
      owner := match handleOwner s cab d.handleA 8 with
        | some e => some e
        | none => handleOwner s cab d.handleB 12,
      policy := match handlePolicy s d.handleA 8 (some polExportable) with
        | some e => some e
        | none => match handlePolicy s d.handleB 12 (some polWrap) with
          | some e => some e
          | none =>
            let bt := ((keyOf? s d.handleB).map (·.attr.type)).getD 0
            if !(hClass d.handleA == 0 || hClass d.handleA == 1) then some (0x3002, 8, 0)
            else if !((m == 1 && bt == 3 && hClass d.handleB == 0) || (m == 2 && (bt == 0x49 || bt == 0x4A) && hClass d.handleB == 3)) then some (0x3002, 12, 0)
            else if cabHas s cab 3 then none else some (0x3002, 8, 0),
      outLen := n, needOut := some n }
  | 0x7004 =>
    { plane := .M, usesA := true, fields := reservedFrom d 40, owner := handleOwner s cab d.handleA 8,
      policy := match keyOf? s d.handleA with
        | none => some (0x5022, 0, 0)
        | some k => if hClass d.handleA = 0 ∨ (hClass d.handleA = 3 ∧ persistent k.attr) then none else some (0x5022, 0, 0) }
  | 0x7005 =>
    { plane := .D, usesIn := true, fields := reservedFrom d 40, cost := some (ferriedCost d.inLen),
      policy := if (Tab.get? s.key.csk cab).isNone then some (0x5022, 0, 0) else none }
  | 0x7006 =>
    { plane := .D, engine := (loadPublicCost t (sizeParam d)).1, usesIn := true, cost := some (loadPublicCost t (sizeParam d)).2,
      fields := [(40, typePublic t), zeroField d 42 2, zeroField d 48 4, sizeField d] ++ reservedFrom d 54,
      policy := if (List.range 32).all (fun b => !bit (d.par 44 4) b || b == 3 || b == 0 || b == 5 || b == 6)
          && (List.range 16).all (fun b => !bit (d.par 44 4) b || bit (allowedPolicy t) b) then none else some (0x3002, 44, 0) }
  | 0x7007 =>
    { plane := .C, usesA := true, usesOut := true, fields := [(40, decide (d.par 40 1 < 2))] ++ reservedFrom d 41,
      owner := handleOwner s cab d.handleA 8, policy := handlePolicy s d.handleA 8 none, needOut := some 64,
      outLen := 64 + (if bit (d.par 40 1) 0 then ((keyOf? s d.handleA).map (fun k => (publicEncoding k).length)).getD 0 else 0) }
  | _ =>
    { plane := .C, usesA := true, fields := reservedFrom d 40, owner := handleOwner s cab d.handleA 8,
      policy := handlePolicy s d.handleA 8 none }

end Sys2Proof.Machine
end

