-- ==== Sys2Proof/Machine/Cipher.lean ====
section
/-! DEFINITION. Cipher lanes (spec/10_cipher_lanes.md R231 to R252): parameters, length limits, costs, context records and
the cipher commands. -/

namespace Sys2Proof.Machine

/-! ### Parameters -/

/-- MODE of a cipher job: 1 CBC, 2 CTR, 3 GCM, 4 CCM, 5 XTS, 6 ChaCha20-Poly1305, 7 CMAC, 8 KW, 9 KWP. -/
def cMode (d : Desc) : Nat := d.par 40 1
def cVeneer (d : Desc) : Bool := bit (d.par 41 1) 0
def cInit (d : Desc) : Bool := bit (d.par 41 1) 1
def cFinish (d : Desc) : Bool := bit (d.par 41 1) 2
def cIvHelper (d : Desc) : Bool := bit (d.par 41 1) 3
def cTagLen (d : Desc) : Nat := d.par 42 1
def cWidth (d : Desc) : Nat := d.par 43 1
def cUnit (d : Desc) : Nat := d.par 44 4
def cCtx (d : Desc) : Nat := d.par 48 4
def cForm (d : Desc) : Nat := d.par 52 1
def cNonceLen (d : Desc) : Nat := d.par 53 1

/-- A part that is the whole message (R238). -/
def cWhole (d : Desc) : Bool := cInit d && cFinish d

/-- Is the opcode SYM_CONTEXT_SAVE or SYM_CONTEXT_RESTORE? -/
def isSaveRestore (op : Nat) : Bool := op == 0x1008 || op == 0x1009

/-- Modes of an opcode (R233). -/
def cModes (op : Nat) : List Nat :=
  if op = 0x1001 ∨ op = 0x1002 ∨ op = 0x100A then [1, 2, 5]
  else if op = 0x1003 ∨ op = 0x1004 then [3, 4, 6]
  else if op = 0x1005 then [7]
  else if op = 0x1006 ∨ op = 0x1007 then [8, 9]
  else [0]

/-- Modes and opcodes that take whole messages only (R238). -/
def wholeOnly (d : Desc) : Bool :=
  [4, 5, 8, 9].contains (cMode d) || d.opcode == 0x1004 || d.opcode == 0x100A

/-- May a part take its IV from the IV helper (R244)? -/
def helperOk (d : Desc) : Bool :=
  cInit d && ((d.opcode == 0x1001 && cMode d == 1) || (d.opcode == 0x1003 && (cMode d == 3 || cMode d == 6)))

/-- A part takes AUX: INIT parts and whole messages of the modes that have an AUX (AUX contents table). -/
def cUsesAux (d : Desc) : Bool := !isSaveRestore d.opcode && cInit d && !([7, 8, 9].contains (cMode d))

/-- Does the part name a context record, and does it read or write one (R238)? -/
def cReads (d : Desc) : Bool := !isSaveRestore d.opcode && !cInit d
def cWrites (d : Desc) : Bool := !isSaveRestore d.opcode && !cFinish d

/-- The parameter checks of step 3 in descriptor order. -/
def cFields (d : Desc) : List (Nat × Bool) :=
  let m := cMode d
  let sr := isSaveRestore d.opcode
  [(40, (cModes d.opcode).contains m),
   (41, decide (d.par 41 1 < 16) && (if sr then d.par 41 1 == 0 else (!wholeOnly d || cWhole d) && (!cIvHelper d || helperOk d))),
   (42, [3, 4, 6, 7].contains m || cTagLen d == 0),
   (43, if m = 2 then cWidth d == 32 || cWidth d == 64 || cWidth d == 128 else cWidth d == 0),
   (44, m == 5 || cUnit d == 0),
   (48, cCtx d % 128 == 0 && (!(sr || cWhole d) || cCtx d == 0)),
   (52, if sr then cForm d == (if d.opcode = 0x1008 then 2 else 1) else if cWhole d then cForm d == 0 else cForm d == 1 || cForm d == 2),
   (53, [3, 4, 6].contains m || cNonceLen d == 0)] ++ reservedFrom d 54

/-! ### Length limits (R245) -/

/-- The largest value of an arithmetic progression from `lo` to `hi` in steps of `step` not above `v`; 0 where none. -/
def largestIn (lo hi step v : Nat) : Nat := if v < lo then 0 else lo + (min v hi - lo) / step * step

/-- A value outside a progression: its offset and the largest allowed value (R172, R245) (DEDUCED, log 58). -/
def limitBad (off v lo hi step : Nat) : Option (Nat × Nat × Nat) :=
  if largestIn lo hi step v = v ∧ lo ≤ v then none else some (0x5001, off, largestIn lo hi step v)

/-- The first of two refusals. -/
def orElseBad (a b : Option (Nat × Nat × Nat)) : Option (Nat × Nat × Nat) := match a with | some e => some e | none => b

/-- Bytes of a message's payload in one job: IN without the tag of an AEAD decryption. -/
def cPayload (d : Desc) : Nat := if d.opcode = 0x1004 then d.inLen - cTagLen d else d.inLen

/-- Largest CCM message for a nonce length: q = 15 − nonce length (R245). -/
def ccmMax (nonceLen : Nat) : Nat := min 1048576 (2 ^ (8 * (15 - nonceLen)) - 1)

/-- IN_LEN against its limits. -/
def cInLen (d : Desc) : Option (Nat × Nat × Nat) :=
  let m := cMode d
  let max := 1048576
  let dec := if d.opcode = 0x1004 then cTagLen d else 0
  if isSaveRestore d.opcode then limitBad 20 d.inLen 128 128 1
  else if m = 1 then limitBad 20 d.inLen 16 max 16
  else if m = 2 then (if cFinish d then limitBad 20 d.inLen 1 max 1 else limitBad 20 d.inLen 0 max 16)
  else if m = 3 then (if cFinish d then limitBad 20 d.inLen dec max 1 else limitBad 20 d.inLen 0 max 16)
  else if m = 4 then limitBad 20 d.inLen dec (min max (ccmMax (cNonceLen d) + dec)) 1
  else if m = 5 then limitBad 20 d.inLen (cUnit d) max (cUnit d)
  else if m = 6 then (if cFinish d then limitBad 20 d.inLen dec max 1 else limitBad 20 d.inLen 0 max 64)
  else if m = 7 then (if cWhole d then limitBad 20 d.inLen 0 max 1 else if cFinish d then limitBad 20 d.inLen 1 max 1 else limitBad 20 d.inLen 16 max 16)
  else
    let unwrap := d.opcode == 0x1007
    if m = 8 then (if unwrap then limitBad 20 d.inLen 24 4104 8 else limitBad 20 d.inLen 16 4096 8)
    else if unwrap then limitBad 20 d.inLen 16 4104 8 else limitBad 20 d.inLen 1 4096 1

/-- AUX_LEN against its limits. -/
def cAuxLen (d : Desc) : Option (Nat × Nat × Nat) :=
  let m := cMode d
  if !cUsesAux d then none
  else if d.opcode = 0x100A ∧ m ≠ 5 then limitBad 36 d.auxLen 32 32 1
  else if m = 1 ∨ m = 2 ∨ m = 5 then limitBad 36 d.auxLen 16 16 1
  else limitBad 36 d.auxLen 16 65536 1

/-- TAG_LEN, UNIT and NONCE_LEN against their limits. -/
def cOtherLen (d : Desc) : Option (Nat × Nat × Nat) :=
  let m := cMode d
  let tag := if m = 3 then limitBad 42 (cTagLen d) 12 16 1 else if m = 4 then limitBad 42 (cTagLen d) 4 16 2
    else if m = 6 then limitBad 42 (cTagLen d) 16 16 1 else if m = 7 then limitBad 42 (cTagLen d) 8 16 1 else none
  let unit := if m = 5 then limitBad 44 (cUnit d) 16 1048576 1 else none
  let nonce := if m = 4 then limitBad 53 (cNonceLen d) 7 13 1 else if m = 3 ∨ m = 6 then limitBad 53 (cNonceLen d) 12 12 1 else none
  orElseBad tag (orElseBad unit nonce)

/-- Step 8 of a cipher job; UNIT, TAG_LEN and NONCE_LEN bound the others, so they come first where IN_LEN leans on them. -/
def cLength (d : Desc) : Option (Nat × Nat × Nat) := orElseBad (cOtherLen d) (orElseBad (cInLen d) (cAuxLen d))

/-! ### Keys (R233) -/

/-- Does a key type serve a mode? -/
def cTypeOk (m t : Nat) : Bool :=
  if m = 5 then t == 4 || t == 5 else if m = 6 then t == 6 else if m = 8 ∨ m = 9 then t == 3
  else if m = 0 then decide (1 ≤ t ∧ t ≤ 6) else decide (1 ≤ t ∧ t ≤ 3)

/-- A key that does not serve the mode, or an XTS key whose halves are equal (R233). -/
def cKeyBad (s : State) (h m : Nat) : Bool :=
  match keyOf? s h with
  | none => true
  | some k => !cTypeOk m k.attr.type || (m == 5 && decide (k.material.take (k.material.length / 2) = k.material.drop (k.material.length / 2)))

/-- Policy bit an opcode needs on HANDLE_A. -/
def cNeed (op : Nat) : Nat :=
  if op = 0x1001 ∨ op = 0x1003 then polEncrypt
  else if op = 0x1002 ∨ op = 0x1004 ∨ op = 0x100A then polDecrypt
  else if op = 0x1005 then polMac else if op = 0x1006 then polWrap else if op = 0x1007 then polUnwrap else polCtxClear

/-- Step 7 of a cipher job: keys resolve, hold their bits, serve the mode; a clear record needs CONTEXT_CLEAR (R241). -/
def cPolicy (s : State) (d : Desc) : Option (Nat × Nat × Nat) :=
  let a := handleServes s d.handleA 8 (!cKeyBad s d.handleA (cMode d)) (if isSaveRestore d.opcode then none else some (cNeed d.opcode))
  let b := if d.opcode = 0x100A then handleServes s d.handleB 12 (!cKeyBad s d.handleB (cMode d)) (some polEncrypt) else none
  let clear := if (cForm d = 2 ∨ isSaveRestore d.opcode) ∧ (handlePolicy s d.handleA 52 (some polCtxClear)).isSome then some (0x3002, 52, 0) else none
  orElseBad a (orElseBad b clear)

/-- Ra of a key (R246): 11, 13, 15 by AES key size; XTS types 0x04 and 0x05 use AES-128 and AES-256. -/
def rounds (t : Nat) : Nat := if t = 1 ∨ t = 4 then 11 else if t = 2 then 13 else 15

/-! ### Costs (R246, R247) -/

/-- One term of a cost: instances, plain and veneer cycles each, and what an instance counts for masking. -/
structure Term where
  count : Nat
  plain : Nat
  veneer : Nat
  mask : Nat := 1

/-- Data blocks of an XTS job: n of the whole part, and one more for every unit that is no multiple of 16. -/
def xtsBlocks (len unit : Nat) : Nat := if unit = 0 then 0 else ceilDiv len 16 + len / unit * flag (unit % 16 != 0)

/-- The terms one side of a CBC, CTR or XTS job performs. -/
def blockTerms (m ra len unit : Nat) (encrypt : Bool) : List Term :=
  if m = 1 then [⟨ceilDiv len 16, if encrypt then ra else 4, 4 * ra, 1⟩]
  else if m = 2 then [⟨ceilDiv len 16, 4, 4 * ra, 1⟩]
  else [⟨xtsBlocks len unit, 4, 4 * ra + 4, 1⟩, ⟨if unit = 0 then 0 else len / unit, ra, 4 * ra, 1⟩]

/-- Semiblocks of a wrap or unwrap after padding. -/
def semiblocks (op inLen : Nat) : Nat := if op = 0x1007 then inLen / 8 - 1 else ceilDiv inLen 8

/-- The terms of a cipher job. `ra`, `rb`: rounds of HANDLE_A and HANDLE_B (DEDUCED, log 35). -/
def cTerms (d : Desc) (ra rb : Nat) : List Term :=
  let m := cMode d
  let n := ceilDiv (cPayload d) 16
  let aad := if cInit d then ceilDiv (d.auxLen - 16) 16 else 0
  let fin := flag (cFinish d)
  if d.opcode = 0x100A then blockTerms m ra d.inLen (cUnit d) false ++ blockTerms m rb d.inLen (cUnit d) true
  else if m = 1 ∨ m = 2 ∨ m = 5 then blockTerms m ra d.inLen (cUnit d) (d.opcode == 0x1001)
  else if m = 3 then [⟨n, 4, 4 * ra + 8, 1⟩, ⟨aad, 2, 8, 1⟩, ⟨fin, ra + 2, 4 * ra + 8, 1⟩]
  else if m = 4 then [⟨n, ra + 4, 8 * ra, 1⟩, ⟨aad, ra, 4 * ra, 1⟩, ⟨1, 2 * ra, 8 * ra, 1⟩]
  else if m = 6 then [⟨ceilDiv (cPayload d) 64, 24, 96, 4⟩, ⟨aad, 1, 4, 1⟩, ⟨fin, 32, 128, 1⟩]
  else if m = 7 then [⟨n, ra, 4 * ra, 1⟩, ⟨fin, ra, 4 * ra, 1⟩]
  else
    let sb := semiblocks d.opcode d.inLen
    [⟨if sb ≤ 1 then 1 else 6 * sb, 15, 60, 1⟩]

/-- Rounds of a handle's key. -/
def roundsOf (s : State) (h : Nat) : Nat := rounds (((keyOf? s h).map (·.attr.type)).getD 0)

/-- Cost of a cipher job (R246). -/
def cCost (s : State) (d : Desc) : Nat :=
  if isSaveRestore d.opcode then 160
  else
    let v := cVeneer d
    (if v then 288 else 96) + (if cForm d = 1 then 64 else 0)
      + ((cTerms d (roundsOf s d.handleA) (roundsOf s d.handleB)).map (fun t => t.count * (if v then t.veneer else t.plain))).sum

/-- Masking bits of a veneer job (R247). -/
def cMask (s : State) (d : Desc) : Nat :=
  if isSaveRestore d.opcode || !cVeneer d then 0
  else 128 * ((cTerms d (roundsOf s d.handleA) (roundsOf s d.handleB)).map (fun t => t.count * t.mask)).sum + 512

/-- Direct output bytes at OUT_ADDR (R233). -/
def cOutLen (d : Desc) : Nat :=
  let iv := if cIvHelper d then (if cMode d = 1 then 16 else 12) else 0
  match d.opcode with
  | 0x1001 => d.inLen + iv
  | 0x1002 => d.inLen
  | 0x1003 => d.inLen + iv + (if cFinish d then cTagLen d else 0)
  | 0x1004 => d.inLen - cTagLen d
  | 0x1005 => if cFinish d then cTagLen d else 0
  | 0x1006 => if cMode d = 8 then d.inLen + 8 else 8 * ceilDiv d.inLen 8 + 8
  | 0x1007 => d.inLen - 8
  | 0x100A => d.inLen
  | _ => 128

/-- What the cipher commands ask of a descriptor. -/
def cipherInfo (s : State) (cab : Nat) (d : Desc) : OpInfo :=
  let out := cOutLen d
  let rec_ := decide (cCtx d ≠ 0 ∨ (!isSaveRestore d.opcode && !cWhole d))
  { plane := .D, engine := 0, usesA := true, usesB := d.opcode == 0x100A, usesIn := true, usesOut := d.opcode != 0x1005 || cFinish d,
    usesAux := cUsesAux d, fields := cFields d, cost := some (cCost s d),
    outLen := out + (if cWrites d then 128 else 0),
    owner := orElseBad (handleOwner s cab d.handleA 8) (if d.opcode = 0x100A then handleOwner s cab d.handleB 12 else none),
    policy := cPolicy s d, length := cLength d, needOut := if 0 < out then some out else none,
    needs := [cMask s d, 0, if cWrites d ∧ cForm d = 1 then 96 else if d.opcode = 0x1009 then 96 else 0, 0,
              if cIvHelper d then (if cMode d = 1 then 128 else 96) else 0],
    ranges := if rec_ && !isSaveRestore d.opcode then [(cCtx d, 128, 48)] else [],
    recordRead := if cReads d then some (cCtx d, 128) else none,
    backing := if rec_ && !isSaveRestore d.opcode then [(cCtx d, 128)] else [] }

/-! ### Context records (R239, R241) -/

/-- The state a message carries between parts. -/
structure CtxState where
  payload : Nat
  aad : Nat
  chain : List Byte
  j0 : List Byte
  acc : List Byte
  accHigh : Nat
  deriving DecidableEq, Repr

/-- Bytes 32 to 95 of a record in the clear. -/
def ctxBody (d : Desc) (c : CtxState) : List Byte :=
  c.chain ++ c.j0 ++ c.acc ++ leBytes 1 (c.accHigh % 4) ++ leBytes 1 (cTagLen d) ++ leBytes 1 (cWidth d) ++ zeros 13

/-- Bytes 0 to 31 of a record. -/
def ctxHead (form mode handle epoch payload aad : Nat) : List Byte :=
  leBytes 4 0x5843474B ++ leBytes 2 1 ++ leBytes 1 form ++ leBytes 1 mode ++ leBytes 4 handle ++ leBytes 4 epoch
    ++ leBytes 8 payload ++ leBytes 8 aad

/-- The context key of a cabinet (R241). -/
def ctxKey (s : State) (cab : Nat) : List Byte := Tab.getD s.eng.ctxKeys cab []

/-- A record in a form: wrapped under the cabinet's context key with a fresh nonce, or clear. -/
def sealRecord (s : State) (cab form mode handle payload aad : Nat) (body : List Byte) : List Byte :=
  if form = 1 then
    let head := ctxHead 1 mode handle s.eng.epoch payload aad
    let nonce := freeBytes s 12
    let c := gcmSeal (ctxKey s cab) nonce head body
    head ++ c.take 64 ++ nonce ++ c.drop 64 ++ zeros 4
  else ctxHead 2 mode handle 0 payload aad ++ body ++ zeros 32

/-- The refusal of a record (R239): header, then epoch and tag, then the fields inside. The last part is its state. -/
def openRecord (s : State) (cab form mode handle : Nat) (b : List Byte) : Except Nat (List Byte) :=
  if !(leAt b 0 4 == 0x5843474B && leAt b 4 2 == 1 && leAt b 6 1 == form && leAt b 7 1 == mode && leAt b 8 4 == handle
      && allZero (slice b 124 4) && (form == 1 || (leAt b 12 4 == 0 && allZero (slice b 96 28)))) then .error 0x2001
  else if form = 1 then
    if leAt b 12 4 ≠ s.eng.epoch ∨ !gcmOpens (ctxKey s cab) (slice b 96 12) (b.take 32) (slice b 32 64 ++ slice b 108 16) then .error 0x5023
    else .ok (gcmPlain (ctxKey s cab) (slice b 96 12) (b.take 32) (slice b 32 64 ++ slice b 108 16))
  else .ok (slice b 32 64)

/-- Are the bits of the opened state that must be 0 so: the reserved bytes and the accumulator's bits above 129 (R239)? -/
def ctxZeros (p : List Byte) : Bool := allZero (p.drop 51) && decide (byteAt p 48 < 4)

/-- May a record of a mode carry these sizes: its tag length, and its counter width (R237, R239)? -/
def ctxSizes (m tag width : Nat) : Bool :=
  (if m = 3 then decide (12 ≤ tag ∧ tag ≤ 16) else if m = 6 then tag == 16 else if m = 7 then decide (8 ≤ tag ∧ tag ≤ 16) else tag == 0)
    && (if m = 2 then [32, 64, 128].contains width else width == 0)

/-- Read the state of a record for a part; its tag length, counter width and reserved bytes must agree (R239). -/
def readCtx (s : State) (cab : Nat) (d : Desc) (b : List Byte) : Except Nat CtxState :=
  match openRecord s cab (cForm d) (cMode d) d.handleA b with
  | .error e => .error e
  | .ok p =>
    if byteAt p 49 ≠ cTagLen d ∨ byteAt p 50 ≠ cWidth d ∨ !ctxZeros p then .error 0x2001
    else .ok { payload := leAt b 16 8, aad := leAt b 24 8, chain := slice p 0 16, j0 := slice p 16 16, acc := slice p 32 16, accHigh := byteAt p 48 }

/-! ### Running a part -/

/-- A 16-byte counter block advanced by `n` in its low `w` bits (SP 800-38A standard increment). -/
def addCounter (blk : List Byte) (w n : Nat) : List Byte :=
  let v := beNat blk
  beBytes 16 (v / 2 ^ w * 2 ^ w + (v % 2 ^ w + n) % 2 ^ w)

/-- The state of a message at its INIT part, from its IV or nonce and AAD. -/
def initCtx (d : Desc) (key iv aad : List Byte) : CtxState :=
  let m := cMode d
  if m = 3 then
    let j0 := iv ++ [0, 0, 0, 1]
    { payload := 0, aad := aad.length, chain := addCounter j0 32 1, j0 := j0, acc := standardBytes 0x1A03 [] [key, zeros 16, aad] 16, accHigh := 0 }
  else if m = 6 then
    { payload := 0, aad := aad.length, chain := iv ++ leBytes 4 1, j0 := zeros 16,
      acc := standardBytes 0x1A06 [] [key, iv, zeros 17, aad] 16, accHigh := (standardBytes 0x1B06 [] [key, iv, zeros 17, aad] 1).foldl (fun _ b => b.toNat % 4) 0 }
  else { payload := 0, aad := 0, chain := (iv ++ zeros 16).take 16, j0 := zeros 16, acc := zeros 16, accHigh := 0 }

/-- The text of a part under its state: the mode's output of the payload's length. -/
def cText (d : Desc) (op : Nat) (key : List Byte) (c : CtxState) (payload : List Byte) : List Byte :=
  standardBytes (if op = 0x1002 then 0x1002 else 0x1001) [cMode d, cWidth d, cUnit d] [key, c.chain, payload] payload.length

/-- The state after a part: `ct` its ciphertext. -/
def nextCtx (d : Desc) (key : List Byte) (c : CtxState) (payload ct : List Byte) : CtxState :=
  let m := cMode d
  let n := payload.length
  let c := { c with payload := c.payload + n }
  if m = 1 then { c with chain := ct.drop (ct.length - 16) }
  else if m = 2 then { c with chain := addCounter c.chain (cWidth d) (ceilDiv n 16) }
  else if m = 3 then { c with chain := addCounter c.chain 32 (ceilDiv n 16), acc := standardBytes 0x1A03 [] [key, c.acc, ct] 16 }
  else if m = 6 then
    let a := c.acc ++ leBytes 1 c.accHigh
    let cnt := leAt c.chain 12 4 + ceilDiv n 64
    { c with
      chain := c.chain.take 12 ++ leBytes 4 cnt, acc := standardBytes 0x1A06 [] [key, c.chain.take 12, a, ct] 16
      accHigh := byteAt (standardBytes 0x1B06 [] [key, c.chain.take 12, a, ct] 1) 0 % 4 }
  else { c with chain := standardBytes 0x1A07 [] [key, c.chain, payload] 16 }

/-- The tag that ends a GCM, ChaCha20-Poly1305 or CMAC message. -/
def cTag (d : Desc) (key : List Byte) (c : CtxState) (lastPart : List Byte) : List Byte :=
  standardBytes (0x1C00 + cMode d) [c.payload, c.aad] [key, c.j0, c.chain, c.acc ++ leBytes 1 c.accHigh, if cMode d = 7 then lastPart else []] (cTagLen d)

/-- The bytes a part's message may still take, by its state (R245). -/
def cRemain (d : Desc) (c : CtxState) : Option Nat :=
  if cMode d = 2 then some (16 * (2 ^ cWidth d - beNat c.chain % 2 ^ cWidth d))
  else if cMode d = 3 then some (2 ^ 36 - 32 - c.payload)
  else if cMode d = 6 then some (2 ^ 38 - 64 - c.payload)
  else none

/-- The first AUX byte that must be 0 and is not: an IV left to the helper, and the padding of the nonce (R244, AUX table). -/
def auxBad (d : Desc) (aux : List Byte) : Option Nat :=
  let m := cMode d
  let lo := if cIvHelper d then 0 else if m = 3 ∨ m = 6 then 12 else if m = 4 then cNonceLen d else 16
  if cUsesAux d then firstNonZero (slice aux lo (16 - lo)) lo else none

/-- IV or nonce bytes of an INIT part: from AUX, or random (R244). -/
def cIv (s : State) (d : Desc) (aux : List Byte) : List Byte :=
  let n := if cMode d = 3 ∨ cMode d = 6 then 12 else if cMode d = 4 then cNonceLen d else 16
  if cIvHelper d then freeBytes s n else aux.take n

/-- Context parts of CBC, CTR, GCM, ChaCha20-Poly1305 and CMAC, encrypting or decrypting, and XTS (R238, R240). -/
def runPart (j : Nat) (x : Job) (s : State) : State :=
  let d := x.desc
  let cab := cabOfFn s x.fn
  match keyOf? s d.handleA with
  | none => failJob j 0x5022 0 0 0 s
  | some k =>
    let key := k.material
    let iv := cIv s d x.aux
    let st : Except Nat CtxState := if cInit d then .ok (initCtx d key iv (x.aux.drop 16)) else readCtx s cab d x.extra
    let s' := if cIvHelper d then drawFree iv.length s else s
    match auxBad d x.aux, st with
    | some o, _ => failJob j 0x2001 32 o 0 s
    | none, .error e => failJob j e (if e = 0x2001 then 48 else 0) 0 0 s
    | none, .ok c =>
      match (cRemain d c).filter (fun r => decide (r < x.input.length)) with
      | some r => failJob j 0x5001 20 r 0 s
      | none =>
        let text := if cMode d = 7 then [] else cText d d.opcode key c x.input
        let ct := if d.opcode = 0x1002 then x.input else text
        let c' := nextCtx d key c x.input ct
        let tag := if cFinish d && cTagLen d != 0 then cTag d key (if cMode d = 7 then c else c') x.input else []
        let out := (if cIvHelper d then iv else []) ++ text ++ tag
        if cWrites d then
          let r := sealRecord s' cab (cForm d) (cMode d) d.handleA c'.payload c'.aad (ctxBody d c')
          setResult j { status := 0, output := out, record := some (cCtx d, r), w0 := 128 } (if cForm d = 1 then drawFree 12 s' else s')
        else setResult j { status := 0, output := out } s'

/-- SYM_ENCRYPT (R233). -/
def symEncrypt (j : Nat) (s : State) : State :=
  match runnable s j 0x1001 with
  | none => s
  | some x => runPart j x s

/-- SYM_DECRYPT (R233). -/
def symDecrypt (j : Nat) (s : State) : State :=
  match runnable s j 0x1002 with
  | none => s
  | some x => runPart j x s

/-- SYM_AEAD_ENCRYPT (R233): CCM as one whole message, GCM and ChaCha20-Poly1305 in parts. -/
def symAeadEncrypt (j : Nat) (s : State) : State :=
  match runnable s j 0x1003 with
  | none => s
  | some x =>
    if cMode x.desc = 4 then
      match keyOf? s x.desc.handleA, auxBad x.desc x.aux with
      | none, _ => failJob j 0x5022 0 0 0 s
      | some _, some o => failJob j 0x2001 32 o 0 s
      | some k, none =>
        setResult j { status := 0, output := standardBytes 0x1003 [4, cTagLen x.desc, cNonceLen x.desc] [k.material, x.aux, x.input] (x.input.length + cTagLen x.desc) } s
    else runPart j x s

/-- SYM_AEAD_DECRYPT (R236): the tag is checked before any plaintext is released. -/
def symAeadDecrypt (j : Nat) (s : State) : State :=
  match runnable s j 0x1004 with
  | none => s
  | some x =>
    let ps := [cMode x.desc, cTagLen x.desc, cNonceLen x.desc]
    match keyOf? s x.desc.handleA, auxBad x.desc x.aux with
    | none, _ => failJob j 0x5022 0 0 0 s
    | some _, some o => failJob j 0x2001 32 o 0 s
    | some k, none =>
      if Config.standardHolds 0x1004 ps [k.material, x.aux, x.input] then
        setResult j { status := 0, output := standardBytes 0x1004 ps [k.material, x.aux, x.input] (x.input.length - cTagLen x.desc) } s
      else failJob j 0x5023 0 0 0 s

/-- SYM_CMAC (R233, R236). -/
def symCmac (j : Nat) (s : State) : State :=
  match runnable s j 0x1005 with
  | none => s
  | some x => runPart j x s

/-- SYM_KEY_WRAP (R234). -/
def symKeyWrap (j : Nat) (s : State) : State :=
  match runnable s j 0x1006 with
  | none => s
  | some x =>
    match keyOf? s x.desc.handleA with
    | none => failJob j 0x5022 0 0 0 s
    | some k => setResult j { status := 0, output := standardBytes 0x1006 [cMode x.desc] [k.material, x.input] (cOutLen x.desc) } s

/-- The length a KWP unwrap recovers: up to 7 bytes of padding go. -/
def kwpLen (key input : List Byte) : Nat := input.length - 8 - byteAt (standardBytes 0x11007 [] [key, input] 1) 0 % 8

/-- SYM_KEY_UNWRAP (R234, R236). -/
def symKeyUnwrap (j : Nat) (s : State) : State :=
  match runnable s j 0x1007 with
  | none => s
  | some x =>
    match keyOf? s x.desc.handleA with
    | none => failJob j 0x5022 0 0 0 s
    | some k =>
      if Config.standardHolds 0x1007 [cMode x.desc] [k.material, x.input] then
        let n := if cMode x.desc = 8 then x.input.length - 8 else kwpLen k.material x.input
        setResult j { status := 0, output := standardBytes 0x1007 [cMode x.desc] [k.material, x.input] n } s
      else failJob j 0x5023 0 0 0 s

/-- SYM_CONTEXT_SAVE and SYM_CONTEXT_RESTORE (R241): the record of IN in the other form. -/
def convertRecord (j : Nat) (x : Job) (fromForm : Nat) (s : State) : State :=
  let cab := cabOfFn s x.fn
  let b := x.input
  if (keyOf? s x.desc.handleA).isNone then failJob j 0x5022 0 0 0 s
  else
    match openRecord s cab fromForm (byteAt b 7) x.desc.handleA b with
    | .error e => failJob j e (if e = 0x2001 then 48 else 0) 0 0 s
    | .ok body =>
      let m := byteAt b 7
      if cKeyBad s x.desc.handleA m ∨ ([1, 2, 3, 6, 7].contains m) = false ∨ !ctxSizes m (byteAt body 49) (byteAt body 50) ∨ !ctxZeros body then failJob j 0x2001 48 0 0 s
      else
        let out := sealRecord s cab (3 - fromForm) m x.desc.handleA (leAt b 16 8) (leAt b 24 8) body
        setResult j { status := 0, output := out, w0 := 128 } (if fromForm = 2 then drawFree 12 s else s)

/-- SYM_CONTEXT_SAVE. -/
def symContextSave (j : Nat) (s : State) : State :=
  match runnable s j 0x1008 with
  | none => s
  | some x => convertRecord j x 1 s

/-- SYM_CONTEXT_RESTORE. -/
def symContextRestore (j : Nat) (s : State) : State :=
  match runnable s j 0x1009 with
  | none => s
  | some x => convertRecord j x 2 s

/-- SYM_REENCRYPT (R235): decrypted under HANDLE_A and encrypted under HANDLE_B inside the lane. -/
def symReencrypt (j : Nat) (s : State) : State :=
  match runnable s j 0x100A with
  | none => s
  | some x =>
    let d := x.desc
    match keyOf? s d.handleA, keyOf? s d.handleB with
    | some a, some b =>
      let oldIv := x.aux.take 16
      let newIv := if cMode d = 5 then oldIv else slice x.aux 16 16
      let c0 := initCtx d a.material oldIv []
      let remain := fun (iv : List Byte) => (cRemain d (initCtx d a.material iv [])).filter (fun r => decide (r < x.input.length))
      match remain oldIv, remain newIv with
      | some r, _ => failJob j 0x5001 20 r 0 s
      | none, some r => failJob j 0x5001 20 r 0 s
      | none, none =>
        let plain := cText d 0x1002 a.material c0 x.input
        setResult j { status := 0, output := cText d 0x1001 b.material (initCtx d b.material newIv []) plain } s
    | _, _ => failJob j 0x5022 0 0 0 s

/-! ### Message totals (R245) -/

/-- The bytes a part of `d` may still take, as soon as what tells is staged: the counter block or blocks of AUX, or the context
record. None where nothing bounds it yet. -/
def stagedRemain (s : State) (x : Job) : Option Nat :=
  let d := x.desc
  let fromIv := fun (n : Nat) => if n + 16 ≤ x.aux.length then cRemain d (initCtx d [] (slice x.aux n 16) []) else none
  if cReads d then
    if x.recordRead.any (fun r => decide (r.2 ≤ x.extra.length)) then
      match readCtx s (cabOfFn s x.fn) d x.extra with
      | .ok c => cRemain d c
      | .error _ => none
    else none
  else if cMode d ≠ 2 then none
  else if d.opcode = 0x100A then
    match fromIv 0, fromIv 16 with
    | some a, some b => some (min a b)
    | a, b => a.or b
  else fromIv 0

/-! ### Faults (R250) -/

/-- Parity event code of a class of tiles (R250, R263, R271, R308). -/
def parityEvent (cls : Nat) : Nat := if cls = 0 then 0x6010 else if cls = 1 then 0x7010 else if cls = 2 then 0x8011 else 0x9011

/-- TILE_PARITY_ERROR (R250): the jobs in both banks of the tile end WITHDRAWN; at the next boundary the tile is out of
capacity. -/
def tileParityError (t bank : Nat) (s : State) : State :=
  if (allTiles.contains t) && !(s.tile t).parityOut then
    let js := (liveJobs s).filter (fun e => e.2.tile == some t && e.2.st == .running && !inCommit e.2)
    let s := forEach js (fun e => endJob e.1 0x7001 0 0 0) s
    let s := modTile t (fun y => { y with parityOut := true }) s
    let src := source 2 t
    let s := raiseFrom src (parityEvent (tileClass t)) 5 (t % 32) bank js.length s
    if tileClass t = 2 then raiseFrom src 0x8012 5 (t % 32) 0 0 s
    else if tileClass t = 3 then raiseFrom src 0x9012 5 (t % 32) 0 0 s else s
  else s

end Sys2Proof.Machine
end

