-- ==== Sys2Proof/Machine/Digest.lean ====
section
/-! DEFINITION. Digest engines (spec/11_digest.md R253 to R263): algorithms, destinations, limits, costs, context records and
the digest commands. -/

namespace Sys2Proof.Machine

/-! ### Parameters -/

/-- ALG, FLAGS, DEST, OUT_LEN, CTX_ADDR, CTX_FORM, KEY_LEN, NEW_POLICY. -/
def gAlg (d : Desc) : Nat := d.par 40 1
def gInit (d : Desc) : Bool := bit (d.par 41 1) 1
def gFinish (d : Desc) : Bool := bit (d.par 41 1) 2
def gWhole (d : Desc) : Bool := gInit d && gFinish d
def gDest (d : Desc) : Nat := d.par 42 1
def gOutLen (d : Desc) : Nat := d.par 44 4
def gCtx (d : Desc) : Nat := d.par 48 4
def gForm (d : Desc) : Nat := d.par 52 1
def gKeyLen (d : Desc) : Nat := d.par 54 2
def gPolicy (d : Desc) : Nat := d.par 56 4

/-- DIG_CONTEXT_SAVE or DIG_CONTEXT_RESTORE. -/
def gSaveRestore (op : Nat) : Bool := op == 0x2005 || op == 0x2006
/-- A keyed opcode (DEDUCED, log 35). -/
def gKeyed (op : Nat) : Bool := op == 0x2002 || op == 0x2003

/-- Digest bytes of an algorithm (R253); 0 for SHAKE and KMAC. -/
def digestLen (alg : Nat) : Nat :=
  match alg with
  | 1 => 28 | 2 => 32 | 3 => 48 | 4 => 64 | 5 => 32 | 6 => 28 | 7 => 32 | 8 => 48 | 9 => 64
  | _ => 0

/-- Block or rate B of an algorithm (R253). -/
def digestBlock (alg : Nat) : Nat :=
  match alg with
  | 1 => 64 | 2 => 64 | 3 => 128 | 4 => 128 | 5 => 128 | 6 => 144 | 7 => 136 | 8 => 104 | 9 => 72 | 10 => 168
  | _ => 136

/-- Does an algorithm's row name the opcode (R253)? -/
def algOk (op alg : Nat) : Bool :=
  if op = 0x2001 ∨ op = 0x2002 then decide (1 ≤ alg ∧ alg ≤ 9)
  else if op = 0x2003 ∨ op = 0x2004 then alg == 10 || alg == 11
  else alg == 0

/-- Result bytes of a digest job (R256). -/
def gResultLen (d : Desc) : Nat := if gOutLen d = 0 then digestLen (gAlg d) else gOutLen d

/-- Keyed by AUX: HANDLE_A is none. -/
def gAuxKey (d : Desc) : Bool := gKeyed d.opcode && d.handleA == noHandle

/-- Customization bytes of a KMAC part. -/
def gCustom (d : Desc) : Nat := if d.opcode = 0x2003 then d.auxLen - gKeyLen d else 0

/-- The parameter checks of step 3 in descriptor order. -/
def gFields (d : Desc) : List (Nat × Bool) :=
  let sr := gSaveRestore d.opcode
  if d.opcode = 0x2007 then reservedFrom d 44
  else
    [(40, algOk d.opcode (gAlg d)),
     (41, decide (d.par 41 1 % 2 = 0 ∧ d.par 41 1 < 8) && (!sr || d.par 41 1 == 0)),
     (42, decide (gDest d ≤ 2) && (gDest d == 0 || gFinish d)),
     zeroField d 43 1,
     (44, !sr || gOutLen d == 0),
     (48, gCtx d % 256 == 0 && (!(sr || gWhole d) || gCtx d == 0)),
     (52, if sr then gForm d == (if d.opcode = 0x2005 then 2 else 1) else if gWhole d then gForm d == 0 else gForm d == 1 || gForm d == 2),
     zeroField d 53 1,
     (54, gAuxKey d || gKeyLen d == 0),
     (56, gDest d == 2 || gPolicy d == 0),
     zeroField d 60 4]

/-- Material of an optional handle. -/
def materialOf (s : State) (h : Nat) : List Byte := if h = noHandle then [] else ((keyOf? s h).map (·.material)).getD []

/-- Message bytes of a part: HANDLE_B material comes first in the INIT part (R254). -/
def gMessage (s : State) (d : Desc) (input : List Byte) : List Byte :=
  (if gKeyed d.opcode && gInit d then materialOf s d.handleB else []) ++ input

/-- Message length of a part. -/
def gPartLen (s : State) (d : Desc) : Nat := (if gKeyed d.opcode && gInit d then (materialOf s d.handleB).length else 0) + d.inLen

/-- OUT_LEN against its limits (R255, R256). -/
def gOutLimit (d : Desc) : Option (Nat × Nat × Nat) :=
  let cap := if gDest d = 0 then 65536 else 64
  let full := digestLen (gAlg d)
  match d.opcode with
  | 0x2001 => limitBad 44 (gOutLen d) 0 0 1
  | 0x2002 => if gOutLen d = 0 then none else limitBad 44 (gOutLen d) 16 full 1
  | 0x2003 => limitBad 44 (gOutLen d) 16 64 1
  | _ => limitBad 44 (gOutLen d) (if gDest d = 2 then 16 else 1) cap 1

/-- Step 8 of a digest job (R257, R258) (DEDUCED, log 58). -/
def gLength (s : State) (d : Desc) : Option (Nat × Nat × Nat) :=
  if d.opcode = 0x2007 then none
  else if gSaveRestore d.opcode then orElseBad (limitBad 20 d.inLen 256 256 1) (limitBad 36 d.auxLen 0 0 1)
  else
    let b := digestBlock (gAlg d)
    let h := gPartLen s d - d.inLen
    let inBad := orElseBad (limitBad 20 d.inLen 0 1048576 1)
      (if gFinish d then none else if gPartLen s d % b = 0 then none else some (0x5001, 20, (gPartLen s d / b * b) - h))
    let keyBad := if gAuxKey d then limitBad 54 (gKeyLen d) (if d.opcode = 0x2003 then 16 else 1) 256 1 else none
    let auxBad := if d.opcode = 0x2003 then limitBad 36 d.auxLen (gKeyLen d) (gKeyLen d + 256) 1
      else limitBad 36 d.auxLen (gKeyLen d) (gKeyLen d) 1
    orElseBad inBad (orElseBad auxBad (orElseBad (gOutLimit d) keyBad))

/-- One handle of a keyed digest job: it resolves, is a generic secret and holds the bit (R254, R255). -/
def gHandle (s : State) (h w0 need : Nat) : Option (Nat × Nat × Nat) :=
  if h = noHandle then none
  else handleServes s h w0 ((keyOf? s h).any (fun k => k.attr.type == 7)) (some need)

/-- Does every named handle hold a bit? -/
def namedHold (s : State) (d : Desc) (b : Nat) : Bool :=
  (d.handleA != noHandle || d.handleB != noHandle)
    && [d.handleA, d.handleB].all (fun h => h == noHandle || (keyOf? s h).any (fun k => bit k.attr.policy b))

/-- Step 7 of a digest job. -/
def gPolicyBad (s : State) (d : Desc) : Option (Nat × Nat × Nat) :=
  let keyed := gKeyed d.opcode
  let a := if keyed then gHandle s d.handleA 8 (if gDest d = 2 then polDerive else polMac) else none
  let b := if keyed then gHandle s d.handleB 12 (if gDest d = 2 then polDerive else polReveal) else none
  let form := if keyed && gForm d == 2 then some (0x3002, 52, 0) else none
  let pol := if gDest d = 2 ∧ !derivedPolicyOk (if namedHold s d polReveal then 2 ^ polReveal else 0) (gPolicy d) then some (0x3002, 56, 0) else none
  orElseBad a (orElseBad b (orElseBad form pol))

/-! ### Cost (R262) -/

/-- Cycles of one compression or permutation. -/
def unitCost (alg : Nat) : Nat := if alg ≤ 2 then 66 else if alg ≤ 5 then 82 else 26

/-- f(x): blocks of `x` bytes in a final part. -/
def finalBlocks (alg x : Nat) : Nat :=
  if alg ≤ 2 then ceilDiv (x + 9) 64 else if alg ≤ 5 then ceilDiv (x + 17) 128 else ceilDiv (x + 1) (digestBlock alg)

/-- Key length of a keyed job. -/
def gKeyBytes (s : State) (d : Desc) : Nat := if d.handleA = noHandle then gKeyLen d else (materialOf s d.handleA).length

/-- Units of a digest job (DEDUCED, log 35). -/
def gUnits (s : State) (d : Desc) : Nat :=
  let alg := gAlg d
  let b := digestBlock alg
  let p := gPartLen s d
  let k := gKeyBytes s d
  let body := if gFinish d then
      finalBlocks alg (if d.opcode = 0x2003 then p + 3 else p) + (if 10 ≤ alg then ceilDiv (gResultLen d) b - 1 else 0)
    else p / b
  let long := if b < k then finalBlocks alg k else 0
  let hmac := if d.opcode = 0x2002 then
      (if gInit d then 1 else 0) + (if gFinish d then 2 else 0)
        + (if gWhole d then long else (if gInit d then long else 0) + (if gFinish d then long else 0))
    else 0
  let kmac := if d.opcode = 0x2003 && gInit d then ceilDiv (11 + gCustom d) b + ceilDiv (5 + k) b else 0
  body + hmac + kmac

/-- Cost of a digest job. -/
def gCost (s : State) (d : Desc) : Nat :=
  if d.opcode = 0x2007 then 0
  else if gSaveRestore d.opcode then 96
  else 64 + (if gForm d = 1 then 64 else 0) + unitCost (gAlg d) * gUnits s d

/-- Is the OUT pair this descriptor's (R255)? It is read as its own where DEST names no destination, whose field is then the fault. -/
def gUsesOut (d : Desc) : Bool := gSaveRestore d.opcode || (gDest d == 0 && gFinish d) || decide (2 < gDest d)

/-- Direct output bytes. -/
def gDirect (d : Desc) : Nat := if gSaveRestore d.opcode then 256 else if gFinish d && gDest d == 0 then gResultLen d else 0

/-- What the digest commands ask of a descriptor. -/
def digestInfo (s : State) (cab : Nat) (d : Desc) : OpInfo :=
  let keyed := gKeyed d.opcode
  let sr := gSaveRestore d.opcode
  let out := gDirect d
  if d.opcode = 0x2007 then { plane := .C, fields := gFields d }
  else
    { plane := .D, engine := 1, usesA := keyed, usesB := keyed, usesIn := true, usesOut := gUsesOut d, usesAux := true,
      fields := gFields d, cost := some (gCost s d), outLen := out + (if !sr && !gFinish d then 256 else 0),
      owner := orElseBad (if keyed && d.handleA != noHandle then handleOwner s cab d.handleA 8 else none)
        (if keyed && d.handleB != noHandle then handleOwner s cab d.handleB 12 else none),
      policy := gPolicyBad s d, length := gLength s d, needOut := if 0 < out then some out else none,
      needs := [0, 0, if (gForm d = 1 ∧ !gFinish d) ∨ d.opcode = 0x2006 then 96 else 0, 0, 0],
      ranges := if sr || gWhole d then [] else [(gCtx d, 256, 48)],
      recordRead := if sr || gInit d then none else some (gCtx d, 256),
      backing := if sr || gWhole d then [] else [(gCtx d, 256)],
      wantSlot := gDest d == 1 }

/-! ### Context records (R257) -/

/-- Bytes 0 to 23 of a digest record. -/
def gHead (form alg handle epoch absorbed : Nat) : List Byte :=
  leBytes 4 0x4443474B ++ leBytes 2 1 ++ leBytes 1 form ++ leBytes 1 alg ++ leBytes 4 handle ++ leBytes 4 epoch ++ leBytes 8 absorbed

/-- A digest record in a form; `body` is bytes 24 to 227. -/
def gSealRecord (s : State) (cab form alg handle absorbed : Nat) (body : List Byte) : List Byte :=
  if form = 1 then
    let head := gHead 1 alg handle s.eng.epoch absorbed
    let nonce := freeBytes s 12
    let c := gcmSeal (ctxKey s cab) nonce head body
    head ++ c.take 204 ++ nonce ++ c.drop 204
  else gHead 2 alg handle 0 absorbed ++ body ++ zeros 28

/-- Bytes of an algorithm's chaining value or Keccak state. -/
def stateSize (alg : Nat) : Nat := if alg ≤ 2 then 32 else if alg ≤ 5 then 64 else 200

/-- The bytes of an opened record beyond its algorithm's state are 0 (R257). -/
def gTail (alg : Nat) (body : List Byte) : Except Nat (List Byte) :=
  if allZero (slice body (stateSize alg) (200 - stateSize alg)) then .ok body else .error 0x2001

/-- Open a digest record: bytes 24 to 227. -/
def gOpenRecord (s : State) (cab form alg handle : Nat) (b : List Byte) : Except Nat (List Byte) :=
  if !(leAt b 0 4 == 0x4443474B && leAt b 4 2 == 1 && leAt b 6 1 == form && leAt b 7 1 == alg && leAt b 8 4 == handle
      && (form == 1 || (leAt b 12 4 == 0 && allZero (slice b 228 28)))) then .error 0x2001
  else if form = 1 then
    let sealed := slice b 24 204 ++ slice b 240 16
    if leAt b 12 4 ≠ s.eng.epoch ∨ !gcmOpens (ctxKey s cab) (slice b 228 12) (b.take 24) sealed then .error 0x5023
    else gTail alg (gcmPlain (ctxKey s cab) (slice b 228 12) (b.take 24) sealed)
  else gTail alg (slice b 24 204)

/-! ### Running -/

/-- Key bytes of a keyed part. -/
def gKey (s : State) (d : Desc) (aux : List Byte) : List Byte :=
  if !gKeyed d.opcode then [] else if d.handleA = noHandle then aux.take (gKeyLen d) else materialOf s d.handleA

/-- State after absorbing a part: the chaining value or Keccak state in 200 bytes, 0 beyond the state size (R257). -/
def absorb (d : Desc) (key custom st msg : List Byte) : List Byte :=
  standardBytes 0x2A00 [d.opcode, gAlg d] [key, custom, st, msg] (stateSize (gAlg d)) ++ zeros (200 - stateSize (gAlg d))

/-- The result of a final part; a truncated HMAC is the leftmost bytes of the full one (R256). -/
def gResult (d : Desc) (key custom st msg : List Byte) (total : Nat) : List Byte :=
  if d.opcode = 0x2001 ∧ gAlg d = 7 ∧ gWhole d then digestBytes (Config.sha3 msg)
  else
    let n := if d.opcode = 0x2002 then digestLen (gAlg d) else gResultLen d
    (standardBytes d.opcode [gAlg d, n, total] [key, custom, st, msg] n).take (gResultLen d)

/-- Place a result as a new class 2 generic secret (R206, R209, R255): its handle and effect, none where no slot is free. -/
def ephemeralSecret (s : State) (cab policy : Nat) (material : List Byte) : Option (Nat × Effect) :=
  if !ephemeralRoom s cab 1 then none
  else match freeSpan s cab 1 with
    | none => none
    | some slot =>
      let h := mkHandle cab 2 slot (slotGen s slot)
      some (h, .putKey slot { handle := h, type := 7, policy := policy, length := material.length } material)

/-- Deliver a digest result under DEST (R255). -/
def gDeliver (j : Nat) (x : Job) (r : List Byte) (s : State) : State :=
  let cab := cabOfFn s x.fn
  if gDest x.desc = 0 then setResult j { status := 0, output := r } s
  else if gDest x.desc = 1 then
    match x.gotSlot with
    | some i => setResult j { status := 0, w0 := i, w1 := r.length, effects := [.putResult cab i (r ++ zeros (64 - r.length))] } s
    | none => failJob j 0x4001 0 0 0 s
  else
    match ephemeralSecret s cab (gPolicy x.desc) r with
    | some (h, e) => setResult j { status := 0, w0 := h, w1 := r.length, effects := [e] } s
    | none => failJob j 0x4001 0 0 0 s

/-- Bytes a message may still take (R258). -/
def gRemain (n : Nat) : Nat := 2 ^ 61 - 1 - n

/-- One part of a digest message (R254 to R258). -/
def digestPart (j : Nat) (x : Job) (s : State) : State :=
  let d := x.desc
  let cab := cabOfFn s x.fn
  if (d.handleA ≠ noHandle ∧ gKeyed d.opcode ∧ (keyOf? s d.handleA).isNone) ∨ (d.handleB ≠ noHandle ∧ gKeyed d.opcode ∧ (keyOf? s d.handleB).isNone) then
    failJob j 0x5022 0 0 0 s
  else
    let key := gKey s d x.aux
    let custom := if d.opcode = 0x2003 then x.aux.drop (gKeyLen d) else []
    let msg := gMessage s d x.input
    let handle := if gKeyed d.opcode then d.handleA else noHandle
    let st : Except Nat (List Byte × Nat) :=
      if gInit d then .ok (zeros 200, 0)
      else match gOpenRecord s cab (gForm d) (gAlg d) handle x.extra with
        | .error e => .error e
        | .ok body => if leAt body 200 4 = gOutLen d then .ok (body.take 200, leAt x.extra 16 8) else .error 0x2001
    match st with
    | .error e => failJob j e (if e = 0x2001 then 48 else 0) 0 0 s
    | .ok (h, n) =>
      if gRemain n < msg.length then failJob j 0x5001 20 (gRemain n) 0 s
      else if gFinish d then gDeliver j x (gResult d key custom h msg (n + msg.length)) s
      else
        let body := absorb d key custom h msg ++ leBytes 4 (gOutLen d)
        setResult j { status := 0, record := some (gCtx d, gSealRecord s cab (gForm d) (gAlg d) handle (n + msg.length) body) }
          (if gForm d = 1 then drawFree 12 s else s)

/-- DIG_HASH (R253). -/
def digHash (j : Nat) (s : State) : State :=
  match runnable s j 0x2001 with
  | none => s
  | some x => digestPart j x s

/-- DIG_HMAC (R254). -/
def digHmac (j : Nat) (s : State) : State :=
  match runnable s j 0x2002 with
  | none => s
  | some x => digestPart j x s

/-- DIG_KMAC (R254). -/
def digKmac (j : Nat) (s : State) : State :=
  match runnable s j 0x2003 with
  | none => s
  | some x => digestPart j x s

/-- DIG_XOF (R256). -/
def digXof (j : Nat) (s : State) : State :=
  match runnable s j 0x2004 with
  | none => s
  | some x => digestPart j x s

/-- DIG_CONTEXT_SAVE and DIG_CONTEXT_RESTORE (R257): an unkeyed record in the other form. -/
def gConvert (j : Nat) (x : Job) (fromForm : Nat) (s : State) : State :=
  let cab := cabOfFn s x.fn
  let b := x.input
  let alg := byteAt b 7
  if leAt b 0 4 = 0x4443474B ∧ leAt b 4 2 = 1 ∧ leAt b 8 4 ≠ noHandle then failJob j 0x3002 52 0 0 s
  else if alg = 0 ∨ 11 < alg then failJob j 0x2001 48 0 0 s
  else
    match gOpenRecord s cab fromForm alg noHandle b with
    | .error e => failJob j e (if e = 0x2001 then 48 else 0) 0 0 s
    | .ok body =>
      setResult j { status := 0, output := gSealRecord s cab (3 - fromForm) alg noHandle (leAt b 16 8) body }
        (if fromForm = 2 then drawFree 12 s else s)

/-- DIG_CONTEXT_SAVE. -/
def digContextSave (j : Nat) (s : State) : State :=
  match runnable s j 0x2005 with
  | none => s
  | some x => gConvert j x 1 s

/-- DIG_CONTEXT_RESTORE. -/
def digContextRestore (j : Nat) (s : State) : State :=
  match runnable s j 0x2006 with
  | none => s
  | some x => gConvert j x 2 s

/-- DIG_RESULT_RELEASE (R260). -/
def digResultRelease (j : Nat) (s : State) : State :=
  match runnable s j 0x2007 with
  | none => s
  | some x =>
    let k := 64 * cabOfFn s x.fn + x.desc.par 40 4
    if x.desc.par 40 4 < 64 ∧ Tab.has s.eng.results k then
      setResult j { status := 0 } { s with eng := { s.eng with results := Tab.del s.eng.results k } }
    else failJob j 0x2001 40 0 0 s

/-! ### OPERAND_STAGED -/

/-- The bytes a part of a cipher or digest message may still take, as soon as what tells is staged (R245, R258). -/
def totalLeft (s : State) (x : Job) : Option Nat :=
  let op := x.desc.opcode
  if [0x1001, 0x1002, 0x1003, 0x100A].contains op then stagedRemain s x
  else if 0x2001 ≤ op ∧ op ≤ 0x2004 ∧ x.recordRead.any (fun r => decide (r.2 ≤ x.extra.length)) then
    match gOpenRecord s (cabOfFn s x.fn) (gForm x.desc) (gAlg x.desc) (if gKeyed op then x.desc.handleA else noHandle) x.extra with
    | .ok _ => some (gRemain (leAt x.extra 16 8))
    | .error _ => none
  else none

/-- A part that would exceed its message's total is refused as soon as that is known, and its record stays as it is (R245): "You see: A
refusal within 2 transits". The counter or the record is in memory, so this is when it has been staged (DEDUCED, log 84). -/
def refuseLong (j : Nat) (s : State) : State :=
  match s.jobOf j with
  | none => s
  | some x =>
    if x.finished = false ∧ x.answer = none ∧ x.result = none then
      match (totalLeft s x).filter (fun r => decide (r < x.desc.inLen)) with
      | some r => modJob j (fun y => { y with answer := some (0x5001, 20, r, 0), plan := [] }) s
      | none => s
    else s

/-- OPERAND_STAGED as a whole. -/
def stageJob (j : Nat) (input aux extra : List Byte) (s : State) : State := refuseLong j (takeOperands j input aux extra s)

/-- FN_RESULT word j of a function's window (R260). -/
def resultWord (s : State) (f w : Nat) : Nat := if !bound s f then 0 else leAt (Tab.getD s.eng.results (64 * cabOfFn s f + w / 16) []) (4 * (w % 16)) 4

/-- FN_RESULT_OCC: 32 occupied bits from slot `lo`. -/
def resultOcc (s : State) (f lo : Nat) : Nat := bitmapOf 32 (fun i => bound s f && Tab.has s.eng.results (64 * cabOfFn s f + lo + i))

end Sys2Proof.Machine
end

