-- ==== Sys2Proof/Machine/BigNum.lean ====
section
/-! DEFINITION. Big-number engines (spec/12_bignum.md R264 to R280): parameters, limits, costs, the checks before release and
the big-number commands. -/

namespace Sys2Proof.Machine

/-! ### Parameters -/

/-- CURVE or SUBOP, SCHEME, DEST, HASH, SALT_LEN, MOD_WORDS, EXP_WORDS, NEW_POLICY. -/
def bCurve (d : Desc) : Nat := d.par 40 1
def bScheme (d : Desc) : Nat := d.par 41 1
def bDest (d : Desc) : Nat := d.par 42 1
def bHash (d : Desc) : Nat := d.par 43 1
def bSalt (d : Desc) : Nat := d.par 44 2
def bMod (d : Desc) : Nat := d.par 46 2
def bExp (d : Desc) : Nat := d.par 48 2
def bPolicy (d : Desc) : Nat := d.par 52 4

/-- An RSA opcode. -/
def bRsa (op : Nat) : Bool := decide (0x3001 ≤ op ∧ op ≤ 0x3004)

/-- Private key type of a CURVE code of BIG_EC_EPHEMERAL. -/
def curveType (c : Nat) : Nat := if c ≤ 5 then 0x1F + c else if c = 8 then 0x32 else 0x33

/-- The parameter checks of step 3 in descriptor order. -/
def bFields (d : Desc) : List (Nat × Bool) :=
  let op := d.opcode
  [(40, if op = 0x3013 then [1, 2, 3, 4, 5, 8, 9].contains (bCurve d) else if op = 0x3030 then decide (1 ≤ bCurve d ∧ bCurve d ≤ 6) else bCurve d == 0),
   (41, if op = 0x3001 ∨ op = 0x3002 then bScheme d == 1 || bScheme d == 2 else if op = 0x3003 ∨ op = 0x3004 then bScheme d == 3 else bScheme d == 0),
   (42, if op = 0x3012 ∨ op = 0x3022 ∨ op = 0x3004 then bDest d == 0 || bDest d == 2 else bDest d == 0),
   (43, if bRsa op then [2, 3, 4, 7, 8, 9].contains (bHash d) else bHash d == 0),
   (44, bScheme d == 2 || bSalt d == 0),
   (46, op == 0x3030 || bMod d == 0),
   (48, (op == 0x3030 && bCurve d == 4) || bExp d == 0),
   zeroField d 50 2,
   (52, bDest d == 2 || op == 0x3013 || bPolicy d == 0),
   zeroField d 56 8]

/-- The key types HANDLE_A of an opcode may have, and the bit it needs (R266); none for an opcode without HANDLE_A. -/
def bKeyA (op : Nat) : Option (List Nat × Nat) :=
  match op with
  | 0x3001 => some ([0x10], polSign) | 0x3002 => some ([0x11], polVerify) | 0x3003 => some ([0x11], polEncrypt)
  | 0x3004 => some ([0x10], polDecrypt)
  | 0x3010 => some ([0x20, 0x21, 0x22, 0x23, 0x24], polSign) | 0x3011 => some ([0x28, 0x29, 0x2A, 0x2B, 0x2C], polVerify)
  | 0x3012 => some ([0x20, 0x21, 0x22, 0x23, 0x24], polAgree)
  | 0x3020 => some ([0x30, 0x31], polSign) | 0x3021 => some ([0x38, 0x39], polVerify) | 0x3022 => some ([0x32, 0x33], polAgree)
  | _ => none

/-- Type of a handle's key; 0 where it does not resolve. -/
def typeOf (s : State) (h : Nat) : Nat := ((keyOf? s h).map (·.attr.type)).getD 0

/-- k/8 of an RSA handle. -/
def rsaLen (s : State) (h : Nat) : Nat := ((keyOf? s h).map (fun k => rsaBits k.attr / 8)).getD 0

/-- Field bytes of a handle's curve. -/
def fieldLen (s : State) (h : Nat) : Nat :=
  let t := typeOf s h
  if 0x20 ≤ t ∧ t ≤ 0x24 then curveLen (t - 0x20) else if 0x28 ≤ t ∧ t ≤ 0x2C then curveLen (t - 0x28) else 0

/-- Signature bytes of an Edwards key. -/
def edSigLen (t : Nat) : Nat := if t = 0x30 ∨ t = 0x38 then 64 else 114

/-- Bytes of a Montgomery value. -/
def xLen (t : Nat) : Nat := if t = 0x32 ∨ t = 0x3A then 32 else 56

/-- Step 7: the keys resolve, hold their bits and serve the opcode; REVEAL_DERIVED for DEST 0; NEW_POLICY (R266, R268). -/
def bPolicyBad (s : State) (d : Desc) : Option (Nat × Nat × Nat) :=
  let op := d.opcode
  let a := match bKeyA op with
    | none => none
    | some (ts, b) => handleServes s d.handleA 8 (ts.contains (typeOf s d.handleA)) (some b)
  let agree := op == 0x3012 || op == 0x3022
  let b := if agree && d.handleB != noHandle then
      handleServes s d.handleB 12 (typeOf s d.handleB == typeOf s d.handleA + 8) (some polAgree)
    else none
  let parent := ((keyOf? s d.handleA).map (·.attr.policy)).getD 0
  let reveal := if agree && bDest d == 0 && !bit parent polReveal then some (0x3002, 8, 0) else none
  let pol := if bDest d = 2 ∧ !derivedPolicyOk parent (bPolicy d) then some (0x3002, 52, 0)
    else if op = 0x3013 ∧ !((List.range 32).all (fun i => !bit (bPolicy d) i || i == polAgree || i == polReveal)) then some (0x3002, 52, 0) else none
  orElseBad a (orElseBad b (orElseBad reveal pol))

/-- Exactly one value is allowed. -/
def exactly (off v want : Nat) : Option (Nat × Nat × Nat) := limitBad off v want want 1

/-- MODARITH input bytes (Formats). -/
def modInLen (d : Desc) : Nat :=
  let w := bMod d
  if bCurve d = 4 then 16 * w + 8 * bExp d else if bCurve d = 5 then 16 * w else 24 * w

/-- ECDSA digest lengths. -/
def digestInBad (v : Nat) : Option (Nat × Nat × Nat) :=
  if [28, 32, 48, 64].contains v then none else some (0x5001, 20, if 64 ≤ v then 64 else if 48 ≤ v then 48 else if 32 ≤ v then 32 else if 28 ≤ v then 28 else 0)

/-- IN_LEN of an agreement (R270): 0, or the peer's length by curve where HANDLE_B does not name the peer. An empty peer without
HANDLE_B has a wrong length under R269. -/
def peerBad (s : State) (d : Desc) : Option (Nat × Nat × Nat) :=
  let n := if d.opcode = 0x3012 then 1 + 2 * fieldLen s d.handleA else xLen (typeOf s d.handleA)
  if d.handleB ≠ noHandle then limitBad 20 d.inLen 0 0 1
  else if d.inLen = 0 ∨ d.inLen = n then none else some (0x5001, 20, if n ≤ d.inLen then n else 0)

/-- Step 8 (R270) (DEDUCED, log 58). -/
def bLength (s : State) (d : Desc) : Option (Nat × Nat × Nat) :=
  let k8 := rsaLen s d.handleA
  let h := digestLen (bHash d)
  let t := typeOf s d.handleA
  match d.opcode with
  | 0x3001 => orElseBad (exactly 20 d.inLen h) (limitBad 44 (bSalt d) 0 h 1)
  | 0x3002 => orElseBad (exactly 20 d.inLen h) (orElseBad (exactly 36 d.auxLen k8) (limitBad 44 (bSalt d) 0 h 1))
  | 0x3003 => orElseBad (if k8 < 2 * h + 2 then some (0x5001, 20, 0) else limitBad 20 d.inLen 0 (k8 - 2 * h - 2) 1) (limitBad 36 d.auxLen 0 256 1)
  | 0x3004 => orElseBad (exactly 20 d.inLen k8) (limitBad 36 d.auxLen 0 256 1)
  | 0x3010 => digestInBad d.inLen
  | 0x3011 => orElseBad (digestInBad d.inLen) (exactly 36 d.auxLen (2 * fieldLen s d.handleA))
  | 0x3012 => peerBad s d
  | 0x3022 => peerBad s d
  | 0x3020 => orElseBad (limitBad 20 d.inLen 0 65536 1) (limitBad 36 d.auxLen 0 (if t = 0x30 then 0 else 255) 1)
  | 0x3021 => orElseBad (limitBad 20 d.inLen 0 65536 1) (if t = 0x38 then exactly 36 d.auxLen 64 else limitBad 36 d.auxLen 114 369 1)
  | 0x3030 => orElseBad (limitBad 46 (bMod d) 1 128 1)
      (orElseBad (if bCurve d = 4 then limitBad 48 (bExp d) 1 128 1 else none) (exactly 20 d.inLen (modInLen d)))
  | _ => none

/-! ### Costs (R274 to R277) -/

/-- MM(w). -/
def mm (w : Nat) : Nat := ceilDiv (w * w) 8 + w + 16
/-- EXP(w, b). -/
def expCost (w b : Nat) : Nat := (b + ceilDiv b 4 + 16) * mm w
/-- RSA public cost of a modulus of `k` bits. -/
def rsaPublic (k : Nat) : Nat := 56 * mm (k / 64) + 96 * ceilDiv k 256 + 400
/-- RSA private cost. -/
def rsaPrivate (k : Nat) : Nat := 2 * expCost (k / 64 / 2) (k / 2 + 64) + 62 * mm (k / 64) + rsaPublic k
/-- Curve index of a type: 0 P-256 … 4 brainpoolP384r1, 5 Ed25519, 6 Ed448, 7 X25519, 8 X448. -/
def curveIndex (t : Nat) : Nat :=
  if 0x20 ≤ t ∧ t ≤ 0x24 then t - 0x20 else if 0x28 ≤ t ∧ t ≤ 0x2C then t - 0x28 else if 0x30 ≤ t ∧ t ≤ 0x33 then t - 0x30 + 5 else t - 0x38 + 5
/-- Block counts of EdDSA (R275). -/
def fEd (x : Nat) : Nat := ceilDiv (x + 17) 128
def gEd (x : Nat) : Nat := ceilDiv (x + 1) 136
/-- Cost of a curve operation (R275): 0 sign, 1 verify, 2 agree, 3 ephemeral; `m` message and `c` context bytes (DEDUCED, log 22). -/
def curveCost (t what m c : Nat) : Nat :=
  let i := curveIndex t
  if what = 0 then
    if i = 5 then 4000 + 82 * (1 + fEd (32 + m) + 2 * fEd (64 + m))
    else if i = 6 then 8600 + 26 * (gEd 57 + gEd (67 + c + m) + 2 * gEd (124 + c + m))
    else [5800, 8300, 11900, 6900, 10100].getD i 0
  else if what = 1 then
    if i = 5 then 3000 + 82 * fEd (64 + m)
    else if i = 6 then 6400 + 26 * gEd (124 + c + m)
    else [4200, 6100, 8800, 5000, 7300].getD i 0
  else if what = 2 then [2900, 4300, 6300, 3500, 5200, 0, 0, 2400, 4600].getD i 0
  else [3000, 4400, 6400, 3600, 5300, 0, 0, 2500, 4700].getD i 0

/-- MODARITH cost (R276). -/
def modCost (sub w e : Nat) : Nat :=
  400 + 2 * w + (if sub = 3 then 4 * mm w else if sub = 4 then 4 * mm w + (80 * e + 16) * mm w
    else if sub = 5 then 4 * mm w + (80 * w + 16) * mm w else if sub = 6 then 2 * mm w else 0)

/-- KEY_GENERATE cost by type (R277, R305, R306); the symmetric and generic types need no engine. -/
def generateCost (t k : Nat) : Nat :=
  if t = 0x10 then 5136 * expCost (k / 128) (k / 2) + 262144 + rsaPrivate k
  else if 0x20 ≤ t ∧ t ≤ 0x24 then [8800, 12700, 18300, 10500, 15400].getD (t - 0x20) 0
  else if t = 0x30 then 6328 else if t = 0x31 then 11756 else if t = 0x32 then 4900 else if t = 0x33 then 9300
  else if 0x40 ≤ t ∧ t ≤ 0x42 then [7500, 11600, 16700].getD (t - 0x40) 0
  else if 0x50 ≤ t ∧ t ≤ 0x52 then [35884, 58824, 57164].getD (t - 0x50) 0
  else if t = 0x60 then 600 else 0

/-- Cost of a big-number job. -/
def bCost (s : State) (d : Desc) : Nat :=
  let t := typeOf s d.handleA
  match d.opcode with
  | 0x3001 => rsaPrivate (8 * rsaLen s d.handleA) | 0x3004 => rsaPrivate (8 * rsaLen s d.handleA)
  | 0x3002 => rsaPublic (8 * rsaLen s d.handleA) | 0x3003 => rsaPublic (8 * rsaLen s d.handleA)
  | 0x3010 => curveCost t 0 0 0 | 0x3011 => curveCost t 1 0 0 | 0x3012 => curveCost t 2 0 0
  | 0x3013 => curveCost (curveType (bCurve d)) 3 0 0
  | 0x3020 => curveCost t 0 d.inLen d.auxLen
  | 0x3021 => curveCost t 1 d.inLen (d.auxLen - edSigLen t)
  | 0x3022 => curveCost t 2 0 0
  | _ => modCost (bCurve d) (bMod d) (bExp d)

/-- f of R325, bits: the field length of a curve; Ed25519's, which the list omits, as that of its field (log 22). -/
def fieldBits (t : Nat) : Nat := [256, 384, 528, 256, 384, 256, 456, 256, 448].getD (curveIndex t) 256

/-- Key-generation bits a job draws (R325). -/
def bKg (s : State) (d : Desc) : Nat :=
  let f := fieldBits (typeOf s d.handleA)
  match d.opcode with
  | 0x3001 => 8 * rsaLen s d.handleA + 128 | 0x3004 => 8 * rsaLen s d.handleA + 128
  | 0x3010 => 2 * f + 128 | 0x3012 => f + 64 | 0x3020 => f + 64 | 0x3022 => f + 64
  | 0x3013 => 2 * fieldBits (curveType (bCurve d)) + 128
  | _ => 0

/-- Direct output bytes, the largest for RSA decryption. -/
def bOut (s : State) (d : Desc) : Nat :=
  let k8 := rsaLen s d.handleA
  match d.opcode with
  | 0x3001 => k8 | 0x3003 => k8
  | 0x3004 => if bDest d = 0 then k8 - 2 * digestLen (bHash d) - 2 else 0
  | 0x3010 => 2 * fieldLen s d.handleA
  | 0x3012 => if bDest d = 0 then fieldLen s d.handleA else 0
  | 0x3013 => publicLen (curveType (bCurve d) + 8) 0
  | 0x3020 => edSigLen (typeOf s d.handleA)
  | 0x3022 => if bDest d = 0 then xLen (typeOf s d.handleA) else 0
  | 0x3030 => 8 * bMod d
  | _ => 0

/-- Opcodes that DEST applies to (R268). -/
def bTakesDest (op : Nat) : Bool := op == 0x3012 || op == 0x3022 || op == 0x3004

/-- Does an opcode take AUX? -/
def bUsesAux (op : Nat) : Bool := [0x3002, 0x3003, 0x3004, 0x3011, 0x3020, 0x3021].contains op

/-- What the big-number commands ask of a descriptor. -/
def bignumInfo (s : State) (cab : Nat) (d : Desc) : OpInfo :=
  let op := d.opcode
  let agree := op == 0x3012 || op == 0x3022
  let out := bOut s d
  { plane := .D, engine := 2, usesA := (bKeyA op).isSome, usesB := agree, usesIn := op != 0x3013,
    usesOut := !(op == 0x3002 || op == 0x3011 || op == 0x3021 || (bDest d == 2 && bTakesDest op)), usesAux := bUsesAux op,
    fields := bFields d, cost := some (bCost s d), outLen := out,
    owner := orElseBad (if (bKeyA op).isSome then handleOwner s cab d.handleA 8 else none)
      (if agree && d.handleB != noHandle then handleOwner s cab d.handleB 12 else none),
    policy := bPolicyBad s d, length := bLength s d, needOut := if 0 < out then some out else none,
    needs := [0, 0, bKg s d, 0, 0] }

/-! ### Checks before release (R271) -/

/-- A failed internal check: the job ends VERIFY_FAILED_INTERNAL, the failure is logged, and the second of an orbit takes the
tile out of capacity at the next boundary (R271, R288). -/
def verifyFailed (j t op : Nat) (tag : Word) (s : State) : State :=
  let cls := tileClass t
  let src := source 2 t
  let s := failJob j 0x5020 0 0 0 s
  let s := raiseFrom src (if cls = 3 then 0x9010 else 0x8010) 5 (t % 32) op tag.toNat s
  let n := (s.tile t).verifyFails + 1
  let out := decide (2 ≤ n) && !(s.tile t).verifyOut
  let s := modTile t (fun y => { y with verifyFails := n, verifyOut := y.verifyOut || decide (2 ≤ n) }) s
  if out then raiseFrom src (if cls = 3 then 0x9012 else 0x8012) 5 (t % 32) 1 0 s else s

/-- Run a job whose result is checked on its tile before release: `ok` says whether the check passed. -/
def checked (ok : Bool) (j : Nat) (x : Job) (run : State → State) (s : State) : State :=
  if ok then run s else verifyFailed j (x.tile.getD 64) x.desc.opcode x.desc.tag s

/-! ### RSA -/

/-- BIG_RSA_SIGN (R266, R271). -/
def bigRsaSign (j : Nat) (ok : Bool) (s : State) : State :=
  match runnable s j 0x3001 with
  | none => s
  | some x =>
    match keyOf? s x.desc.handleA with
    | none => failJob j 0x5022 0 0 0 s
    | some k =>
      checked ok j x (fun s =>
        let ps := [bScheme x.desc, bHash x.desc, bSalt x.desc]
        drawFree 64 (setResult j { status := 0, output := standardBytes 0x3001 ps [k.material, x.input, freeBytes s 64] (rsaLen s x.desc.handleA) } s)) s

/-- The modulus of an RSA key's material, its first k/8 bytes. -/
def rsaModulus (k : KeySlot) : Nat := beNat (k.material.take (rsaBits k.attr / 8))

/-- A verification's answer (R266). -/
def verdict (j : Nat) (ok : Bool) (s : State) : State := if ok then setResult j { status := 0 } s else failJob j 0x5021 0 0 0 s

/-- BIG_RSA_VERIFY (R266, R269). -/
def bigRsaVerify (j : Nat) (s : State) : State :=
  match runnable s j 0x3002 with
  | none => s
  | some x =>
    match keyOf? s x.desc.handleA with
    | none => failJob j 0x5022 0 0 0 s
    | some k =>
      verdict j (decide (beNat x.aux < rsaModulus k)
        && Config.standardHolds 0x3002 [bScheme x.desc, bHash x.desc, bSalt x.desc] [k.material, x.input, x.aux]) s

/-- BIG_RSA_ENCRYPT (R266). -/
def bigRsaEncrypt (j : Nat) (s : State) : State :=
  match runnable s j 0x3003 with
  | none => s
  | some x =>
    match keyOf? s x.desc.handleA with
    | none => failJob j 0x5022 0 0 0 s
    | some k =>
      drawFree 64 (setResult j { status := 0, output := standardBytes 0x3003 [bHash x.desc] [k.material, x.input, x.aux, freeBytes s 64] (rsaLen s x.desc.handleA) } s)

/-- Length of the message an OAEP decryption recovers. -/
def oaepLen (hash : Nat) (key input label : List Byte) (maxLen : Nat) : Nat :=
  leAt (standardBytes 0x13004 [hash] [key, input, label] 2) 0 2 % (maxLen + 1)

/-- Deliver an agreed or recovered secret under DEST (R268). -/
def bDeliver (j : Nat) (x : Job) (r : List Byte) (s : State) : State :=
  if bDest x.desc = 0 then setResult j { status := 0, output := r } s
  else
    match ephemeralSecret s (cabOfFn s x.fn) (bPolicy x.desc) r with
    | some (h, e) => setResult j { status := 0, w0 := h, w1 := r.length, effects := [e] } s
    | none => failJob j 0x4001 0 0 0 s

/-- BIG_RSA_DECRYPT (R268, R269, R271). -/
def bigRsaDecrypt (j : Nat) (ok : Bool) (s : State) : State :=
  match runnable s j 0x3004 with
  | none => s
  | some x =>
    match keyOf? s x.desc.handleA with
    | none => failJob j 0x5022 0 0 0 s
    | some k =>
      if rsaModulus k ≤ beNat x.input then failJob j 0x5023 0 0 0 s
      else
        checked ok j x (fun s =>
          let h := bHash x.desc
          let n := oaepLen h k.material x.input x.aux (rsaLen s x.desc.handleA - 2 * digestLen h - 2)
          if !Config.standardHolds 0x3004 [h] [k.material, x.input, x.aux] || (bDest x.desc == 2 && !(decide (16 ≤ n ∧ n ≤ 64))) then
            failJob j 0x5023 0 0 0 s
          else bDeliver j x (standardBytes 0x3004 [h] [k.material, x.input, x.aux] n) s) s

/-! ### Curves -/

/-- BIG_ECDSA_SIGN (R266, R267, R271). -/
def bigEcdsaSign (j : Nat) (ok : Bool) (s : State) : State :=
  match runnable s j 0x3010 with
  | none => s
  | some x =>
    match keyOf? s x.desc.handleA with
    | none => failJob j 0x5022 0 0 0 s
    | some k =>
      checked ok j x (fun s =>
        drawFree 74 (setResult j { status := 0, output := standardBytes 0x3010 [k.attr.type] [k.material, x.input, freeBytes s 74] (2 * fieldLen s x.desc.handleA) } s)) s

/-- BIG_ECDSA_VERIFY (R266). -/
def bigEcdsaVerify (j : Nat) (s : State) : State :=
  match runnable s j 0x3011 with
  | none => s
  | some x =>
    match keyOf? s x.desc.handleA with
    | none => failJob j 0x5022 0 0 0 s
    | some k => verdict j (Config.standardHolds 0x3011 [k.attr.type] [k.material, x.input, x.aux]) s

/-- The peer's point or u-coordinate: IN, or the public encoding of HANDLE_B. -/
def peerOf (s : State) (x : Job) : Option (List Byte) :=
  if x.desc.handleB = noHandle then some x.input else (keyOf? s x.desc.handleB).map publicEncoding

/-- Is an ECDH peer a point of the curve (R269)? -/
def peerOk (t : Nat) (p : List Byte) : Bool :=
  p.length == 1 + 2 * curveLen (t - 0x20) && byteAt p 0 == 4 && Config.standardHolds 0x13012 [t] [p]

/-- BIG_ECDH (R268, R269, R271). -/
def bigEcdh (j : Nat) (ok : Bool) (s : State) : State :=
  match runnable s j 0x3012 with
  | none => s
  | some x =>
    match keyOf? s x.desc.handleA, peerOf s x with
    | some k, some p =>
      if !peerOk k.attr.type p then failJob j 0x5022 0 0 0 s
      else checked ok j x (bDeliver j x (standardBytes 0x3012 [k.attr.type] [k.material, p] (fieldLen s x.desc.handleA))) s
    | _, _ => failJob j 0x5022 0 0 0 s

/-- BIG_EC_EPHEMERAL (R268): a private key into a class 2 handle, its public encoding as output. -/
def bigEcEphemeral (j : Nat) (ok : Bool) (s : State) : State :=
  match runnable s j 0x3013 with
  | none => s
  | some x =>
    checked ok j x (fun s =>
      let cab := cabOfFn s x.fn
      let t := curveType (bCurve x.desc)
      let m := standardBytes 0x3013 [t] [freeBytes s 74] (materialLen t 0)
      match (if ephemeralRoom s cab 1 then freeSpan s cab 1 else none) with
      | none => failJob j 0x4001 0 0 0 s
      | some slot =>
        let h := mkHandle cab 2 slot (slotGen s slot)
        let r : KeyRec := { handle := h, type := t, policy := bPolicy x.desc, length := m.length }
        drawFree 74 (setResult j { status := 0, output := publicEncoding { attr := r, material := m }, w0 := h, effects := [.putKey slot r m] } s)) s

/-- BIG_EDDSA_SIGN (R266, R271). -/
def bigEddsaSign (j : Nat) (ok : Bool) (s : State) : State :=
  match runnable s j 0x3020 with
  | none => s
  | some x =>
    match keyOf? s x.desc.handleA with
    | none => failJob j 0x5022 0 0 0 s
    | some k =>
      checked ok j x (setResult j { status := 0, output := standardBytes 0x3020 [k.attr.type] [k.material, x.input, x.aux] (edSigLen k.attr.type) }) s

/-- BIG_EDDSA_VERIFY (R266). -/
def bigEddsaVerify (j : Nat) (s : State) : State :=
  match runnable s j 0x3021 with
  | none => s
  | some x =>
    match keyOf? s x.desc.handleA with
    | none => failJob j 0x5022 0 0 0 s
    | some k =>
      let n := edSigLen k.attr.type
      verdict j (Config.standardHolds 0x3021 [k.attr.type] [k.material, x.input, x.aux.take n, x.aux.drop n]) s

/-- BIG_XDH (R268, R269, R271): an all-zero result is refused. -/
def bigXdh (j : Nat) (ok : Bool) (s : State) : State :=
  match runnable s j 0x3022 with
  | none => s
  | some x =>
    match keyOf? s x.desc.handleA, peerOf s x with
    | some k, some p =>
      if p.length ≠ xLen k.attr.type then failJob j 0x5022 0 0 0 s
      else checked ok j x (fun s =>
        let r := standardBytes 0x3022 [k.attr.type] [k.material, p] (xLen k.attr.type)
        if allZero r then failJob j 0x5022 0 0 0 s else bDeliver j x r s) s
    | _, _ => failJob j 0x5022 0 0 0 s

/-! ### MODARITH (R276) -/

/-- `a` to the power whose bits are listed from the least significant, modulo `m`. -/
def powBits (m : Nat) : List Bool → Nat → Nat → Nat
  | [], _, r => r % m
  | b :: bs, a, r => powBits m bs (a * a % m) (if b then r * a % m else r)

/-- The low `n` bits of a number, least significant first. -/
def bitList (n v : Nat) : List Bool := (List.range n).map (bit v)

/-- The value of a MODARITH operation on m, a, b of `w` words, exponents of `e` words. -/
def modArith (sub w e : Nat) (input : List Byte) : Nat :=
  let m := beNat (input.take (8 * w))
  let a := beNat (slice input (8 * w) (if sub = 6 then 16 * w else 8 * w))
  let b := beNat (slice input (16 * w) (if sub = 4 then 8 * e else 8 * w))
  match sub with
  | 1 => (a + b) % m
  | 2 => (a + m - b % m) % m
  | 3 => a * b % m
  | 4 => powBits m (bitList (64 * e) b) (a % m) 1
  | 5 => powBits m (bitList (64 * w) (m - 2)) (a % m) 1
  | _ => a % m

/-- BIG_MODARITH (R269, R276). -/
def bigModarith (j : Nat) (s : State) : State :=
  match runnable s j 0x3030 with
  | none => s
  | some x =>
    let w := bMod x.desc
    let m := beNat (x.input.take (8 * w))
    if m % 2 = 0 ∨ m < 3 ∨ allZero (x.input.take 8) then failJob j 0x2001 16 0 0 s
    else setResult j { status := 0, output := beBytes (8 * w) (modArith (bCurve x.desc) w (bExp x.desc) x.input) } s

end Sys2Proof.Machine
end

