-- ==== Sys2Proof/Machine/Dovetail.lean ====
section
/-! DEFINITION. Dovetail approval (spec/09_cabinets_keys.md R224 to R230): opening a request, checking an approval, the
query and the end of a request. -/

namespace Sys2Proof.Machine

/-- An OTP word (R446). -/
def otpWord (s : State) (w : Nat) : Nat := Tab.getD s.lcs.otp w 0
/-- The device serial, words 8 and 9 (R446). -/
def serialOf (s : State) : Nat := otpWord s 8 + otpWord s 9 * 2 ^ 32
/-- A 32-byte digest held in eight OTP words from `w`. -/
def otpDigest (s : State) (w : Nat) : Digest := digestOf ((List.range 8).flatMap (fun i => leBytes 4 (otpWord s (w + i))))

/-- m of a cabinet's roster in the active structure. -/
def quorumM (s : State) (cab : Nat) : Nat := ((s.car.active.quorums.find? (fun q => q.cab == cab)).map (·.m)).getD 0
/-- The roster of a cabinet for a right; none asks for any officer (R224). -/
def rosterFor (s : State) (cab : Nat) (right : Option Nat) : Roster := { cab := cab, m := quorumM s cab, right := right }

/-- Rights of R100 by bit number. -/
def rightKeyCreate : Nat := 0
def rightKeyExport : Nat := 1
def rightKeyDestroy : Nat := 2
def rightThaw : Nat := 3
def rightCarcass : Nat := 4
def rightTimeStep : Nat := 5
def rightCustody : Nat := 6
def rightApplet : Nat := 7

/-- The command digest of R226 for a command that is neither a stage nor a time statement. -/
def commandDigest (s : State) (cab : Nat) (x : Job) : Digest :=
  Config.sha3 ([0x4B, 0x47, 0x44, 0x56] ++ leBytes 8 (serialOf s) ++ leBytes 1 cab ++ leBytes 2 x.desc.opcode
    ++ leBytes 4 x.desc.handleA ++ leBytes 4 x.desc.handleB ++ x.desc.params ++ x.input ++ x.aux)

/-- The close orbit of a request (R225). -/
def closeOrbit (openL : Nat) : Nat := (openL + 2 ^ 20) / 2 ^ 20

/-- Open requests of a submitting cabinet. -/
def openRequests (s : State) (cab : Nat) : Nat := (s.dov.reqs.filter (fun r => r.cab == cab)).length

/-- Open a dovetail request (R225); a seventeenth of a cabinet ends NO_SLOT. -/
def openRequest (j : Nat) (x : Job) (rosters : List Roster) (dig : Digest) (s : State) : State :=
  let cab := cabOfFn s x.fn
  if 16 ≤ openRequests s cab then failJob j 0x4001 0 0 0 s
  else
    let n := s.dov.nextNum
    let r : Request := { num := n, cab := cab, opcode := x.desc.opcode, job := j, digest := dig, openL := s.time.L, rosters := rosters }
    let s := modJob j (fun x => { x with request := some n }) { s with dov := { s.dov with reqs := s.dov.reqs ++ [r], nextNum := n + 1 } }
    let s := forEach rosters (fun q => notifyCab 0x000D q.cab n x.desc.opcode q.m (closeOrbit r.openL) q.cab) s
    raiseEv 0x5020 3 n (x.desc.opcode + cab * 2 ^ 16) (closeOrbit r.openL) s

/-- Open a request in the submitting cabinet over the command digest of R226 (DEDUCED, log 32). -/
def openOwn (j : Nat) (x : Job) (right : Nat) (s : State) : State :=
  openRequest j x [rosterFor s (cabOfFn s x.fn) (some right)] (commandDigest s (cabOfFn s x.fn) x) s

/-- Does a job hold an open request? (DEDUCED, log 32). -/
def awaiting (s : State) (j : Nat) : Bool := s.dov.reqs.any (fun r => r.job == j)

/-- A management job ready to open its request: runnable, without one (R225). -/
def openable (s : State) (j op : Nat) : Option Job := if awaiting s j then none else (runnable s j op).filter (fun x => !x.approved)

/-- Cancel a request: its job ends WITHDRAWN (R229). -/
def cancelRequest (n : Nat) (s : State) : State :=
  match s.dov.reqs.find? (fun r => r.num == n) with
  | none => s
  | some r => endJob r.job 0x7001 0 0 0 { s with dov := { s.dov with reqs := s.dov.reqs.filter (fun q => q.num != n) } }

/-- Cancel the requests a test picks out. -/
def cancelWhere (p : Request → Bool) (s : State) : State := forEach ((s.dov.reqs.filter p).map (·.num)) cancelRequest s

/-! ### Approvals (R227, R228) -/

/-- The fields of an approval body. -/
structure ApprovalBody where
  cab : Nat
  officer : Nat
  serial : Nat
  num : Nat
  right : Nat
  close : Nat
  digest : Digest
  deriving DecidableEq, Repr

/-- Read an approval body. -/
def approvalBody (b : List Byte) : ApprovalBody :=
  { cab := byteAt b 6, officer := byteAt b 7, serial := leAt b 8 8, num := leAt b 16 4, right := byteAt b 20,
    close := leAt b 24 8, digest := digestOf (slice b 32 32) }

/-- AUX length of an approval under an algorithm. -/
def approvalLen (alg : Nat) : Nat := 64 + (algLens alg).1 + (algLens alg).2

/-- The officer a body names. -/
def officerOf (s : State) (a : ApprovalBody) : Option Officer :=
  s.car.active.officers.find? (fun o => o.cab == a.cab && o.index == a.officer)

/-- Is the request open at an instant in transit `L` (R225, R227)? -/
def openAt (r : Request) (L : Nat) : Bool := decide (r.openL ≤ L ∧ L < r.openL + 2 ^ 20)

/-- Does the claimed right meet a roster's (R228 step 6)? -/
def rightMet (q : Roster) (claimed rights : Nat) : Bool :=
  match q.right with
  | some b => claimed == b && bit rights b
  | none => claimed == 0xFF

/-- The checks of R228 in order: the status where one fails, or the request, its roster and whether the officer was counted. -/
def checkApproval (s : State) (bellL : Nat) (b : List Byte) : Except Nat (Request × Roster × Bool) :=
  let a := approvalBody b
  if !(leAt b 0 4 == 0x4144474B && leAt b 4 2 == 1 && allZero (slice b 21 3) && a.serial == serialOf s) then .error 0x5040
  else match s.dov.reqs.find? (fun r => r.num == a.num) with
    | none => .error 0x5040
    | some r =>
      match r.rosters.find? (fun q => q.cab == a.cab) with
      | none => .error 0x5040
      | some q =>
        if !(openAt r bellL && a.close == closeOrbit r.openL) then .error 0x5040
        else match officerOf s a with
          | none => .error 0x5040
          | some o =>
            let sig := slice b 64 (algLens o.alg).2
            let key := slice b (64 + (algLens o.alg).2) (algLens o.alg).1
            if b.length ≠ approvalLen o.alg ∨ Config.sha3 key ≠ o.digest then .error 0x5040
            else if a.digest ≠ r.digest then .error 0x5040
            else if !sigHolds o.alg key (b.take 64) sig then .error 0x5040
            else if !(rightMet q a.right o.rights) then .error 0x3003
            else .ok (r, q, q.counted.contains a.officer)

/-- Count an officer in a roster of a request, and keep the approval. -/
def countOfficer (r : Request) (cab officer : Nat) (aux : List Byte) : Request :=
  { r with approvals := r.approvals ++ [aux], rosters := r.rosters.map (fun q => if q.cab = cab then { q with counted := q.counted ++ [officer] } else q) }

/-- Has every roster its m distinct officers (R229)? (DEDUCED, log 32). -/
def quorumReached (r : Request) : Bool := r.rosters.all (fun q => decide (q.m ≤ q.counted.length))

/-- The job-length rule of an approval: AUX_LEN must be the sum of the officer's algorithm (R227). -/
def approvalLenBad (s : State) (b : List Byte) : Option Nat :=
  match officerOf s (approvalBody b) with
  | some o => if b.length = approvalLen o.alg then none else some (approvalLen o.alg)
  | none => none

/-- DOVETAIL_APPROVE up to the quorum: the approval's own answer; the second part is the request whose quorum is reached. -/
def approve (j : Nat) (s : State) : State × Option Request :=
  match runnable s j 0x7010 with
  | none => (s, none)
  | some x =>
    let b := x.aux
    match approvalLenBad s b with
    | some n => (failJob j 0x5001 36 n 0 s, none)
    | none =>
      let a := approvalBody b
      let log := fun (status : Nat) (s : State) => raiseEv 0x5021 3 a.num (a.officer + a.cab * 256) status s
      match checkApproval s (x.bellD / transitCycles) b with
      | .error st => (failJob j st 0 0 0 (log st s), none)
      | .ok (r, q, true) => (setResult j { status := 0, w0 := r.num, w1 := q.m - q.counted.length, w2 := 0 } (log 0 s), none)
      | .ok (r, q, false) =>
        let r' := countOfficer r q.cab a.officer b
        let s := setResult j { status := 0, w0 := r.num, w1 := q.m - (q.counted.length + 1), w2 := 1 } (log 0 s)
        if quorumReached r' then
          let s := modJob r.job (fun y => { y with approved := true })
            { s with dov := { s.dov with reqs := s.dov.reqs.filter (fun y => y.num != r.num) } }
          (raiseEv 0x5022 4 r.num r.opcode r.cab s, some r')
        else ({ s with dov := { s.dov with reqs := s.dov.reqs.map (fun y => if y.num = r.num then r' else y) } }, none)

/-! ### Query and lapse (R229, R230) -/

/-- Right byte of a query record. -/
def rightByte (q : Roster) : Nat := q.right.getD 0xFF

/-- One query record (R230) (DEDUCED, log 21). -/
def queryRecord (r : Request) (q : Roster) : List Byte :=
  leBytes 4 r.num ++ leBytes 1 q.cab ++ leBytes 1 q.m ++ leBytes 1 q.counted.length ++ leBytes 1 (rightByte q) ++ leBytes 2 r.opcode
    ++ leBytes 2 (bitmapOf 16 (fun i => q.counted.contains i)) ++ zeros 4 ++ leBytes 8 r.openL ++ leBytes 8 (closeOrbit r.openL)
    ++ digestBytes r.digest

/-- The records of a query: the cabinet's roster of each open request that needs its approvals (DEDUCED, log 21). -/
def queryRecords (s : State) (cab num : Nat) : List (List Byte) :=
  (s.dov.reqs.filter (fun r => num == 0 || num == r.num)).flatMap
    (fun r => (r.rosters.filter (fun q => q.cab == cab)).map (queryRecord r))

/-- DOVETAIL_QUERY (R230) (DEDUCED, log 21). -/
def dovetailQuery (j : Nat) (s : State) : State :=
  match runnable s j 0x7011 with
  | none => s
  | some x =>
    let rs := queryRecords s (cabOfFn s x.fn) (x.desc.par 40 4)
    setResult j { status := 0, output := rs.flatten, w0 := rs.length } s

/-- Is an approval that arrived within the window still being verified (R227)? -/
def lateApproval (s : State) (r : Request) : Bool :=
  (liveJobs s).any (fun e => e.2.desc.opcode == 0x7010 && e.2.result.isNone && openAt r (e.2.bellD / transitCycles)
    && (e.2.aux.isEmpty || leAt e.2.aux 16 4 == r.num))

/-- Approvals counted over all rosters. -/
def countedAll (r : Request) : Nat := (r.rosters.map (fun q => q.counted.length)).sum

/-- DOVETAIL_LAPSE (R229): the window of a request has ended and no approval that arrived within it is still unverified. -/
def dovetailLapse (n : Nat) (s : State) : State :=
  match s.dov.reqs.find? (fun r => r.num == n) with
  | none => s
  | some r =>
    if r.openL + 2 ^ 20 ≤ s.time.L ∧ !lateApproval s r then
      let s := { s with dov := { s.dov with reqs := s.dov.reqs.filter (fun q => q.num != n) } }
      endJob r.job 0x6020 0 0 0 (raiseEv 0x5023 4 r.num r.opcode (countedAll r) s)
    else s

/-! ### The commands that wait for a quorum of their own cabinet -/

/-- KEY_IMPORT, KEY_EXPORT and KEY_DESTROY open their request (R224), KEY_IMPORT once its envelope has passed the checks that need no
approval (R225). -/
def keyImport (j : Nat) (s : State) : State :=
  match openable s j 0x7002 with
  | none => s
  | some x =>
    match importMaterial s x with
    | .error e => failJob j e.1 e.2 0 0 s
    | .ok _ => openOwn j x rightKeyCreate s

def keyExport (j : Nat) (s : State) : State :=
  match openable s j 0x7003 with
  | none => s
  | some x => openOwn j x rightKeyExport s

def keyDestroy (j : Nat) (s : State) : State :=
  match openable s j 0x7004 with
  | none => s
  | some x => openOwn j x rightKeyDestroy s

/-- THAW (R201, R224): refused before any request opens where its master is not frozen or is another cabinet's. -/
def thaw (j : Nat) (s : State) : State :=
  match openable s j 0x7012 with
  | none => s
  | some x => openOwn j x rightThaw s

/-- THAW after quorum: the master thaws at the next boundary (R201); one no longer frozen changes nothing. -/
def runThaw (j : Nat) (x : Job) (s : State) : State :=
  let kind := x.desc.par 40 1
  let number := x.desc.par 44 4
  if isFrozen s kind number then
    setResult j { status := 0, w0 := 1 }
      { s with job := { s.job with thawDue := s.job.thawDue ++ [(kind, number, cabOfFn s x.fn)] } }
  else setResult j { status := 0, w0 := 0 } s

/-- THAW, DOVETAIL_APPROVE and DOVETAIL_QUERY at the descriptor checks. -/
def dovetailInfo (s : State) (cab : Nat) (d : Desc) : OpInfo :=
  match d.opcode with
  | 0x7010 =>
    { plane := .M, usesAux := true, fields := reservedFrom d 40,
      length := if d.auxLen = approvalLen 1 ∨ d.auxLen = approvalLen 2 ∨ d.auxLen = approvalLen 3 then none
        else some (0x5001, 36, approvalLen 3) }
  | 0x7011 =>
    { plane := .M, usesOut := true, fields := reservedFrom d 44, outLen := 1088, needOut := some 1088 }
  | _ =>
    let kind := d.par 40 1
    let number := d.par 44 4
    { plane := .M,
      fields := [(40, decide (kind ≤ 4)), zeroField d 41 3,
                 (44, isFrozen s kind number)] ++ reservedFrom d 48,
      owner := if cab = 0 ∨ ownerOfMaster s kind number = cab then none else some (0x3001, 44, 0) }

end Sys2Proof.Machine
end

