-- ==== Sys2Proof/Machine/MeshLink.lean ====
section
/-! DEFINITION. Mesh links (spec/18_ulyel_mesh.md R396 to R412): frames and credits, sending, membership, keying, heartbeats,
the reference and its parent. -/

namespace Sys2Proof.Machine

/-! ### Members and conditions -/

/-- The MESH_MEMBER record of a member. -/
def meshRec? (s : State) (m : Nat) : Option MeshRec := s.car.active.members.find? (fun r => r.member == m)
/-- This device's member number. -/
def meshSelf (s : State) : Option Nat := s.car.active.meshSelf.map (·.1)
/-- A member's record of state. -/
def State.memberOf (s : State) (m : Nat) : Option Member := Tab.get? s.msh.members m
/-- Change a member. -/
def modMember (m : Nat) (g : Member → Member) (s : State) : State :=
  { s with msh := { s.msh with members := Tab.update s.msh.members m g } }
/-- The path of a member; 4 is the tunnel. -/
def pathOf (s : State) (m : Nat) : Nat := ((meshRec? s m).map (·.path)).getD 4

/-- Is the mesh hardware at work (R398, R423)? -/
def meshUp (s : State) : Bool :=
  (meshSelf s).isSome && !s.car.active.bare && s.glb.phase == .run &&
    (devState s == .service || devState s == .limited || devState s == .hold)

/-- May links be keyed (R408, R423, R482)? -/
def mayKey (s : State) : Bool :=
  meshUp s && !keeperAbsent s && (devState s == .service || devState s == .limited) && s.msh.idSeed.isSome

/-- May custody work proceed (R423)? -/
def mayCustody (s : State) : Bool := meshUp s && !keeperAbsent s && devState s == .service

/-- The identity public key: ML-DSA-65 (R403); empty where there is none. -/
def idKey (s : State) : List Byte :=
  match s.msh.idSeed with
  | some k => standardBytes 0x2050 [0x51] [k] 1952
  | none => []
/-- The identity digest. -/
def idDigest (s : State) : Digest := if s.msh.idSeed.isSome then Config.sha3 (idKey s) else 0

/-- ML-DSA-65 under the identity key, pure mode, empty context; 32 hedging bytes are drawn. -/
def idSign (s : State) (msg : List Byte) : List Byte :=
  standardBytes 0x4010 [2] [(s.msh.idSeed).getD [], msg, [], freeBytes s 32] 3309

/-! ### Frames (R399 to R401) -/

/-- The 24-byte header. -/
def frameHead (type src dst flags credit len frag epoch counter : Nat) : List Byte :=
  leBytes 2 0x4D4B ++ leBytes 1 1 ++ leBytes 1 type ++ leBytes 1 src ++ leBytes 1 dst ++ leBytes 1 flags ++ leBytes 1 credit
    ++ leBytes 2 len ++ leBytes 2 frag ++ leBytes 4 epoch ++ leBytes 8 counter

/-- The nonce of a sealed frame. -/
def frameNonce (counter epoch : Nat) : List Byte := leBytes 8 counter ++ leBytes 4 epoch

/-- A frame leaves: on its port, or into the tunnel queue. -/
def putFrame (m : Nat) (bytes : List Byte) (s : State) : State :=
  let wire := bytes ++ leBytes 4 (crc32c bytes)
  if pathOf s m < 4 then emit (.meshFrame (pathOf s m) wire) s
  else { s with msh := { s.msh with tunnel := s.msh.tunnel ++ [(m, wire)] } }

/-- Is a frame type sealed once a link is keyed? -/
def sealedType (t : Nat) : Bool := decide (0x10 ≤ t)

/-- One frame to a member, with the buffers freed so far; it is sealed once the link is keyed (R400). -/
def frameOut (m type frag flags epoch : Nat) (payload : List Byte) (s : State) : State :=
  match s.memberOf m with
  | none => s
  | some x =>
    let self := (meshSelf s).getD 0
    match x.link with
    | some l =>
      if sealedType type then
        let head := frameHead type self m (1 + flags) x.freed payload.length frag l.epoch (l.txCount + 1)
        let s := modMember m (fun x => { x with freed := 0, link := some { l with txCount := l.txCount + 1 } }) s
        putFrame m (head ++ gcmSeal l.tx (frameNonce (l.txCount + 1) l.epoch) head payload) s
      else
        putFrame m (frameHead type self m flags x.freed payload.length frag epoch 0 ++ payload) (modMember m (fun x => { x with freed := 0 }) s)
    | none => putFrame m (frameHead type self m flags x.freed payload.length frag epoch 0 ++ payload) (modMember m (fun x => { x with freed := 0 }) s)

/-- Send a frame: it takes a credit, or waits for one behind those that wait (R401); nothing goes to a frozen peer (R406). -/
def sendFlagged (m flags type frag epoch : Nat) (payload : List Byte) (s : State) : State :=
  match s.memberOf m with
  | none => s
  | some x =>
    if x.st = .frozen then s
    else if x.credits = 0 ∨ x.queue ≠ [] then
      modMember m (fun x => { x with queue := x.queue ++ [{ type := type, flags := flags, frag := frag, epoch := epoch, payload := payload }] }) s
    else frameOut m type frag flags epoch payload (modMember m (fun x => { x with credits := x.credits - 1 }) s)

/-- Send a frame with no flag of its own. -/
def sendFrame (m type frag epoch : Nat) (payload : List Byte) (s : State) : State := sendFlagged m 0 type frag epoch payload s

/-- Send what waited, in its order, as far as credits go. -/
def flushQueue (m : Nat) : Nat → State → State
  | 0, s => s
  | n + 1, s =>
    match s.memberOf m with
    | none => s
    | some x =>
      match x.queue with
      | [] => s
      | f :: rest =>
        if x.credits = 0 then s
        else flushQueue m n (frameOut m f.type f.frag f.flags f.epoch f.payload (modMember m (fun x => { x with credits := x.credits - 1, queue := rest }) s))

/-- A buffer of a peer's frame has been freed: it goes back in a later CREDIT field (R401). -/
def buffered (L : Nat) (x : Member) : Member :=
  { x with freed := min 32 (x.freed + 1), freedL := if x.freed = 0 then L else x.freedL }

/-- The fragments of a message of more than 8,192 bytes (R402) (DEDUCED, log 30). -/
def fragments (payload : List Byte) : List (Nat × List Byte) :=
  let n := max 1 (ceilDiv payload.length 8192)
  (List.range n).map (fun i => (i + (if i + 1 = n then 0x8000 else 0), slice payload (8192 * i) 8192))

/-- Send a message over a keyed link; one of more than 64 fragments has no form and is not sent (log 30). -/
def sendMsg (m type : Nat) (payload : List Byte) (s : State) : State :=
  match s.memberOf m with
  | none => s
  | some x =>
    let fs := fragments payload
    if x.link.isNone ∨ 64 < fs.length then s
    else
      let s := if 1 < fs.length then modMember m (fun x => { x with lastMsg := some (type, payload), resendAt := none }) s else s
      forEach fs (fun f => sendFrame m type f.1 0 f.2) s

/-! ### State of a member (R404 to R406) -/

/-- Drop the reassembly places of a member. -/
def dropPlaces (m : Nat) (s : State) : State := { s with msh := { s.msh with places := s.msh.places.filter (fun p => p.member != m) } }

/-- The link of a member is closed: keys, counters, queued frames and what it advertised go. -/
def closeLink (m : Nat) (st : MemberState) (s : State) : State :=
  dropPlaces m (modMember m (fun x => { x with
    st := st, link := none, old := none, keying := none, queue := [], helloSent := false, helloAt := none, resendAt := none, lastMsg := none, adv := none }) s)

/-- The frames for a member that the host has not carried yet are dropped (R406, R424). -/
def dropTunnel (m : Nat) (s : State) : State := { s with msh := { s.msh with tunnel := s.msh.tunnel.filter (fun f => f.1 != m) } }

/-- The first HELLO of a member that entered DOWN or LOST (R405), r drawn once per member. -/
def scheduleHello (h0 m : Nat) (s : State) : State :=
  match s.memberOf m with
  | none => s
  | some x =>
    let at_ := fun r => some (h0 + 64 * (meshSelf s).getD 0 + r)
    match x.stagger with
    | some r => modMember m (fun x => { x with helloAt := at_ r }) s
    | none =>
      let r := leAt (freeBytes s 1) 0 1 % 64
      drawFree 1 (modMember m (fun x => { x with stagger := some r, helloAt := at_ r }) s)

/-- Reset of a link by a HELLO (R401) (DEDUCED, log 48). -/
def resetLink (m : Nat) (s : State) : State := dropPlaces m (modMember m (fun x => { x with credits := 32, freed := 0, queue := [] }) s)

/-- The HELLO payload. -/
def helloPayload (s : State) : List Byte :=
  leBytes 8 (serialOf s) ++ leBytes 1 ((meshSelf s).getD 0) ++ leBytes 1 (flag ((s.car.active.meshSelf.map (·.2)).getD false)) ++ zeros 2
    ++ digestBytes (idDigest s) ++ leBytes 8 s.time.L ++ zeros 4

/-- Send a HELLO: the link is reset; the next one is due after 1,024 and a further 1,024 + r′ transits (R405). -/
def sendHello (m : Nat) (s : State) : State :=
  let r := leAt (freeBytes s 2) 0 2 % 1024
  let s := frameOut m 0x01 0x8000 0 0 (helloPayload s) (resetLink m s)
  drawFree 2 (modMember m (fun x => { x with helloSent := true, helloAt := some (s.time.L + 2048 + r) }) s)

/-- HELLO_TIMER (R405). -/
def helloTimer (m : Nat) (s : State) : State :=
  match s.memberOf m with
  | none => s
  | some x =>
    if mayKey s && (x.st == .down || x.st == .lost || x.st == .keying) && x.helloAt.any (fun l => decide (l ≤ s.time.L)) then
      sendHello m s
    else s

/-! ### The reference (R411) -/

/-- LIVE direct-port peers with what they advertise: member, REF, HOPS. -/
def peersAdv (s : State) : List (Nat × Nat × Nat) :=
  s.msh.members.filterMap (fun e =>
    if e.2.st = .live ∧ pathOf s e.1 < 4 then e.2.adv.map (fun a => (e.1, a.1, a.2.1)) else none)

/-- Is a member REFERENCE_ELIGIBLE in this device's own image? -/
def refEligible (s : State) (r : Nat) : Bool :=
  s.car.active.meshSelf == some (r, true) || s.car.active.members.any (fun e => e.member == r && e.eligible)

/-- The reference, the parent and the HOPS of this device (DEDUCED, log 49). -/
def chooseRef (s : State) : Option Nat × Option Nat × Nat :=
  let adv := (peersAdv s).filter (fun a => decide (a.2.2 ≤ 16))
  let ok := fun r => refEligible s r && (meshSelf s == some r || adv.any (fun a => a.2.1 == r))
  match (List.range 256).find? ok with
  | none => (none, none, 255)
  | some r =>
    if meshSelf s = some r then (some r, none, 0)
    else
      let cand := sortBy (fun a => a.2.2 * 256 + a.1) ((peersAdv s).filter (fun a => a.2.1 == r))
      match cand with
      | [] => (some r, none, 255)
      | a :: _ => (some r, some a.1, saturate 8 (a.2.2 + 1))

/-- Choose again; a change of reference is logged (DEDUCED, log 49). -/
def updateRef (s : State) : State :=
  let c := if meshUp s then chooseRef s else (none, none, 255)
  let s' := { s with msh := { s.msh with ref := c.1, parent := c.2.1, hops := c.2.2 } }
  if c.1 = s.msh.ref then s' else raiseEv 0xE013 3 (c.1.getD 0) (c.2.1.getD 0) c.2.2 s'

/-! ### Freezing a peer (R406) -/

/-- Freeze a peer as a master. -/
def freezePeer (m cause : Nat) (s : State) : State :=
  match s.memberOf m with
  | none => s
  | some x =>
    if x.st = .frozen then s
    else
      updateRef (freezeMaster 3 m cause 0 0 none (modMember m (fun x => { x with cause := cause }) (dropTunnel m (closeLink m .frozen s))))

/-- A thawed peer returns to DOWN; its first HELLO follows (R405, R406). -/
def thawPeer (m : Nat) (s : State) : State :=
  match s.memberOf m with
  | none => s
  | some x => if x.st = .frozen then scheduleHello s.time.L m (modMember m (fun x => { x with cause := 0, credits := 32, freed := 0, tagFails := 0 }) (closeLink m .down s)) else s

/-! ### Keying (R407, R408) -/

/-- X25519 public value of a secret. -/
def xPublic (x : List Byte) : List Byte := standardBytes 0x3122 [0x32] [x] 32
/-- X25519 shared secret. -/
def xShared (x p : List Byte) : List Byte := standardBytes 0x3022 [0x32] [x, p] 32
/-- ML-KEM-768 encapsulation key of the material of a key pair. -/
def kemEncKey (material : List Byte) : List Byte := standardBytes 0x2040 [0x41] [material] 1184

/-- The link keys of both directions (R407). -/
def linkKeys (h : Digest) (kem x : List Byte) : List Byte :=
  standardBytes 0x9407 [512] [kem ++ x, digestBytes h, [0x4B, 0x47, 0x4D, 0x45, 0x53, 0x48]] 64

/-- The transcript digest. -/
def transcript (epoch si sr : Nat) (init reply : List Byte) : Digest :=
  Config.sha3 ([0x4B, 0x47, 0x4D, 0x4B] ++ leBytes 4 epoch ++ leBytes 8 si ++ leBytes 8 sr ++ init ++ reply.take 1152)

/-- A keying is abandoned: logged; a member without a keyed link returns to DOWN. -/
def keyingFailed (m step : Nat) (s : State) : State :=
  raiseEv 0xE011 4 m step 0 (modMember m (fun x => { x with keying := none, st := if x.st = .keying then .down else x.st }) s)

/-- The initiator's KEY_INIT. -/
def sendKeyInit (m : Nat) (s : State) : State :=
  match s.memberOf m with
  | none => s
  | some x =>
    let e := x.lastEpoch + 1
    let f := freeBytes s 128
    let kem := standardBytes 0x4001 [2] [slice f 64 64] 96
    let p := slice f 0 32 ++ xPublic (slice f 32 32) ++ kemEncKey kem
    let s := drawFree 128 (modMember m (fun x => { x with keying := some { epoch := e, x := slice f 32 32, kem := kem, init := p } }) s)
    sendFrame m 0x02 0x8000 e p s

/-- A keyed link begins: the old epoch is accepted until the first frame of the new one (R408) (DEDUCED, log 48). -/
def linkKeyed (m epoch : Nat) (tx rx : List Byte) (s : State) : State :=
  let s := modMember m (fun x => { x with
    st := .live, lastEpoch := epoch, keying := none, helloSent := false, helloAt := none, heardL := s.time.L
    old := x.link.map (fun l => (l.epoch, l.rx, l.rxCount))
    link := some { epoch := epoch, tx := tx, rx := rx, keyedL := s.time.L } }) s
  raiseEv 0xE010 3 m epoch (pathOf s m) s

/-- HELLO (R405): it resets the link and is answered; the initiator goes on to KEY_INIT (DEDUCED, log 48). -/
def onHello (m : Nat) (p : List Byte) (s : State) : State :=
  let s := modMember m (fun x => { x with helloSerial := some (leAt p 0 8) }) (resetLink m s)
  if mayKey s then
    let s := modMember m (fun x => { x with st := if x.st = .down ∨ x.st = .lost then .keying else x.st }) s
    if (meshSelf s).getD 0 < m then
      let s := if (s.memberOf m).any (·.helloSent) then s else sendHello m s
      sendKeyInit m s
    else sendHello m s
  else s

/-- The record's serial of a member. -/
def serialOfMember (s : State) (m : Nat) : Nat := ((meshRec? s m).map (·.serial)).getD 0

/-- KEY_INIT at the responder (R407 step 2). -/
def onKeyInit (m epoch : Nat) (p : List Byte) (s : State) : State :=
  match s.memberOf m with
  | none => s
  | some x =>
    if !mayKey s || decide ((meshSelf s).getD 0 < m) then s
    else
      let f := freeBytes s 96
      let ek := p.drop 64
      let ss := xShared (slice f 32 32) (slice p 32 32)
      if x.helloSerial ≠ some (serialOfMember s m) ∨ !Config.standardHolds 0x4002 [2] [ek] ∨ allZero ss then keyingFailed m 2 s
      else
        let head := slice f 0 32 ++ xPublic (slice f 32 32) ++ standardBytes 0x4002 [2] [ek, slice f 64 32] 1088
        let h := transcript epoch (serialOfMember s m) (serialOf s) p head
        let s := drawFree 96 s
        let sig := idSign s (digestBytes h ++ [0x52])
        let keys := linkKeys h (standardBytes 0x14002 [2] [ek, slice f 64 32] 32) ss
        let s := drawFree 32 (modMember m (fun x => { x with keying := some { epoch := epoch, init := p, digest := h, keys := keys } }) s)
        sendFrame m 0x03 0x8000 epoch (head ++ idKey s ++ sig) s

/-- Does a key carry the member's identity, and its signature hold over the transcript digest? -/
def idVerifies (s : State) (m : Nat) (h : Digest) (role : Byte) (key sig : List Byte) : Bool :=
  (meshRec? s m).any (fun r => r.digest == Config.sha3 key) && sigHolds 3 key (digestBytes h ++ [role]) sig

/-- KEY_REPLY at the initiator (R407 step 3); on success the keyed link begins once KEY_CONFIRM has been sent. -/
def onKeyReply (m epoch : Nat) (p : List Byte) (s : State) : State × Bool :=
  match (s.memberOf m).bind (·.keying) with
  | none => (s, false)
  | some k =>
    if !mayKey s || decide (m < (meshSelf s).getD 0) || k.epoch != epoch then (s, false)
    else
      let h := transcript epoch (serialOf s) (serialOfMember s m) k.init p
      let ss := xShared k.x (slice p 32 32)
      if !idVerifies s m h 0x52 (slice p 1152 1952) (slice p 3104 3309) || allZero ss then (keyingFailed m 3 s, false)
      else
        let keys := linkKeys h (standardBytes 0x4003 [2] [k.kem, slice p 64 1088] 32) ss
        let sig := idSign s (digestBytes h ++ [0x49])
        let s := sendFrame m 0x04 0x8000 epoch (idKey s ++ sig) (drawFree 32 s)
        (linkKeyed m epoch (keys.take 32) (keys.drop 32) s, true)

/-- KEY_CONFIRM at the responder (R407 step 4). -/
def onKeyConfirm (m epoch : Nat) (p : List Byte) (s : State) : State × Bool :=
  match (s.memberOf m).bind (·.keying) with
  | none => (s, false)
  | some k =>
    if !mayKey s || decide ((meshSelf s).getD 0 < m) || k.epoch != epoch then (s, false)
    else if !idVerifies s m k.digest 0x49 (p.take 1952) (p.drop 1952) then (keyingFailed m 4 s, false)
    else (linkKeyed m epoch (k.keys.drop 32) (k.keys.take 32) s, true)

/-- REKEY (R408): the initiator, 64 orbits after a completed keying or at a COUNTER of 2^48. -/
def rekey (m : Nat) (s : State) : State :=
  match (s.memberOf m).bind (·.link) with
  | none => s
  | some l =>
    if mayKey s && decide ((meshSelf s).getD 0 < m) && (s.memberOf m).any (fun x => x.keying.isNone) &&
        (decide (l.keyedL + 64 * orbitL ≤ s.time.L) || decide (2 ^ 48 ≤ l.txCount) || decide (2 ^ 48 ≤ l.rxCount)) then
      sendKeyInit m s
    else s

/-! ### Heartbeats (R409 to R412) -/

/-- The heartbeat payload to a member, sent with this TX_PHASE (DEDUCED, log 49). -/
def heartbeatPayload (s : State) (m : Nat) (x : Member) (tx : Nat) : List Byte :=
  let direct := decide (pathOf s m < 4)
  leBytes 8 s.time.L ++ leBytes 4 (if direct then tx else 0xFFFFFFFF) ++ leBytes 4 (if direct then x.lastPhase else 0xFFFFFFFF)
    ++ leBytes 4 x.lastSeq ++ leBytes 4 (x.seq + 1) ++ leBytes 1 (s.msh.ref.getD 0) ++ leBytes 1 s.msh.hops
    ++ leBytes 1 (flag s.time.aligned + 2 * flag ((s.car.active.meshSelf.map (·.2)).getD false) + 4 * flag (direct && x.lastPhase != 0xFFFFFFFF))
    ++ [0] ++ leBytes 4 (signedField 32 (if s.msh.hops = 0 then 0 else s.time.phaseError)) ++ zeros 8

/-- HEARTBEAT_SEND: at boundaries with L mod 16 = 0, on every LIVE link; `phases` gives each member's TX_PHASE. -/
def heartbeatSend (phases : List (Nat × Nat)) (s : State) : State :=
  if meshUp s && running s && s.time.L % 16 == 0 then
    forEach ((s.msh.members.filter (fun e => e.2.st == .live)).map (·.1)) (fun m s =>
      match s.memberOf m with
      | none => s
      | some x =>
        let tx := (List.lookup m phases).getD 0 % transitCycles
        let s := modMember m (fun x => { x with seq := (x.seq + 1) % 2 ^ 32, sent := ((x.seq + 1) % 2 ^ 32, tx) :: x.sent.take 255 }) s
        sendFrame m 0x10 0x8000 0 (heartbeatPayload s m x tx) s) s
  else s

/-- `fold` of R412. -/
def fold412 (c m : Int) : Int :=
  let c := c.tmod (2 * m)
  let c := if c > m then c - 2 * m else c
  if c ≤ -m then c + 2 * m else c

/-- The phase error of R412 from p1, r1, p2, r2 and the parent's REF_OFFSET. -/
def meshPhase (p1 r1 p2 r2 off : Int) : Int :=
  let d1 := fold412 (r1 - p1) 12288
  let d2 := fold412 (r2 - p2) 12288
  let est := (d1 + d2).tdiv 2
  let e := (d2 - d1).tdiv 2
  let e := if est > 6144 ∨ est < -6144 then e + 12288 else e
  fold412 (e.tdiv 3 + off) 4096

/-- HEARTBEAT (R409, R411, R412): liveness, the advertisement, and the phase measured against the parent. A phase measured in the
transit in which the parent first appears counts toward the 4 of ALIGNED, though the source is mesh from the next boundary on (R43 does
not say; DESIGN CHOICE, log 68). -/
def onHeartbeat (m rx : Nat) (p : List Byte) (s : State) : State :=
  match s.memberOf m with
  | none => s
  | some x =>
    let direct := decide (pathOf s m < 4)
    let off := fieldSigned 32 (leAt p 28 4)
    let s := modMember m (fun x => { x with
      lastSeq := leAt p 20 4, lastPhase := if direct then rx else 0xFFFFFFFF
      adv := some (byteAt p 24, byteAt p 25, off) }) s
    let s := updateRef s
    if s.msh.parent = some m ∧ bit (byteAt p 26) 2 then
      match List.lookup (leAt p 16 4) x.sent with
      | some p2 => { s with time := phaseMeasured (meshPhase (leAt p 8 4) rx p2 (leAt p 12 4) off) s.time }
      | none => s
    else s

/-- MEMBER_LOST (R410): a LIVE member silent for 1,024 transits. -/
def memberLost (m : Nat) (s : State) : State :=
  match s.memberOf m with
  | none => s
  | some x =>
    if meshUp s && x.st == .live && decide (x.heardL + 1024 ≤ s.time.L) then
      let s := closeLink m .lost s
      let s := notify 0x000A m (pathOf s m) (lo32 x.heardL) (hi32 x.heardL) 0 0 s
      updateRef (scheduleHello s.time.L m (raiseEv 0xE012 4 m (pathOf s m) 0 s))
    else s

/-- CREDIT_RETURN (R401): a buffer freed a transit ago, nothing else having been sent since, goes back in a CREDIT frame. -/
def creditReturn (m : Nat) (s : State) : State :=
  match s.memberOf m with
  | none => s
  | some x => if meshUp s ∧ 0 < x.freed ∧ x.freedL < s.time.L ∧ x.queue.isEmpty then sendFrame m 0x11 0x8000 0 [] s else s

/-- MESSAGE_RESEND (R402): a message dropped as BUSY goes again after 1,024 transits. -/
def messageResend (m : Nat) (s : State) : State :=
  match s.memberOf m with
  | none => s
  | some x =>
    match x.lastMsg, x.resendAt with
    | some (t, p), some l => if meshUp s ∧ l ≤ s.time.L then sendMsg m t p s else s
    | _, _ => s

/-! ### Ports (R396) -/

/-- A port. -/
def State.portOf (s : State) (p : Nat) : Port := Tab.getD s.msh.ports p {}
/-- Count an error of a port, saturating: 0 CRC, 1 FORMAT, 2 TAG, 3 FEC. -/
def countPort (p cls : Nat) (s : State) : State :=
  if p < 4 then
    { s with msh := { s.msh with ports := Tab.modify s.msh.ports p {} (fun x => { x with errors := x.errors.set cls (saturate 8 (x.errors.getD cls 0 + 1)) }) } }
  else s

/-- PORT_LOCK_CHANGE: the PCS and FEC locks of a port as they are now; receivers of unnamed ports are ignored (R398). -/
def portLockChange (p : Nat) (pcs fec : Bool) (s : State) : State :=
  if p < 4 ∧ meshUp s ∧ s.car.active.members.any (fun r => r.path == p) then
    { s with msh := { s.msh with ports := Tab.modify s.msh.ports p {} (fun x => { x with pcs := pcs, fec := fec }) } }
  else s

end Sys2Proof.Machine
end

