-- ==== Sys2Proof/Machine/MeshCustody.lean ====
section
/-! DEFINITION. Threshold custody of cabinet storage keys (spec/18_ulyel_mesh.md R414 to R419): share sets, their rotation, and the
restore of a storage key. -/

namespace Sys2Proof.Machine

/-! ### Arithmetic modulo p = 2^255 − 19 (R414) -/

/-- The modulus. -/
def custodyP : Nat := 2 ^ 255 - 19

/-- Value of a polynomial, its coefficients from degree 0 up. -/
def polyAt (cs : List Nat) (x : Nat) : Nat := cs.foldr (fun c a => (c + a * x) % custodyP) 0

/-- The inverse modulo p. -/
def invP (a : Nat) : Nat := powBits custodyP (bitList 255 (custodyP - 2)) (a % custodyP) 1

/-- A difference modulo p. -/
def subP (a b : Nat) : Nat := (a + custodyP - b % custodyP) % custodyP

/-- Interpolation at x = 0 from points (x, y). -/
def interpolate (ps : List (Nat × Nat)) : Nat :=
  ps.foldl (fun acc p =>
    let w := ps.foldl (fun a q => if q.1 = p.1 then a else a * q.1 % custodyP * invP (subP q.1 p.1) % custodyP) 1
    (acc + p.2 * w) % custodyP) 0

/-! ### Records and rosters -/

/-- The CUSTODY record of a cabinet (R112). -/
def custodyRec? (s : State) (cab : Nat) : Option Custody := s.car.active.custody.find? (fun r => r.cab == cab)
/-- Custody state of a cabinet. -/
def State.custodyOf (s : State) (cab : Nat) : CabCustody := Tab.getD s.msh.custody cab {}
/-- Change the custody state of a cabinet. -/
def modCustody (cab : Nat) (g : CabCustody → CabCustody) (s : State) : State :=
  { s with msh := { s.msh with custody := Tab.modify s.msh.custody cab {} g } }

/-- QUORUM and OFFICER values as the image carries them (R100). -/
def quorumValue (q : Quorum) : List Byte := leBytes 1 q.cab ++ leBytes 1 q.m ++ leBytes 1 q.n ++ [0]
def officerValue (o : Officer) : List Byte :=
  leBytes 1 o.cab ++ leBytes 1 o.index ++ leBytes 2 o.alg ++ leBytes 4 o.rights ++ digestBytes o.digest ++ slice (o.label ++ zeros 16) 0 16

/-- The roster records of a cabinet (R414). -/
def rosterBytes (c : Carcass) (cab : Nat) : List Byte :=
  (c.quorums.filter (fun q => q.cab == cab)).flatMap quorumValue
    ++ (sortBy (·.index) (c.officers.filter (fun o => o.cab == cab))).flatMap officerValue
/-- The roster digest. -/
def rosterDigest (c : Carcass) (cab : Nat) : Digest := Config.sha3 (rosterBytes c cab)

/-- The entries of the share store this device can read (R415). -/
def readable (s : State) : List Share := if s.msh.shareKey.isSome then s.msh.shares else []

/-- The 256 bytes of an entry in external flash, sealed under the share-store key (R415). -/
def shareEntryBytes (key : List Byte) (e : Share) : List Byte :=
  let head := leBytes 4 0x4853474B ++ leBytes 2 1 ++ leBytes 1 e.owner ++ leBytes 1 e.cab ++ leBytes 4 e.gen ++ leBytes 2 e.x ++ leBytes 1 e.t ++ [0]
    ++ leBytes 8 e.L ++ digestBytes e.roster ++ e.nonce
  head ++ gcmSeal key e.nonce head (e.y ++ e.blob) ++ zeros 76

/-- The share store as external flash holds it from 0x0300_0000 on: the address and bytes of each entry in use (R415). -/
def shareStore (s : State) : List (Nat × List Byte) :=
  s.msh.shares.map (fun e => (0x03000000 + 256 * e.slot, shareEntryBytes (s.msh.shareKey.getD []) e))

/-- Erase the entries a test picks out. -/
def eraseShares (p : Share → Bool) (s : State) : State := { s with msh := { s.msh with shares := s.msh.shares.filter (fun e => !p e) } }

/-- The lowest free entry of the share store. -/
def freeShare (es : List Share) : Nat := ((List.range (es.length + 1)).find? (fun i => !es.any (fun e => e.slot == i))).getD es.length

/-- Store a share under a fresh nonce: one of any set (R414), at most 16,384 entries; answers whether it is stored. -/
def storeShare (e : Share) (s : State) : State × Bool :=
  let s' := eraseShares (fun d => d.owner == e.owner && d.cab == e.cab && d.gen == e.gen) s
  if s.msh.shareKey.isSome ∧ s'.msh.shares.length < 16384 then
    (drawFree 12 { s' with msh := { s'.msh with shares := s'.msh.shares ++ [{ e with slot := freeShare s'.msh.shares, nonce := freeBytes s 12 }] } }, true)
  else (s, false)

/-- SHARE_PUT and SHARE_RELEASE payload. -/
def sharePayload (e : Share) : List Byte :=
  leBytes 1 e.cab ++ leBytes 1 e.t ++ leBytes 2 e.x ++ leBytes 4 e.gen ++ e.y ++ digestBytes e.roster ++ e.blob

/-- A share of a payload (DEDUCED, log 50). -/
def shareOf (s : State) (owner : Nat) (p : List Byte) : Share :=
  { owner := owner, cab := byteAt p 0, t := byteAt p 1, x := leAt p 2 2, gen := leAt p 4 4, y := slice p 8 32,
    roster := digestOf (slice p 40 32), blob := slice p 72 64, L := s.time.L }

/-- SHARE_ACK, SHARE_COMMIT, SHARE_PROBE and SHARE_DROP payload. -/
def setPayload (cab gen : Nat) : List Byte := leBytes 1 cab ++ zeros 3 ++ leBytes 4 gen
/-- SHARE_REFUSE payload. -/
def refusePayload (cab reason gen : Nat) : List Byte := leBytes 1 cab ++ leBytes 1 reason ++ zeros 2 ++ leBytes 4 gen

/-- The next orbit boundary after now. -/
def nextOrbitL (s : State) : Nat := (s.time.L / orbitL + 1) * orbitL

/-- The holders of a cabinet's CUSTODY record. -/
def holdersFor (s : State) (cab : Nat) : List Nat := ((custodyRec? s cab).map (·.holders)).getD []

/-! ### Backup blob (R414) -/

/-- AES-256 key of a blob under a custody secret. -/
def blobKey (k : Nat) : List Byte := digestBytes (Config.sha3 (leBytes 32 k))
/-- Additional data of a blob (DEDUCED, log 50). -/
def blobAad (owner cab gen : Nat) : List Byte := leBytes 1 owner ++ leBytes 1 cab ++ leBytes 4 gen

/-! ### Rotation (R416) -/

/-- A rotation starts: a new custody secret, a share to every holder, its own share into the store (DEDUCED, log 38). -/
def startRotation (cab : Nat) (s : State) : State :=
  match s.custodyOf cab with
  | cu =>
    match cu.due, custodyRec? s cab with
    | some job, some r =>
      let gen := (cu.made.foldl max cu.gen) + 1
      let self := (meshSelf s).getD 0
      let begin_ := fun (acks : List Nat) => modCustody cab (fun c => { c with
        due := none, made := c.made ++ [gen], rot := some { gen := gen, startL := s.time.L, acks := acks, job := job } })
      match Tab.get? s.key.csk cab with
      | none => begin_ [] s
      | some csk =>
        let f := freeBytes s (40 * r.t + 12)
        let cs := (List.range r.t).map (fun i => leAt f (40 * i) 40 % custodyP)
        let nonce := slice f (40 * r.t) 12
        let blob := nonce ++ gcmSeal (blobKey (cs.getD 0 0)) nonce (blobAad self cab gen) (csk.key ++ leBytes 4 csk.gen)
        let share := fun (m : Nat) => ({
          owner := self, cab := cab, gen := gen, x := m + 1, t := r.t, L := s.time.L, roster := rosterDigest s.car.active cab
          y := leBytes 32 (polyAt cs (m + 1)), blob := blob } : Share)
        let s := drawFree (40 * r.t + 12) s
        let own := if r.holders.contains self then storeShare (share self) s else (s, false)
        forEach (r.holders.filter (· != self)) (fun m => sendMsg m 0x20 (sharePayload (share m))) (begin_ (if own.2 then [self] else []) own.1)
    | _, _ => s

/-- Rotations that are due start in the transit after their trigger, one at a time for a cabinet; a new storage key generation
is a trigger of its own. -/
def startRotations (s : State) : State :=
  let s := forEach s.car.active.custody (fun r s =>
    match Tab.get? s.key.csk r.cab with
    | some k => if k.gen ≠ (s.custodyOf r.cab).seenGen then
        modCustody r.cab (fun c => { c with seenGen := k.gen, due := if c.due.isSome then c.due else some none }) s else s
    | none => s) s
  if !mayCustody s then s
  else forEach (s.car.active.custody.map (·.cab)) (fun cab s => if (s.custodyOf cab).due.isSome ∧ (s.custodyOf cab).rot.isNone then startRotation cab s else s) s

/-- Ask for a rotation of a cabinet. -/
def askRotation (cab : Nat) (job : Option Nat) (s : State) : State :=
  modCustody cab (fun c => { c with due := match c.due with | some (some j) => some (some j) | _ => some job }) s

/-- SHARE_SET_COMMIT: at an orbit boundary, every holder not LOST or FROZEN has acknowledged, and at least t have. -/
def shareSetCommit (cab : Nat) (s : State) : State :=
  match (s.custodyOf cab).rot, custodyRec? s cab with
  | some rot, some r =>
    let self := (meshSelf s).getD 0
    let excused := fun m => (s.memberOf m).all (fun x => x.st == .lost || x.st == .frozen) && m != self
    if mayCustody s && s.time.L % orbitL == 0 && decide (s.time.L ≤ rot.startL + orbitL) && r.holders.all (fun m => rot.acks.contains m || excused m)
        && decide (r.t ≤ rot.acks.length) then
      let had := (s.custodyOf cab).committed
      let s := modCustody cab (fun c => { c with
        banks := c.banks.store { gen := rot.gen, roster := rosterDigest s.car.active cab }, rot := none
        overlapUntil := if had then some (s.time.L + orbitL) else none }) s
      let s := { s with msh := { s.msh with shares := s.msh.shares.map (fun e =>
        if e.owner = self ∧ e.cab = cab then (if e.gen = rot.gen then { e with committed := true } else { e with eraseAt := some (s.time.L + orbitL) }) else e) } }
      let s := forEach (r.holders.filter (· != self)) (fun m => sendMsg m 0x22 (setPayload cab rot.gen)) s
      let s := raiseEv 0xE014 5 cab rot.gen rot.acks.length s
      match rot.job with
      | some j => setResult j { status := 0 } s
      | none => s
    else s
  | _, _ => s

/-- A rotation is given up: SHARE_DROP of its set; a commanded one ends WITHDRAWN with the acknowledgements. -/
def dropRotation (cab : Nat) (s : State) : State :=
  match (s.custodyOf cab).rot with
  | none => s
  | some rot =>
    let self := (meshSelf s).getD 0
    let s := eraseShares (fun e => e.owner == self && e.cab == cab && e.gen == rot.gen) (modCustody cab (fun c => { c with rot := none }) s)
    let s := forEach ((holdersFor s cab).filter (· != self)) (fun m => sendMsg m 0x27 (setPayload cab rot.gen)) s
    match rot.job with
    | some j => failJob j 0x7001 rot.acks.length 0 0 s
    | none => s

/-- ROTATION_TIMEOUT. -/
def rotationTimeout (cab : Nat) (s : State) : State :=
  match (s.custodyOf cab).rot with
  | some rot => if rot.startL + orbitL ≤ s.time.L then dropRotation cab s else s
  | none => s

/-- SHARE_SET_ERASE: entries whose orbit boundary has come, and sets never seen committed two orbits after their SHARE_PUT. -/
def shareSetErase (s : State) : State :=
  let due := fun (e : Share) => e.eraseAt.any (fun l => decide (l ≤ s.time.L)) || (!e.committed && decide (e.L + 2 * orbitL ≤ s.time.L))
  let s := eraseShares due s
  { s with msh := { s.msh with custody := Tab.mapAll s.msh.custody (fun _ c =>
      { c with overlapUntil := if c.overlapUntil.any (fun l => decide (l ≤ s.time.L)) then none else c.overlapUntil }) } }

/-- After every keying of a link to a holder: SHARE_PROBE of the current set, SHARE_DROP of every other one (R416). -/
def probeHolder (m : Nat) (s : State) : State :=
  if !mayCustody s then s
  else
    forEach (s.car.active.custody.filter (fun r => r.holders.contains m)) (fun r s =>
      let c := s.custodyOf r.cab
      let s := if c.committed then sendMsg m 0x26 (setPayload r.cab c.gen) s else s
      forEach (c.made.filter (fun g => !(c.committed && g == c.gen) && !(c.rot.any (fun q => q.gen == g))))
        (fun g => sendMsg m 0x27 (setPayload r.cab g)) s) s

/-! ### Messages of a holder -/

/-- SHARE_PUT (R416 step 2); in HOLD no new share is stored (R423). -/
def onSharePut (m : Nat) (p : List Byte) (s : State) : State :=
  if !mayCustody s then s
  else
    let e := shareOf s m p
    let r := storeShare e s
    if r.2 then sendMsg m 0x21 (setPayload e.cab e.gen) r.1 else s

/-- SHARE_COMMIT: the set is committed; the previous set goes at the boundary one orbit after the commit. -/
def onShareCommit (m : Nat) (p : List Byte) (s : State) : State :=
  let cab := byteAt p 0
  let gen := leAt p 4 4
  { s with msh := { s.msh with shares := s.msh.shares.map (fun e =>
      if e.owner = m ∧ e.cab = cab then
        (if e.gen = gen then { e with committed := true } else if e.gen < gen then { e with eraseAt := some (nextOrbitL s) } else e)
      else e) } }

/-- SHARE_PROBE: answered by SHARE_ACK, or SHARE_REFUSE where the set is absent. -/
def onShareProbe (m : Nat) (p : List Byte) (s : State) : State :=
  if keeperAbsent s then s
  else if devState s ≠ .service then sendMsg m 0x25 (refusePayload (byteAt p 0) 5 (leAt p 4 4)) s
  else if (readable s).any (fun e => e.owner == m && e.cab == byteAt p 0 && e.gen == leAt p 4 4) then
    sendMsg m 0x21 (setPayload (byteAt p 0) (leAt p 4 4)) s
  else sendMsg m 0x25 (refusePayload (byteAt p 0) 1 (leAt p 4 4)) s

/-- SHARE_DROP. -/
def onShareDrop (m : Nat) (p : List Byte) (s : State) : State :=
  eraseShares (fun e => e.owner == m && e.cab == byteAt p 0 && e.gen == leAt p 4 4) s

/-- The approvals after a roster, split by the algorithm of the officer each names; none where the bytes do not divide. -/
def splitApprovals (offs : List Officer) : Nat → List Byte → Option (List (List Byte))
  | 0, bs => if bs.isEmpty then some [] else none
  | n + 1, bs =>
    if bs.isEmpty then some []
    else
      match offs.find? (fun o => o.index == byteAt bs 7) with
      | none => none
      | some o =>
        let k := approvalLen o.alg
        if bs.length < k then none else (splitApprovals offs n (bs.drop k)).map (bs.take k :: ·)

/-- The officers enclosed in a SHARE_REQUEST after its QUORUM value. -/
def enclosedOfficers (n : Nat) (bs : List Byte) : List Officer :=
  (List.range n).map (fun i =>
    let v := slice bs (56 * i) 56
    { cab := byteAt v 0, index := byteAt v 1, alg := leAt v 2 2, rights := leAt v 4 4, digest := digestOf (slice v 8 32), label := slice v 40 16 })

/-- Does an enclosed approval verify (R228 steps 3 to 6) for a cabinet, device serial and command digest? -/
def enclosedOk (offs : List Officer) (cab serial : Nat) (dig : Digest) (b : List Byte) : Bool :=
  let a := approvalBody b
  match offs.find? (fun o => o.index == a.officer) with
  | none => false
  | some o =>
    let n := (algLens o.alg).2
    a.cab == cab && a.serial == serial && Config.sha3 (b.drop (64 + n)) == o.digest && a.digest == dig
      && sigHolds o.alg (b.drop (64 + n)) (b.take 64) (slice b 64 n) && a.right == rightCustody && bit o.rights rightCustody

/-- SHARE_REQUEST (R417): the share is released, or refused with a reason. -/
def onShareRequest (m : Nat) (p : List Byte) (s : State) : State :=
  let cab := byteAt p 0
  let want := leAt p 4 4
  let refuse := fun (r : Nat) (s : State) => sendMsg m 0x25 (refusePayload cab r want) s
  if keeperAbsent s then s
  else if !mayCustody s then refuse 5 s
  else
    let mine := (readable s).filter (fun e => e.cab == cab)
    let own := mine.filter (fun e => e.owner == m && (if want = 0 then e.committed else e.gen == want))
    match (sortBy (·.gen) own).getLast? with
    | none => refuse (if mine.any (fun e => e.owner == m) || mine.isEmpty then 1 else 4) s
    | some e =>
      let n := byteAt p 44
      let roster := slice p 42 (4 + 56 * n)
      let offs := enclosedOfficers n (slice p 46 (56 * n))
      let dig := Config.sha3 ([0x4B, 0x47, 0x44, 0x56] ++ leBytes 8 (serialOfMember s m) ++ leBytes 1 cab ++ slice p 8 34)
      if Config.sha3 roster ≠ e.roster then refuse 2 s
      else
        match (if leAt p 8 2 = 0x9011 then splitApprovals offs 17 (p.drop (46 + 56 * n)) else none) with
        | none => refuse 3 s
        | some as =>
          let good := (as.filter (enclosedOk offs cab (serialOfMember s m) dig)).map (fun b => byteAt b 7)
          if byteAt p 43 ≤ ((List.range 256).filter good.contains).length then
            raiseEv 0xE015 5 m cab e.gen (sendMsg m 0x24 (sharePayload e) s)
          else refuse 3 s

/-! ### Messages of an owner -/

/-- SHARE_ACK: an acknowledgement of the set under rotation. -/
def onShareAck (m : Nat) (p : List Byte) (s : State) : State :=
  match (s.custodyOf (byteAt p 0)).rot with
  | some rot =>
    if rot.gen = leAt p 4 4 ∧ !rot.acks.contains m ∧ (holdersFor s (byteAt p 0)).contains m then
      modCustody (byteAt p 0) (fun c => { c with rot := some { rot with acks := rot.acks ++ [m] } }) s
    else s
  | none => s

/-- A restore ends: its record goes. -/
def dropRestore (j : Nat) (s : State) : State := { s with msh := { s.msh with restores := s.msh.restores.filter (fun r => r.job != j) } }

/-- Too few shares (R418). -/
def restoreFails (r : Restore) (s : State) : State := failJob r.job 0x6020 r.shares.length r.t 0 (dropRestore r.job s)

/-- The restore proceeds once it holds t shares of one generation: interpolation, the blob, the storage key. -/
def tryRestore (r : Restore) (s : State) : State :=
  match r.shares.find? (fun e => decide (e.t ≤ (r.shares.filter (fun d => d.gen == e.gen)).length)) with
  | none => s
  | some e =>
    let set := (r.shares.filter (fun d => d.gen == e.gen)).take e.t
    let k := interpolate (set.map (fun d => (d.x, leAt d.y 0 32)))
    let nonce := e.blob.take 12
    let aad := blobAad ((meshSelf s).getD 0) r.cab e.gen
    let sealed := e.blob.drop 12
    if gcmOpens (blobKey k) nonce aad sealed then
      let pt := gcmPlain (blobKey k) nonce aad sealed
      setResult r.job { status := 0, w0 := leAt pt 32 4, w1 := e.t, effects := [.installCsk r.cab (leAt pt 32 4) e.t (pt.take 32)] } (dropRestore r.job s)
    else failJob r.job 0x5023 0 0 0 (dropRestore r.job s)

/-- SHARE_RELEASE (R418). -/
def onShareRelease (m : Nat) (p : List Byte) (s : State) : State :=
  let e := shareOf s ((meshSelf s).getD 0) p
  match s.msh.restores.find? (fun r => r.cab == e.cab && r.holders.contains m) with
  | none => s
  | some r =>
    if r.shares.any (fun d => d.x == m + 1) ∨ e.x ≠ m + 1 ∨ (r.wanted ≠ 0 ∧ r.wanted ≠ e.gen) then s
    else
      let r' := { r with shares := r.shares ++ [e] }
      tryRestore r' { s with msh := { s.msh with restores := s.msh.restores.map (fun q => if q.job = r.job then r' else q) } }

/-- SHARE_REFUSE: of a restore, or absence answered to SHARE_PROBE, which triggers a rotation (R416). -/
def onShareRefuse (m : Nat) (p : List Byte) (s : State) : State :=
  let cab := byteAt p 0
  match s.msh.restores.find? (fun r => r.cab == cab && r.holders.contains m) with
  | some r =>
    let r' := { r with refused := if r.refused.contains m then r.refused else r.refused ++ [m] }
    let s := { s with msh := { s.msh with restores := s.msh.restores.map (fun q => if q.job = r.job then r' else q) } }
    if r'.holders.length < r'.t + r'.refused.length then restoreFails r' s else s
  | none =>
    let c := s.custodyOf cab
    if byteAt p 1 = 1 ∧ c.committed ∧ c.gen = leAt p 4 4 ∧ (holdersFor s cab).contains m then askRotation cab none s else s

/-- RESTORE_TIMEOUT (R418): one orbit after quorum. -/
def restoreTimeout (j : Nat) (s : State) : State :=
  match s.msh.restores.find? (fun r => r.job == j) with
  | some r => if r.startL + orbitL ≤ s.time.L then restoreFails r s else s
  | none => s

/-! ### Commands -/

/-- CUSTODY_ROTATE opens its request (R224). -/
def custodyRotate (j : Nat) (s : State) : State :=
  match openable s j 0x9010 with
  | none => s
  | some x => openOwn j x rightCustody s

/-- CUSTODY_ROTATE after quorum: the rotation starts in the next transit (R416). -/
def runCustodyRotate (j : Nat) (x : Job) (s : State) : State := askRotation (cabOfFn s x.fn) (some j) s

/-- CUSTODY_RESTORE opens its request (R417). -/
def custodyRestore (j : Nat) (s : State) : State :=
  match openable s j 0x9011 with
  | none => s
  | some x => openOwn j x rightCustody s

/-- CUSTODY_RESTORE after quorum (R417, R418): SHARE_REQUEST to every holder, or a new storage key where REPLACE is set. -/
def runCustodyRestore (j : Nat) (x : Job) (approvals : List (List Byte)) (s : State) : State :=
  let cab := cabOfFn s x.fn
  let d := x.desc
  if bit (d.par 41 1) 0 then
    setResult j { status := 0, w0 := Tab.getD s.key.cskLast cab 0 + 1, effects := [.newCsk cab] } s
  else
    match custodyRec? s cab with
    | none => failJob j 0x3002 0 0 0 s
    | some c =>
      let self := (meshSelf s).getD 0
      let p := leBytes 1 cab ++ zeros 3 ++ leBytes 4 (d.par 44 4) ++ leBytes 2 d.opcode ++ leBytes 4 d.handleA ++ leBytes 4 d.handleB ++ d.params
        ++ rosterBytes s.car.active cab ++ approvals.flatten
      let own := (readable s).filter (fun e => e.owner == self && e.cab == cab && (if d.par 44 4 = 0 then e.committed else e.gen == d.par 44 4))
      let r : Restore := {
        job := j, cab := cab, wanted := d.par 44 4, startL := s.time.L, holders := c.holders, t := c.t
        shares := (sortBy (·.gen) own).getLast?.toList
        refused := if c.holders.contains self && own.isEmpty then [self] else [] }
      let s := { s with msh := { s.msh with restores := s.msh.restores ++ [r] } }
      let s := forEach (c.holders.filter (· != self)) (fun m => sendMsg m 0x23 p) s
      if c.holders.length < c.t + r.refused.length then restoreFails r s else tryRestore r s

/-- CUSTODY_ROTATE and CUSTODY_RESTORE at the descriptor checks (R417). -/
def meshCustodyInfo (s : State) (cab : Nat) (d : Desc) : OpInfo :=
  let backed := (meshSelf s).isSome && !s.car.active.bare && cabHas s cab 2
  if d.opcode = 0x9010 then
    { plane := .M, fields := reservedFrom d 40, policy := if backed then none else some (0x3002, 0, 0) }
  else
    { plane := .M, fields := [zeroField d 40 1, (41, decide (d.par 41 1 < 2)), zeroField d 42 2] ++ reservedFrom d 48,
      policy := if !backed then some (0x3002, 0, 0) else if Tab.has s.key.csk cab then some (0x3002, 41, 0) else none }

end Sys2Proof.Machine
end

