-- ==== Sys2Proof/Machine/Poly.lean ====
section
/-! DEFINITION. Polynomial engines and noise accounting (spec/13_polynomial.md R281 to R309): parameter sets, noise, ciphertext
handles, costs and the polynomial commands. -/

namespace Sys2Proof.Machine

/-! ### Parameter sets (R290) -/

/-- A homomorphic parameter set: log2 N, ciphertext and special limb widths, and the constants of its family in bits. -/
structure HeSet where
  id : Nat
  ckks : Bool
  n : Nat
  limbs : List Nat
  special : List Nat
  t : Nat := 0
  tau : Nat := 0
  sigma0 : Nat := 0
  m : Nat := 0
  p : Nat := 0
  f : Nat
  kappa : Nat
  rho : Nat
  /-- the prime of each limb, ciphertext limbs first: it is 2^b + 1 + 2N × m for the m listed -/
  steps : List Nat

/-- The five sets (R290). -/
def heSets : List HeSet :=
  [{ id := 0x101, ckks := false, n := 13, limbs := List.replicate 3 50, special := [60], t := 65537, tau := 17, f := 36, kappa := 38, rho := 32,
     steps := [9, 23, 57, 9] },
   { id := 0x102, ckks := false, n := 15, limbs := List.replicate 13 55, special := [60, 60], t := 786433, tau := 20, f := 41, kappa := 43, rho := 37,
     steps := [8, 19, 25, 29, 68, 73, 80, 94, 115, 119, 133, 157, 169, 29, 110] },
   { id := 0x103, ckks := false, n := 17, limbs := List.replicate 28 60, special := [60, 60, 60, 60], t := 786433, tau := 20, f := 43, kappa := 45, rho := 39,
     steps := [38, 44, 60, 104, 141, 165, 218, 228, 251, 309, 318, 321, 336, 338, 339, 345, 423, 440, 471, 473, 501, 515, 533, 569, 585, 588,
       611, 624, 675, 686, 699, 701] },
   { id := 0x201, ckks := true, n := 15, limbs := 60 :: List.replicate 15 40, special := [60, 60], sigma0 := 40, m := 4, p := 12, f := 14, kappa := 16, rho := 10,
     steps := [29, 20, 41, 62, 71, 75, 80, 101, 137, 150, 164, 171, 182, 195, 201, 206, 110, 134] },
   { id := 0x202, ckks := true, n := 16, limbs := 60 :: List.replicate 27 45, special := [60, 60, 60, 60], sigma0 := 45, m := 4, p := 12, f := 14, kappa := 16, rho := 10,
     steps := [55, 5, 7, 34, 40, 49, 53, 67, 83, 85, 89, 100, 113, 127, 169, 205, 208, 244, 292, 299, 305, 320, 328, 334, 355, 365, 379, 394,
       67, 76, 88, 103] }]

/-- A set by identifier. -/
def heSet? (id : Nat) : Option HeSet := heSets.find? (fun q => q.id == id)

/-- N, ℓmax, k, h and the digits of an evaluation key. -/
def HeSet.size (q : HeSet) : Nat := 2 ^ q.n
def HeSet.lmax (q : HeSet) : Nat := q.limbs.length
def HeSet.k (q : HeSet) : Nat := q.special.length
def HeSet.h (q : HeSet) : Nat := ceilDiv q.n 2
def HeSet.digits (q : HeSet) : Nat := ceilDiv q.lmax q.k
/-- Plaintext slots: N for BGV, N/2 real slots for CKKS. -/
def HeSet.slots (q : HeSet) : Nat := if q.ckks then q.size / 2 else q.size
/-- The prime q_i of a set, the special limbs counted on from ℓmax (R290). -/
def HeSet.prime (q : HeSet) (i : Nat) : Nat := 2 ^ (q.limbs ++ q.special).getD i 0 + 1 + 2 ^ (q.n + 1) * q.steps.getD i 0
/-- B at level ℓ, bits (R301). -/
def HeSet.bound (q : HeSet) (l : Nat) : Nat := (q.limbs.take l).sum

/-! ### Noise (R299 to R301), in units of 2^-8 bit -/

/-- The values of x at which g first falls to 1, 2, … 255: the least x with 2^(-x/256) ≤ 2^(n/256) − 1 (R299). -/
def lsumSteps0 : List Nat := [2183, 1927, 1777, 1670, 1587, 1519, 1462, 1412, 1368, 1328, 1293, 1260, 1230, 1202, 1176, 1152,
  1129, 1107, 1087, 1067, 1049, 1031, 1014, 998, 982, 967, 953, 939, 926, 913, 900, 888]
def lsumSteps1 : List Nat := [876, 864, 853, 842, 832, 821, 811, 801, 792, 782, 773, 764, 755, 747, 738, 730, 722, 714, 706, 698,
  691, 683, 676, 669, 662, 655, 648, 641, 635, 628, 622, 615]
def lsumSteps2 : List Nat := [609, 603, 597, 591, 585, 579, 573, 568, 562, 557, 551, 546, 540, 535, 530, 525, 520, 515, 510, 505,
  500, 495, 490, 485, 481, 476, 471, 467, 462, 458, 453, 449]
def lsumSteps3 : List Nat := [445, 440, 436, 432, 428, 424, 419, 415, 411, 407, 403, 399, 395, 391, 388, 384, 380, 376, 372, 369,
  365, 361, 358, 354, 350, 347, 343, 340, 336, 333, 329, 326]
def lsumSteps4 : List Nat := [323, 319, 316, 313, 309, 306, 303, 299, 296, 293, 290, 287, 283, 280, 277, 274, 271, 268, 265, 262,
  259, 256, 253, 250, 247, 244, 241, 238, 235, 232, 229, 227]
def lsumSteps5 : List Nat := [224, 221, 218, 215, 213, 210, 207, 204, 202, 199, 196, 193, 191, 188, 185, 183, 180, 178, 175, 172,
  170, 167, 165, 162, 159, 157, 154, 152, 149, 147, 144, 142]
def lsumSteps6 : List Nat := [140, 137, 135, 132, 130, 127, 125, 123, 120, 118, 115, 113, 111, 108, 106, 104, 101, 99, 97, 94, 92,
  90, 88, 85, 83, 81, 79, 76, 74, 72, 70, 68]
def lsumSteps7 : List Nat := [65, 63, 61, 59, 57, 54, 52, 50, 48, 46, 44, 42, 40, 37, 35, 33, 31, 29, 27, 25, 23, 21, 19, 17, 15,
  13, 11, 9, 7, 5, 3]
def lsumSteps : List Nat :=
  lsumSteps0 ++ lsumSteps1 ++ lsumSteps2 ++ lsumSteps3 ++ lsumSteps4 ++ lsumSteps5 ++ lsumSteps6 ++ lsumSteps7

/-- g(x) = ⌈256 × log2(1 + 2^(−x/256))⌉, never less than 1. -/
def lsumG (x : Nat) : Nat := 1 + (lsumSteps.filter (fun t => decide (x < t))).length

/-- lsum(a, b) = max(a, b) + g(|a − b|). -/
def lsum (a b : Int) : Int := max a b + lsumG (a - b).natAbs

/-- The limit of a bound at a level, BGV: Bℓ − τ − 1 bit. -/
def bgvLimit (q : HeSet) (l : Nat) : Nat := (q.bound l - q.tau - 1) * 256

/-- The refusal of a result that breaks a limit (R301): ν and its limit, or the CKKS scale breach. -/
def noiseBad (q : HeSet) (handle : Nat) (nu sigma : Int) (l : Nat) : Option (Nat × Nat × Nat × Nat) :=
  if q.ckks then
    if sigma - 256 * q.p < nu then some (0x5010, handle, nu.toNat, (sigma - 256 * q.p).toNat)
    else if (256 * q.bound l : Nat) < sigma + 256 * q.m + 256 then some (0x5010, handle, (sigma + 256 * q.m + 256).toNat, 256 * q.bound l)
    else none
  else if (bgvLimit q l : Int) < nu then some (0x5010, handle, nu.toNat, bgvLimit q l)
  else none

/-! ### Handles (R291, R292) -/

/-- The record a ciphertext handle names, where it is live. -/
def heOf? (s : State) (h : Nat) : Option HeRec := (Tab.get? s.eng.handles (h % 2 ^ 14)).filter (fun r => r.handle == h)

/-- A ciphertext handle: cabinet, record, generation. -/
def mkHe (cab idx gen : Nat) : Nat := cab * 2 ^ 26 + gen * 2 ^ 14 + idx

/-- Bytes of a handle's backing range. -/
def heBytes (q : HeSet) (kind level : Nat) : Nat :=
  let pk := 16 * q.size * (q.lmax + q.k)
  if kind = 0 then 16 * q.size * level else if kind = 1 then pk else q.digits * pk

/-- Is every residue of a vector of two polynomials below its limb's prime (R292, R298)? -/
def residuesOk (q : HeSet) (limbs : Nat) (bs : List Byte) : Bool :=
  (List.range (2 * limbs * q.size)).all (fun c => decide (leAt bs (8 * c) 8 < q.prime (c / q.size % limbs)))

/-- The parameter set of a type 0x60 key's material (R205). -/
def keySet (k : KeySlot) : Nat := beNat (slice k.material 32 4)

/-- A local secret key with HE. -/
def sk? (s : State) (h : Nat) : Option KeySlot := (keyOf? s h).filter (fun k => k.attr.type == 0x60)

/-! ### Parameters -/

/-- SET or KIND, PLAIN_B, DEST, LEVEL, EVAL or SET, BACK_ADDR, NEW_POLICY or KEY_ID, bytes 56 to 59, bytes 60 to 63. -/
def pSet (d : Desc) : Nat := d.par 40 1
def pPlainB (d : Desc) : Bool := bit (d.par 41 1) 0
def pDest (d : Desc) : Nat := d.par 42 1
def pLevel (d : Desc) : Nat := d.par 43 1
def pEval (d : Desc) : Nat := d.par 44 4
def pBack (d : Desc) : Nat := d.par 48 4
def pPolicy (d : Desc) : Nat := d.par 52 4
def pX (d : Desc) : Nat := d.par 56 4
def pY (d : Desc) : Nat := d.par 60 4

/-- A post-quantum opcode. -/
def pPq (op : Nat) : Bool := decide (0x4001 ≤ op ∧ op ≤ 0x4011)
/-- An opcode that makes a ciphertext handle. -/
def pMakes (op : Nat) : Bool := decide (0x4020 ≤ op ∧ op ≤ 0x4027) && op != 0x4021
/-- ADOPT: POL_HE_ENCRYPT with KIND 8 or 9. -/
def pAdopt (d : Desc) : Bool := d.opcode == 0x4020 && (pSet d == 8 || pSet d == 9)
/-- The plaintext operand of ADD or MULTIPLY. -/
def pPlainOp (d : Desc) : Bool := (d.opcode == 0x4022 || d.opcode == 0x4023) && pPlainB d

/-- Byte lengths of the post-quantum encodings by set 1 to 3. -/
def kemEk (set : Nat) : Nat := [800, 1184, 1568].getD (set - 1) 0
def kemCt (set : Nat) : Nat := [768, 1088, 1568].getD (set - 1) 0
def dsaSig (set : Nat) : Nat := [2420, 3309, 4627].getD (set - 1) 0

/-- The record HANDLE_A names: for POL_HE_ENCRYPT a public key of KIND 0, none where HANDLE_A is a secret key (R294). -/
def heA? (s : State) (d : Desc) : Option HeRec :=
  if d.opcode = 0x4020 then (if pSet d = 0 then (heOf? s d.handleA).filter (fun r => r.kind == 1) else none) else heOf? s d.handleA

/-- The parameter set a homomorphic descriptor works in, as far as its handles tell. -/
def pHeSet (s : State) (d : Desc) : Option HeSet :=
  if pAdopt d then heSet? (pEval d)
  else if d.opcode = 0x4020 then
    match heA? s d with
    | some r => heSet? r.set
    | none => (sk? s d.handleA).bind (fun k => heSet? (keySet k))
  else (heOf? s d.handleA).bind (fun r => heSet? r.set)

/-- The parameter checks of step 3 in descriptor order. -/
def pFields (s : State) (d : Desc) : List (Nat × Bool) :=
  let op := d.opcode
  let galois := match pHeSet s d with
    | some q => decide (pX d % 2 = 1 ∧ 3 ≤ pX d ∧ pX d ≤ 2 * q.size - 1)
    | none => true
  let ckks := (pHeSet s d).any (·.ckks)
  [(40, if pPq op then decide (1 ≤ pSet d ∧ pSet d ≤ 3) else if op = 0x4020 then [0, 1, 2, 3, 4, 8, 9].contains (pSet d) else pSet d == 0),
   (41, d.par 41 1 == 0 || (d.par 41 1 == 1 && (op == 0x4022 || op == 0x4023))),
   (42, if op = 0x4002 ∨ op = 0x4003 then pDest d == 0 || pDest d == 2 else pDest d == 0),
   (43, (op == 0x4020 && pSet d == 8) || pLevel d == 0),
   (44, if op = 0x4023 then !pPlainB d || pEval d == noHandle else if pAdopt d then (heSet? (pEval d)).isSome else pEval d == 0),
   (48, if pMakes op then pBack d % 4096 == 0 else pBack d == 0),
   (52, op == 0x4001 || pDest d == 2 || pAdopt d || pPolicy d == 0),
   (56, if op = 0x4020 ∧ pSet d = 3 then galois else (op == 0x4023 && pPlainB d && ckks) || pAdopt d || op == 0x4021 || pX d == 0),
   (60, (pAdopt d && ckks) || op == 0x4021 || pY d == 0)]

/-! ### What a homomorphic job makes (R294 to R301) -/

/-- The record values of a result: kind, set, key identity, level, ν, σ, target. -/
structure HeOut where
  kind : Nat
  set : HeSet
  keyId : Nat
  level : Nat
  noise : Int := 0
  scale : Int := 0
  target : Nat := 0

/-- PARAM_MISMATCH. -/
def mismatch : Nat × Nat × Nat × Nat := (0x5011, 0, 0, 0)

/-- A result within its limits, or the refusal of R301. -/
def heWithin (d : Desc) (o : HeOut) : Except (Nat × Nat × Nat × Nat) HeOut :=
  match noiseBad o.set d.handleA o.noise o.scale o.level with
  | some e => .error e
  | none => .ok o

/-- Noise of a ciphertext product (R300). -/
def mulNoise (q : HeSet) (a b : HeRec) : Int :=
  if q.ckks then
    lsum (lsum (lsum (a.scale + 256 * q.m + b.noise) (b.scale + 256 * q.m + a.noise)) (a.noise + b.noise)) (256 * q.kappa)
  else lsum (a.noise + b.noise + 256 * q.n) (256 * q.kappa)

/-- The outcome of a homomorphic job from the records alone (R295, R300, R301): the result's values, or the refusal. DECRYPT
answers the values of its own ciphertext. -/
def heOutcome (s : State) (d : Desc) : Except (Nat × Nat × Nat × Nat) HeOut :=
  match pHeSet s d with
  | none => .error (0x5022, 0, 0, 0)
  | some q =>
    let a := heA? s d
    let b := heOf? s d.handleB
    let fresh : HeOut := { kind := 0, set := q, keyId := d.handleA, level := q.lmax, noise := 256 * q.f, scale := 256 * q.sigma0 }
    match d.opcode with
    | 0x4020 =>
      if pAdopt d then
        if pSet d = 8 then
          heWithin d { kind := 0, set := q, keyId := pPolicy d, level := pLevel d, noise := max (pX d) (256 * q.f), scale := if q.ckks then pY d else 0 }
        else .ok { kind := 1, set := q, keyId := pPolicy d, level := q.lmax }
      else if pSet d = 0 then
        match a with
        | some r => .ok { fresh with keyId := r.keyId }
        | none => .ok fresh
      else if pSet d = 4 then
        match sk? s d.handleB with
        | some t => if keySet t = q.id then .ok { kind := 4, set := q, keyId := d.handleA, level := q.lmax, target := d.handleB } else .error mismatch
        | none => .error (0x5022, 0, 0, 0)
      else .ok { kind := pSet d, set := q, keyId := d.handleA, level := q.lmax, target := if pSet d = 3 then pX d else 0 }
    | op =>
      match a with
      | none => .error (0x5022, 0, 0, 0)
      | some r =>
        let keep : HeOut := { kind := 0, set := q, keyId := r.keyId, level := r.level, noise := r.noise, scale := r.scale }
        let own := (sk? s d.handleB).any (fun k => keySet k == r.set) && d.handleB == r.keyId
        let evalOk := fun (e : Option HeRec) (kind : Nat) => e.any (fun v => v.kind == kind && v.set == r.set && v.keyId == r.keyId)
        if r.kind ≠ 0 then .error (0x5022, 0, 0, 0)
        else if op = 0x4021 then (if own then .ok keep else .error mismatch)
        else if op = 0x4027 then (if own then .ok { fresh with keyId := r.keyId } else .error mismatch)
        else if op = 0x4022 then
          if pPlainB d then heWithin d { keep with noise := lsum r.noise (256 * (if q.ckks then q.h else q.tau)) }
          else match b with
            | none => .error (0x5022, 0, 0, 0)
            | some v =>
              if v.kind ≠ 0 ∨ v.set ≠ r.set ∨ v.keyId ≠ r.keyId ∨ v.level ≠ r.level ∨ (q.ckks ∧ v.scale ≠ r.scale) then .error mismatch
              else heWithin d { keep with noise := lsum r.noise v.noise }
        else if op = 0x4023 then
          if pPlainB d then
            if q.ckks then
              heWithin d { keep with noise := lsum (r.noise + pX d + 256 * q.m) (r.scale + 256 * q.m + 256 * q.h), scale := r.scale + pX d }
            else heWithin d { keep with noise := r.noise + 256 * q.tau + 256 * q.n }
          else match b with
            | none => .error (0x5022, 0, 0, 0)
            | some v =>
              if v.kind ≠ 0 ∨ v.set ≠ r.set ∨ v.keyId ≠ r.keyId ∨ v.level ≠ r.level then .error mismatch
              else if (heOf? s (pEval d)).isNone then .error (0x5022, 0, 0, 0)
              else if !evalOk (heOf? s (pEval d)) 2 then .error mismatch
              else heWithin d { keep with noise := mulNoise q r v, scale := if q.ckks then r.scale + v.scale else 0 }
        else if op = 0x4024 then
          (if b.isNone then .error (0x5022, 0, 0, 0) else if evalOk b 3 then heWithin d { keep with noise := lsum r.noise (256 * q.kappa) } else .error mismatch)
        else if op = 0x4025 then
          match b with
          | none => .error (0x5022, 0, 0, 0)
          | some v => if evalOk b 4 then heWithin d { keep with noise := lsum r.noise (256 * q.kappa), keyId := v.target } else .error mismatch
        else if r.level = 1 then .error mismatch
        else
          let w : Int := 256 * (q.limbs.getD (r.level - 1) 0 : Nat)
          heWithin d { keep with noise := lsum (r.noise - w) (256 * q.rho), scale := if q.ckks then r.scale - w else 0, level := r.level - 1 }

/-- The input handles whose ranges a job reads, in the order HANDLE_A, HANDLE_B, EVAL (R293, R306). -/
def heInputs (s : State) (d : Desc) : List HeRec :=
  ((heA? s d).toList.filter (fun _ => !pAdopt d))
    ++ (if [0x4022, 0x4023, 0x4024, 0x4025].contains d.opcode && !pPlainB d then (heOf? s d.handleB).toList else [])
    ++ (if d.opcode = 0x4023 ∧ !pPlainB d then (heOf? s (pEval d)).toList else [])

/-- Bytes of the range a job makes. -/
def heOutBytes (s : State) (d : Desc) : Nat :=
  match heOutcome s d with
  | .ok o => heBytes o.set o.kind o.level
  | .error _ => 0

/-! ### Costs (R305, R306) -/

/-- One NTT, one masked pass and a key switch at level ℓ. -/
def nttT (q : HeSet) : Nat := q.size * q.n / 128 + 32
def passE (q : HeSet) : Nat := q.size / 8 + 16
def keySwitch (q : HeSet) (l : Nat) : Nat :=
  let d := ceilDiv l q.k
  (d + 3) * (l + q.k) * nttT q + (2 * d + l + 2) * (l + q.k) * passE q

/-- Cost of a homomorphic job. -/
def heCost (s : State) (d : Desc) : Nat :=
  match pHeSet s d with
  | none => 0
  | some q =>
    let t := nttT q
    let e := passE q
    let k := q.k
    let l := if d.opcode = 0x4020 then q.lmax else ((heOf? s d.handleA).map (·.level)).getD 0
    let decrypt := 3 * l * t + 2 * l * e + 256
    match d.opcode with
    | 0x4020 =>
      if pSet d = 0 then 4 * l * t + 5 * l * e + 256
      else if pSet d = 1 then 2 * (l + k) * t + 3 * (l + k) * e + 256
      else if pSet d = 8 then 2 * pLevel d * e + 256
      else if pSet d = 9 then 2 * (l + k) * e + 256
      else ceilDiv l k * (2 * (l + k) * t + 3 * (l + k) * e) + 256
    | 0x4021 => decrypt
    | 0x4022 => if pPlainB d then l * t + 3 * l * e + 256 else 2 * l * e + 256
    | 0x4023 => if pPlainB d then l * t + 3 * l * e + 256 else 6 * l * e + keySwitch q l + 256
    | 0x4026 => 2 * (t + (l - 1) * (t + e)) + 256
    | 0x4027 => decrypt + (4 * q.lmax * t + 5 * q.lmax * e + 256) - 256
    | _ => 2 * l * e + keySwitch q l + 256

/-- Cost of a post-quantum job (R305). -/
def pqCost (d : Desc) : Nat :=
  let i := pSet d - 1
  let g := gEd (66 + d.inLen + (if d.opcode = 0x4011 then d.auxLen - dsaSig (pSet d) else d.auxLen))
  match d.opcode with
  | 0x4001 => [2100, 3300, 4800].getD i 0
  | 0x4002 => [2400, 3700, 5300].getD i 0
  | 0x4003 => [3000, 4600, 6600].getD i 0
  | 0x4010 => [32376, 53716, 49956].getD i 0 + 26 * g
  | _ => [1656, 2356, 3256].getD i 0 + 26 * g

/-! ### Descriptor checks -/

/-- Step 6 of a ciphertext or key handle field: its cabinet, and for a key its slot range. -/
def heOwner (cab h w0 : Nat) : Option (Nat × Nat × Nat) := if hCab h ≠ cab then some (0x3001, w0, 0) else none

/-- Does an opcode take a secret key in HANDLE_B? -/
def takesSk (op : Nat) : Bool := op == 0x4021 || op == 0x4027

/-- Handle fields a homomorphic descriptor uses: A, B, EVAL. -/
def heUses (d : Desc) : Bool × Bool × Bool :=
  (!pAdopt d,
   takesSk d.opcode || d.opcode == 0x4024 || d.opcode == 0x4025 || ((d.opcode == 0x4022 || d.opcode == 0x4023) && !pPlainB d)
     || (d.opcode == 0x4020 && pSet d == 4),
   d.opcode == 0x4023 && !pPlainB d)

/-- Step 7 of a homomorphic job (R289, R204): HOMOMORPHIC, then each handle resolves, secret keys hold HE. -/
def hePolicy (s : State) (cab : Nat) (d : Desc) : Option (Nat × Nat × Nat) :=
  let u := heUses d
  let bad : Option (Nat × Nat × Nat) := some (0x5022, 0, 0)
  let skBad := fun (h w0 : Nat) => orElseBad (handlePolicy s h w0 none)
    (if (sk? s h).isNone then bad else handlePolicy s h w0 (some polHe))
  if !cabHas s cab 1 then some (0x3002, 0, 0)
  else
    let a := if !u.1 then none
      else if d.opcode = 0x4020 then
        (if (heA? s d).isSome then none else skBad d.handleA 8)
      else if (heOf? s d.handleA).isNone then bad else none
    let b := if !u.2.1 then none
      else if takesSk d.opcode || d.opcode == 0x4020 then skBad d.handleB 12
      else if (heOf? s d.handleB).isNone then bad else none
    let e := if u.2.2 ∧ (heOf? s (pEval d)).isNone then bad else none
    orElseBad a (orElseBad b e)

/-- Step 7 of a post-quantum job (R283, R285). -/
def pqPolicy (s : State) (d : Desc) : Option (Nat × Nat × Nat) :=
  let key := fun (base need : Nat) =>
    handleServes s d.handleA 8 (typeOf s d.handleA == base + pSet d - 1) (some need)
  let parent := ((keyOf? s d.handleA).map (·.attr.policy)).getD 0
  let dest := if pDest d = 2 ∧ !derivedPolicyOk parent (pPolicy d) then some (0x3002, 52, 0) else none
  match d.opcode with
  | 0x4001 => if (List.range 32).all (fun i => !bit (pPolicy d) i || i == polAgree || i == polReveal) then none else some (0x3002, 52, 0)
  | 0x4002 => orElseBad (if d.handleA = noHandle then none else key 0x48 polEncaps) dest
  | 0x4003 => orElseBad (key 0x40 polAgree) (orElseBad (if pDest d = 0 ∧ !bit parent polReveal then some (0x3002, 8, 0) else none) dest)
  | 0x4010 => key 0x50 polSign
  | _ => key 0x58 polVerify

/-- Step 8, length limits (R304). -/
def pLength (s : State) (d : Desc) : Option (Nat × Nat × Nat) :=
  let none_ := orElseBad (exactly 20 d.inLen 0) (exactly 36 d.auxLen 0)
  match d.opcode with
  | 0x4001 => none_
  | 0x4002 => orElseBad (exactly 20 d.inLen (if d.handleA = noHandle then kemEk (pSet d) else 0)) (exactly 36 d.auxLen 0)
  | 0x4003 => orElseBad (exactly 20 d.inLen (kemCt (pSet d))) (exactly 36 d.auxLen 0)
  | 0x4010 => orElseBad (limitBad 20 d.inLen 0 65536 1) (limitBad 36 d.auxLen 0 255 1)
  | 0x4011 => orElseBad (limitBad 20 d.inLen 0 65536 1) (limitBad 36 d.auxLen (dsaSig (pSet d)) (dsaSig (pSet d) + 255) 1)
  | 0x4021 =>
    match pHeSet s d with
    | none => none_
    | some q =>
      let size := if q.ckks then 8 else 4
      orElseBad none_ (limitBad 60 (pY d) 1 (min (q.slots - pX d) (maxOutput s / size)) 1)
  | 0x4028 => none
  | _ =>
    let pt := (d.opcode == 0x4020 && pSet d == 0) || pPlainOp d
    orElseBad (exactly 20 d.inLen (if pt then ((pHeSet s d).map (fun q => 4 * q.size)).getD 0 else 0))
      (orElseBad (exactly 36 d.auxLen 0)
        (if d.opcode = 0x4020 ∧ pSet d = 8 then limitBad 43 (pLevel d) 1 (((pHeSet s d).map (·.lmax)).getD 0) 1 else none))

/-- Direct output bytes. -/
def pOut (s : State) (d : Desc) : Nat :=
  match d.opcode with
  | 0x4001 => kemEk (pSet d)
  | 0x4002 => kemCt (pSet d) + (if pDest d = 0 then 32 else 0)
  | 0x4003 => if pDest d = 0 then 32 else 0
  | 0x4010 => dsaSig (pSet d)
  | 0x4021 => pY d * (if (pHeSet s d).any (·.ckks) then 8 else 4)
  | _ => 0

/-- Key-generation bits (R325). -/
def pKg (d : Desc) : Nat :=
  match d.opcode with
  | 0x4001 => 512 | 0x4002 => 256 | 0x4010 => 256 | 0x4020 => 256 | 0x4027 => 256
  | _ => 0

/-- What the polynomial commands ask of a descriptor. -/
def polyInfo (s : State) (cab : Nat) (d : Desc) : OpInfo :=
  let op := d.opcode
  if op = 0x4028 then
    { plane := .C, usesA := true, fields := reservedFrom d 40, owner := heOwner cab d.handleA 8,
      policy := if cabHas s cab 1 then none else some (0x3002, 0, 0) }
  else if pPq op then
    let out := pOut s d
    { plane := .D, engine := 3, usesA := op != 0x4001, usesIn := op != 0x4001, usesOut := op != 0x4011 && !(op == 0x4003 && pDest d == 2),
      usesAux := op == 0x4010 || op == 0x4011, fields := pFields s d, cost := some (pqCost d), outLen := out,
      owner := if op = 0x4001 ∨ (op = 0x4002 ∧ d.handleA = noHandle) then none else handleOwner s cab d.handleA 8,
      policy := pqPolicy s d, length := pLength s d, needOut := if 0 < out then some out else none, needs := [0, 0, pKg d, 0, 0] }
  else
    let u := heUses d
    let out := pOut s d
    let made := heOutBytes s d
    let reads := ((heInputs s d).map (·.backLen)).sum + (if pAdopt d then made else 0)
    { plane := .D, engine := 3, usesA := u.1, usesB := u.2.1, usesIn := (op == 0x4020 && !([1, 2, 3, 4, 8, 9].contains (pSet d))) || pPlainOp d, usesOut := op == 0x4021,
      fields := pFields s d, cost := some (heCost s d), promptBar := some 1, outLen := out,
      owner := orElseBad (if u.1 then heOwner cab d.handleA 8 else none)
        (orElseBad (if u.2.1 then heOwner cab d.handleB 12 else none) (if u.2.2 then heOwner cab (pEval d) 44 else none)),
      policy := hePolicy s cab d, length := pLength s d,
      late := match heOutcome s d with
        | .ok _ => none
        | .error e => some e,
      needOut := if 0 < out then some out else none,
      needs := [0, reads, pKg d, if pMakes op && !pAdopt d then made else 0, 0],
      ranges := if pMakes op then [(pBack d, made, 48)] else [],
      backing := (heInputs s d).map (fun r => (r.back, r.backLen)) ++ (if pMakes op then [(pBack d, made)] else []),
      wantHe := if pMakes op then some (pBack d, made) else none }

/-! ### Post-quantum commands (R283 to R288): `check` 0 passed, 1 the check before release failed, 2 a loop found no result -/

/-- Run a job under its internal check and its fixed-count loops (R287, R288). -/
def pqChecked (check j : Nat) (x : Job) (run : State → State) (s : State) : State :=
  if check = 0 then run s
  else if check = 1 then verifyFailed j (x.tile.getD 96) x.desc.opcode x.desc.tag s
  else
    let t := x.tile.getD 96
    failJob j 0x5020 0 0 0 (raiseFrom (source 2 t) 0x9014 5 (t % 32) x.desc.opcode (pSet x.desc) s)

/-- POL_MLKEM_KEYPAIR (R283, R285). -/
def polMlkemKeypair (j check : Nat) (s : State) : State :=
  match runnable s j 0x4001 with
  | none => s
  | some x =>
    pqChecked check j x (fun s =>
      let cab := cabOfFn s x.fn
      let t := 0x3F + pSet x.desc
      let m := standardBytes 0x4001 [pSet x.desc] [freeBytes s 64] 96
      match (if ephemeralRoom s cab 1 then freeSpan s cab 1 else none) with
      | none => failJob j 0x4001 0 0 0 s
      | some slot =>
        let h := mkHandle cab 2 slot (slotGen s slot)
        let r : KeyRec := { handle := h, type := t, policy := pPolicy x.desc, length := 96 }
        drawFree 64 (setResult j { status := 0, output := publicEncoding { attr := r, material := m }, w0 := h, effects := [.putKey slot r m] } s)) s

/-- Deliver a shared key K after other output (R285). -/
def kemDeliver (j : Nat) (x : Job) (ct k : List Byte) (s : State) : State :=
  if pDest x.desc = 0 then setResult j { status := 0, output := ct ++ k } s
  else
    match ephemeralSecret s (cabOfFn s x.fn) (pPolicy x.desc) k with
    | some (h, e) => setResult j { status := 0, output := ct, w0 := h, w1 := 32, effects := [e] } s
    | none => failJob j 0x4001 0 0 0 s

/-- POL_MLKEM_ENCAPS (R285, R286). -/
def polMlkemEncaps (j check : Nat) (s : State) : State :=
  match runnable s j 0x4002 with
  | none => s
  | some x =>
    match (if x.desc.handleA = noHandle then some x.input else (keyOf? s x.desc.handleA).map (·.material)) with
    | none => failJob j 0x5022 0 0 0 s
    | some ek =>
      if ek.length ≠ kemEk (pSet x.desc) ∨ !Config.standardHolds 0x4002 [pSet x.desc] [ek] then failJob j 0x5022 0 0 0 s
      else
        pqChecked check j x (fun s =>
          let r := freeBytes s 32
          drawFree 32 (kemDeliver j x (standardBytes 0x4002 [pSet x.desc] [ek, r] (kemCt (pSet x.desc))) (standardBytes 0x14002 [pSet x.desc] [ek, r] 32) s)) s

/-- POL_MLKEM_DECAPS (R286). -/
def polMlkemDecaps (j check : Nat) (s : State) : State :=
  match runnable s j 0x4003 with
  | none => s
  | some x =>
    match keyOf? s x.desc.handleA with
    | none => failJob j 0x5022 0 0 0 s
    | some k => pqChecked check j x (kemDeliver j x [] (standardBytes 0x4003 [pSet x.desc] [k.material, x.input] 32)) s

/-- POL_MLDSA_SIGN (R287, R288). -/
def polMldsaSign (j check : Nat) (s : State) : State :=
  match runnable s j 0x4010 with
  | none => s
  | some x =>
    match keyOf? s x.desc.handleA with
    | none => failJob j 0x5022 0 0 0 s
    | some k =>
      pqChecked check j x (fun s =>
        drawFree 32 (setResult j { status := 0, output := standardBytes 0x4010 [pSet x.desc] [k.material, x.input, x.aux, freeBytes s 32] (dsaSig (pSet x.desc)) } s)) s

/-- POL_MLDSA_VERIFY (R283, R287). -/
def polMldsaVerify (j check : Nat) (s : State) : State :=
  match runnable s j 0x4011 with
  | none => s
  | some x =>
    match keyOf? s x.desc.handleA with
    | none => failJob j 0x5022 0 0 0 s
    | some k =>
      pqChecked check j x (fun s =>
        let n := dsaSig (pSet x.desc)
        verdict j (Config.standardHolds 0x4011 [pSet x.desc] [k.material, x.input, x.aux.take n, x.aux.drop n]) s) s

/-! ### Homomorphic commands -/

/-- SHA3-256 of a range, its first 16 bytes (R293). -/
def heDigest (bs : List Byte) : List Byte := (digestBytes (Config.sha3 bs)).take 16

/-- The first input handle whose bytes, as the vector port read them, do not carry the recorded digest (R293). -/
def backingBad (s : State) (d : Desc) (back : List (List Byte)) : Option HeRec :=
  (((heInputs s d).zip (back ++ (heInputs s d).map (fun _ => []))).find? (fun p => p.1.digest != heDigest p.2)).map (·.1)

/-- Is a plaintext within its slots' range (R296)? -/
def plainOk (q : HeSet) (bs : List Byte) : Bool :=
  if q.ckks then (List.range (q.size / 2)).all (fun i => decide ((fieldSigned 64 (leAt bs (8 * i) 8)).natAbs < 2 ^ (q.m + q.p)))
  else (List.range q.size).all (fun i => decide (leAt bs (4 * i) 4 < q.t))

/-- A homomorphic job before its final check: its outcome by the records, the digests of its inputs, its plaintext (DEDUCED, log 36). -/
def heReady (s : State) (x : Job) (back : List (List Byte)) : Except (Nat × Nat × Nat × Nat) HeOut :=
  match heOutcome s x.desc with
  | .error e => .error e
  | .ok o =>
    match backingBad s x.desc back with
    | some r => .error (0x5023, r.handle, 1, 0)
    | none =>
      if ((x.desc.opcode == 0x4020 && pSet x.desc == 0) || pPlainOp x.desc) && !plainOk o.set x.input then .error (0x2001, 16, 0, 0) else .ok o

/-- A refusal of `heReady`: a backing mismatch is logged and reports no handle (DEDUCED, log 36). -/
def heRefuse (j : Nat) (x : Job) (e : Nat × Nat × Nat × Nat) (s : State) : State :=
  if e.1 = 0x5023 then failJob j 0x5023 0 0 0 (raiseFrom (source 2 (x.tile.getD 96)) 0x9015 4 e.2.1 x.desc.tag.toNat x.fn s)
  else failJob j e.1 e.2.1 e.2.2.1 e.2.2.2 s

/-- Make the handle of a job: its record pends until the commit phase (R291, R294). -/
def heMake (j : Nat) (x : Job) (o : HeOut) (bytes : List Byte) (s : State) : State :=
  match x.gotHe with
  | none => failJob j 0x4011 0 0 0 s
  | some i =>
    let cab := cabOfFn s x.fn
    let h := mkHe cab i (Tab.getD s.eng.heGens i 0)
    let nu := o.noise.toNat
    let sg := if o.set.ckks && o.kind == 0 then o.scale.toNat else 0
    setResult j { status := 0, w0 := h, w1 := nu, w2 := o.level % 256 + sg * 256,
                  effects := [.putHandle i {
                    handle := h, cab := cab, kind := o.kind, set := o.set.id, keyId := o.keyId, level := o.level,
                    back := pBack x.desc, backLen := bytes.length, digest := heDigest bytes, noise := nu, scale := sg, target := o.target }] } s

/-- Material of a secret key handle. -/
def skBytes (s : State) (h : Nat) : List Byte := ((sk? s h).map (·.material)).getD []

/-- A homomorphic routine that makes a vector: written to its backing range during its slices (R60, R183), then its
handle. -/
def heRun (j op : Nat) (back : List (List Byte)) (s : State) : State :=
  match runnable s j op with
  | none => s
  | some x =>
    if pAdopt x.desc then s
    else
      match heReady s x back with
      | .error e => heRefuse j x e s
      | .ok o =>
        let n := heBytes o.set o.kind o.level
        let v := standardBytes op [pSet x.desc, o.set.id, pX x.desc, o.level]
          ([skBytes s x.desc.handleA, skBytes s x.desc.handleB, x.input, freeBytes s 32] ++ back) n
        writeBacking j x (pBack x.desc) v (heMake j x o v) (drawFree 32 s)

/-- POL_HE_ENCRYPT, KIND 0 to 4 (R294). -/
def polHeEncrypt (j : Nat) (back : List (List Byte)) (s : State) : State := heRun j 0x4020 back s
/-- POL_HE_ADD. -/
def polHeAdd (j : Nat) (back : List (List Byte)) (s : State) : State := heRun j 0x4022 back s
/-- POL_HE_MULTIPLY. -/
def polHeMultiply (j : Nat) (back : List (List Byte)) (s : State) : State := heRun j 0x4023 back s
/-- POL_HE_ROTATE. -/
def polHeRotate (j : Nat) (back : List (List Byte)) (s : State) : State := heRun j 0x4024 back s
/-- POL_HE_KEYSWITCH. -/
def polHeKeyswitch (j : Nat) (back : List (List Byte)) (s : State) : State := heRun j 0x4025 back s
/-- POL_HE_RESCALE. -/
def polHeRescale (j : Nat) (back : List (List Byte)) (s : State) : State := heRun j 0x4026 back s
/-- POL_HE_REFRESH (R302). -/
def polHeRefresh (j : Nat) (back : List (List Byte)) (s : State) : State := heRun j 0x4027 back s

/-- ADOPT (R298): a handle of bytes already in host memory; a residue out of range ends KEY_INVALID. -/
def adopt (j : Nat) (bytes : List Byte) (s : State) : State :=
  match runnable s j 0x4020 with
  | none => s
  | some x =>
    if !pAdopt x.desc then s
    else
      match heOutcome s x.desc with
      | .error e => failJob j e.1 e.2.1 e.2.2.1 e.2.2.2 s
      | .ok o =>
        if bytes.length = heBytes o.set o.kind o.level ∧ residuesOk o.set (if o.kind = 0 then o.level else o.set.lmax + o.set.k) bytes = true then
          heMake j x o bytes s
        else failJob j 0x5022 0 0 0 s

/-- POL_HE_DECRYPT (R296): the selected slots, as direct output. -/
def polHeDecrypt (j : Nat) (back : List (List Byte)) (s : State) : State :=
  match runnable s j 0x4021 with
  | none => s
  | some x =>
    match heReady s x back with
    | .error e => heRefuse j x e s
    | .ok o =>
      setResult j { status := 0, output := standardBytes 0x4021 [o.set.id, pX x.desc, pY x.desc] ([skBytes s x.desc.handleB] ++ back) (pOut s x.desc) } s

/-- Free a handle record: its generation advances, 4,095 never issued (R291, R297). -/
def freeRecord (i : Nat) (s : State) : State :=
  { s with eng := { s.eng with
      handles := Tab.del s.eng.handles i
      heGens := Tab.put s.eng.heGens i (if Tab.getD s.eng.heGens i 0 < 4094 then Tab.getD s.eng.heGens i 0 + 1 else 0) } }

/-- Does a job name a ciphertext handle, in a field that holds one (R294)? -/
def namesHe (x : Job) (h : Nat) : Bool :=
  let op := x.desc.opcode
  decide (0x4020 ≤ op ∧ op ≤ 0x4027)
    && ((x.desc.handleA == h && (op != 0x4020 || pSet x.desc == 0)) || (x.desc.handleB == h && op != 0x4020 && !takesSk op)
      || (op == 0x4023 && pEval x.desc == h))

/-- POL_HANDLE_FREE (R297). -/
def polHandleFree (j : Nat) (s : State) : State :=
  match runnable s j 0x4028 with
  | none => s
  | some x =>
    match heOf? s x.desc.handleA with
    | none => failJob j 0x2001 8 0 0 s
    | some r =>
      let s := forEach ((liveJobs s).filter (fun e => namesHe e.2 r.handle && !inCommit e.2)) (fun e => endJob e.1 0x7001 0 0 0) s
      setResult j { status := 0 } (freeRecord (r.handle % 2 ^ 14) s)

end Sys2Proof.Machine
end

