-- ==== Sys2Proof/Machine/MeshAgg.lean ====
section
/-! DEFINITION. Aggregation rounds over the mesh (spec/18_ulyel_mesh.md R420 to R422). -/

namespace Sys2Proof.Machine

/-- The members of a 32-byte bitmap. -/
def bitmapMembers (b : List Byte) : List Nat := (List.range 256).filter (fun i => bit (byteAt b (i / 8)) (i % 8))

/-- A round by its identifier. -/
def State.roundOf (s : State) (id : Nat) : Option Round := s.msh.rounds.find? (fun r => r.id == id)
/-- Change a round. -/
def modRound (id : Nat) (g : Round → Round) (s : State) : State :=
  { s with msh := { s.msh with rounds := s.msh.rounds.map (fun r => if r.id = id then g r else r) } }
/-- A round ends. -/
def dropRound (id : Nat) (s : State) : State := { s with msh := { s.msh with rounds := s.msh.rounds.filter (fun r => r.id != id) } }

/-- The other participants of a round. -/
def peersOf (s : State) (r : Round) : List Nat := (bitmapMembers r.bitmap).filter (fun m => meshSelf s != some m)

/-- Has a participant joined with the same mode, COUNT and bitmap? -/
def joined (r : Round) (m : Nat) : Bool := r.offers.any (fun o => o.1 == m && o.2.1 == r.mode && o.2.2.1 == r.count && o.2.2.2 == r.bitmap)

/-- 64-bit values as bytes, and back. -/
def valueBytes (vs : List Nat) : List Byte := vs.flatMap (leBytes 8)
def bytesValues (n : Nat) (bs : List Byte) : List Nat := (List.range n).map (fun i => leAt bs (8 * i) 8)

/-- What the other participants sent of a kind: entries of members outside the round do not count (R421). -/
def ofPeers {α : Type} (s : State) (r : Round) (es : List (Nat × α)) : List (Nat × α) := es.filter (fun e => (peersOf s r).contains e.1)

/-- Sum of value lists modulo 2^64. -/
def addValues (n : Nat) (a b : List Nat) : List Nat := (List.range n).map (fun i => (a.getD i 0 + b.getD i 0) % 2 ^ 64)
/-- Difference of value lists modulo 2^64. -/
def subValues (n : Nat) (a b : List Nat) : List Nat := (List.range n).map (fun i => (a.getD i 0 + 2 ^ 64 - b.getD i 0 % 2 ^ 64) % 2 ^ 64)

/-- The collector: the lowest-numbered participant (R422). -/
def collectorOf (r : Round) : Nat := ((bitmapMembers r.bitmap).head?).getD 0

/-- Add one contribution to a sum, under R295, R298, R300 and R301. -/
def addContribution (d : Desc) (acc : Except (Nat × Nat × Nat × Nat) HeOut) (c : Contribution) : Except (Nat × Nat × Nat × Nat) HeOut :=
  match acc with
  | .error e => .error e
  | .ok o =>
    let nu : Int := max (c.noise : Int) (256 * (o.set.f : Int))
    if c.set ≠ o.set.id ∨ c.keyId ≠ o.keyId ∨ c.level ≠ o.level ∨ (o.set.ckks ∧ (c.scale : Int) ≠ o.scale) then .error mismatch
    else heWithin d { o with noise := lsum o.noise nu }

/-- The collector's sum, once every contribution is there (R422); the round is over with it, unless its backing range stops it (R183). -/
def collect (j : Nat) (x : Job) (r : Round) (u : State) : State :=
  let s := dropRound r.id u
  let own := r.ciphers.find? (fun c => meshSelf s == some c.member)
  let others := r.ciphers.filter (fun c => (peersOf s r).contains c.member)
  match own, own.bind (fun c => heSet? c.set) with
  | some c, some q =>
    let bad := others.any (fun v => !(v.bytes.length == heBytes q 0 v.level && residuesOk q v.level v.bytes))
    let start : HeOut := { kind := 0, set := q, keyId := c.keyId, level := c.level, noise := c.noise, scale := c.scale }
    match others.foldl (addContribution x.desc) (.ok start) with
    | .error e => failJob j e.1 e.2.1 e.2.2.1 e.2.2.2 s
    | .ok o =>
      let back := x.desc.par 56 4
      let n := heBytes q 0 o.level
      let cab := cabOfFn s x.fn
      if bad then failJob j 0x5022 0 0 0 s
      else if !inWindows s cab back n then failJob j 0x3001 56 0 0 s
      else if backTaken s back n then failJob j 0x2001 56 0 0 s
      else if 2048 ≤ heHeld s cab then failJob j 0x4011 0 0 0 s
      else
        match freeHe s with
        | none => failJob j 0x4011 0 0 0 s
        | some i =>
          let v := standardBytes 0x4022 [q.id, o.level] (c.bytes :: others.map (·.bytes)) n
          let h := mkHe cab i (Tab.getD s.eng.heGens i 0)
          let sg := if q.ckks then o.scale.toNat else 0
          let rec_ : HeRec := {
            handle := h, cab := cab, kind := 0, set := q.id, keyId := o.keyId, level := o.level, back := back, backLen := n
            digest := heDigest v, noise := o.noise.toNat, scale := sg }
          let made := fun (s : State) =>
            setResult j { status := 0, w0 := h, w1 := o.noise.toNat, w2 := o.level % 256 + sg * 256, effects := [.putHandle i rec_] }
              (modJob j (fun y => { y with gotHe := some i, wantHe := some (back, n) }) (dropRound r.id s))
          writeBacking j x back v made u
  | _, _ => failJob j 0x5022 0 0 0 s

/-- A round goes on as far as it can (R421, R422) (DEDUCED, log 51). -/
def roundGoes (id : Nat) (s : State) : State :=
  match s.roundOf id with
  | none => s
  | some r =>
    match r.job with
    | none => s
    | some j =>
      if !((peersOf s r).all (joined r)) then s
      else if r.mode = 1 then
        let s := if !r.partialSent && (peersOf s r).all (fun m => r.shares.any (fun e => e.1 == m)) then
            let p := (ofPeers s r r.shares).foldl (fun a e => addValues r.count a e.2) r.kept
            let s := forEach (peersOf s r) (fun m => sendMsg m 0x32 (leBytes 8 id ++ valueBytes p)) s
            modRound id (fun r => { r with partialSent := true, partials := r.partials ++ [((meshSelf s).getD 0, p)] }) s
          else s
        match s.roundOf id with
        | none => s
        | some r =>
          if (bitmapMembers r.bitmap).all (fun m => r.partials.any (fun e => e.1 == m)) then
            let own := r.partials.filter (fun e => meshSelf s == some e.1)
            let t := (own ++ ofPeers s r r.partials).foldl (fun a e => addValues r.count a e.2) (List.replicate r.count 0)
            setResult j { status := 0, output := valueBytes t } (dropRound id s)
          else s
      else if meshSelf s = some (collectorOf r) then
        match s.jobOf j with
        | none => dropRound id s
        | some x =>
          if x.park.isNone && (bitmapMembers r.bitmap).all (fun m => r.ciphers.any (fun c => c.member == m)) then collect j x r s else s
      else setResult j { status := 0 } (dropRound id s)

/-- MESH_AGGREGATE (R420): joins a round; `back` is what the handle's backing range holds in mode 2 (DEDUCED, log 51). -/
def meshAggregate (j : Nat) (back : List Byte) (s : State) : State :=
  match runnable s j 0x9020 with
  | none => s
  | some x =>
    let d := x.desc
    let id := d.par 48 8
    let ms := bitmapMembers x.aux
    let self := (meshSelf s).getD 0
    let known := fun (m : Nat) => m == self || (meshRec? s m).isSome
    if !(meshSelf s).isSome || !ms.contains self || decide (ms.length < 3) || !ms.all known then failJob j 0x2001 32 0 0 s
    else if (s.roundOf id).any (fun r => r.job.isSome) then (if (s.roundOf id).any (fun r => r.job == some j) then roundGoes id s else s)
    else
      let n := if d.par 40 1 = 1 then d.par 41 1 else 0
      let old := (s.roundOf id).getD { id := id, firstL := s.time.L }
      let r : Round := { old with job := some j, mode := d.par 40 1, count := n, bitmap := x.aux }
      let peers := ms.filter (· != self)
      let offer := leBytes 8 id ++ leBytes 1 r.mode ++ leBytes 1 n ++ zeros 6 ++ x.aux
      let put := fun (r : Round) (s : State) => { s with msh := { s.msh with rounds := s.msh.rounds.filter (fun q => q.id != id) ++ [r] } }
      if r.mode = 1 then
        let f := freeBytes s (8 * n * peers.length)
        let draws := peers.zipIdx.map (fun e => (e.1, bytesValues n (slice f (8 * n * e.2) (8 * n))))
        let kept := draws.foldl (fun a e => subValues n a e.2) (bytesValues n x.input)
        let s := drawFree (8 * n * peers.length) (put { r with kept := kept } s)
        let s := forEach peers (fun m => sendMsg m 0x30 offer) s
        let s := forEach draws (fun e => sendMsg e.1 0x31 (leBytes 8 id ++ valueBytes e.2)) s
        roundGoes id s
      else
        match heOf? s d.handleA with
        | none => failJob j 0x5022 0 0 0 s
        | some h =>
          if h.kind ≠ 0 then failJob j 0x5022 0 0 0 s
          else if h.digest ≠ heDigest back then heRefuse j x (0x5023, h.handle, 1, 0) s
          else
            let c : Contribution := { member := self, set := h.set, keyId := h.keyId, level := h.level, noise := h.noise, scale := h.scale, bytes := back }
            let s := put { r with ciphers := r.ciphers ++ [c] } s
            let s := forEach peers (fun m => sendMsg m 0x30 offer) s
            let s := if self = collectorOf r then s
              else sendMsg (collectorOf r) 0x33 (leBytes 8 id ++ leBytes 4 h.set ++ leBytes 4 h.keyId ++ leBytes 1 h.level ++ zeros 3 ++ leBytes 4 h.noise ++ leBytes 4 h.scale ++ back) s
            roundGoes id s

/-- AGG_OFFER: the first one of a round starts its orbit (R420). -/
def onAggOffer (m : Nat) (p : List Byte) (s : State) : State :=
  let id := leAt p 0 8
  let s := if (s.roundOf id).isSome then s
    else { s with msh := { s.msh with rounds := s.msh.rounds ++ [{ id := id, firstL := s.time.L }] } }
  roundGoes id (modRound id (fun r => { r with offers := r.offers.filter (fun o => o.1 != m) ++ [(m, byteAt p 8, byteAt p 9, slice p 16 32)] }) s)

/-- AGG_SHARE (R421). -/
def onAggShare (m : Nat) (p : List Byte) (s : State) : State :=
  let id := leAt p 0 8
  roundGoes id (modRound id (fun r => { r with shares := r.shares.filter (fun e => e.1 != m) ++ [(m, bytesValues ((p.length - 8) / 8) (p.drop 8))] }) s)

/-- AGG_PARTIAL (R421). -/
def onAggPartial (m : Nat) (p : List Byte) (s : State) : State :=
  let id := leAt p 0 8
  roundGoes id (modRound id (fun r => { r with partials := r.partials.filter (fun e => e.1 != m) ++ [(m, bytesValues ((p.length - 8) / 8) (p.drop 8))] }) s)

/-- AGG_CIPHER (R422). -/
def onAggCipher (m : Nat) (p : List Byte) (s : State) : State :=
  let id := leAt p 0 8
  let c : Contribution := {
    member := m, set := leAt p 8 4, keyId := leAt p 12 4, level := byteAt p 16, noise := leAt p 20 4, scale := leAt p 24 4, bytes := p.drop 28 }
  roundGoes id (modRound id (fun r => { r with ciphers := r.ciphers.filter (fun e => e.member != m) ++ [c] }) s)

/-- AGG_ROUND_TIMEOUT (R420): one orbit after the first offer, a round some participant has not joined ends WITHDRAWN; one that all
have joined goes on. -/
def aggRoundTimeout (id : Nat) (s : State) : State :=
  match s.roundOf id with
  | none => s
  | some r =>
    if r.firstL + orbitL ≤ s.time.L then
      let missing := ((peersOf s r).filter (fun m => !joined r m)).length
      match r.job with
      | some j => if missing = 0 then s else failJob j 0x7001 missing 0 0 (dropRound id s)
      | none => dropRound id s
    else s

/-- The job of a round or restore that has ended otherwise leaves it; its rotation goes on without it. -/
def pruneMesh (s : State) : State :=
  let live := fun (j : Nat) => (s.jobOf j).any (fun x => !x.finished)
  { s with msh := { s.msh with
    restores := s.msh.restores.filter (fun r => live r.job)
    rounds := s.msh.rounds.filter (fun r => r.job.all live) } }

/-- MESH_AGGREGATE at the descriptor checks. -/
def aggregateInfo (s : State) (cab : Nat) (d : Desc) : OpInfo :=
  let mode := d.par 40 1
  let one := mode != 2
  { plane := .M, usesA := mode != 1, usesIn := one, usesOut := one, usesAux := true,
    fields := [(40, mode == 1 || mode == 2), (41, if one then decide (1 ≤ d.par 41 1 ∧ d.par 41 1 ≤ 64) else d.par 41 1 == 0),
               zeroField d 42 6, (56, if one then d.par 56 4 == 0 else d.par 56 4 % 4096 == 0), zeroField d 60 4],
    owner := if mode = 2 then heOwner cab d.handleA 8 else none,
    policy := if mode = 2 then
        (if !cabHas s cab 1 then some (0x3002, 0, 0) else if (heOf? s d.handleA).isNone then some (0x5022, 0, 0) else none)
      else none,
    length := orElseBad (if one then exactly 20 d.inLen (8 * d.par 41 1) else none) (exactly 36 d.auxLen 32),
    outLen := if one then 8 * d.par 41 1 else 0,
    needOut := if one then some (8 * d.par 41 1) else none }

end Sys2Proof.Machine
end

