-- ==== Sys2Proof/Machine/Mesh.lean ====
section
/-! DEFINITION. Received mesh frames, the tunnel, and what a Dawn and a commit do to the mesh (spec/18_ulyel_mesh.md R399 to R402,
R413, R415, R424). -/

namespace Sys2Proof.Machine

/-- The fields of a frame's header. -/
structure FrameHdr where
  type : Nat
  src : Nat
  dst : Nat
  flags : Nat
  credit : Nat
  len : Nat
  frag : Nat
  epoch : Nat
  counter : Nat

/-- Read a header. -/
def frameHdr (b : List Byte) : FrameHdr :=
  { type := byteAt b 3, src := byteAt b 4, dst := byteAt b 5, flags := byteAt b 6, credit := byteAt b 7, len := leAt b 8 2, frag := leAt b 10 2,
    epoch := leAt b 12 4, counter := leAt b 16 8 }

/-- A KEY frame or HELLO: never sealed. -/
def keyType (t : Nat) : Bool := decide (1 ≤ t ∧ t ≤ 4)

/-- The format checks of R399 and R400 on a frame from a member. -/
def headerGood (s : State) (m : Nat) (b : List Byte) : Bool :=
  let h := frameHdr b
  let sealed := bit h.flags 0
  leAt b 0 2 == 0x4D4B && byteAt b 2 == 1 && decide (h.len ≤ 8192) && b.length == 28 + h.len + (if sealed then 16 else 0)
    && decide (h.flags < 4) && (!bit h.flags 1 || h.type == 0x11) && bits h.frag 14 7 == 0 && decide (h.credit ≤ 32)
    && meshSelf s == some h.dst && h.src == m && (sealed || h.counter == 0)
    && (if sealed then !keyType h.type else keyType h.type || (h.type == 0x11 && (s.memberOf m).all (fun x => x.link.isNone)))

/-- Is the payload of a message of this type well formed? An unknown type is not. -/
def payloadGood (t : Nat) (p : List Byte) : Bool :=
  let n := p.length
  if t = 0x01 then n == 56 && allZero (slice p 10 2) && allZero (slice p 52 4) && decide (byteAt p 9 < 2)
  else if t = 0x02 then n == 1248
  else if t = 0x03 then n == 6413
  else if t = 0x04 then n == 5261
  else if t = 0x10 then n == 40 && byteAt p 27 == 0 && allZero (slice p 32 8) && decide (byteAt p 26 < 8)
  else if t = 0x11 then n == 0
  else if t = 0x20 ∨ t = 0x24 then n == 136
  else if t = 0x21 ∨ t = 0x22 ∨ t = 0x26 ∨ t = 0x27 then n == 8 && allZero (slice p 1 3)
  else if t = 0x23 then decide (46 + 56 * byteAt p 44 ≤ n) && allZero (slice p 1 3)
  else if t = 0x25 then n == 8 && allZero (slice p 2 2)
  else if t = 0x30 then n == 48 && allZero (slice p 10 6)
  else if t = 0x31 ∨ t = 0x32 then decide (16 ≤ n ∧ n ≤ 520) && n % 8 == 0
  else if t = 0x33 then decide (28 ≤ n) && allZero (slice p 17 3)
  else false

/-- Custody work, where it may proceed (R423). -/
def whenCustody (f : State → State) (s : State) : State := if mayCustody s then f s else s

/-- What a whole message does. -/
def onMessage (m rx : Nat) (h : FrameHdr) (p : List Byte) (s : State) : State :=
  match h.type with
  | 0x01 => onHello m p s
  | 0x02 => onKeyInit m h.epoch p s
  | 0x03 => let r := onKeyReply m h.epoch p s; if r.2 then probeHolder m r.1 else r.1
  | 0x04 => let r := onKeyConfirm m h.epoch p s; if r.2 then probeHolder m r.1 else r.1
  | 0x10 => onHeartbeat m rx p s
  | 0x11 => if bit h.flags 1 then modMember m (fun x => { x with resendAt := if x.lastMsg.isSome then some (s.time.L + 1024) else none }) s else s
  | 0x20 => whenCustody (onSharePut m p) s
  | 0x21 => whenCustody (onShareAck m p) s
  | 0x22 => whenCustody (onShareCommit m p) s
  | 0x23 => onShareRequest m p s
  | 0x24 => whenCustody (onShareRelease m p) s
  | 0x25 => whenCustody (onShareRefuse m p) s
  | 0x26 => onShareProbe m p s
  | 0x27 => whenCustody (onShareDrop m p) s
  | 0x30 => onAggOffer m p s
  | 0x31 => onAggShare m p s
  | 0x32 => onAggPartial m p s
  | 0x33 => onAggCipher m p s
  | _ => s

/-- One fragment (R402): the message so far where it is not whole, the whole message, or a violation. -/
inductive Gathered where
  | part (s : State)
  | whole (p : List Byte) (s : State)
  | wrong

/-- Take a fragment into its reassembly place; where none of the 8 is free the message is dropped and answered BUSY. -/
def gather (m type frag : Nat) (p : List Byte) (s : State) : Gathered :=
  let i := frag % 128
  let last := bit frag 15
  if i = 0 ∧ last then .whole p (dropPlaces m s)
  else if 63 < i then .wrong
  else if i = 0 then
    let s := dropPlaces m s
    if s.msh.places.length < 8 then .part { s with msh := { s.msh with places := s.msh.places ++ [{ member := m, type := type, next := 1, bytes := p }] } }
    else .part (sendFlagged m 2 0x11 0x8000 0 [] s)
  else
    match s.msh.places.find? (fun q => q.member == m) with
    | none => .part s
    | some q =>
      if q.type ≠ type ∨ q.next ≠ i then .wrong
      else if last then .whole (q.bytes ++ p) (dropPlaces m s)
      else .part { s with msh := { s.msh with places := s.msh.places.map (fun e => if e.member = m then { e with next := i + 1, bytes := e.bytes ++ p } else e) } }

/-- The receive key of an epoch: its key, the last COUNTER, and whether it is the old one. -/
def rxKey (x : Member) (epoch : Nat) : Option (List Byte × Nat × Bool) :=
  match x.link with
  | none => none
  | some l =>
    if l.epoch = epoch then some (l.rx, l.rxCount, false)
    else x.old.bind (fun o => if o.1 = epoch then some (o.2.1, o.2.2, true) else none)

/-- A sealed frame has passed: its COUNTER counts, the member is heard, the old epoch ends with the first frame of the new one. -/
def heard (h : FrameHdr) (old : Bool) (L : Nat) (x : Member) : Member :=
  { x with
    heardL := L
    old := if old then x.old.map (fun o => (o.1, o.2.1, h.counter)) else none
    link := if old then x.link else x.link.map (fun l => { l with rxCount := h.counter }) }

/-- A failed tag; the 4th in one orbit on a keyed link freezes the peer (R406). -/
def tagFailed (m path : Nat) (s : State) : State :=
  let s := countPort path 2 s
  match s.memberOf m with
  | none => s
  | some x =>
    let n := if x.tagOrbit = s.time.L / orbitL then x.tagFails + 1 else 1
    let s := modMember m (fun x => { x with tagOrbit := s.time.L / orbitL, tagFails := n }) s
    if x.link.isSome ∧ 4 ≤ n then freezePeer m 0x20 s else s

/-- The credits a header gives are taken and waiting frames go out (R400). -/
def takeCredit (m credit : Nat) (s : State) : State :=
  flushQueue m 64 (modMember m (fun x => { x with credits := min 32 (x.credits + credit) }) s)

/-- A frame turned down after its header: one that was sealed freezes the peer, one in the clear is counted (R401, R406). -/
def malformed (m path flags : Nat) (s : State) : State :=
  if bit flags 0 then freezePeer m 0x23 s else countPort path 1 s

/-- An opened frame's payload `p`: its place in a message, its form and its effect (R401, R406). The second part says whether
the frame was accepted. -/
def frameBody (m path rx : Nat) (h : FrameHdr) (p : List Byte) (s : State) : State × Bool :=
  match gather m h.type h.frag p s with
  | .part s => (takeCredit m h.credit s, true)
  | .wrong => (malformed m path h.flags s, false)
  | .whole q s =>
    if payloadGood h.type q then (takeCredit m h.credit (onMessage m rx h q s), true) else (malformed m path h.flags s, false)

/-- A frame whose header is good: credit, seal, counter, type and payload (R400, R401, R406). The second part says whether it
was accepted. -/
def frameIn (m path rx : Nat) (b : List Byte) (s : State) : State × Bool :=
  let h := frameHdr b
  match s.memberOf m with
  | none => (s, false)
  | some x =>
    if h.type ≠ 0x01 ∧ 32 ≤ x.freed then (freezePeer m 0x22 s, false)
    else
      let used := if h.type = 0x01 then s else modMember m (buffered s.time.L) s
      if bit h.flags 0 then
        let head := b.take 24
        let body := slice b 24 (h.len + 16)
        match rxKey x h.epoch with
        | none => (tagFailed m path used, false)
        | some (key, last, old) =>
          if !gcmOpens key (frameNonce h.counter h.epoch) head body then (tagFailed m path used, false)
          else if h.counter ≤ last then (freezePeer m 0x21 used, false)
          else frameBody m path rx h (gcmPlain key (frameNonce h.counter h.epoch) head body) (modMember m (heard h old s.time.L) used)
      else frameBody m path rx h (slice b 24 h.len) used

/-- A frame from a member on a path (R399): CRC, then format; a frozen peer's frames are dropped. -/
def receive (m path rx : Nat) (b : List Byte) (s : State) : State × Bool :=
  let drop := fun (cls : Nat) => (countPort path cls (modMember m (buffered s.time.L) s), false)
  match s.memberOf m with
  | none => (s, false)
  | some x =>
    if x.st = .frozen then (s, false)
    else if b.length < 28 ∨ leAt b (b.length - 4) 4 ≠ crc32c (b.take (b.length - 4)) then drop 0
    else if !headerGood s m b then drop 1
    else frameIn m path rx b s

/-- The member of a port. -/
def memberOnPort (s : State) (p : Nat) : Option Nat := (s.car.active.members.find? (fun r => r.path == p && decide (p < 4))).map (·.member)

/-- A frame of a type on a port, received while the port is up; `rx` is its RX_PHASE. -/
def portFrame (type : Option Nat) (p rx : Nat) (b : List Byte) (s : State) : State × Bool :=
  match memberOnPort s p with
  | none => (s, false)
  | some m =>
    if meshUp s && (s.portOf p).pcs && (s.portOf p).fec && type.all (fun t => byteAt b 3 == t) then receive m p (rx % transitCycles) b s
    else (s, false)

/-- The frame commands. -/
def meshFrame (type p : Nat) (b : List Byte) (s : State) : State := (portFrame (some type) p 0 b s).1
/-- HEARTBEAT with its RX_PHASE. -/
def meshHeartbeat (p rx : Nat) (b : List Byte) (s : State) : State := (portFrame (some 0x10) p rx b s).1

/-- MESH_FRAME_REJECTED: a frame that fails a check, or one the RS-FEC could not correct. -/
def meshFrameRejected (p : Nat) (fec : Bool) (b : List Byte) (s : State) : State :=
  if fec then (if meshUp s && (memberOnPort s p).isSome then countPort p 3 s else s)
  else
    let r := portFrame none p 0 b s
    if r.2 then s else r.1

/-! ### The tunnel (R413) -/

/-- The frames of a tunnel buffer: peer and bytes; a remainder that holds no whole frame is one frame of no peer. -/
def tunnelFrames : Nat → List Byte → List (Option Nat × List Byte)
  | 0, _ => []
  | fuel + 1, bs =>
    if bs.isEmpty then []
    else
      let n := leAt bs 4 4
      if bs.length < 8 ∨ bs.length < roundUp (8 + n) 8 then [(none, bs)]
      else
        (if allZero (slice bs 1 3) then some (byteAt bs 0) else none, slice bs 8 n) :: tunnelFrames fuel (bs.drop (roundUp (8 + n) 8))

/-- MESH_TUNNEL_IN. -/
def meshTunnelIn (j : Nat) (s : State) : State :=
  match runnable s j 0x9001 with
  | none => s
  | some x =>
    let one := fun (a : State × Nat × Nat) (f : Option Nat × List Byte) =>
      match f.1 with
      | none => (a.1, a.2.1, a.2.2 + 1)
      | some m =>
        if meshUp a.1 && (meshRec? a.1 m).any (fun r => r.path == 4) then
          let r := receive m 4 0xFFFFFFFF f.2 a.1
          if r.2 then (r.1, a.2.1 + 1, a.2.2) else (r.1, a.2.1, a.2.2 + 1)
        else (a.1, a.2.1, a.2.2 + 1)
    if !s.car.active.members.any (fun r => r.path == 4) then setResult j { status := 0 } s
    else
      let r := (tunnelFrames (x.input.length / 8 + 1) x.input).foldl one (s, 0, 0)
      setResult j { status := 0, w0 := r.2.1, w1 := r.2.2 } r.1

/-- One queued frame in tunnel layout. -/
def tunnelBytes (f : Nat × List Byte) : List Byte :=
  let n := f.2.length
  leBytes 1 f.1 ++ zeros 3 ++ leBytes 4 n ++ f.2 ++ zeros (roundUp (8 + n) 8 - (8 + n))

/-- As many whole frames as fit. -/
def takeFrames : Nat → List (Nat × List Byte) → List (Nat × List Byte)
  | _, [] => []
  | room, f :: fs => if (tunnelBytes f).length ≤ room then f :: takeFrames (room - (tunnelBytes f).length) fs else []

/-- MESH_TUNNEL_OUT. -/
def meshTunnelOut (j : Nat) (s : State) : State :=
  match runnable s j 0x9002 with
  | none => s
  | some x =>
    let fs := takeFrames (min x.desc.outCap (maxOutput s)) s.msh.tunnel
    let rest := s.msh.tunnel.drop fs.length
    setResult j { status := 0, output := fs.flatMap tunnelBytes, w0 := fs.length, w1 := rest.length } { s with msh := { s.msh with tunnel := rest } }

/-- The tunnel commands at the descriptor checks. -/
def tunnelInfo (s : State) (f : Nat) (d : Desc) : OpInfo :=
  let out := d.opcode == 0x9002
  { plane := .C, usesIn := !out, usesOut := out, fields := reservedFrom d 40,
    owner := if f = 0 then none else some (0x3001, 0, 0),
    outLen := if out then min d.outCap (maxOutput s) else 0 }

/-! ### Dawn and commits (R403, R405, R415, R424) -/

/-- At Dawn: entries whose tag fails are absent; a share-store key is made where the vault holds none, and the region, sealed under
a key that is lost, is erased (R415) (DEDUCED, log 50). -/
def meshVault (bad : List Nat) (s : State) : State :=
  if s.msh.shareKey.isSome then eraseShares (fun e => bad.contains e.slot) s
  else drawFree 32 { s with msh := { s.msh with shares := [], shareKey := some (freeBytes s 32) } }

/-- The identity key is made (R403, R482) (DEDUCED, log 38). -/
def makeIdentity (s : State) : State :=
  if s.msh.idSeed.isSome then s else drawFree 32 { s with msh := { s.msh with idSeed := some (freeBytes s 32) } }

/-- The volatile mesh state of a new Dawn. -/
def meshReset (s : State) : State :=
  { s with msh := { s.msh with members := [], ports := [], ref := none, parent := none, hops := 255, tunnel := [], restores := [], rounds := [], places := []
                               custody := Tab.mapAll s.msh.custody (fun _ c => { c with rot := none, due := none, overlapUntil := none }) } }

/-- The mesh step: every member is DOWN, its first HELLO scheduled from H0 (R405). -/
def meshStart (h0 : Nat) (s : State) : State :=
  if (meshSelf s).isNone || s.car.active.bare || umbral s then s
  else updateRef (forEach (s.car.active.members.map (·.member)) (fun m s =>
    scheduleHello h0 m { s with msh := { s.msh with members := Tab.put s.msh.members m {} } }) s)

/-- A vault erase destroys the identity key, the share-store key and the custody records (R403, R415, R459). -/
def eraseMeshVault (s : State) : State :=
  { s with msh := { s.msh with idSeed := none, shareKey := none, custody := [] } }

/-- A cabinet's backup is dropped: SHARE_DROP of every set, its custody record cleared (R424, R460). -/
def dropBackup (holders : List Nat) (cab : Nat) (s : State) : State :=
  let c := s.custodyOf cab
  let self := (meshSelf s).getD 0
  let s := match c.rot.bind (·.job) with
    | some j => failJob j 0x7001 ((c.rot.map (·.acks.length)).getD 0) 0 0 s
    | none => s
  let s := eraseShares (fun e => e.owner == self && e.cab == cab) s
  let s := forEach (holders.filter (· != self)) (fun m s => forEach c.made (fun g => sendMsg m 0x27 (setPayload cab g)) s) s
  { s with msh := { s.msh with custody := Tab.del s.msh.custody cab } }

/-- What a commit does to the share store and the custody records (R424); the active structure is already the new one. -/
def shareCommit (old : Carcass) (s : State) : State :=
  let new := s.car.active
  let s := if old.meshSelf.map (·.1) ≠ new.meshSelf.map (·.1) ∧ old.meshSelf.isSome then { s with msh := { s.msh with shares := [] } } else s
  let gone := (old.members.map (·.member)).filter (fun m => !new.members.any (fun r => r.member == m))
  let s := forEach gone (fun m => eraseShares (fun e => e.owner == m)) s
  let s := forEach (old.custody.filter (fun c => !new.custody.any (fun d => d.cab == c.cab))) (fun c => dropBackup c.holders c.cab) s
  forEach new.custody (fun c s =>
    if old.custody.contains c && rosterBytes old c.cab == rosterBytes new c.cab then s else askRotation c.cab none s) s

/-- The mesh at a commit boundary (R424); the active structure is already the new one. -/
def meshCommit (old : Carcass) (s : State) : State :=
  let new := s.car.active
  let L := s.time.L
  let oldSelf := old.meshSelf.map (·.1)
  let allClosed := oldSelf != new.meshSelf.map (·.1)
  let s := if allClosed ∧ oldSelf.isSome then { s with msh := { s.msh with members := [], tunnel := [], places := [] } } else s
  -- members removed
  let gone := (s.msh.members.map (·.1)).filter (fun m => !new.members.any (fun r => r.member == m))
  let s := forEach gone (fun m s => dropTunnel m (dropPlaces m { s with msh := { s.msh with members := Tab.del s.msh.members m } })) s
  -- members added or changed
  let s := if new.meshSelf.isNone || new.bare then s
    else forEach new.members (fun r s =>
      let same := old.members.any (fun o => o.member == r.member && o.path == r.path && o.serial == r.serial && o.digest == r.digest)
      match s.memberOf r.member with
      | none => scheduleHello L r.member { s with msh := { s.msh with members := Tab.put s.msh.members r.member {} } }
      | some x => if same || x.st == .frozen then s else scheduleHello L r.member (dropTunnel r.member (closeLink r.member .down s))) s
  updateRef (shareCommit old s)

/-! ### Registers -/

/-- Code of MSH_MEMBER_STATE. -/
def memberCode : MemberState → Nat
  | .down => 1 | .keying => 2 | .live => 3 | .lost => 4 | .frozen => 5

/-- MSH_STATUS. -/
def mshStatus (s : State) : Nat :=
  (meshSelf s).getD 0 + (s.msh.ref.getD 0) * 256 + s.msh.hops * 65536 + flag ((meshSelf s).isSome) * 2 ^ 24 + flag s.msh.parent.isSome * 2 ^ 25
/-- MSH_PARENT. -/
def mshParent (s : State) : Nat := match s.msh.parent with
  | some m => m + pathOf s m % 4 * 256
  | none => 0
/-- MSH_PORT_STATUS. -/
def mshPort (s : State) (p : Nat) : Nat := flag (s.portOf p).pcs + 2 * flag (s.portOf p).fec + ((memberOnPort s p).getD 0) * 256
/-- MSH_PORT_ERRORS. -/
def mshErrors (s : State) (p : Nat) : Nat := (s.portOf p).errors.foldr (fun e a => e + 256 * a) 0
/-- MSH_MEMBER_STATE of the selected member. -/
def mshMember (s : State) (m : Nat) : Nat := match s.memberOf m with
  | some x => memberCode x.st + pathOf s m * 16 + x.cause * 256 + x.credits * 65536
  | none => 0
/-- MSH_MEMBER_EPOCH. -/
def mshEpoch (s : State) (m : Nat) : Nat := (((s.memberOf m).bind (·.link)).map (·.epoch)).getD 0
/-- MSH_CAB_CUSTODY. -/
def mshCustody (s : State) (cab : Nat) : Nat :=
  flag (s.custodyOf cab).committed + 2 * flag (s.custodyOf cab).rot.isSome + 4 * flag (s.custodyOf cab).overlapUntil.isSome

end Sys2Proof.Machine
end

