-- ==== Sys2Proof/Machine/Cells.lean ====
section
/-! DEFINITION. Ledger cells (spec/16_ledger_seals.md R352, R353, Formats): rows, their programming and erasing, the rows of counters
and the intent ring, and the bytes of the records they hold. -/

namespace Sys2Proof.Machine

/-! ### Rows (R352) -/

/-- A row of 32 bytes as it reads: 0 where nothing is programmed. -/
def cellRow (s : State) (r : Nat) : List Byte := Tab.getD s.ldg.cells r (zeros 32)

/-- A row erased and then programmed; an erased row is not listed. -/
def setRow (r : Nat) (bs : List Byte) (s : State) : State :=
  { s with ldg := { s.ldg with cells := if allZero bs then Tab.del s.ldg.cells r else Tab.put s.ldg.cells r bs } }

/-- Program bits of a row: programming only sets bits to 1. -/
def programRow (r : Nat) (bs : List Byte) (s : State) : State :=
  setRow r (List.zipWith (· ||| ·) (cellRow s r) (bs ++ zeros (32 - bs.length))) s

/-- Erase consecutive rows and program them with a byte string. -/
def setRows (r : Nat) (bs : List Byte) (s : State) : State :=
  forEach (List.range (ceilDiv bs.length 32)) (fun i => setRow (r + i) (slice bs (32 * i) 32)) s

/-- Bytes of consecutive rows. -/
def cellRows (s : State) (r n : Nat) : List Byte := (List.range n).flatMap (fun i => cellRow s (r + i))

/-- Does the check at byte `n` stand over the bytes before it? -/
def crcStands (bs : List Byte) (n : Nat) : Bool := leAt bs n 4 == crc32c (bs.take n)

/-! ### Rows of counters (R353, R354) -/

/-- Rows of a counter's high ring and thermometer ring. -/
def highRows (id : Nat) : Nat := if id = 0 then 16 else 2
def thermRows (id : Nat) : Nat := if id = 0 then 16 else if id = 3 then 4 else 2
/-- First row of the high ring and of the thermometer ring. -/
def highBase (id : Nat) : Nat := if id = 0 then 0 else if id = 1 then 100 else if id = 2 then 120 else if id = 3 then 188 else 256 + 132 * (id - 16)
def thermBase (id : Nat) : Nat := highBase id + highRows id
/-- The rows of K. -/
def highRow (id k : Nat) : Nat := highBase id + k % highRows id
def thermRow (id k : Nat) : Nat := thermBase id + k % thermRows id

/-- A high row: base, carry count, counter id, check. -/
def highBytes (id b k : Nat) : List Byte :=
  let h := leBytes 8 b ++ leBytes 8 k ++ leBytes 1 id ++ zeros 7
  h ++ leBytes 4 (crc32c h) ++ zeros 4

/-- A thermometer row that is erased and READY. -/
def readyBytes : List Byte := leBytes 32 (2 ^ 255)

/-- Erase a thermometer row and program READY, unless it stands so (R355). -/
def readyRow (r : Nat) (s : State) : State := if cellRow s r = readyBytes then s else setRow r readyBytes s

/-- Program bit `n` of a row. -/
def programBit (r n : Nat) (s : State) : State := programRow r (leBytes 32 (2 ^ n)) s

/-- The count of a thermometer row, and whether its bits form no unbroken run from bit 0 (R354). -/
def thermCount (row : List Byte) : Nat × Bool :=
  let v := leAt row 0 32 % 2 ^ 255
  let n := if v = 0 then 0 else Nat.log2 v + 1
  (n, v + 1 != 2 ^ n)

/-- The high row of a counter with the greatest K among those whose check passes: B and K (R354). -/
def bestHigh (s : State) (id : Nat) : Option (Nat × Nat) :=
  ((List.range (highRows id)).filterMap (fun i =>
    (Tab.get? s.ldg.cells (highBase id + i)).bind (fun bs =>
      if byteAt bs 16 = id ∧ crcStands bs 24 then some (leAt bs 0 8, leAt bs 8 8) else none))).foldl
    (fun m e => if m.any (fun v => decide (e.2 < v.2)) then m else some e) none

/-! ### The intent ring (R353, R355) -/

/-- An intent row: counter id, new B, new K, L, check. -/
def intentBytes (id b k L : Nat) : List Byte :=
  let h := leBytes 1 id ++ zeros 3 ++ leBytes 8 b ++ leBytes 8 k ++ leBytes 8 L
  h ++ leBytes 4 (crc32c h)

/-- Write an intent in the next place of the ring, whose pair is erased first (DESIGN CHOICE, log 86). -/
def writeIntent (id b k : Nat) (s : State) : State :=
  let j := s.ldg.ringAt
  let s := setRow (32 + 2 * j) (intentBytes id b k (eventL s)) (setRow (33 + 2 * j) [] s)
  { s with ldg := { s.ldg with ringAt := (j + 1) % 32 } }

/-- Mark an intent of the ring done. -/
def markDone (j : Nat) (s : State) : State := programRow (33 + 2 * j) [0xFF] s

/-- The open intents: place, counter id, new B, new K. -/
def openIntents (s : State) : List (Nat × Nat × Nat × Nat) :=
  (List.range 32).filterMap (fun j =>
    (Tab.get? s.ldg.cells (32 + 2 * j)).bind (fun bs =>
      if byteAt (cellRow s (33 + 2 * j)) 0 = 0 ∧ crcStands bs 28 then some (j, byteAt bs 0, leAt bs 4 8, leAt bs 12 8) else none))

/-! ### Records (R353, R358, Formats) -/

/-- First row of copy 0 A or 1 B of the record slot a mark is published in: slots follow one another, mark 1 in slot 0 (DEDUCED,
log 86). -/
def recordRow (id mark copy : Nat) : Nat :=
  if id = 1 then 104 + 2 * ((mark - 1) % 8) + copy
  else if id = 2 then 124 + 4 * ((mark - 1) % 16) + 2 * copy
  else highBase id + 4 + 8 * ((mark - 1) % 16) + 4 * copy

/-- Write a record into both copies of the slot of its mark. -/
def writeRecord (id mark : Nat) (bs : List Byte) (s : State) : State := setRows (recordRow id mark 1) bs (setRows (recordRow id mark 0) bs s)

/-- Rows of one copy of a mark counter's record, and where its check stands. -/
def recordShape (id : Nat) : Nat × Nat := if id = 1 then (1, 24) else if id = 2 then (2, 60) else (4, 100)
/-- Record slots of a mark counter. -/
def recordSlots (id : Nat) : Nat := if id = 1 then 8 else 16

/-- The current record of a mark counter (R358): the copy, in either position, whose check passes and whose mark is its value. -/
def currentRecord (s : State) (id mark : Nat) : Option (List Byte) :=
  ((List.range (2 * recordSlots id)).map (fun i => cellRows s (recordRow id (i / 2 + 1) (i % 2)) (recordShape id).1)).find?
    (fun bs => leAt bs 0 8 == mark && crcStands bs (recordShape id).2)

/-- A lane record. -/
def laneRecordBytes (mark : Nat) (r : LaneRecord) : List Byte :=
  let h := leBytes 8 mark ++ leBytes 8 r.seq ++ leBytes 8 r.imp ++ leBytes 8 r.exp ++ leBytes 8 r.meterImp ++ leBytes 8 r.meterExp
    ++ leBytes 8 r.lastL ++ leBytes 8 r.lastUs ++ leBytes 8 r.openL ++ (r.identity ++ zeros 16).take 16 ++ leBytes 4 r.period
    ++ leBytes 4 r.baseline ++ leBytes 1 r.kind ++ leBytes 1 (flag r.tainted) ++ zeros 2
  h ++ leBytes 4 (crc32c h) ++ leBytes 1 (if r.released then 0xFF else 0) ++ zeros 23

/-- A lane record as its bytes say. -/
def parseLaneRecord (bs : List Byte) : LaneRecord :=
  { seq := leAt bs 8 8, imp := leAt bs 16 8, exp := leAt bs 24 8, meterImp := leAt bs 32 8, meterExp := leAt bs 40 8, lastL := leAt bs 48 8,
    lastUs := leAt bs 56 8, openL := leAt bs 64 8, identity := slice bs 72 16, period := leAt bs 88 4, baseline := leAt bs 92 4,
    kind := byteAt bs 96, tainted := bit (byteAt bs 97) 0, released := byteAt bs 104 != 0 }

/-- An anchor record. -/
def anchorBytes (mark : Nat) (a : Anchor) : List Byte :=
  let h := leBytes 8 mark ++ leBytes 8 a.us ++ leBytes 8 a.L ++ leBytes 8 a.closed ++ leBytes 8 (signedField 64 a.step) ++ leBytes 8 a.stepL ++ zeros 12
  h ++ leBytes 4 (crc32c h)

/-- An anchor record as its bytes say. -/
def parseAnchor (bs : List Byte) : Anchor :=
  { us := leAt bs 8 8, L := leAt bs 16 8, closed := leAt bs 24 8, step := fieldSigned 64 (leAt bs 32 8), stepL := leAt bs 40 8 }

/-- A floor record. -/
def floorBytes (mark seq L : Nat) : List Byte :=
  let h := leBytes 8 mark ++ leBytes 8 seq ++ leBytes 8 L
  h ++ leBytes 4 (crc32c h) ++ zeros 4

/-- RELEASED is programmed in both copies of the record of a mark (R367, R369). -/
def programReleased (id mark : Nat) (s : State) : State :=
  forEach [0, 1] (fun c => programRow (recordRow id mark c + 3) (zeros 8 ++ [0xFF])) s

/-! ### The commit intent (R116, Formats) -/

/-- The commit intent, rows 96 to 99, while it is open. -/
def commitIntentBytes (i : CommitIntent) : List Byte :=
  let h := leBytes 8 i.seq ++ digestBytes i.imageDigest ++ leBytes 2 i.alg ++ zeros 6 ++ digestBytes i.root ++ leBytes 8 i.openL
  h ++ leBytes 4 (crc32c h) ++ zeros 36

/-- The commit intent is done, or abandoned: byte 92 or 93 is programmed. -/
def closeIntentCell (abandoned : Bool) (s : State) : State := programRow 98 (zeros (if abandoned then 29 else 28) ++ [0xFF]) s

/-- The open commit intent the cells hold, on top of what is known of it (R116). -/
def readCommitIntent (s : State) : Option CommitIntent :=
  let bs := cellRows s 96 4
  if byteAt bs 92 = 0 ∧ byteAt bs 93 = 0 ∧ crcStands bs 88 then
    some { seq := leAt bs 0 8, imageDigest := digestOf (slice bs 8 32), alg := leAt bs 40 2, root := digestOf (slice bs 48 32), openL := leAt bs 80 8,
           job := none, firstCopy := (s.car.intent.map (·.firstCopy)).getD 0, written := s.car.intent.any (·.written) }
  else none

end Sys2Proof.Machine
end

