-- ==== Sys2Proof/Machine/Custody.lean ====
section
/-! DEFINITION. Custody of the carcass image (spec/05_carcass_custody.md R114 to R131): staging, the commit intent, the two
flash copies, repair and the selection at Dawn. The changes of a commit stand in Machine/CarcassCommit.lean. -/

namespace Sys2Proof.Machine

/-! ### Checking images (R118, R119) -/

/-- Selectors a life-cycle state permits (R450): vendor root, site root. -/
def selectorsOf (code : Nat) : Bool × Bool :=
  if code = 1 ∨ code = 2 ∨ code = 5 then (true, false) else if code = 3 then (true, true) else (false, false)

/-- Check context with the site root held for the check. -/
def imageCtx (s : State) (root : Option (Nat × Digest)) : ImageCtx :=
  { serial := serialOf s, vendorRoot := otpDigest s 16, allows1 := (selectorsOf s.lcs.code).1, allows2 := (selectorsOf s.lcs.code).2,
    siteRoot := root, keeperMortise := s.pwr.mortise }

/-- Active and next root of the vault site record. -/
def activeRoot (s : State) : Option (Nat × Digest) := s.car.site.map (fun r => (r.activeAlg, r.activeRoot))
def nextRoot (s : State) : Option (Nat × Digest) := s.car.site.map (fun r => (r.nextAlg, r.nextRoot))

/-- Sequence field of an image. -/
def imageSeq (bs : List Byte) : Nat := leAt bs 8 8

/-- Does a copy match the open commit intent (R119)? (DEDUCED, log 39). -/
def matchesIntent (s : State) (bs : List Byte) : Bool :=
  match s.car.intent with
  | some i => imageSeq bs == i.seq && decide (imageDigest bs = i.imageDigest)
  | none => false

/-- The root a flash copy is verified under (R118): the intent's where it matches the open intent, else the active root; none while
the site record is empty (DEDUCED, log 39). -/
def copyRoot (s : State) (bs : List Byte) : Option (Nat × Digest) :=
  if s.car.site.isSome && matchesIntent s bs then s.car.intent.map (fun i => (i.alg, i.root)) else activeRoot s

/-- A flash copy checked under R96, R118 and R119 (DEDUCED, log 39). -/
def checkCopy (s : State) (bs : List Byte) : Except Bad Carcass :=
  match checkImage (imageCtx s (copyRoot s bs)) bs with
  | .error b => .error b
  | .ok c =>
    if c.seq < s.car.floor then .error (0x10, 8)
    else if s.car.floor < c.seq ∧ !matchesIntent s bs then .error (0x11, 8)
    else .ok c

/-- A staged image checked under R96, R118 and R127. -/
def checkStaged (s : State) (bs : List Byte) : Except Bad Carcass :=
  match checkImage (imageCtx s (nextRoot s)) bs with
  | .error b => .error b
  | .ok c => if c.seq ≤ s.car.floor then .error (0x10, 8) else .ok c

/-- Bytes of copy 0 A, 1 B. -/
def copyOf (s : State) (k : Nat) : List Byte := copyBytes (if k = 0 then s.car.copyA else s.car.copyB)

/-- Write bytes from the start of a copy's region; what lies beyond them stays (R121). -/
def writeCopy (k : Nat) (bs : List Byte) (s : State) : State :=
  if k = 0 then { s with car := { s.car with copyA := bs ++ s.car.copyA.drop bs.length } }
  else { s with car := { s.car with copyB := bs ++ s.car.copyB.drop bs.length } }

/-- Set whether a copy holds the active image's bytes. -/
def setCopyActive (k : Nat) (b : Bool) (s : State) : State :=
  if k = 0 then { s with car := { s.car with aActive := b } } else { s with car := { s.car with bActive := b } }

/-- Set the reason of the last check of a copy. -/
def setCopyReason (k : Nat) (r : Bad) (s : State) : State :=
  if k = 0 then { s with car := { s.car with reasonA := r } } else { s with car := { s.car with reasonB := r } }

/-- The active image's bytes; none under the bare carcass. -/
def activeImage (s : State) : List Byte :=
  if s.car.active.bare then [] else if s.car.aActive then copyOf s 0 else copyOf s 1

/-! ### Staging (R126 to R128) -/

/-- The rosters a stage needs: cabinet 0 with CARCASS, and every affected cabinet that has a roster, with any right. -/
def stageRosters (s : State) (new : Carcass) : List Roster :=
  rosterFor s 0 (some rightCarcass)
    :: ((affected s.car.active new).filter (hasCab s.car.active)).map (fun k => rosterFor s k none)

/-- The first copy a commit writes (R129, R130): 0 A, 1 B. -/
def firstCopy (s : State) : Nat :=
  let c := s.car
  if c.active.bare then
    (if c.bareReason ≠ 2 ∧ c.reasonA.1 ≠ 0 ∧ c.reasonB.1 = 0 then 0 else 1)
  else if c.aActive then 1 else 0

/-- Open the commit intent of the staged image (R116, R129 step 1); the first copy no longer holds the active bytes (DEDUCED, log 56). -/
def openIntent (g : Staged) (s : State) : State :=
  let k := firstCopy s
  let i : CommitIntent := { seq := g.image.seq, imageDigest := g.imageDigest, alg := g.alg, root := g.root, openL := s.time.L,
                            job := some g.job, firstCopy := k, written := false }
  setCopyActive k false (setRows 96 (commitIntentBytes i) { s with car := { s.car with intent := some i } })

/-- Cancel the request of a staged image, with its job, and discard the image. -/
def discardStaged (s : State) : State :=
  match s.car.staged with
  | none => s
  | some g =>
    let s := match g.request with
      | some n => cancelRequest n s
      | none => endJob g.job 0x7001 0 0 0 s
    { s with car := { s.car with staged := none } }

/-- Does staging need no approval (R126): the bare carcass without a roster? -/
def stageFree (s : State) : Bool := s.car.active.bare && s.car.active.quorums.isEmpty

/-- CARCASS_STAGE: the image is copied, checked, and its request opened; without a roster its intent opens at once (DEDUCED, log 56) (DEDUCED, log 43). -/
def carcassStage (j : Nat) (s : State) : State :=
  match openable s j 0x8001 with
  | none => s
  | some x =>
    if s.glb.umbra then failJob j 0x6003 0 0 0 s
    else if s.glb.hold then failJob j 0x6002 0 0 0 s
    else if s.car.intent.isSome || s.car.repairPending then failJob j 0x6010 0 0 0 s
    else
      match checkStaged s x.input with
      | .error b => failJob j 0x2030 b.1 b.2 0 s
      | .ok c =>
        let s := discardStaged s
        let r := imageRoot x.input
        let g : Staged := { bytes := x.input, image := c, imageDigest := imageDigest x.input, alg := r.1, root := r.2, job := j, request := none }
        if stageFree s then openIntent g (modJob j (fun y => { y with approved := true }) { s with car := { s.car with staged := some g } })
        else
          let n := s.dov.nextNum
          let s := openRequest j x (stageRosters s c) (imageDigest x.input) s
          if awaiting s j then { s with car := { s.car with staged := some { g with request := some n } } } else s

/-- CARCASS_UNSTAGE (R127); nothing is discarded once the intent is open (DEDUCED, log 56). -/
def carcassUnstage (j : Nat) (s : State) : State :=
  match runnable s j 0x8002 with
  | none => s
  | some _ => setResult j { status := 0 } (if s.car.intent.isSome then s else discardStaged s)

/-- CARCASS_READ: the active image; none under the bare carcass. -/
def carcassRead (j : Nat) (s : State) : State :=
  match runnable s j 0x8003 with
  | none => s
  | some x =>
    let bs := activeImage s
    if x.desc.outCap < bs.length then failJob j 0x2014 bs.length 0 0 s else setResult j { status := 0, output := bs } s

/-- The quorum of a stage (R129 step 1). -/
def runCarcassStage (j : Nat) (s : State) : State :=
  match s.car.staged with
  | some g => if g.job = j then openIntent g s else s
  | none => s

/-! ### The first copy (R129) -/

/-- Abandon the commit intent: the job ends CARCASS_WRITE_FAILED and the active image stays. The copy that was written over
is repaired (R124). -/
def abandonIntent (cause : Nat) (s : State) : State :=
  match s.car.intent with
  | none => s
  | some i =>
    let s := raiseEv 0x2014 5 (lo32 i.seq) cause 0 <| closeIntentCell true
      { s with car := { s.car with intent := none, repairPending := s.car.repairPending || !s.car.active.bare } }
    let s := match i.job with
      | some j => endJob j 0x7010 0 0 0 s
      | none => s
    { s with car := { s.car with staged := none } }

/-- CARCASS_COPY_WRITTEN: the first copy is written and read back as `found`; every bit must be the staging buffer's, and the
read-back must end within one orbit of the intent (R129). -/
def carcassCopyWritten (found : List Byte) (s : State) : State :=
  match s.car.intent, s.car.staged with
  | some i, some g =>
    if i.written then s
    else
      let s := writeCopy i.firstCopy found s
      if i.openL + orbitL ≤ s.time.L then abandonIntent 2 s
      else if found = g.bytes then { s with car := { s.car with intent := some { i with written := true } } }
      else abandonIntent 1 s
  | _, _ => s

/-- CARCASS_INTENT_TIMEOUT: the first copy is not written within one orbit of the intent. -/
def carcassIntentTimeout (s : State) : State :=
  match s.car.intent with
  | some i => if i.openL + orbitL ≤ s.time.L ∧ i.written = false then abandonIntent 2 s else s
  | none => s

/-! ### Repair (R124) -/

/-- May the other copy be rewritten now: in SERVICE, LIMITED or MAINTENANCE with a selected image, and after a failed write only from
the next orbit boundary on (R124)? -/
def repairOpen (s : State) : Bool :=
  s.car.repairPending && !s.car.active.bare && served s && (devState s == .service || devState s == .limited || devState s == .maintenance)
    && s.car.repairFailed.all (fun k => decide (k < s.time.L / orbitL))

/-- COPY_REPAIR: the copy that does not hold the active image's bytes is rewritten from it and read back as `found`. -/
def copyRepair (found : List Byte) (s : State) : State :=
  if repairOpen s then
    let k := if s.car.aActive then 1 else 0
    let want := activeImage s
    let s := writeCopy k found s
    match firstDiff found want 0 with
    | none =>
      raiseEv 0x2012 4 k (lo32 s.car.active.seq) 0
        (setCopyReason k (0, 0) (setCopyActive k true { s with car := { s.car with repairPending := false, repairFailed := none } }))
    | some o => raiseEv 0x2017 5 k o 0 { s with car := { s.car with repairFailed := some (s.time.L / orbitL) } }
  else s

/-! ### Selection at Dawn (R120 to R125) -/

/-- The site record of an image committed under a root (R117). -/
def siteOf (c : Carcass) (alg : Nat) (root : Digest) : Option SiteRecord :=
  (c.quorums.find? (fun q => q.cab == 0)).map (fun q =>
    { activeAlg := alg, activeRoot := root, nextAlg := c.siteAlg, nextRoot := c.siteRoot, quorum := q,
      officers := c.officers.filter (fun o => o.cab == 0), tamper := c.tamper, boardCover := c.boardCover })

/-- Steps 2 to 4 of R129: the site record, the floor, and the intent done. -/
def completeCommit (c : Carcass) (i : CommitIntent) (s : State) : State :=
  closeIntentCell false { s with car := { s.car with
      siteBanks := match siteOf c i.alg i.root with
        | some r => s.car.siteBanks.store r
        | none => {}
      floor := c.seq, intent := none } }

/-- Run the bare carcass: reason 1 no valid copy, 2 split image. -/
def runBare (reason : Nat) (s : State) : State :=
  { s with
    car := { s.car with active := bareCarcass s.car.site, bareReason := reason, aActive := false, bActive := false }
    glb := { s.glb with maint := true } }

/-- The reason a check leaves in its register; 0 for valid. -/
def reasonOf (r : Except Bad Carcass) : Bad := match r with | .ok _ => (0, 0) | .error b => b

/-- Is a check passed? -/
def isOk (r : Except Bad Carcass) : Bool := match r with | .ok _ => true | .error _ => false

/-- A copy that fails is logged (R97). -/
def logCopy (k : Nat) (r : Except Bad Carcass) (s : State) : State :=
  match r with
  | .ok _ => s
  | .error b => raiseEv 0x2010 5 k b.1 b.2 s

/-- The structure a Dawn that runs copy `k` found before: the other copy where it is valid at the floor, else the bare carcass. -/
def structureBefore (s : State) (k : Nat) : Carcass :=
  match checkCopy s (copyOf s (1 - k)) with
  | .ok c => if c.seq = s.car.floor then c else bareCarcass s.car.site
  | .error _ => bareCarcass s.car.site

/-- Affected cabinets of a change, cabinet 0 among them. -/
def affectedCount (old new : Carcass) : Nat := (affected old new).length + flag (!cabSame old new 0)

/-- The copy runs: `k` its number; an open intent is completed, and the other copy repaired where it differs. In a Dawn that ends in
UMBRA the bare carcass runs in its place (R483), and an intent that it matches stays open (DEDUCED, log 41). -/
def runCopy (k : Nat) (c : Carcass) (same : Bool) (s : State) : State :=
  if umbral s then runBare 1 s
  else
  let old := s.car.floor
  let s := match s.car.intent with
    | some i => raiseEv 0x2013 5 (lo32 old) (lo32 c.seq) (affectedCount (structureBefore s k) c) (completeCommit c i s)
    | none => s
  raiseEv 0x2011 3 k (lo32 c.seq) (hi32 c.seq)
    { s with
      car := { s.car with active := c, bareReason := 0, aActive := k == 0 || same, bActive := k == 1 || same,
                          repairPending := !same, split := none }
      glb := { s.glb with maint := false } }

/-- CARCASS_SELECTION (R120). -/
def selectCarcass (s : State) : State :=
  let s := { s with car := { s.car with staged := none, split := none, repairPending := false } }
  if s.glb.lockdown || !(selectorsOf s.lcs.code).1 then runBare 1 s
  else
    let a := checkCopy s (copyOf s 0)
    let b := checkCopy s (copyOf s 1)
    let s := logCopy 1 b (logCopy 0 a (setCopyReason 0 (reasonOf a) (setCopyReason 1 (reasonOf b) s)))
    let carried := (isOk a && matchesIntent s (copyOf s 0)) || (isOk b && matchesIntent s (copyOf s 1))
    let s := match s.car.intent with
      | some i => if carried then s else raiseEv 0x2014 5 (lo32 i.seq) 0 0 (closeIntentCell true { s with car := { s.car with intent := none } })
      | none => s
    match a, b with
    | .error e, .error f => raiseEv 0x2016 6 e.1 f.1 0 (runBare 1 s)
    | .ok c, .error _ => runCopy 0 c false s
    | .error _, .ok d => runCopy 1 d false s
    | .ok c, .ok d =>
      if c.seq < d.seq then runCopy 1 d false s
      else if d.seq < c.seq then runCopy 0 c false s
      else
        match firstDiff (copyOf s 0) (copyOf s 1) 0 with
        | none => runCopy 0 c true s
        | some o =>
          let s := runBare 2 s
          raiseEv 0x2015 6 (lo32 c.seq) o 0 { s with car := { s.car with split := some (c.seq, o) } }

/-- SPLIT_IMAGE at an orbit boundary while a split image stands, once function 0 has a completion ring (R122). -/
def splitNotice (s : State) : State :=
  match s.car.split with
  | some (seq, o) => if (s.cqOf 0 0).st = .active then notify 0x0005 0 (lo32 seq) o 0 0 0 s else s
  | none => s

/-! ### Registers and descriptor checks -/

/-- CAR_STATUS. -/
def carStatus (s : State) : Nat :=
  flag s.car.aActive + flag s.car.bActive * 2 + s.car.bareReason * 4
    + flag (s.car.staged.isSome && s.car.intent.isNone) * 16 + flag s.car.intent.isSome * 32 + flag s.car.repairPending * 64

/-- CAR_COPY_x_REASON. -/
def reasonWord (r : Bad) : Nat := r.1 % 256 + r.2 % 2 ^ 20 * 256

/-- What the carcass commands ask of a descriptor. -/
def custodyInfo (s : State) (cab : Nat) (d : Desc) : OpInfo :=
  let own := if cab = 0 then none else some (0x3001, 0, 0)
  match d.opcode with
  | 0x8001 => { plane := .M, usesIn := true, fields := reservedFrom d 40, owner := own }
  | 0x8002 => { plane := .M, fields := reservedFrom d 40, owner := own }
  | _ => { plane := .M, usesOut := true, fields := reservedFrom d 40, outLen := (activeImage s).length, needOut := some (activeImage s).length }

end Sys2Proof.Machine
end

