-- ==== Sys2Proof/Machine/Random.lean ====
section
/-! DEFINITION. Randomness (spec/14_randomness.md R310 to R330): sources and their health, the pool and its books, the DRBG and
the software port. -/

namespace Sys2Proof.Machine

/-- Source numbers: channels 0 to 3, pairs 16 to 31. -/
def sourceNumbers : List Nat := [0, 1, 2, 3] ++ (List.range 16).map (· + 16)

/-- Sources that are not failed. -/
def healthySources (s : State) : Nat := (sourceNumbers.filter (fun n => !(sourceOf s n).failed)).length

/-- RNG_STATUS.SUPPLY (R318). -/
def supply (s : State) : Nat := if healthySources s = 20 then 0 else if healthySources s = 0 then 2 else 1

/-- A source fails for a test (R317): excluded until the next Dawn. -/
def failSource (n test : Nat) (s : State) : State :=
  if (sourceOf s n).failed then s
  else
    let s := modSource n (fun x => { x with failed := true, lastTest := test }) s
    raiseEv 0xA011 5 n test (healthySources s) s

/-! ### Health tests (R314 to R317) -/

/-- An intermittent failure (R317) of the repetition count (1) or the adaptive proportion test (2): the window is discarded; the third
of an orbit, or one during the start-up test, fails the source. -/
def healthIntermittent (n test : Nat) (s : State) : State :=
  let k := (sourceOf s n).faults + 1
  let s := modSource n (fun x => { x with faults := k, lastTest := test, win := [], cnt := 0, last := none, rep := 0, tainted := false }) s
  let s := raiseEv 0xA010 3 n test k s
  if 3 ≤ k ∨ (sourceOf s n).passed = false then failSource n test s else s

/-- A byte string from bits in order, the first bit in bit 0 of the first byte (DESIGN CHOICE, log 85). -/
def packBits (l : List Bool) : List Byte :=
  (List.range (l.length / 8)).map (fun i =>
    BitVec.ofNat 8 ((List.range 8).foldl (fun a k => a + flag (l.getD (8 * i + k) false) * 2 ^ k) 0))

/-- The two stages of a channel (R310): of each pair of raw bits that differ the first goes on, and of each pair of those their XOR is
the channel's debiased output. -/
def debias (x : Source) (b : Bool) : Source × Option Bool :=
  match x.half with
  | none => ({ x with half := some b }, none)
  | some a =>
    if a = b then ({ x with half := none }, none)
    else match x.vn with
      | none => ({ x with half := none, vn := some a }, none)
      | some c => ({ x with half := none, vn := none }, some (c != a))

/-- A sample joins the window; its run and the count of the window's first value go on (R314). -/
def addSample (b : Bool) (x : Source) : Source :=
  { x with
    rep := if x.last = some b then x.rep + 1 else 1, last := some b
    cnt := if x.win.getLast?.getD b = b then x.cnt + 1 else x.cnt, win := b :: x.win }

/-- The cut-offs of R314: repetition count and adaptive proportion. -/
def cutoffs (n : Nat) : Nat × Nat := if n < 16 then (35, 646) else (61, 813)

/-- The test a source fails at its last sample (R314). -/
def sampleFault (n : Nat) (x : Source) : Option Nat :=
  if (cutoffs n).1 ≤ x.rep then some 1 else if (cutoffs n).2 ≤ x.cnt then some 2 else none

/-- The blocks a window conditions to (R312): two of a channel, one of a pair. -/
def conditioned (n : Nat) (bits : List Bool) : List (List Byte) :=
  (if n < 16 then [bits.take 512, bits.drop 512] else [bits]).map (fun b => digestBytes (Config.sha3 (packBits b)))

/-- A window closes with every test passed (R312, R316): it is conditioned, and its blocks are credited at the next boundary; until the
start-up test has passed nothing is credited (DEDUCED, log 37), and nothing is where samples of it were copied out (R328). -/
def windowClose (n : Nat) (s : State) : State :=
  let x := sourceOf s n
  let s := modSource n (fun x => { x with win := [], cnt := 0, tainted := x.tap.isSome }) s
  if x.passed || n < 16 || decide (16 ≤ x.transits) then
    let s := modSource n (fun x => { x with passed := true }) s
    if x.tainted then s else { s with rng := { s.rng with credits := s.rng.credits ++ conditioned n x.win.reverse } }
  else s

/-- A sample is copied to the RNG_READ that reads the source, until it has all its bytes (R328). -/
def tapSample (n : Nat) (b : Bool) (s : State) : State :=
  match (sourceOf s n).tap with
  | none => s
  | some j =>
    let c := b :: (sourceOf s n).copied
    match s.jobOf j with
    | some y =>
      if y.finished then modSource n (fun x => { x with tap := none, copied := [] }) s
      else if y.desc.par 44 4 * 8 ≤ c.length then
        modSource n (fun x => { x with tap := none, copied := [], tainted := true }) (modJob j (fun y => { y with input := packBits c.reverse }) s)
      else modSource n (fun x => { x with copied := c, tainted := true }) s
    | none => modSource n (fun x => { x with tap := none, copied := [] }) s

/-- One sample of a source: copied out where it is read, then tested; a window of 1,024 of them closes (R312, R314, R317). -/
def takeSample (n : Nat) (b : Bool) (s : State) : State :=
  let s := tapSample n b s
  if (sourceOf s n).failed then s
  else
    let s := modSource n (addSample b) s
    match sampleFault n (sourceOf s n) with
    | some t => healthIntermittent n t s
    | none => if 1024 ≤ (sourceOf s n).win.length then windowClose n s else s

/-- One raw bit of a source (R310, R311): a channel's goes through its two stages, a pair's is a sample. -/
def rawBit (n : Nat) (b : Bool) (s : State) : State :=
  if n < 16 then
    let d := debias (sourceOf s n) b
    match d.2 with
    | none => modSource n (fun _ => d.1) s
    | some o => takeSample n o (modSource n (fun _ => { d.1 with live := d.1.live + 1 }) s)
  else takeSample n b (modSource n (fun x => { x with bits := b :: x.bits }) s)

/-- Raw bits of a source in the order they were sampled (DESIGN CHOICE, log 85). -/
def takeRaw (n : Nat) (bits : List Bool) (s : State) : State :=
  if sourceNumbers.contains n && s.rng.running then forEach bits (rawBit n) s else s

/-- The pair-lock test of one transit (R315): the code of the test that fails (DEDUCED, log 37). -/
def pairTest (ca cb word : Nat) (before : List Nat) : Option Nat :=
  let hi := max ca cb
  let lo := min ca cb
  if !(decide (2048 ≤ lo ∧ hi ≤ 8192)) then some 4
  else if 200 * (hi - lo) < hi then some 5
  else if 200 * ((2 * lo : Nat) - (hi : Nat) : Int).natAbs < hi then some 6
  else if before.contains word then some 7
  else none

/-- The end of a transit for a pair: its last raw bits, and the pair-lock test over its 96 and its counts (R311, R315). -/
def pairSample (n ca cb : Nat) (bits : List Bool) (s : State) : State :=
  if !s.rng.running then s
  else
    let s := takeRaw n bits s
    let x := sourceOf s n
    let word := x.bits.foldl (fun a b => 2 * a + flag b) 0
    let s := modSource n (fun x => { x with bits := [] }) s
    if x.failed then s
    else match pairTest ca cb word x.words with
    | some t => failSource n t (modSource n (fun x => { x with ca := ca, transits := 0 }) s)
    | none => modSource n (fun x => { x with ca := ca, transits := x.transits + 1, words := (word :: x.words).take 4 }) s

/-- The end of a transit for a channel: its last raw bits; fewer than 16 debiased bits in the transit fail it (R310, R314). -/
def channelSample (n : Nat) (bits : List Bool) (s : State) : State :=
  if !s.rng.running then s
  else
    let s := takeRaw n bits s
    let x := sourceOf s n
    let s := modSource n (fun x => { x with live := 0 }) s
    if x.failed || decide (16 ≤ x.live) then s else failSource n 3 s

/-- Count the intermittent failures of the orbit afresh. -/
def orbitSources (s : State) : State := { s with rng := { s.rng with sources := Tab.mapAll s.rng.sources (fun _ x => { x with faults := 0 }) } }

/-! ### Books (R313, R329) -/

/-- At a boundary: takes of the transit before are recorded, MODE 3 draws debited, and credits that fit are counted. -/
def booksBoundary (s : State) : State :=
  let r := s.rng
  let out := r.takeDue + r.drawDue
  let held := r.held - out
  let add := r.credits.take ((8192 - held) / 256)
  { s with rng := { r with
      held := held + 256 * add.length, drawn := r.drawn + out, produced := r.produced + 256 * add.length
      pool := r.pool.drop (out / 8) ++ add.flatten, credits := [], takeDue := 0, drawDue := 0 } }

/-- Bits of the pool no take has claimed. -/
def poolFree (s : State) : Nat := s.rng.held - s.rng.takeDue - s.rng.drawDue

/-- Take 384 bits for a reseed: recorded at the next boundary. -/
def takeSeed (s : State) : State :=
  { s with rng := { s.rng with takeDue := s.rng.takeDue + 384, lastReseedL := s.time.L, reseeds := (s.rng.reseeds + 1) % 2 ^ 32, overdue := false } }

/-! ### The DRBG (R319 to R322) -/

/-- The DRBG serves again (R320). -/
def resume (s : State) : State :=
  if s.rng.blocked then
    raiseEv 0xA014 4 (s.time.L - s.rng.blockedL) 0 0 { s with
      rng := { s.rng with blocked := false }
      eng := { s.eng with maskFell := false } }
  else s

/-- Work whose draws a block takes away: not past its run, and booked in the transit that begins or a later one (R248, R324). -/
def losesDraws (s : State) (x : Job) : Bool :=
  drawsRandom x && !inCommit x && x.result.isNone && x.plan.any (fun b => decide (s.time.L ≤ b.transit))

/-- Admitted work whose draws are lost to a block: PROMPT jobs end, the others lose their plan and are planned again in the
tail (R248, R324), which logs the fall of the masking allowance. -/
def drawsLost (s : State) : State :=
  let hit := (liveJobs s).filter (fun e => losesDraws s e.2)
  let ended := hit.filter (fun e => e.2.desc.cls == 0 && e.2.needs.getD 0 0 != 0)
  let planned := needPlanned s 0 s.time.L s.job.nextJob
  let s := forEach hit (fun e => if e.2.desc.cls = 0 then endJob e.1 0x7001 0 0 0
    else modJob e.1 (fun x => { x with plan := [], st := if x.st = .running then .saved else x.st })) s
  if s.eng.maskFell then s else { s with eng := { s.eng with maskFell := true, maskLost := some (planned, ended.length) } }

/-- The DRBG becomes blocked. -/
def block (s : State) : State := { s with rng := { s.rng with blocked := true, blockedL := s.time.L } }

/-- DRBG_INSTANTIATE (R319): once the pool holds 384 bits; the count of reseeds starts at 0. -/
def drbgInstantiate (s : State) : State :=
  if s.rng.running && !s.rng.ready && !s.rng.katFailed && decide (384 ≤ poolFree s) then
    let s := takeSeed s
    resume { s with rng := { s.rng with ready := true, reseeds := 0 } }
  else s

/-- DRBG_RESEED (R320): at boundaries with L mod 64 = 0, or the first at which a blocked DRBG can; a miss is logged once per
run of misses. -/
def drbgReseed (s : State) : State :=
  if !s.rng.ready || s.rng.katFailed || s.rng.lastReseedL == s.time.L then s
  else if decide (384 ≤ poolFree s) then
    if s.time.L % 64 = 0 ∨ s.rng.blocked then resume (takeSeed s) else s
  else if s.time.L % 64 = 0 ∧ !s.rng.overdue then
    raiseEv 0xA012 4 (poolFree s) (s.time.L - s.rng.lastReseedL) 0 { s with rng := { s.rng with overdue := true } }
  else s

/-- DRBG_BLOCKED (R320): 1,024 transits without a reseed. -/
def drbgBlocked (s : State) : State :=
  if s.rng.ready && !s.rng.blocked && decide (s.rng.lastReseedL + 1024 ≤ s.time.L) then
    drawsLost (raiseEv 0xA013 6 0 (poolFree s) 0 (block s))
  else s

/-- DRBG_KAT_FAILED (R322): blocked until the next Dawn; `cause` 0 known answer, 1 parity. -/
def drbgKatFailed (cause : Nat) (s : State) : State :=
  if s.rng.katFailed then s
  else
    let s := raiseEv 0xA015 6 (cause % 2) 0 0 (block { s with rng := { s.rng with katFailed := true }, glb := { s.glb with katFailed := true } })
    drawsLost s

/-- The DRBG was not instantiated by the end of the key store step (R319). -/
def drbgLate (s : State) : State :=
  if s.rng.ready || s.rng.blocked then s else raiseEv 0xA013 6 1 (poolFree s) 0 (block s)

/-- The clearing of R330: DRBG, pool, conditioners and windows; the sources start again under R316, failed ones stay failed. -/
def rngClear (s : State) : State :=
  { s with rng := { s.rng with
      sources := Tab.mapAll s.rng.sources (fun _ x => { failed := x.failed, faults := x.faults, lastTest := x.lastTest, ca := x.ca })
      held := 0, produced := 0, drawn := 0, pool := [], credits := [], takeDue := 0, drawDue := 0, ready := false, reseeds := 0, overdue := false } }

/-- Every source starts at Dawn (R316). -/
def rngDawn (s : State) : State :=
  { s with rng := { running := true, sources := sourceNumbers.map (fun n => (n, {})) } }

/-- Can a draw with prediction resistance reseed now (R321)? (DEDUCED, log 37). -/
def prReady (s : State) : Bool := drbgServes s && decide (384 ≤ poolFree s)

/-! ### RNG_READ (R327, R328) -/

/-- RNG_READ: DRBG output is a free value; the test data of MODE 1 to 3 has been copied out by then (R327, R328). -/
def rngRead (j : Nat) (s : State) : State :=
  match runnable s j 0x5001 with
  | none => s
  | some x =>
    let mode := x.desc.par 40 1
    let n := x.desc.par 44 4
    if mode = 0 ∧ !drbgServes s then endJob j 0x7001 0 0 0 s
    else
      let s := if mode = 0 ∧ bit (x.desc.par 41 1) 0 then takeSeed s else s
      if mode = 0 then drawFree n (setResult j { status := 0, output := freeBytes s n, w0 := s.rng.reseeds } s)
      else setResult j { status := 0, output := x.input, w0 := s.rng.reseeds } s

/-- What RNG_READ asks of a descriptor. -/
def rngInfo (s : State) (d : Desc) : OpInfo :=
  let mode := d.par 40 1
  let fl := d.par 41 1
  let src := d.par 42 1
  let n := d.par 44 4
  { plane := .C, usesOut := true,
    fields := [(2, mode == 0 || d.cls == 2), (40, decide (mode ≤ 3)), (41, fl == 0 || (fl == 1 && mode == 0 && d.cls != 0)),
      (42, if mode = 1 then decide (src ≤ 3) else if mode = 2 then decide (16 ≤ src ∧ src ≤ 31) else src == 0),
      zeroField d 43 1] ++ reservedFrom d 48,
    policy := if mode = 0 || s.lcs.code == 1 || bit s.lcs.rights 2 then none else some (0x3002, 40, 0),
    length := if 1 ≤ n ∧ n ≤ 65536 then none else some (0x5001, 44, if n = 0 then 0 else 65536),
    outLen := n, needOut := some n }

/-- RNG_STATUS. -/
def rngStatus (s : State) : Nat :=
  supply s + flag s.rng.ready * 4 + flag s.rng.blocked * 8 + flag (s.rng.takeDue != 0) * 16 + flag s.rng.katFailed * 32

/-- RNG_SOURCE_OK. -/
def sourceOk (s : State) : Nat :=
  bitmapOf 20 (fun i => s.rng.running && (let n := if i < 4 then i else i + 12
                        !(sourceOf s n).failed && (sourceOf s n).passed))

/-- RNG_SRC_HEALTH of a source. -/
def sourceHealth (s : State) (n : Nat) : Nat :=
  if sourceNumbers.contains n then
    let x := sourceOf s n
    min 3 x.faults + flag x.failed * 4 + x.lastTest % 8 * 16 + x.ca % 65536 * 65536
  else 0

end Sys2Proof.Machine
end

