-- ==== Sys2Proof/Machine/Ledger.lean ====
section
/-! DEFINITION. Ledger counters, records, periods and billing seals (spec/16_ledger_seals.md R352 to R373). -/

namespace Sys2Proof.Machine

/-! ### Forward-only counters (R354 to R357) -/

/-- A counter's record. -/
def counterOf (s : State) (id : Nat) : Counter := Tab.getD s.ldg.counters id {}
/-- Change a counter. -/
def modCounter (id : Nat) (g : Counter → Counter) (s : State) : State :=
  { s with ldg := { s.ldg with counters := Tab.modify s.ldg.counters id {} g } }
/-- The value of a counter (R354): while an intent is open, its new B. -/
def counterValue (c : Counter) : Nat := c.base + c.count
/-- The next K whose rows have not failed. -/
def nextK (id : Nat) (c : Counter) : Nat :=
  ((List.range 32).map (· + c.k + 1)).find? (fun k => !(c.badHigh.contains (k % highRows id) || c.badTherm.contains (k % thermRows id)))
    |>.getD (c.k + 1)

/-- An alarm stops the ledger sequencer (R439); what it had not published is abandoned, and the increments of counter 0x00 go on (DEDUCED,
log 87). -/
def sequencerStopped (s : State) : Bool := s.glb.umbra

/-- An open carry: its thermometer row is made ready, its intent stands in the cells with B and K (R355). -/
def openCarry (id b k : Nat) (s : State) : State :=
  let s := readyRow (thermRow id k) s
  writeIntent id b k (modCounter id (fun c => { c with base := b, count := 0, k := k, intent := true, slot := s.ldg.ringAt }) s)

/-- A carry: its intent is written with the value after the increment (R355). -/
def carry (id : Nat) (s : State) : State :=
  let b := counterValue (counterOf s id) + 1
  let k := nextK id (counterOf s id)
  raiseEv 0xC010 2 id (lo32 b) (lo32 k) (openCarry id b k s)

/-- Can the counter take an increment now (R355, R356)? -/
def counterOpen (s : State) (id : Nat) : Bool := !(counterOf s id).intent && !(counterOf s id).worn

/-- Increment a counter that is open: one thermometer bit, or a carry at 255 or where the bit fails its read-back. -/
def increment (id : Nat) (bitOk : Bool) (s : State) : State :=
  if !counterOpen s id then s
  else if (counterOf s id).count < 255 ∧ bitOk then
    programBit (thermRow id (counterOf s id).k) (counterOf s id).count (modCounter id (fun c => { c with count := c.count + 1 }) s)
  else carry id s

/-- A counter is worn: read-only from now on, logged at severity 7 (R356); counter 0x00 is logged at the next boundary (R40). -/
def wear (id : Nat) (s : State) : State :=
  let s := modCounter id (fun c => { c with worn := true, intent := false }) s
  if id = 0 then s else raiseEv 0xC016 7 id 0 0 s

/-- An anchor record waiting for counter 0x02 is published (R358). -/
def publishAnchor (bitOk : Bool) (s : State) : State :=
  match s.ldg.anchorWait with
  | none => s
  | some a =>
    if counterOpen s 2 then
      increment 2 bitOk (writeRecord 2 (counterValue (counterOf s 2) + 1) (anchorBytes (counterValue (counterOf s 2) + 1) a)
        { s with ldg := { s.ldg with anchor := some a, anchorWait := none } })
    else s

/-- Steps 2 to 4 of a carry (R355): the high row is written, the old thermometer row erased and made ready, the intent marked done. -/
def closeCarry (id : Nat) (s : State) : State :=
  let c := counterOf s id
  let s := setRow (highRow id c.k) (highBytes id c.base c.k) s
  markDone c.slot (setRow (thermRow id (c.k + thermRows id - 1)) readyBytes (modCounter id (fun c => { c with intent := false }) s))

/-- CARRY_COMPLETION (R355, R356): the high row is written and the old thermometer row erased; `fail` 1 names an erase of the
high row that failed, 2 one of the thermometer row: that row is retired and the counter carries past it (DEDUCED, log 16). -/
def carryCompletion (id fail : Nat) (s : State) : State :=
  let c := counterOf s id
  if !c.intent || (sequencerStopped s && id != 0) then s
  else if fail = 0 then
    publishAnchor true (closeCarry id s)
  else
    let row := if fail = 1 then c.k % highRows id else (c.k - 1) % thermRows id
    let s := raiseEv 0xC015 6 id (if fail = 1 then highBase id + row else thermBase id + row) 0
      (modCounter id (fun c => if fail = 1 then { c with badHigh := c.badHigh ++ [row] } else { c with badTherm := c.badTherm ++ [row] }) s)
    let c := counterOf s id
    if highRows id ≤ c.badHigh.length ∨ thermRows id ≤ c.badTherm.length then wear id s
    else markDone c.slot (openCarry id c.base (nextK id c) s)

/-! ### Lane ledgers (R358 to R361) -/

/-- A lane's ledger. -/
def laneLdg (s : State) (n : Nat) : LaneLedger := Tab.getD s.ldg.lanes n {}
/-- Change a lane's ledger. -/
def modLaneLdg (n : Nat) (g : LaneLedger → LaneLedger) (s : State) : State :=
  { s with ldg := { s.ldg with lanes := Tab.modify s.ldg.lanes n {} g } }
/-- The mark counter of a lane. -/
def markId (n : Nat) : Nat := 0x10 + n
/-- Does the lane hand over readings and seal: its mark is not worn and its record stands (R356, R359)? -/
def laneGood (s : State) (n : Nat) : Bool := !(counterOf s (markId n)).worn && !(laneLdg s n).lost

/-- Queue a checkpoint of the lane's view (R360). -/
def checkpoint (n kind : Nat) (s : State) : State :=
  modLaneLdg n (fun l => { l with wait := l.wait ++ [{ l.view with kind := kind, released := false }] }) s

/-- Is a seal of the lane prepared: its record written and its mark not yet advanced? -/
def sealPrepared (s : State) (n : Nat) : Bool :=
  (liveJobs s).any (fun e => e.2.burst.isNone && e.2.result.any (fun r => r.effects.any (fun f => match f with
    | .sealRecord l _ => l == n
    | _ => false)))

/-- Write a record of a lane, before the advance of its mark that commits it (R358). -/
def prepareLane (n : Nat) (r : LaneRecord) (s : State) : State :=
  let m := counterValue (counterOf s (markId n)) + 1
  writeRecord (markId n) m (laneRecordBytes m r) s

/-- The current record of a lane is RELEASED. -/
def releaseRecord (n : Nat) (s : State) : State :=
  programReleased (markId n) (counterValue (counterOf s (markId n)))
    (modLaneLdg n (fun l => { l with cur := l.cur.map (fun r => { r with released := true }) }) s)

/-- Publish a record that has been written on a lane: the mark advances, and the record is current. -/
def publishLane (n : Nat) (r : LaneRecord) (bitOk : Bool) (s : State) : State :=
  increment (markId n) bitOk (modLaneLdg n (fun l => { l with cur := some r }) s)

/-- LANE_RECORD_WRITE (R358, R360): the oldest checkpoint that waits is written and committed; its seal sequence is the last
consumed (DEDUCED, log 16). -/
def laneRecordWrite (n : Nat) (bitOk : Bool) (s : State) : State :=
  match (laneLdg s n).wait with
  | [] => s
  | r :: rest =>
    if s.time.genStopped || sequencerStopped s || !counterOpen s (markId n) || sealPrepared s n then s
    else
      let r := { r with seq := (laneLdg s n).view.seq }
      publishLane n r bitOk (prepareLane n r (modLaneLdg n (fun l => { l with wait := rest }) s))

/-! ### Anchors, floor and periods (R362 to R364) -/

/-- The ledger time floor (R364). -/
def ledgerFloorUs (s : State) : Nat :=
  ((s.ldg.anchor.map (·.us)).toList ++ s.ldg.lanes.filterMap (fun e => e.2.cur.map (·.lastUs))).foldl max 0

/-- Write an anchor. -/
def writeAnchor (bitOk : Bool) (s : State) : State :=
  if s.time.genStopped || sequencerStopped s then s
  else
    let a : Anchor := { us := s.time.ledgerUs, L := s.time.L, closed := s.ldg.closed, step := s.time.lastStep, stepL := s.time.lastStepL }
    publishAnchor bitOk { s with ldg := { s.ldg with anchorWait := some a } }

/-- Period length P in µs; 0 without a SITE record. -/
def periodUs (s : State) : Nat := s.car.active.periodMin * 60000000

/-- Does the lane have a ledger that closes periods? -/
def laneBooked (s : State) (n : Nat) : Bool := (laneLdg s n).cur.isSome || !(laneLdg s n).wait.isEmpty

/-- The ledger time C a closed period ends at, and STEPPED cleared by its anchor (R362). -/
def closeTo (c : Nat) (s : State) : State :=
  { s with ldg := { s.ldg with closed := c }, time := { s.time with stepped := false } }

/-- PERIOD_CLOSE at a meter frame boundary (R362): C moves on, an anchor clears STEPPED, and each lane's close is due at its
decision point of this frame. -/
def periodClose (bitOk : Bool) (s : State) : State :=
  let p := periodUs s
  if p = 0 ∨ s.time.ledgerUs < s.ldg.closed + p ∨ sequencerStopped s = true then s
  else
    let cause := if s.time.stepped && s.time.lastStepL == s.time.L then 1 else 0
    let s := writeAnchor bitOk (closeTo (s.time.ledgerUs / p * p) s)
    forEach ((List.range 48).filter (laneBooked s)) (fun n => modLaneLdg n (fun l => { l with closeDue := some (s.time.L / frameL, cause) })) s

/-- Does a seal job of the lane hold its snapshot (R363)? -/
def sealHolds (s : State) (n : Nat) : Bool :=
  s.ldg.snaps.any (fun q => q.lane == n && (s.jobOf q.job).any (fun x => !x.finished && x.burst.isNone))

/-- Close a lane's open period: index + 1, and a record of the kind (R362, R132) (DEDUCED, log 45). -/
def closePeriod (n kind cause : Nat) (s : State) : State :=
  let s := modLaneLdg n (fun l => { l with closeDue := none, view := { l.view with period := l.view.period + 1, openL := s.time.L } }) s
  let s := raiseEv 0xC013 3 n ((laneLdg s n).view.period) cause s
  checkpoint n kind s

/-- A lane's close at its decision point: it waits while a seal holds its snapshot. -/
def closeAtDecision (n : Nat) (s : State) : State :=
  match (laneLdg s n).closeDue with
  | some (f, cause) => if f * frameL + 2 * n + 96 ≤ s.time.L ∧ !sealHolds s n then closePeriod n 2 cause s else s
  | none => s

/-! ### SEQ_SKIP (R369) -/

/-- A SEAL record that is current and not RELEASED is reported and marked released. -/
def seqSkip (n cause : Nat) (s : State) : State :=
  match (laneLdg s n).cur with
  | some r =>
    if r.kind = 1 ∧ r.released = false then
      let s := releaseRecord n s
      let cab := ((s.car.active.lanes.find? (fun l => l.lane == n)).map (·.cab)).getD 0
      let s := notifyCab 0x0009 n (lo32 r.seq) (hi32 r.seq) cause 0 cab s
      raiseEv 0xC012 5 n (lo32 r.seq) cause s
    else s
  | none => s

/-- At the end of a transit: a seal whose job ended without its FINAL entry is skipped with cause 2. One that an alarm interrupted waits
for the next Dawn (R439). -/
def skipRemoved (s : State) : State :=
  if sequencerStopped s then s
  else forEach ((List.range 48).filter (fun n => !((liveJobs s).any (fun e => e.2.burst.isSome && e.2.desc.opcode == 0x6010
    && e.2.desc.par 40 1 == n)))) (fun n => seqSkip n 2) s

/-! ### Seals (R365 to R368) -/

/-- Algorithm code and signature length of a seal key (R366); none where the type cannot seal. -/
def sealAlg (k : KeyRec) : Option (Nat × Nat) :=
  match k.type with
  | 0x20 => some (1, 64) | 0x21 => some (2, 96) | 0x22 => some (3, 132) | 0x23 => some (4, 64) | 0x24 => some (5, 96)
  | 0x30 => some (6, 64) | 0x31 => some (7, 114)
  | 0x10 => if rsaBits k = 2048 then some (8, 256) else none
  | 0x50 => some (9, 2420) | 0x51 => some (10, 3309) | 0x52 => some (11, 4627)
  | _ => none

/-- Signing cost of a seal key for a 200-byte message, plus 512 (R365). -/
def sealCost (t : Nat) : Nat :=
  512 + (if t = 0x10 then rsaPrivate 2048
    else if 0x50 ≤ t ∧ t ≤ 0x52 then [32376, 53716, 49956].getD (t - 0x50) 0 + 26 * gEd 266
    else curveCost t 0 200 0)

/-- Key-generation bits a seal's signature draws (R325). -/
def sealDraw (t : Nat) : Nat :=
  if t = 0x10 then 2048 + 128 else if 0x20 ≤ t ∧ t ≤ 0x24 then 2 * fieldBits t + 128 else if 0x50 ≤ t ∧ t ≤ 0x52 then 256 else fieldBits t + 64

/-- Quality code in a seal. -/
def sealQuality : Quality → Nat
  | .unset => 0 | .carried => 1 | .set => 2

/-- Would a seal carry TIME_STEP (R368)? -/
def sealStep (s : State) (r : LaneRecord) : Bool := decide (r.openL < s.time.lastStepL)

/-- The snapshot a seal job takes at the boundary that begins its first slice (R367 step 1). -/
def snapshotOf (s : State) (j n : Nat) : Snapshot :=
  { job := j, lane := n, rec_ := (laneLdg s n).view, L := s.time.L, us := s.time.ledgerUs, quality := s.time.quality }

/-- Seal jobs that run their first slice take their snapshot. -/
def takeSnapshots (s : State) : State :=
  let s := { s with ldg := { s.ldg with snaps := s.ldg.snaps.filter (fun q => (s.jobOf q.job).any (fun x => !x.finished)) } }
  forEach ((liveJobs s).filter (fun e => e.2.desc.opcode == 0x6010 && e.2.st == .running && !s.ldg.snaps.any (fun q => q.job == e.1)))
    (fun e s => { s with ldg := { s.ldg with snaps := s.ldg.snaps ++ [snapshotOf s e.1 (e.2.desc.par 40 1)] } }) s

/-- Bytes 0 to 199 of a seal. -/
def sealBody (s : State) (q : Snapshot) (k : KeySlot) (cab seq : Nat) : List Byte :=
  let r := q.rec_
  let a := (sealAlg k.attr).getD (0, 0)
  let step := sealStep s r
  leBytes 4 0x4C53474B ++ leBytes 2 1 ++ leBytes 2 (sealQuality q.quality + flag step * 4) ++ leBytes 2 a.1 ++ leBytes 1 q.lane ++ leBytes 1 cab
    ++ leBytes 4 r.period ++ leBytes 8 seq ++ leBytes 8 q.L ++ leBytes 8 q.us ++ leBytes 8 (if step then signedField 64 s.time.lastStep else 0)
    ++ leBytes 8 r.imp ++ leBytes 8 r.exp ++ leBytes 8 r.meterImp ++ leBytes 8 r.meterExp ++ leBytes 8 (serialOf s)
    ++ (s.car.active.siteId ++ zeros 16).take 16 ++ (r.identity ++ zeros 16).take 16 ++ leBytes 4 s.ldg.lrVersion ++ leBytes 4 a.2
    ++ digestBytes s.ldg.lrDigest ++ digestBytes (Config.sha3 (publicEncoding k)) ++ leBytes 4 r.baseline ++ zeros 4

/-- The state a lane is in, as a code (R347). -/
def laneCode : LaneState → Nat
  | .unbound => 0 | .joining => 1 | .live => 2 | .suspect => 3 | .frozen => 4
/-- A meter lane. -/
def State.lane (s : State) (n : Nat) : Lane := Tab.getD s.mtr n {}

/-- A seal's tests of its lane (R347, R23): status and details where one fails. -/
def sealLaneBad (s : State) (f n : Nat) : Option (Nat × Nat × Nat) :=
  if !s.car.active.lanes.any (fun l => l.lane == n && l.cab == cabOfFn s f && bound s f) then some (0x3001, 40, 0)
  else if (s.lane n).st ≠ .live then some (0x6005, laneCode (s.lane n).st, (s.lane n).cause)
  else none

/-- SEAL_REQUEST (R367 steps 2 and 3): the seal is assembled, signed and checked, and its record prepared. It waits while another
seal of the lane is prepared or a checkpoint of a LIVE lane waits (R360) (DEDUCED, log 45). -/
def sealRequest (j : Nat) (ok : Bool) (s : State) : State :=
  match runnable s j 0x6010 with
  | none => s
  | some x =>
    let n := x.desc.par 40 1
    match s.ldg.snaps.find? (fun q => q.job == j), keyOf? s x.desc.handleA with
    | some q, some k =>
      match sealLaneBad s x.fn n with
      | some e => failJob j e.1 e.2.1 e.2.2 0 s
      | none =>
        if !laneGood s n then failJob j 0x5020 0 0 0 s
        else if sealPrepared s n || !(laneLdg s n).wait.isEmpty then s
        else
          checked ok j x (fun s =>
            let seq := (laneLdg s n).view.seq + 1
            let body := sealBody s q k (cabOfFn s x.fn) seq
            let len := ((sealAlg k.attr).map (·.2)).getD 0
            let sig := standardBytes 0x6010 [k.attr.type] [k.material, body, freeBytes s 74] len
            drawFree 74 (prepareLane n { q.rec_ with kind := 1, seq := seq, released := false } (setResult j {
              status := 0, output := body ++ sig, w0 := lo32 seq, w1 := hi32 seq, w2 := q.rec_.period, effects := [.sealRecord n seq] } s))) s
    | _, none => failJob j 0x5022 0 0 0 s
    | none, _ => s

/-- The commit of a seal: the lane's mark advances with the SEAL record over the snapshot (R367 step 5). -/
def commitSeal (j n seq : Nat) (bitOk : Bool) (s : State) : State :=
  match s.ldg.snaps.find? (fun q => q.job == j) with
  | none => s
  | some q =>
    let s := modLaneLdg n (fun l => { l with view := { l.view with seq := seq } }) s
    publishLane n { q.rec_ with kind := 1, seq := seq, released := false } bitOk s

/-- RELEASED is programmed once the FINAL entry is written. -/
def releaseSeal (n : Nat) (s : State) : State := releaseRecord n s

/-- The floor counter rises, with its floor record (R115, R358). -/
def raiseFloor (bitOk : Bool) (s : State) : State :=
  let m := counterValue (counterOf s 1) + 1
  increment 1 bitOk (writeRecord 1 m (floorBytes m s.car.floor (eventL s)) s)

/-- The lane of a seal at its job's final check (R347, R367 step 4): status and details where a test fails. -/
def sealBlocked (s : State) (x : Job) (r : Result) : Option (Nat × Nat × Nat) :=
  if r.effects.any (fun e => match e with | .sealRecord _ _ => true | _ => false) then sealLaneBad s x.fn (x.desc.par 40 1) else none

/-! ### Ledger commands -/

/-- The 64-byte view of LEDGER_READ. -/
def ledgerView (s : State) (n : Nat) : List Byte :=
  let l := laneLdg s n
  let v := l.view
  leBytes 8 v.seq ++ leBytes 8 v.imp ++ leBytes 8 v.exp ++ leBytes 8 v.lastL ++ leBytes 4 v.period
    ++ leBytes 1 (flag v.tainted + flag (sealStep s v) * 2 + flag (counterOf s (markId n)).worn * 4) ++ zeros 3
    ++ leBytes 8 v.openL ++ leBytes 8 (counterValue (counterOf s (markId n))) ++ leBytes 4 v.baseline ++ zeros 4

/-- LEDGER_READ (R373). -/
def ledgerRead (j : Nat) (s : State) : State :=
  match runnable s j 0x6011 with
  | none => s
  | some x => setResult j { status := 0, output := ledgerView s (x.desc.par 40 1) } s

/-- LEDGER_IDENTITY (R372). -/
def ledgerIdentity (j : Nat) (s : State) : State :=
  match runnable s j 0x6020 with
  | none => s
  | some _ =>
    setResult j { status := 0, output := leBytes 4 s.ldg.lrVersion ++ zeros 4 ++ leBytes 8 s.ldg.lrL ++ digestBytes s.ldg.lrDigest ++ zeros 16 } s

/-- What the lane and ledger commands ask of a descriptor (R347, R351, R365, R372, R373). -/
def ledgerInfo (s : State) (f cab : Nat) (d : Desc) : OpInfo :=
  let n := d.par 40 1
  let own := if s.car.active.lanes.any (fun l => l.lane == n && l.cab == cab) then none else some (0x3001, 40, 0)
  match d.opcode with
  | 0x6010 =>
    let k := keyOf? s d.handleA
    let t := (k.map (·.attr.type)).getD 0
    let alg := k.bind (fun k => sealAlg k.attr)
    let len := 200 + (alg.map (·.2)).getD 0
    { plane := .D, engine := if 0x50 ≤ t ∧ t ≤ 0x52 then 3 else 2, usesA := true, usesOut := true,
      fields := [(40, decide (n ≤ 47))] ++ reservedFrom d 41,
      promptBar := some 0,
      cost := some (sealCost t),
      owner := match handleOwner s cab d.handleA 8 with
        | some e => some e
        | none => own,
      policy := if s.lcs.code ≠ 3 ∨ s.glb.lockdown then some (0x3002, 0, 0)
        else match handlePolicy s d.handleA 8 (some polSeal) with
          | some e => some e
          | none => if alg.isNone then some (0x5022, 0, 0) else none,
      outLen := len, needOut := some len, needs := [0, 0, sealDraw t, 0, 0] }
  | 0x6011 =>
    { plane := .C, usesOut := true, fields := [(40, decide (n ≤ 47))] ++ reservedFrom d 41, owner := own, outLen := 64, needOut := some 64 }
  | 0x6001 =>
    { plane := .C, usesOut := true, fields := [(40, decide (n ≤ 47))] ++ reservedFrom d 41, owner := own, outLen := 96, needOut := some 96 }
  | _ => { plane := .C, usesOut := true, fields := reservedFrom d 40, outLen := 64, needOut := some 64 }

end Sys2Proof.Machine
end

