-- ==== Sys2Proof/Machine/Meter.lean ====
section
/-! DEFINITION. Meter lanes (spec/15_meter_lanes.md R331 to R351): frames, cycles, decision points, the cross-check, lane
states, joining and LANE_STATUS. -/

namespace Sys2Proof.Machine

/-- Change a lane. -/
def modLane (n : Nat) (g : Lane → Lane) (s : State) : State := { s with mtr := Tab.modify s.mtr n {} g }

/-- The LANE record of a lane. -/
def laneRec? (s : State) (n : Nat) : Option LaneRec := s.car.active.lanes.find? (fun l => l.lane == n)
/-- PULSE_USED and IDENTITY_PINNED of a lane. -/
def pulseUsed (s : State) (n : Nat) : Bool := (laneRec? s n).any (fun r => bit r.flags 0)
def idPinned (s : State) (n : Nat) : Bool := (laneRec? s n).any (fun r => bit r.flags 1)
/-- Cabinet of a lane. -/
def laneCab (s : State) (n : Nat) : Nat := ((laneRec? s n).map (·.cab)).getD 0

/-- Does the device poll lanes now (R350, R40): transits run, and it is neither in UMBRA, NIGHT nor power failure? -/
def lanesPolled (s : State) : Bool := running s && !umbral s && (s.glb.phase == .run || s.glb.phase == .dawn)

/-! ### Frames (R333, R334) -/

/-- One step of CRC-16/CCITT-FALSE. -/
def crc16Bit (c : Nat) : Nat := if bit c 15 then Nat.xor (c * 2 % 65536) 0x1021 else c * 2 % 65536
/-- A byte of the CRC. -/
def crc16Byte (c : Nat) (b : Byte) : Nat := (List.range 8).foldl (fun a _ => crc16Bit a) (Nat.xor c (b.toNat * 256))
/-- CRC-16/CCITT-FALSE of a byte string. -/
def crc16 (bs : List Byte) : Nat := bs.foldl crc16Byte 0xFFFF

/-- A request on the wire: preamble, delimiter, header, CRC. -/
def requestFrame (n seq : Nat) (identify : Bool) : List Byte :=
  let h := leBytes 1 (if identify then 2 else 1) ++ leBytes 1 n ++ leBytes 2 seq ++ leBytes 1 0
  [0x55, 0x55, 0xD5] ++ h ++ leBytes 2 (crc16 h)

/-- Manchester line code (R332, R333): a byte least significant bit first, a 1 as a low chip then a high one, a 0 as high then low. -/
def lineChips (bs : List Byte) : List Bool :=
  bs.flatMap (fun b => (List.range 8).flatMap (fun i => [!bit b.toNat i, bit b.toNat i]))

/-- The checks of R336 on the bytes after the delimiter; 2 CRC, 3 FORMAT, or the payload. -/
def checkResponse (n seq : Nat) (identify : Bool) (bs : List Byte) : Except Nat (List Byte) :=
  let body := bs.take (bs.length - 2)
  let len := if identify then 20 else 22
  if leAt bs (bs.length - 2) 2 ≠ crc16 body then .error 2
  else if byteAt bs 0 = (if identify then 0x82 else 0x81) ∧ byteAt bs 1 = n ∧ leAt bs 2 2 = seq ∧ byteAt bs 4 = len
      ∧ body.length = 5 + len ∧ (identify ∨ leAt bs 5 2 < 4) then .ok (body.drop 5)
  else .error 3

/-- Count a failed attempt: 0 TIMEOUT, 1 LINE, 2 CRC, 3 FORMAT (R336). -/
def countError (k : Nat) (l : Lane) : Lane :=
  { l with errors := (List.range 4).map (fun i => let v := l.errors.getD i 0; if i = k then saturate 8 (v + 1) else v)
           cycle := l.cycle.map (fun c => { c with failed := true }) }

/-! ### Cycles (R337 to R339) -/

/-- Send a request: SEQ, the wire frame. -/
def sendRequest (n : Nat) (identify : Bool) (s : State) : State :=
  emit (.meterFrame n (lineChips (requestFrame n (s.lane n).seq identify))) s

/-- Is a lane polled: bound, its join begun, not frozen (R344)? -/
def lanePolled (s : State) (n : Nat) : Bool :=
  let l := s.lane n
  (laneRec? s n).isSome && l.joinFrom.isNone && (l.st == .joining || l.st == .live || l.st == .suspect)

/-- Is the lane's next cycle an IDENTIFY cycle (R338)? (DEDUCED, log 44). -/
def identifyCycle (s : State) (n : Nat) : Bool :=
  let l := s.lane n
  !l.idDone || s.time.L / frameL % 8192 == n || l.identifyNext

/-- LANE_CYCLE_START: the first request of a cycle at transit 2n of the frame. -/
def laneCycleStart (n : Nat) (s : State) : State :=
  if lanesPolled s && lanePolled s n && s.time.L % frameL == 2 * n && !((s.lane n).cycle.any (fun c => c.frame == s.time.L / frameL)) then
    let id := identifyCycle s n
    let s := sendRequest n id s
    modLane n (fun l => { l with
      cycle := some { frame := s.time.L / frameL, reqL := s.time.L, identify := id, latch := l.pulses }
      seq := (l.seq + 1) % 65536, lastSeq := l.seq }) s
  else s

/-- LANE_RETRY: at transit 2n + 64 a failed attempt is retried. -/
def laneRetry (n : Nat) (s : State) : State :=
  match (s.lane n).cycle with
  | none => s
  | some c =>
    if lanesPolled s && lanePolled s n && c.failed && c.attempt == 1 && s.time.L == c.frame * frameL + 2 * n + 64 then
      let s := sendRequest n c.identify s
      modLane n (fun l => { l with
        cycle := some { c with attempt := 2, failed := false, latch := l.pulses }
        seq := (l.seq + 1) % 65536, lastSeq := l.seq }) s
    else s

/-- Is an attempt waiting for its response? -/
def awaitingResponse (l : Lane) : Bool := l.cycle.any (fun c => !c.failed && c.resp.isNone)

/-- LANE_RESPONSE_TIMEOUT (R335). -/
def laneResponseTimeout (n : Nat) (s : State) : State := if awaitingResponse (s.lane n) then modLane n (countError 0) s else s

/-- A response arrives: `clean` where no code violation broke it. -/
def laneResponse (n : Nat) (clean : Bool) (bs : List Byte) (s : State) : State :=
  match (s.lane n).cycle with
  | none => s
  | some c =>
    if c.failed || c.resp.isSome then s
    else if !clean then modLane n (countError 1) s
    else
      match checkResponse n (((s.lane n).seq + 65535) % 65536) c.identify bs with
      | .error k => modLane n (countError k) s
      | .ok p =>
        modLane n (fun l =>
          let l := { l with cycle := some { c with resp := some p } }
          if c.identify then { l with repId := slice p 0 16, repFw := leAt p 16 2, repPc := leAt p 18 2 }
          else { l with repImp := leAt p 2 8, repExp := leAt p 10 8 }) s

/-- READING (R336). -/
def reading (n : Nat) (clean : Bool) (bs : List Byte) (s : State) : State := laneResponse n clean bs s
/-- IDENTITY (R336). -/
def identity (n : Nat) (clean : Bool) (bs : List Byte) (s : State) : State := laneResponse n clean bs s

/-- PULSE (R340): a filtered falling edge. -/
def pulse (n : Nat) (s : State) : State :=
  if pulseUsed s n && lanesPolled s && (s.lane n).counting then modLane n (fun l => { l with pulses := (l.pulses + 1) % 2 ^ 32 }) s else s

/-! ### Suspect lanes (R342, R345, R346) -/

/-- An integrity cause? -/
def integrity (c : Nat) : Bool := decide (0x10 ≤ c ∧ c ≤ 0x17)
/-- Pulses in the current window. -/
def windowPulses (l : Lane) (latch : Nat) : Nat := match l.win with
  | some w => (latch + 2 ^ 32 - w.latch) % 2 ^ 32
  | none => 0
/-- LANE_SUSPECT (R346). -/
def laneNotice (n cause p1 p2 : Nat) (s : State) : State :=
  notifyZeroAndCab 0x0008 n cause (saturate 32 p1) p2 0 (laneCab s n) s

/-- The baseline is TAINTED, and a TAINT record waits where the lane has records (R342, R360). -/
def taint (n : Nat) (s : State) : State :=
  let s := modLaneLdg n (fun l => { l with view := { l.view with tainted := true } }) s
  if laneBooked s n then checkpoint n 4 s else s

/-- A lane enters SUSPECT, changes its cause, or only logs a later one (R345). -/
def enterSuspect (n cause p1 p2 : Nat) (s : State) : State :=
  let l := s.lane n
  if l.st = .suspect ∧ integrity l.cause then
    if l.logged.contains cause then s
    else raiseFrom (source 5 n) 0xB011 5 n cause (saturate 32 p1) (modLane n (fun l => { l with logged := l.logged ++ [cause] }) s)
  else
    let s := modLane n (fun l => { l with st := .suspect, cause := cause, logged := [cause] }) s
    let s := if integrity cause then taint n s else s
    raiseFrom (source 5 n) 0xB011 5 n cause (saturate 32 p1) (laneNotice n cause p1 p2 s)

/-- Does a lane hand over and join now, rather than stand in an integrity SUSPECT? -/
def laneActive (l : Lane) : Bool := l.st == .live || l.st == .joining || (l.st == .suspect && !integrity l.cause)

/-! ### Acceptance, hand-over and cross-check (R341 to R343) -/

/-- Hand a reading over (R341, R360): the volatile ledger advances by the deltas. -/
def handOver (n imp exp : Nat) (c : Cycle) (s : State) : State :=
  if !laneGood s n then s
  else modLaneLdg n (fun l =>
    let v := l.view
    { l with view := { v with
        imp := v.imp + (imp - v.meterImp), exp := v.exp + (exp - v.meterExp), meterImp := imp, meterExp := exp,
        lastL := c.reqL, lastUs := s.time.ledgerUs } }) s

/-- CROSS_CHECK (R343). -/
def crossCheck (n imp : Nat) (c : Cycle) (s : State) : State :=
  if !pulseUsed s n then s
  else
    match (s.lane n).win with
    | none => modLane n (fun l => { l with win := some { imp := imp, latch := c.latch, frame := c.frame } }) s
    | some w =>
      let k := ((laneRec? s n).map (·.pulseConst)).getD 0
      let d := imp - w.imp
      let p := (c.latch + 2 ^ 32 - w.latch) % 2 ^ 32
      if d * k < 200000000 ∧ p < 200 ∧ c.frame - w.frame < 8192 then s
      else
        let err := ((p * 1000000 : Nat) - (d * k : Nat) : Int).natAbs
        let s := if 2000000 + d * k / 50 < err then enterSuspect n 0x10 d p s else s
        modLane n (fun l => { l with win := some { imp := imp, latch := c.latch, frame := c.frame } }) s

/-- The first cause of R341 a reading meets; `joining` sets the register checks aside for the gap rule. -/
def readingCause (v : LaneRecord) (l : Lane) (c : Cycle) (st imp exp : Nat) (ended : Bool) : Option Nat :=
  if bit st 0 then some 0x16
  else if bit st 1 then some 0x17
  else if !ended then none
  else if imp < v.meterImp ∨ exp < v.meterExp then some 0x11
  else if 1000 * (c.frame - l.lastFrame.getD c.frame) < imp - v.meterImp then some 0x12
  else none

/-- Is a baseline stored and continued by the identity reported (R349)? -/
def baselineKept (s : State) (n : Nat) : Bool :=
  laneBooked s n && !(laneLdg s n).view.tainted && decide ((laneLdg s n).view.identity = (s.lane n).repId)

/-- Start a new baseline at a join (R349). -/
def newBaseline (n imp exp : Nat) (c : Cycle) (s : State) : State :=
  let v := (laneLdg s n).view
  let reason := if !laneBooked s n then 2 else if v.tainted then 0 else 1
  let first := !laneBooked s n
  let s := modLaneLdg n (fun l => { l with view := { v with
    meterImp := imp, meterExp := exp, identity := (s.lane n).repId, tainted := false, baseline := v.baseline + 1,
    lastL := c.reqL, lastUs := s.time.ledgerUs, openL := if first then s.time.L else v.openL } }) s
  raiseFrom (source 5 n) 0xB014 5 n reason (lo32 imp) s

/-- The first reading accepted under R341 ends the join (R349). -/
def endJoin (n imp exp : Nat) (c : Cycle) (s : State) : State :=
  let v := (laneLdg s n).view
  if baselineKept s n ∧ (imp < v.meterImp ∨ exp < v.meterExp) then enterSuspect n 0x11 (imp - v.meterImp) 0 s
  else
    let s := if baselineKept s n then
        raiseFrom (source 5 n) 0xB013 5 n (lo32 (imp - v.meterImp)) (lo32 (exp - v.meterExp)) (handOver n imp exp c s)
      else newBaseline n imp exp c s
    let s := checkpoint n 3 s
    let was := (s.lane n).st
    let s := modLane n (fun l => { l with st := .live, cause := 0, logged := [], missed := 0, lastFrame := some c.frame }) s
    let s := raiseFrom (source 5 n) 0xB010 3 n (lo32 imp) (((s.lane n).power).getD 0) s
    let s := if was = .suspect then laneNotice n 0 (imp - v.meterImp) 0 s else s
    crossCheck n imp c s

/-- A reading of a lane that has joined is accepted. -/
def acceptReading (n imp exp : Nat) (c : Cycle) (s : State) : State :=
  let l := s.lane n
  let v := (laneLdg s n).view
  let s := handOver n imp exp c s
  let s := modLane n (fun l => { l with st := .live, cause := 0, missed := 0, lastFrame := some c.frame, logged := [] }) s
  let s := if l.st = .suspect then
      raiseFrom (source 5 n) 0xB012 4 n l.missed (lo32 (imp - v.meterImp)) (laneNotice n 0 (imp - v.meterImp) (windowPulses l c.latch) s)
    else s
  crossCheck n imp c s

/-- Has the lane joined: its window of acceptance is open since its join? A joining lane, or one silent during its join, has not. -/
def hasJoined (l : Lane) : Bool := l.lastFrame.isSome

/-- The decision on a POLL cycle with a reading (R338, R341) (DEDUCED, log 44). -/
def decideReading (n : Nat) (c : Cycle) (p : List Byte) (s : State) : State :=
  let l := s.lane n
  let st := leAt p 0 2
  let imp := leAt p 2 8
  let exp := leAt p 10 8
  let power := leAt p 18 4
  let s := modLane n (fun l => { l with power := some power }) s
  if l.power.any (fun q => q != power) then modLane n (fun l => { l with identifyNext := true, missed := 0 }) s
  else
    let v := (laneLdg s n).view
    match readingCause v l c st imp exp (hasJoined l) with
    | some cause => enterSuspect n cause (imp - v.meterImp) (windowPulses l c.latch) (modLane n (fun l => { l with missed := 0 }) s)
    | none =>
      if !laneActive l then modLane n (fun l => { l with missed := 0 }) s
      else if hasJoined l then acceptReading n imp exp c s
      else endJoin n imp exp c s

/-- The decision on an IDENTIFY cycle with an identity (R345, R349). -/
def decideIdentity (n : Nat) (s : State) : State :=
  let l := s.lane n
  let r := laneRec? s n
  let s := modLane n (fun l => { l with identifyNext := false, idDone := true }) s
  let suspect := fun (cause : Nat) => enterSuspect n cause (l.repImp - (laneLdg s n).view.meterImp) (windowPulses l l.pulses) s
  if !l.idDone then
    if idPinned s n && r.any (fun r => decide (r.identity ≠ l.repId)) then suspect 0x13
    else if pulseUsed s n && r.any (fun r => r.pulseConst != l.repPc) then suspect 0x15
    else s
  else if hasJoined l ∧ (laneLdg s n).view.identity ≠ l.repId then suspect 0x14
  else s

/-- A missed cycle: the eighth in a row silences a lane that is LIVE or JOINING (R337, R345) (DEDUCED, log 44). -/
def decideMissed (n : Nat) (c : Cycle) (s : State) : State :=
  if c.identify then s
  else
    let s := modLane n (fun l => { l with missed := l.missed + 1 }) s
    let l := s.lane n
    if 8 ≤ l.missed ∧ (l.st = .live ∨ l.st = .joining) then
      enterSuspect n 0x01 (l.repImp - (laneLdg s n).view.meterImp) (windowPulses l l.pulses) s
    else s

/-- DECISION_POINT (R337, R341): at transit 2n + 96 of the poll frame the cycle is decided, then a close that is due runs (R362). -/
def decisionPoint (n : Nat) (s : State) : State :=
  if s.time.genStopped || !lanesPolled s || s.time.L % frameL != (2 * n + 96) % frameL || 48 ≤ n then s
  else
    let s := match (s.lane n).cycle with
      | some c =>
        if s.time.L = c.frame * frameL + 2 * n + 96 then
          let s := modLane n (fun l => { l with cycle := none }) s
          match c.resp with
          | some p => if c.identify then decideIdentity n s else decideReading n c p s
          | none => decideMissed n c s
        else s
      | none => s
    closeAtDecision n s

/-! ### Freezing and joining (R348, R349) -/

/-- LANE_BABBLING (R348): the lane babbled in each of 8 consecutive meter frames; it is frozen and TAINTED. -/
def laneBabbling (n : Nat) (s : State) : State :=
  if (laneRec? s n).isNone || !lanesPolled s || isFrozen s 4 n || (s.lane n).joinFrom.isSome then s
  else
    let s := freezeMaster 4 n 0x30 0 0 none s
    taint n (modLane n (fun l => { l with st := .frozen, cause := 0x30, cycle := none }) s)

/-- A lane is to join from a frame on. -/
def joinLaneFrom (n frame : Nat) (s : State) : State :=
  modLane n (fun l => { l with
    st := .joining, cause := 0, joinFrom := some frame, idDone := false, cycle := none, logged := [], missed := 0, power := none,
    identifyNext := false, lastFrame := none, win := none }) s

/-- A thawed lane stays FROZEN until the next meter frame, and joins in it with a new baseline (R348). -/
def thawLane (n : Nat) (s : State) : State :=
  modLane n (fun l => { l with st := .frozen, cause := 0x30 }) (joinLaneFrom n (s.time.L / frameL + 1) s)

/-- At a meter frame boundary the lanes thawed in the frame before are JOINING (R348). -/
def rejoinThawed (s : State) : State :=
  { s with mtr := Tab.mapAll s.mtr (fun _ l =>
    if l.st = .frozen ∧ l.joinFrom.any (fun f => decide (f ≤ s.time.L / frameL)) then { l with st := .joining, cause := 0 } else l) }

/-- LANE_JOIN (R349): in its slot of a frame that has come, the lane starts joining. -/
def laneJoin (n : Nat) (s : State) : State :=
  match (s.lane n).joinFrom with
  | none => s
  | some f =>
    if (laneRec? s n).isSome && lanesPolled s && decide (f ≤ s.time.L / frameL) && s.time.L % frameL == 2 * n then
      modLane n (fun l => { l with joinFrom := none, counting := true, st := .joining, cause := 0 }) s
    else s

/-- At Dawn every bound lane joins, 4 frames apart, from the first meter frame after the key store step (R349). -/
def dawnLanes (firstFrame : Nat) (s : State) : State :=
  forEach (s.car.active.lanes.map (·.lane)) (fun n => joinLaneFrom n (firstFrame + 4 * n)) { s with mtr := [] }

/-! ### LANE_STATUS and registers (R351) -/

/-- The 96-byte lane record. -/
def laneBytes (s : State) (n : Nat) : List Byte :=
  let l := s.lane n
  let v := (laneLdg s n).view
  leBytes 1 n ++ leBytes 1 (laneCode l.st) ++ leBytes 1 l.cause
    ++ leBytes 1 (flag (pulseUsed s n) + flag (idPinned s n) * 2 + flag v.tainted * 4) ++ leBytes 4 l.pulses
    ++ leBytes 8 v.meterImp ++ leBytes 8 v.meterExp ++ leBytes 8 v.lastL ++ leBytes 8 l.repImp ++ leBytes 8 l.repExp
    ++ (l.repId ++ zeros 16).take 16 ++ leBytes 2 l.repFw ++ leBytes 2 l.repPc ++ leBytes 2 (saturate 16 l.missed) ++ zeros 2
    ++ leBytes 8 ((l.win.map (·.imp)).getD 0) ++ leBytes 4 (windowPulses l l.pulses)
    ++ leBytes 4 ((l.win.map (fun w => s.time.L / frameL - w.frame)).getD 0) ++ zeros 8

/-- LANE_STATUS. -/
def laneStatus (j : Nat) (s : State) : State :=
  match runnable s j 0x6001 with
  | none => s
  | some x => setResult j { status := 0, output := laneBytes s (x.desc.par 40 1) } s

/-- A bit map of the lanes in a state: [31:0] lanes 0 to 31, then lanes 32 to 47. -/
def laneMap (s : State) (p : Lane → Bool) : Nat := bitmapOf 48 (fun n => (laneRec? s n).isSome && p (s.lane n))

/-- MTR_LANE_STATE. -/
def laneStateWord (s : State) (n : Nat) : Nat :=
  let l := s.lane n
  laneCode l.st + l.cause % 256 * 256 + flag (laneLdg s n).view.tainted * 65536 + saturate 8 l.missed * 2 ^ 24

/-- MTR_LANE_ERRORS. -/
def laneErrors (l : Lane) : Nat := l.errors.getD 0 0 + l.errors.getD 1 0 * 2 ^ 8 + l.errors.getD 2 0 * 2 ^ 16 + l.errors.getD 3 0 * 2 ^ 24

/-- The MTR_DE outputs are low on every lane that does not transmit: none transmits between commands. -/
def lanesSilent (s : State) : Bool := !lanesPolled s

end Sys2Proof.Machine
end

