-- ==== Sys2Proof/Machine/TimeStmt.lean ====
section
/-! DEFINITION. Time statements and steps (spec/02_transit_orbit_time.md R48 to R55). -/

namespace Sys2Proof.Machine

/-- A nonce is valid for 2 orbits from issue (R50). -/
def nonceLife : Nat := 2 * 2 ^ 20

/-- TIME_NONCE (R50): a fresh 16-byte nonce; a fifth retires the oldest. -/
def timeNonce (j : Nat) (s : State) : State :=
  match runnable s j 0x8010 with
  | none => s
  | some _ =>
    let n := freeBytes s 16
    let open_ := s.time.nonces.filter (fun e => decide (s.time.L < e.2 + nonceLife))
    let kept := open_.drop (open_.length + 1 - 4)
    drawFree 16 (setResult j { status := 0, output := n } { s with time := { s.time with nonces := kept ++ [(n, s.time.L)] } })

/-- The fields of a statement (R51). -/
structure Stmt where
  step : Bool
  nonce : List Byte
  asserted : Nat
  unc : Nat
  handle : Nat
  alg : Nat
  deriving DecidableEq, Repr

/-- Read a statement's fields. -/
def stmtOf (b : List Byte) : Stmt :=
  { step := bit (leAt b 6 2) 0, nonce := slice b 16 16, asserted := leAt b 32 8, unc := leAt b 40 4, handle := leAt b 44 4, alg := leAt b 48 4 }

/-- The key type of a time authority by algorithm. -/
def timeKeyType (alg : Nat) : Nat := if alg = 1 then 0x29 else if alg = 2 then 0x38 else 0x59

/-- The time authority key a handle names: class 3, cabinet 0, TIME_AUTHORITY, of the algorithm's type. -/
def timeKey (s : State) (h alg : Nat) : Option KeySlot :=
  (keyOf? s h).filter (fun k => hClass h == 3 && hCab h == 0 && bit k.attr.policy polTime && k.attr.type == timeKeyType alg)

/-- Are a statement's fields as R51 asks? (DEDUCED, log 17). -/
def stmtOk (s : State) (b : List Byte) : Bool :=
  let t := stmtOf b
  leAt b 0 4 == 0x5354474B && leAt b 4 2 == 1 && decide (leAt b 6 2 < 2) && (leAt b 8 8 == 0 || leAt b 8 8 == serialOf s)
    && decide (t.unc ≤ 10000000) && decide (1 ≤ t.alg ∧ t.alg ≤ 3) && leAt b 52 4 == (algLens t.alg).2 && leAt b 56 8 == 0
    && b.length == 64 + (algLens t.alg).2 && (timeKey s t.handle t.alg).isSome

/-- The public key bytes a time authority signs with. -/
def timeKeyBytes (k : KeySlot) : List Byte := publicEncoding k

/-- Allowance for the interval the RTC carried: 100 µs for each second (R52). The interval is that of the last carry, and a part
of a second counts in proportion: R52 says neither (DESIGN CHOICE, log 65). -/
def carriedAllowance (t : TimeState) : Nat := if t.quality = .carried then t.carriedUs * 100 / 1000000 else 0

/-- A statement is accepted: its anchor is logged (R473). -/
def acceptStmt (j : Nat) (t : TimeState) (s : State) : State :=
  timeAnchor (setResult j { status := 0 } { s with time := t })

/-- Open a step request (R53): a new one cancels an open one. -/
def openStep (j : Nat) (x : Job) (target : Int) (s : State) : State :=
  let s := match s.time.stepReq with
    | some q => endJob q.job 0x7001 0 0 0 (cancelRequest q.request s)
    | none => s
  let dig := Config.sha3 x.input
  let n := s.dov.nextNum
  let s := openRequest j x [rosterFor s 0 (some rightTimeStep)] dig s
  if awaiting s j then
    { s with time := { s.time with stepReq := some { target := target, digest := dig, request := n, job := j } } }
  else s

/-- The decision of R52 on a verified statement whose nonce was issued at `issue`; its times are int64, as the fragment
declares them (DEDUCED, log 17). -/
def decideStmt (j : Nat) (x : Job) (st : Stmt) (issue : Nat) (s : State) : State :=
  let t := s.time
  let d := (t.L - issue) * 8192 / 1000
  let target : Int := fieldSigned 64 (st.asserted + d / 2)
  let unc : Nat := st.unc + d / 2
  let offset : Int := target - t.ledgerUs
  let limit := 1000000 + carriedAllowance t
  if st.step then openStep j x target s
  else if t.quality = .unset then
    (if target < (ledgerFloorUs s : Int) then failJob j 0x5032 0 0 0 s
     else acceptStmt j { t with ledgerUs := target.toNat, quality := .set } s)
  else if offset.natAbs ≤ unc then acceptStmt j { t with quality := .set } s
  else if limit < offset.natAbs then failJob j 0x5032 0 0 0 s
  else acceptStmt j { t with slewPs := offset * 1000000, stmtSlew := true, quality := .set } s

/-- TIME_STATEMENT (R51, R52): the format, the nonce, the signature, then the decision (DEDUCED, log 17). -/
def timeStatement (j : Nat) (s : State) : State :=
  match openable s j 0x8011 with
  | none => s
  | some x =>
    let b := x.input
    let st := stmtOf b
    if !stmtOk s b then failJob j 0x2001 16 0 0 s
    else
      match s.time.nonces.find? (fun e => decide (e.1 = st.nonce ∧ s.time.L < e.2 + nonceLife)), timeKey s st.handle st.alg with
      | some e, some k =>
        if sigHolds st.alg (timeKeyBytes k) (b.take 64) (b.drop 64) then
          decideStmt j x st e.2 { s with time := { s.time with nonces := s.time.nonces.filter (fun q => decide (q.1 ≠ st.nonce)) } }
        else failJob j 0x5031 0 0 0 s
      | _, _ => failJob j 0x5030 0 0 0 s

/-- The quorum of a step request (R53): it is open no longer, and waits for the next meter frame. -/
def approveStep (j : Nat) (s : State) : State :=
  match s.time.stepReq with
  | some q =>
    if q.job = j then
      { s with time := { s.time with stepReq := none, stepDue := s.time.stepDue ++ [{ q with approvedL := some s.time.L }] } }
    else s
  | none => s

/-- Functions told of a step: function 0, and every function bound to a cabinet that owns a lane (R54). -/
def stepFns (s : State) : List Nat :=
  0 :: (s.car.active.fns.filter (fun r => r.fn != 0 && s.car.active.lanes.any (fun l => l.cab == r.cab))).map (·.fn)

/-- TIME_STEP_APPLY (R53, R54): the oldest step with its quorum, at the first transit of the meter frame after the one in which
the quorum was reached. -/
def timeStepApply (s : State) : State :=
  match s.time.stepDue with
  | [] => s
  | q :: rest =>
    if decide (q.approvedL.getD 0 < s.time.L) && s.time.L % frameL == 0 && running s then
      let new := q.target + (q.elapsedPs / 1000000 : Nat)
      let step := new - s.time.ledgerUs
      let s := { s with time := { s.time with
        ledgerUs := signedField 64 new, slewPs := 0, stmtSlew := false, quality := .set, stepped := true, lastStep := step,
        lastStepL := s.time.L, stepDue := rest } }
      let lo := lo32 (signedField 64 step)
      let hi := hi32 (signedField 64 step)
      let s := forEach (stepFns s) (notify 0x000B 0 lo hi 0 0) s
      let s := raiseEv 0x1011 5 lo hi q.request s
      timeAnchor (periodClose true (writeAnchor true (setResult q.job { status := 0 } s)))
    else s

/-- What the time commands ask of a descriptor. -/
def timeInfo (cab : Nat) (d : Desc) : OpInfo :=
  let own := if cab = 0 then none else some (0x3001, 0, 0)
  if d.opcode = 0x8010 then
    { plane := .M, usesOut := true, fields := reservedFrom d 40, owner := own, outLen := 16, needOut := some 16 }
  else { plane := .M, usesIn := true, fields := reservedFrom d 40, owner := own }

end Sys2Proof.Machine
end

