-- ==== Sys2Proof/Machine/SelfTest.lean ====
section
/-! DEFINITION. Built-in self-test (spec/23_self_test.md R505 to R519): expected values, command runs and their end, aborts, the
descriptor checks and registers. The runs of a Dawn stand in Machine/Dawn.lean. -/

namespace Sys2Proof.Machine

/-- Tiles of an engine partition (R505). -/
def partTiles (p : Nat) : List Nat :=
  if p ≤ 5 then (List.range 4).map (· + 4 * p)
  else if p ≤ 9 then (List.range 4).map (· + 32 + 4 * (p - 6))
  else if p ≤ 13 then (List.range 2).map (· + 64 + 2 * (p - 10))
  else if p ≤ 17 then (List.range 2).map (· + 96 + 2 * (p - 14))
  else []

/-- Partition of a tile. -/
def tilePart (t : Nat) : Nat :=
  if t < 32 then t / 4 else if t < 64 then 6 + (t - 32) / 4 else if t < 96 then 10 + (t - 64) / 2 else 14 + (t - 96) / 2

/-- Transits a partition takes under a scope: logic 6,144, memory 2,048 (R507). -/
def bistTransits (scope : Nat) : Nat := (if bit scope 0 then 6144 else 0) + (if bit scope 1 then 2048 else 0)

/-- The runs of a scope in order (R514). -/
def scopeRuns (scope : Nat) : List Nat := (if bit scope 0 then [1] else []) ++ (if bit scope 1 then [2] else [])

/-- The partitions of a map, ascending. -/
def mapParts (m : Nat) : List Nat := (List.range 18).filter (fun p => bit m p)

/-! ### Expected values (R511) -/

/-- Body of a firmware image. -/
def fwBody (img : List Byte) : List Byte := img.drop 5648

/-- Bytes of the running routine bundle. -/
def runningBundle (s : State) : List Byte :=
  match s.pwr.pick with
  | some p => s.pwr.copies.getD (2 + p.bundle) []
  | none => []

/-- The expected signature of a partition's logic run of a kind (0 quick, 1 full, 2 command). -/
def expectedSig (s : State) (part kind : Nat) : Option (List Byte) :=
  let b := fwBody (runningBundle s)
  if leAt b 0 4 = 0x5442474B ∧ leAt b 4 2 = 1 then
    ((List.range (min 1024 (leAt b 6 2))).find? (fun i => leAt b (16 + 32 * i) 4 == otpWord s 10 && byteAt b (20 + 32 * i) == part
      && byteAt b (21 + 32 * i) == kind)).map (fun i => slice b (32 + 32 * i) 16)
  else none

/-- Patterns of a logic run. -/
def logicPatterns (kind : Nat) : Nat := if kind = 0 then 4096 else 65536

/-- What a run leaves: as found, or, where nothing is said of it, a pass: the expected signature, no failing instance. -/
def bistEntry (s : State) (part run kind : Nat) (found : List BistFound) : BistEntry :=
  let f := found.find? (fun e => e.part == part && e.run == run)
  if run = 1 then
    let want := expectedSig s part kind
    let sig := match f with
      | some e => (e.signature ++ zeros 16).take 16
      | none => want.getD (standardBytes 0xD001 [part, kind] [] 16)
    { part := part, run := 1, patterns := logicPatterns kind, sig := sig,
      result := match want with | some w => (if w = sig then 0 else 1) | none => 2 }
  else
    match f with
    | some e => { part := part, run := 2, result := if e.failed = 0 then 0 else 3, patterns := e.tested % 2 ^ 32, failed := e.failed % 2 ^ 32,
                  first := if e.failed = 0 then 0 else e.first % 2 ^ 32 }
    | none => { part := part, run := 2, result := 0 }

/-- Does a result fail its partition: MISMATCH or MEMORY_FAIL? -/
def entryFails (e : BistEntry) : Bool := e.result == 1 || e.result == 3

/-- Keep the last result of a run for the registers. -/
def keepResult (src : Nat) (e : BistEntry) (s : State) : State :=
  { s with bst := { s.bst with results := Tab.put s.bst.results (2 * e.part + e.run - 1) { src := src, entry := e } } }

/-! ### Command runs (R512 to R518) -/

/-- SOURCE of a run: 1 command, 2 DAP. -/
def runSource (r : BistRun) : Nat := if r.job.isSome then 1 else 2

/-- Mark the tiles of a partition under test from a transit on; none ends it. -/
def underTest (p : Nat) (from_ : Option Nat) (s : State) : State :=
  forEach (partTiles p) (fun t => modTile t (fun x => { x with bistRun := from_ })) s

/-- Is a job in its commit phase on a tile of the partition (R77, R515)? -/
def partCommits (s : State) (p : Nat) : Bool :=
  (liveJobs s).any (fun e => inCommit e.2 && e.2.tile.any (fun t => (partTiles p).contains t))

/-- In the tail of the transit before: the next run starts, or the next partition of the run under way leaves planning; a partition on
whose tiles a commit phase is not over waits for it (R514, R515). A run whose next partition waits has endL 0. -/
def bistTail (s : State) : State :=
  let next := s.time.L + 1
  match s.bst.running with
  | some r =>
    match r.todo with
    | p :: rest =>
      if partCommits s ((if r.endL = 0 then p :: rest else rest).headD 0) then s
      else if r.endL = 0 then
        underTest p (some next) { s with bst := { s.bst with running := some { r with endL := next + bistTransits r.scope } } }
      else if r.endL = next ∧ rest ≠ [] then underTest (rest.headD 0) (some next) s
      else s
    | [] => s
  | none =>
    match s.bst.waiting with
    | r :: rest =>
      if r.bellL + 2 ≤ next ∧ !(partCommits s (r.todo.headD 0)) then
        let r := { r with startL := some next, endL := next + bistTransits r.scope }
        underTest (r.todo.headD 0) (some next) { s with bst := { s.bst with running := some r, waiting := rest } }
      else s
    | [] => s

/-- Bytes of a result entry. -/
def entryBytes (e : BistEntry) : List Byte :=
  leBytes 1 e.part ++ leBytes 1 e.run ++ leBytes 1 e.result ++ [0] ++ leBytes 4 e.patterns ++ leBytes 4 e.failed ++ leBytes 4 e.first
    ++ (e.sig ++ zeros 16).take 16

/-- The result record (Formats). -/
def bistRecord (r : BistRun) : List Byte :=
  leBytes 4 0x5242474B ++ leBytes 2 1 ++ leBytes 1 r.scope ++ leBytes 1 r.entries.length ++ leBytes 8 (r.startL.getD 0)
    ++ r.entries.flatMap entryBytes

/-- Event code by which a class's tile returns. -/
def returnedEvent (cls : Nat) : Nat := if cls = 0 then 0x6011 else if cls = 1 then 0x7011 else if cls = 2 then 0x8013 else 0x9013

/-- A tile rejoins after its partition passed (R516). -/
def tileReturns (t : Nat) (s : State) : State :=
  let x := s.tile t
  let s := modTile t (fun x => { x with bistRun := none, bistOut := false, parityOut := false, verifyOut := false, point := targetPoint s t }) s
  if x.parityOut || x.verifyOut || x.bistOut then raiseFrom (source 2 t) (returnedEvent (tileClass t)) 3 (t % 32) 0 0 s else s

/-- The run is over: its job answers, or the registers hold its results (R518, R519) (DEDUCED, log 55). -/
def bistFinish (r : BistRun) (s : State) : State :=
  let s := raiseEv 0x0512 3 (runSource r) r.failed r.returned { s with bst := { s.bst with running := none } }
  match r.job with
  | some j => setResult j { status := 0, output := bistRecord r, w0 := r.entries.length, w1 := r.failed, w2 := r.returned } s
  | none => s

/-- BIST_RUN_COMPLETE (R516): the runs of the partition under test are over. -/
def bistRunComplete (p : Nat) (found : List BistFound) (s : State) : State :=
  match s.bst.running with
  | none => s
  | some r =>
    match r.todo with
    | [] => s
    | q :: rest =>
      if p ≠ q ∨ r.endL = 0 ∨ s.time.L < r.endL then s
      else
        let es := (scopeRuns r.scope).map (fun k => bistEntry s p k 2 found)
        let s := forEach es (keepResult (runSource r)) s
        let s := forEach (es.filter entryFails) (fun e => raiseEv 0x0511 5 p e.run e.result) s
        let bad := es.any entryFails
        let s := if bad then forEach (partTiles p) (fun t => modTile t (fun x => { x with bistRun := none, bistOut := true })) s
          else forEach (partTiles p) tileReturns s
        let begun := (partTiles (rest.headD 0)).all (fun t => (s.tile t).bistRun.isSome)
        let r := { r with
          todo := rest, entries := r.entries ++ es, endL := if begun then r.endL + bistTransits r.scope else 0,
          failed := r.failed + (if bad then 2 ^ p else 0), returned := r.returned + (if bad then 0 else 2 ^ p) }
        if rest.isEmpty then bistFinish r s else { s with bst := { s.bst with running := some r } }

/-- The jobs of waiting runs end WITHDRAWN. -/
def dropWaiting (s : State) : State :=
  let js := s.bst.waiting.filterMap (·.job)
  forEach js (fun j => endJob j 0x7001 0 0 0) { s with bst := { s.bst with waiting := [] } }

/-- A command run stops at once (R517): cause 0 alarm, 1 power, 2 NIGHT, 3 HOLD, 4 Keeper absent. Its own job ends as the rule
that stopped it states. -/
def abortBist (cause : Nat) (s : State) : State :=
  match s.bst.running with
  | none => dropWaiting s
  | some r =>
    let p := r.todo.headD 0
    let s := forEach (scopeRuns r.scope) (fun k => keepResult (runSource r) { part := p, run := k, result := 4 }) s
    let s := forEach r.todo (fun q => underTest q none) s
    dropWaiting (raiseEv 0x0513 4 p cause (runSource r) { s with bst := { s.bst with running := none } })

/-- A run that goes with its job: the job ended by another rule while it waited or ran. -/
def pruneBist (s : State) : State :=
  let gone := fun (r : BistRun) => r.job.any (fun j => !((s.jobOf j).any (fun x => !x.finished)))
  let s := { s with bst := { s.bst with waiting := s.bst.waiting.filter (fun r => !gone r) } }
  match s.bst.running with
  | some r => if gone r then forEach r.todo (fun q => underTest q none) { s with bst := { s.bst with running := none } } else s
  | none => s

/-- SELFTEST (R512 to R514): scope 4 sets FULL_NEXT_DAWN at once; the others queue a run, and a ninth ends NO_SLOT. -/
def selftest (j : Nat) (s : State) : State :=
  match runnable s j 0xD001 with
  | none => s
  | some x =>
    let scope := x.desc.par 40 1
    if scope = 4 then setResult j { status := 0 } { s with bst := { s.bst with fullNext := true } }
    else if s.bst.waiting.any (fun r => r.job == some j) || s.bst.running.any (fun r => r.job == some j) then s
    else if 8 ≤ s.bst.waiting.length then failJob j 0x4001 0 0 0 s
    else
      let r : BistRun := { job := some j, scope := scope, todo := mapParts (x.desc.par 44 4), bellL := x.bellD / transitCycles }
      { s with bst := { s.bst with waiting := s.bst.waiting ++ [r] } }

/-- BST_DAP_START (R519): a start while a run is in progress or waiting is ignored and marked. -/
def bstDapStart (s : State) : State :=
  if !(bit s.lcs.rights 3) || !running s then s
  else if s.bst.running.isSome || !s.bst.waiting.isEmpty then { s with bst := { s.bst with dapRefused := true } }
  else if 1 ≤ s.bst.dapScope ∧ s.bst.dapScope ≤ 3 ∧ mapParts s.bst.dapMap ≠ [] then
    let r : BistRun := { job := none, scope := s.bst.dapScope, todo := mapParts s.bst.dapMap, bellL := s.time.L }
    { s with bst := { s.bst with waiting := [r] } }
  else s

/-- Output bytes of a SELFTEST. -/
def selftestLen (d : Desc) : Nat := 16 + 32 * ((mapParts (d.par 44 4)).length * (scopeRuns (d.par 40 1)).length)

/-- What SELFTEST asks of a descriptor (R512). -/
def selftestInfo (s : State) (cab : Nat) (d : Desc) : OpInfo :=
  let scope := d.par 40 1
  let m := d.par 44 4
  { plane := .M, usesOut := scope != 4,
    fields := [(40, decide (1 ≤ scope ∧ scope ≤ 4)), zeroField d 41 3,
      (44, if scope = 4 then m == 0 else m != 0 && decide (m < 2 ^ 18))] ++ reservedFrom d 48,
    owner := if cab = 0 then none else some (0x3001, 40, 0),
    policy := if s.lcs.code = 7 then some (0x3002, 0, 0) else none,
    outLen := if scope = 4 then 0 else selftestLen d,
    needOut := if scope = 4 then none else some (selftestLen d) }

/-- BST_STATUS. -/
def bstStatus (s : State) : Nat :=
  let started := s.bst.running.isSome
  flag started + ((s.bst.running.map (fun r => r.todo.headD 0)).getD 0) * 2 + flag s.bst.fullNext * 64 + flag s.bst.dawnPass * 128
    + s.bst.waiting.length * 256 + flag s.bst.dapRefused * 4096

/-- BST_OUT: engine partitions out through BIST. -/
def bstOut (s : State) : Nat := bitmapOf 18 (fun p => (partTiles p).any (fun t => (s.tile t).bistOut))

/-- Tiles of a class out of capacity: frozen, parity, internal checks or BIST (SYM_LANE_OUT and its like). -/
def tilesOut (s : State) (cls : Nat) : Nat :=
  bitmapOf (classCount cls) (fun i =>
    let x := s.tile (32 * cls + i)
    isFrozen s 1 (32 * cls + i) || x.parityOut || x.verifyOut || x.bistOut || x.bistRun.any (fun l => decide (l ≤ s.time.L)))

end Sys2Proof.Machine
end

