-- ==== Sys2Proof/Machine/World.lean ====
section
/-! DEFINITION. The management pairs and the isolated worlds (spec/17_worlds.md R374 to R395). -/

namespace Sys2Proof.Machine

/-! ### World memory (R374, R375) -/

/-- A world's record. -/
def State.world (s : State) (w : Nat) : World := Tab.getD s.wld.worlds w {}
/-- Change a world. -/
def modWorld (w : Nat) (g : World → World) (s : State) : State := { s with wld := { s.wld with worlds := Tab.modify s.wld.worlds w {} g } }
/-- APPLET record of a world (R113). -/
def appletRec? (s : State) (w : Nat) : Option AppletRec := s.car.active.applets.find? (fun a => a.world == w)

/-- The 32 bits of an internal page owner table entry (DESIGN CHOICE, log 11). -/
def pageWord (e : WorldPage) : Nat :=
  1 + flag e.read * 2 + flag e.write * 4 + flag e.exec * 8 + e.world % 16 * 16 + flag e.mailbox * 256 + e.vpage % 2048 * 512

/-- The entry of a page: world 0 holds pages 0 to 511 permanently. -/
def pageEntryOf (s : State) (p : Nat) : Option WorldPage :=
  if p < 512 then
    some { read := true, write := !Config.worldZeroCode p, exec := Config.worldZeroCode p, world := 0, mailbox := false, vpage := p }
  else Tab.get? s.wld.table p

/-- The entry of a virtual page of a world. -/
def vpageEntry (s : State) (w v : Nat) : Option (Nat × WorldPage) := s.wld.table.find? (fun e => e.2.world == w && e.2.vpage == v)

/-- Do a world's entries permit an access at a virtual address? -/
def permits (s : State) (w : Nat) (a : Access) (vaddr : Nat) : Bool :=
  match vpageEntry s w (vaddr / 4096) with
  | none => false
  | some (_, e) => match a with
    | .read => e.read
    | .write => e.write
    | .exec => e.exec

/-- Cause of a denied access (Formats): 0x10 READ, 0x11 WRITE, 0x12 EXEC. -/
def accessCause : Access → Nat
  | .read => 0x10 | .write => 0x11 | .exec => 0x12

/-- May a world write `n` bytes at a virtual address? -/
def bufferOk (s : State) (w vaddr n : Nat) : Bool := (pagesOf vaddr n).all (fun p => permits s w .write (p * 4096))

/-- Write bytes at a virtual address of a world, page by page. -/
def worldWrite (w vaddr : Nat) (bs : List Byte) (s : State) : State :=
  let mem := ((List.range bs.length).zip bs).foldl (fun m e =>
    let a := vaddr + e.1
    match vpageEntry s w (a / 4096) with
    | some (p, _) => Memory.write m (p * 4096 + a % 4096) e.2
    | none => m) s.wld.mem
  { s with wld := { s.wld with mem := mem } }

/-- Clear the physical pages of a list. -/
def clearPages (ps : List Nat) (s : State) : State :=
  { s with wld := { s.wld with mem := Memory.clear s.wld.mem (fun a => ps.contains (a / 4096)) } }

/-! ### Quanta and ways (R377, R379) -/

/-- Time shares by ascending world: (world, first quantum, quanta). -/
def quantaTable (s : State) : List (Nat × Nat × Nat) :=
  ((sortBy (fun (a : AppletRec) => a.world) s.car.active.applets).foldl (fun (acc : List (Nat × Nat × Nat) × Nat) a =>
    (acc.1 ++ [(a.world, acc.2, a.share)], acc.2 + a.share)) ([], 0)).1

/-- The world whose run a quantum lies in. -/
def worldAt (s : State) (q : Nat) : Option Nat := ((quantaTable s).find? (fun e => decide (e.2.1 ≤ q ∧ q < e.2.1 + e.2.2))).map (·.1)

/-- Is a quantum the start of a run, or the first after one? -/
def runBoundary (s : State) (q : Nat) : Bool := (quantaTable s).any (fun e => e.2.1 == q || e.2.1 + e.2.2 == q)

/-- L2 ways of the worlds: (world, first way, ways). -/
def wayTable (s : State) : List (Nat × Nat × Nat) :=
  let r := s.car.active.applets.length
  let total := (s.car.active.applets.map (·.pages)).sum
  ((sortBy (fun (a : AppletRec) => a.world) s.car.active.applets).foldl (fun (acc : List (Nat × Nat × Nat) × Nat) a =>
    let n := 1 + (24 - r) * a.pages / total
    (acc.1 ++ [(a.world, acc.2, n)], acc.2 + n)) ([], 8)).1

/-! ### Applets (R380 to R383) -/

/-- Fields of an applet image. -/
def appletPages (b : List Byte) : Nat × Nat := (ceilDiv (leAt b 16 4) 4096, ceilDiv (leAt b 20 4 + leAt b 24 4) 4096)

/-- Pages an image needs (R380) (DEDUCED, log 46). -/
def pagesNeeded (b : List Byte) : Nat := (appletPages b).1 + (appletPages b).2 + 2

/-- The format checks of an applet image; the monitor's ABI mortise is 1.0. -/
def appletFormatOk (b : List Byte) : Bool :=
  leAt b 0 4 == 0x5041474B && leAt b 4 2 == 1 && leAt b 6 2 == 0 && allZero (slice b 28 36) && decide (leAt b 12 4 < leAt b 16 4)
    && leAt b 16 4 + leAt b 20 4 == b.length - 64 && leAt b 8 4 == 0x00010000

/-- Free pages of the pool, lowest first. -/
def freePool (s : State) (n : Nat) : List Nat := (((List.range 1536).map (· + 512)).filter (fun p => !Tab.has s.wld.table p)).take n

/-- End the messages of a world: queued, in its inbox and without a reply (R386). -/
def endMessages (w : Nat) (s : State) : State :=
  let x := s.world w
  let s := modWorld w (fun x => { x with queue := [], inbox := none, taken := false, awaiting := [] }) s
  forEach (x.queue ++ x.awaiting.map (·.job)) (fun j => endJob j 0x7001 0 0 0) s

/-- A world's pages are cleared and returned to the pool. -/
def returnPages (w : Nat) (s : State) : State :=
  let ps := (s.world w).pages
  let s := clearPages ps s
  modWorld w (fun x => { x with pages := [], codePages := 0, dataPages := 0 })
    { s with wld := { s.wld with table := Tab.keep s.wld.table (fun p _ => !ps.contains p) } }

/-- The world no longer runs on pair 1. -/
def offPair (w : Nat) (s : State) : State := if s.wld.cur = some w then { s with wld := { s.wld with cur := none } } else s

/-- Entries of a world's pages by virtual page: code, data, inbox, outbox. -/
def pageKind (code data w v : Nat) : WorldPage :=
  { read := true, write := decide (code ≤ v) && v != code + data, exec := decide (v < code), world := w,
    mailbox := decide (code + data ≤ v), vpage := v }

/-- Load an image into a world (R381 steps 1 to 3): LOADING, pages taken, code and data copied, the rest zero (DEDUCED, log 46). -/
def loadWorld (w : Nat) (img : List Byte) (job : Option Nat) (stored : Bool) (s : State) : State :=
  let s := returnPages w (offPair w (endMessages w s))
  let c := (appletPages img).1
  let d := (appletPages img).2
  let ps := freePool s (c + d + 2)
  let s := modWorld w (fun _ => { st := .loading, pages := ps, codePages := c, dataPages := d, entry := leAt img 12 4, image := img,
                                  loadJob := job, stored := stored, pc := leAt img 12 4, sp := (c + d) * 4096 }) s
  let s := { s with wld := { s.wld with
    table := ((List.range (c + d + 2)).zip ps).foldl (fun t e => Tab.put t e.2 (pageKind c d w e.1)) s.wld.table } }
  worldWrite w (c * 4096) (slice img (64 + leAt img 16 4) (leAt img 20 4)) (worldWrite w 0 (slice img 64 (leAt img 16 4)) s)

/-- The checks of APPLET_LOAD that look at its bytes, in the order of R380: status and details. -/
def appletBad (s : State) (x : Job) : Option (Nat × Nat × Nat) :=
  match appletRec? s (x.desc.par 40 1) with
  | none => some (0x3001, 40, 0)
  | some r =>
    if r.cab ≠ cabOfFn s x.fn then some (0x3001, 40, 0)
    else if !appletFormatOk x.input then some (0x2001, 16, 0)
    else if Config.sha3 x.input ≠ r.digest then some (0x2001, 16, 0)
    else if r.pages < pagesNeeded x.input then some (0x5001, 20, 0)
    else none

/-- APPLET_LOAD (R380): checked, then its request opens. -/
def appletLoad (j : Nat) (s : State) : State :=
  match openable s j 0xA001 with
  | none => s
  | some x =>
    match appletBad s x with
    | some e => failJob j e.1 e.2.1 e.2.2 0 s
    | none => openOwn j x rightApplet s

/-- The quorum of an APPLET_LOAD (R381 steps 1 to 3). A carcass commit may have changed the world's APPLET record since the request
opened, and the record names the only image the world may load (R113), so the checks of R380 hold again here (DEDUCED, log 81). -/
def runAppletLoad (j : Nat) (x : Job) (s : State) : State :=
  match appletBad s x with
  | some e => failJob j e.1 e.2.1 e.2.2 0 s
  | none => loadWorld (x.desc.par 40 1) x.input (some j) false s

/-- APPLET_STORE_WRITTEN (R381 step 4): `ok` where the slot reads back as the image. -/
def appletStoreWritten (w : Nat) (ok : Bool) (s : State) : State :=
  let x := s.world w
  if x.st ≠ .loading ∨ x.stored ∨ keeperAbsent s then s
  else if ok then
    modWorld w (fun x => { x with stored := true }) { s with wld := { s.wld with store := Tab.put s.wld.store w x.image } }
  else
    let s := modWorld w (fun x => { x with st := .stopped, loadJob := none }) (returnPages w s)
    match x.loadJob with
    | some j => endJob j 0x7010 0 0 0 s
    | none => s

/-- APPLET_RUN (R381 step 5): at a meter frame boundary a loaded world runs, where Keeper is there to start it (R391); one that is frozen
waits for its thaw (DEDUCED, log 46). -/
def appletRun (w : Nat) (s : State) : State :=
  let x := s.world w
  if x.st = .loading ∧ x.stored ∧ s.time.L % frameL = 0 ∧ running s ∧ keeperAbsent s = false then
    let s := modWorld w (fun x => { x with st := if isFrozen s 2 w then .frozen else .running, loadJob := none }) s
    let s := raiseFrom (source 3 w) 0xD014 4 w (((appletRec? s w).map (·.cab)).getD 0) x.pages.length s
    match x.loadJob with
    | some j => setResult j { status := 0 } s
    | none => s
  else s

/-- A world stops: its pages are cleared and returned, its store slot erased (R383). -/
def stopWorld (w cause : Nat) (s : State) : State :=
  let s := returnPages w (offPair w (endMessages w s))
  let s := modWorld w (fun x => { x with st := .stopped, stopDue := false, stopJob := none, loadJob := none }) s
  raiseFrom (source 3 w) 0xD015 3 w cause 0 { s with wld := { s.wld with store := Tab.del s.wld.store w } }

/-- APPLET_STOP (R383): the world is to stop at the next meter frame boundary. -/
def appletStop (j : Nat) (s : State) : State :=
  match runnable s j 0xA002 with
  | none => s
  | some x => if (s.world (x.desc.par 40 1)).stopDue then s
      else modWorld (x.desc.par 40 1) (fun w => { w with stopDue := true, stopJob := some j }) s

/-- WORLD_STOP: the stop runs at a meter frame boundary. -/
def worldStop (w : Nat) (s : State) : State :=
  let x := s.world w
  if x.stopDue ∧ s.time.L % frameL = 0 ∧ running s then
    let s := match x.loadJob with
      | some j => endJob j 0x7001 0 0 0 s
      | none => s
    let s := stopWorld w 0 s
    match x.stopJob with
    | some j => setResult j { status := 0 } s
    | none => s
  else s

/-- After the key store step of a Dawn: each world whose slot holds its record's image is loaded (R382). -/
def dawnWorlds (s : State) : State :=
  forEach s.car.active.applets (fun a s =>
    match Tab.get? s.wld.store a.world with
    | some img => if Config.sha3 img = a.digest then loadWorld a.world img none true s else raiseFrom (source 3 a.world) 0xD016 4 a.world 0 0 s
    | none => raiseFrom (source 3 a.world) 0xD016 4 a.world 0 0 s) s

/-! ### Scheduling and monitor calls (R377, R378, R384 to R386) -/

/-- Do worlds run on pair 1 now? -/
def monitorUp (s : State) : Bool := s.wld.pair1.up && !s.wld.pair1.halted && !s.glb.hold && running s

/-- WORLD_SWITCH: at a run boundary of the quantum table pair 1 takes the world whose run begins, where it is RUNNING. -/
def worldSwitch (q : Nat) (s : State) : State :=
  if monitorUp s && runBoundary s q then
    let next := (worldAt s q).filter (fun w => (s.world w).st == .running)
    { s with wld := { s.wld with cur := next, yielded := false } }
  else s

/-- Does the world run on pair 1 now, so that it can call the monitor? -/
def calls (s : State) (w : Nat) : Bool := monitorUp s && s.wld.cur == some w && !s.wld.yielded && (s.world w).st == .running

/-- The status a monitor call leaves in a0. -/
def retStatus (w v : Nat) (s : State) : State := modWorld w (fun x => { x with a0 := v }) s

/-- A world violation: the world is frozen, its messages end (R375, R386). -/
def freezeWorld (w cause addr : Nat) (s : State) : State :=
  let s := freezeMaster 2 w cause addr 0 none s
  modWorld w (fun x => { x with st := .frozen }) (offPair w (endMessages w s))

/-- YIELD: the rest of the run idles. -/
def yield (w : Nat) (s : State) : State :=
  if calls s w then retStatus w 0 { s with wld := { s.wld with yielded := true } } else s

/-- MSG_RECV: the message in the inbox, or EMPTY. -/
def msgRecv (w : Nat) (s : State) : State :=
  if calls s w then
    match (s.world w).inbox with
    | some m => if (s.world w).taken then retStatus w 1 s
        else modWorld w (fun x => { x with a0 := 0, a1 := m.len, a2 := m.seq, taken := true }) s
    | none => retStatus w 1 s
  else s

/-- MSG_DONE: the inbox is free. -/
def msgDone (w : Nat) (s : State) : State :=
  if calls s w then modWorld w (fun x => { x with a0 := 0, inbox := none, taken := false }) s else s

/-- Virtual address of a world's outbox and inbox. -/
def outboxAddr (x : World) : Nat := (x.codePages + x.dataPages + 1) * 4096
def inboxAddr (x : World) : Nat := (x.codePages + x.dataPages) * 4096

/-- MSG_SEND: the first `len` bytes of the outbox answer the oldest message without a reply; `out` is what the applet has
written to its outbox. A length of 0, for which no status is given, answers nothing and leaves a0 open. -/
def msgSend (w len : Nat) (out : List Byte) (s : State) : State :=
  if calls s w then
    let s := worldWrite w (outboxAddr (s.world w)) (out.take 4096) s
    if 4088 < len then retStatus w 3 s
    else if len = 0 then drawFree 1 (retStatus w (byteAt (freeBytes s 1) 0) s)
    else
      match (s.world w).awaiting with
      | [] => retStatus w 2 s
      | m :: rest =>
        let s := modWorld w (fun x => { x with a0 := 0, awaiting := rest }) s
        match s.jobOf m.job with
        | none => s
        | some x =>
          if x.finished then s
          else if x.desc.outCap < len then failJob m.job 0x2014 len 0 0 s
          else setResult m.job { status := 0, output := (out ++ zeros len).take len, w0 := len } s
  else s

/-- LEDGER_VIEW (R385): the 64-byte view of a lane of the world's cabinet, written to the buffer. -/
def ledgerViewCall (w lane buf : Nat) (s : State) : State :=
  if calls s w then
    if !bufferOk s w buf 64 then freezeWorld w 0x11 buf s
    else if s.car.active.lanes.any (fun l => l.lane == lane && some l.cab == (appletRec? s w).map (·.cab)) then
      retStatus w 0 (worldWrite w buf (ledgerView s lane) s)
    else retStatus w 2 s
  else s

/-- TIME (R385): ledger time, LDG_TIME_STATUS, C and P, 8 bytes each. -/
def timeCall (w buf : Nat) (s : State) : State :=
  if calls s w then
    if !bufferOk s w buf 32 then freezeWorld w 0x11 buf s
    else
      let bs := leBytes 8 s.time.ledgerUs ++ leBytes 8 (timeStatus s.time) ++ leBytes 8 s.ldg.closed ++ leBytes 8 (periodUs s)
      retStatus w 0 (worldWrite w buf bs s)
  else s

/-- L_NOW. -/
def lNow (w : Nat) (s : State) : State := if calls s w then modWorld w (fun x => { x with a0 := 0, a1 := s.time.L }) s else s

/-- BAD_CALL (R384): a call number outside the table. -/
def badCall (w number addr : Nat) (s : State) : State :=
  if calls s w && !decide (1 ≤ number ∧ number ≤ 7) then freezeWorld w 0x13 addr s else s

/-- WORLD_VIOLATION (R375): an access the entries do not permit, or a misaligned one (`kind` none). -/
def worldViolation (w : Nat) (kind : Option Access) (vaddr : Nat) (s : State) : State :=
  if calls s w then
    match kind with
    | none => freezeWorld w 0x14 vaddr s
    | some a => if permits s w a vaddr then s else freezeWorld w (accessCause a) vaddr s
  else s

/-- A world's data pages: the physical pages of its data. -/
def dataPhys (x : World) : List Nat := (x.pages.drop x.codePages).take x.dataPages

/-- A world restarts from its entry offset with cleared data; one that holds no pages stays stopped (DEDUCED, log 46). -/
def restartWorld (w : Nat) (s : State) : State :=
  let s := endMessages w (clearPages (dataPhys (s.world w)) s)
  modWorld w (fun x => { x with st := if x.pages.isEmpty then .stopped else .running, pc := x.entry, sp := (x.codePages + x.dataPages) * 4096, a0 := 0, a1 := 0, a2 := 0 }) s

/-- The messages of a world that wait and whose jobs still stand. -/
def waiting (s : State) (w : Nat) : List Nat := (s.world w).queue.filter (fun j => (s.jobOf j).any (fun x => !x.finished))

/-- APPLET_MESSAGE (R386): queued; a ninth ends NO_SLOT (DEDUCED, log 46). -/
def appletMessage (j : Nat) (s : State) : State :=
  match runnable s j 0xA003 with
  | none => s
  | some x =>
    let w := x.desc.par 40 1
    let q := s.world w
    if q.queue.contains j || q.awaiting.any (fun m => m.job == j) then s
    else if 8 ≤ (waiting s w).length then failJob j 0x4001 0 0 0 s
    else modWorld w (fun y => { y with queue := y.queue ++ [j] }) s

/-- MESSAGE_DELIVERY: Keeper writes the oldest queued message into a free inbox of a running world. -/
def messageDelivery (w : Nat) (s : State) : State :=
  let y := s.world w
  match waiting s w with
  | [] => s
  | j :: rest =>
    if y.inbox.isSome || keeperAbsent s || y.st != .running then s
    else
      let bs := ((s.jobOf j).map (·.input)).getD []
      let m : Msg := { job := j, len := bs.length, seq := y.nextSeq, L := s.time.L }
      let s := worldWrite w (inboxAddr y) bs s
      modWorld w (fun y => { y with
        queue := rest, inbox := some m, taken := false, awaiting := y.awaiting ++ [m], nextSeq := (y.nextSeq + 1) % 2 ^ 32 }) s

/-- MESSAGE_TIMEOUT: a message without a reply one orbit after delivery ends WITHDRAWN. -/
def messageTimeout (w : Nat) (s : State) : State :=
  let late := (s.world w).awaiting.filter (fun m => decide (m.L + orbitL ≤ s.time.L))
  let s := modWorld w (fun y => { y with awaiting := y.awaiting.filter (fun m => decide (s.time.L < m.L + orbitL)) }) s
  forEach late (fun m => endJob m.job 0x7001 0 0 0) s

/-! ### Lockstep pairs (R387 to R393) -/

/-- A pair. -/
def pairOf (s : State) (p : Nat) : Pair := if p = 0 then s.wld.pair0 else s.wld.pair1
/-- Change a pair. -/
def modPair (p : Nat) (g : Pair → Pair) (s : State) : State :=
  if p = 0 then { s with wld := { s.wld with pair0 := g s.wld.pair0 } } else { s with wld := { s.wld with pair1 := g s.wld.pair1 } }

/-- A load whose job Keeper's absence ends is undone: the world is STOPPED with its pages cleared (R391) (DEDUCED, log 46). -/
def dropLoads (s : State) : State :=
  forEach ((s.wld.worlds.filter (fun e => e.2.st == .loading && e.2.loadJob.isSome)).map (·.1)) (fun w s =>
    modWorld w (fun x => { x with st := .stopped, loadJob := none }) (returnPages w s)) s

/-- Keeper goes absent (R391): management jobs that have not begun their commit phase end WITHDRAWN, open requests are
cancelled. -/
def keeperLost (s : State) : State :=
  let s := dropLoads s
  let s := modPair 0 (fun p => { p with absentL := some (p.absentL.getD s.time.L) }) s
  let s := abortBist 4 s
  let s := cancelWhere (fun _ => true) s
  forEach ((liveJobs s).filter (fun e => e.2.desc.cls == 3 && !inCommit e.2)) (fun e => endJob e.1 0x7001 0 0 0) s

/-- A restart attempt ends without success: outcome 1 mismatch, 2 timed out. -/
def attemptFailed (p outcome : Nat) (s : State) : State :=
  raiseEv 0xD011 4 p (pairOf s p).attempts outcome (modPair p (fun x => { x with restartL := none, downL := some s.time.L }) s)

/-- LOCKSTEP_MISMATCH (R388): `cause` 0 compare, 1 delay-line parity. -/
def lockstepMismatch (p cause : Nat) (s : State) : State :=
  let x := pairOf s p
  if 1 < p ∨ (x.up = false ∧ x.restartL = none) then s
  else
    let s := raiseEv 0xD010 5 p cause (if p = 0 then 0 else s.wld.cur.getD 0) s
    if x.up then
      let s := modPair p (fun x => { x with up := false, halted := false, downL := some s.time.L }) s
      if p = 0 then keeperLost s else { s with wld := { s.wld with cur := none } }
    else attemptFailed p 1 s

/-- A comparator is dead: HOLD follows at the next boundary; `cause` 0 probe, 1 rail fault (R388, R389). -/
def comparatorDead (p cause : Nat) (s : State) : State :=
  if 1 < p ∨ (pairOf s p).dead then s
  else
    let s := raiseEv 0xD012 6 p cause 0 (modPair p (fun x => { x with dead := true }) s)
    { s with wld := { s.wld with holdDue := some (s.wld.holdDue.getD s.time.L) } }

/-- COMPARATOR_PROBE (R389): at L mod 2^20 = 2^19; the probe rail (10, 01, 00 or 11 as 2, 1, 0, 3) and the core cycles it took. -/
def comparatorProbe (p rail cycles : Nat) (s : State) : State :=
  if s.time.L % orbitL = 2 ^ 19 ∧ (pairOf s p).up ∧ !(rail == 1 && decide (cycles ≤ 4)) then comparatorDead p 0 s else s

/-- PAIR_RESTART (R390): an attempt starts, in a transit after the one in which the pair stopped or its last attempt failed; pair 1 stays
stopped in HOLD (R394) (DEDUCED, log 47). -/
def pairRestart (p : Nat) (s : State) : State :=
  let x := pairOf s p
  if p ≤ 1 ∧ x.up = false ∧ x.restartL = none ∧ (s.glb.phase = .run ∨ s.glb.phase = .dawn) ∧
      x.downL.all (fun l => decide (l < s.time.L)) ∧ !((umbral s && (p == 1 || s.tam.zeroDue.isSome)) || (s.glb.hold && p == 1)) then
    modPair p (fun x => { x with restartL := some s.time.L, attempts := saturate 16 (x.attempts + 1) }) s
  else s

/-- The restarted Keeper resolves an open commit intent as R120 does: it carries a written copy forward and abandons a torn
one. -/
def resolveIntent (s : State) : State :=
  match s.car.intent with
  | none => s
  | some i =>
    let k := i.firstCopy
    if isOk (checkCopy s (copyOf s k)) && matchesIntent s (copyOf s k) then
      { s with car := { s.car with intent := some { i with written := true } } }
    else abandonIntent 0 s

/-- PAIR_RESTART_COMPLETE (R390): the pair is up. Pair 1 restarts its RUNNING worlds; `bad` are those whose code fails its check. -/
def pairRestartComplete (p : Nat) (bad : List Nat) (s : State) : State :=
  let x := pairOf s p
  if x.restartL = none then s
  else
    let s := raiseEv 0xD011 4 p x.attempts 0 (modPair p (fun x => { x with up := true, restartL := none, absentL := none }) s)
    if p = 0 then resolveIntent s
    else
      forEach ((s.wld.worlds.filter (fun e => e.2.st == .running)).map (·.1)) (fun w s =>
        if bad.contains w then
          raiseFrom (source 3 w) 0xD015 3 w 2 0 (modWorld w (fun x => { x with st := .stopped }) (returnPages w (endMessages w s)))
        else restartWorld w s) s

/-- PAIR_RESTART_TIMEOUT: an attempt not complete within one orbit fails (DEDUCED, log 47). -/
def pairRestartTimeout (p : Nat) (s : State) : State :=
  match (pairOf s p).restartL with
  | some l => if l + orbitL ≤ s.time.L then attemptFailed p 2 s else s
  | none => s

/-- WLD_ABSENT_TRANSITS. -/
def absentTransits (s : State) : Nat :=
  match s.wld.pair0.absentL with
  | some l => if keeperAbsent s then saturate 32 (s.time.L - l) else 0
  | none => 0

/-- KEEPER_ABSENT_CLOSE (R392): four orbits of absence close admission (DEDUCED, log 47). -/
def keeperAbsentClose (s : State) : State :=
  if keeperAbsent s ∧ 4 * orbitL ≤ absentTransits s ∧ s.orr.admitOpen then
    raiseEv 0xD013 6 (absentTransits s) s.wld.pair0.attempts 0
      (watched (fun s => { s with orr := { s.orr with admitOpen := false }, glb := { s.glb with keeperClosed := true } }) s)
  else s

/-- ADMISSION_REOPEN (R392): at the boundary after Keeper returns; a worn counter 0x00 keeps admission closed (R40). -/
def admissionReopen (s : State) : State :=
  if s.glb.keeperClosed && !keeperAbsent s then
    watched (fun s => { s with orr := { s.orr with admitOpen := !s.glb.counterWorn && !s.time.genStopped }, glb := { s.glb with keeperClosed := false } }) s
  else s

/-- DEBUG_PAIR_HALT and DEBUG_PAIR_RESUME (R455): pair 0 needs KEEPER_DEBUG, pair 1 WORLD_DEBUG. -/
def mayDebug (s : State) (p : Nat) : Bool := bit s.lcs.rights (if p = 0 then 5 else 4)

def debugPairHalt (p : Nat) (s : State) : State :=
  if p ≤ 1 ∧ mayDebug s p ∧ (pairOf s p).up ∧ !(pairOf s p).halted then
    let s := modPair p (fun x => { x with halted := true }) s
    if p = 0 then keeperLost s else s
  else s

def debugPairResume (p : Nat) (s : State) : State :=
  if p ≤ 1 ∧ (pairOf s p).halted then
    modPair p (fun x => { x with halted := false, absentL := if x.up then none else x.absentL }) s
  else s

/-- What the applet commands ask of a descriptor (R380, R383, R386). -/
def worldInfo (s : State) (cab : Nat) (d : Desc) : OpInfo :=
  let own := if (appletRec? s (d.par 40 1)).any (fun r => r.cab == cab) then none else some (0x3001, 40, 0)
  match d.opcode with
  | 0xA001 =>
    { plane := .M, usesIn := true, fields := reservedFrom d 41, owner := own,
      length := if 64 ≤ d.inLen ∧ d.inLen ≤ 1048576 then none else some (0x5001, 20, if d.inLen < 64 then 0 else 1048576) }
  | 0xA002 => { plane := .M, fields := reservedFrom d 41, owner := own }
  | _ =>
    { plane := .M, usesIn := true, usesOut := true, fields := reservedFrom d 41, owner := own,
      length := if 1 ≤ d.inLen ∧ d.inLen ≤ 4088 then none else some (0x5001, 20, if d.inLen = 0 then 0 else 4088) }

/-- WLD_STATUS. -/
def wldStatus (s : State) : Nat :=
  flag (!keeperAbsent s) + flag s.wld.pair1.up * 2 + flag s.glb.keeperClosed * 4 + flag (s.wld.pair0.dead || s.wld.pair1.dead) * 8
    + flag s.wld.holdLatched * 16 + flag s.wld.fullBist * 32

/-- WLD_WORLD_STATE. -/
def worldStateWord (s : State) (w : Nat) : Nat :=
  let x := s.world w
  let st := match x.st with
    | .empty => 0 | .loading => 1 | .running => 2 | .stopped => 3 | .frozen => 4
  st + ((appletRec? s w).map (·.cab)).getD 0 * 256 + x.pages.length * 65536

/-- WLD_WORLD_ALLOT. -/
def worldAllot (s : State) (w : Nat) : Nat :=
  let q := (((quantaTable s).find? (fun e => e.1 == w)).map (·.2.2)).getD 0
  let v := (((wayTable s).find? (fun e => e.1 == w)).map (·.2)).getD (0, 0)
  q + v.1 * 65536 + v.2 * 2 ^ 24

end Sys2Proof.Machine
end

