-- ==== Sys2Proof/Machine/Tamper.lean ====
section
/-! DEFINITION. Tamper monitor, alarm and zeroization (spec/19_tamper.md R425 to R445). -/

namespace Sys2Proof.Machine

/-! ### The monitor (R425 to R433) -/

/-- A tamper input's record. -/
def State.tin (s : State) (n : Nat) : TamInput := Tab.getD s.tam.inputs n {}
/-- Change an input. -/
def modTin (n : Nat) (g : TamInput → TamInput) (s : State) : State := { s with tam := { s.tam with inputs := Tab.modify s.tam.inputs n {} g } }

/-- Load the always-on copy of the tamper configuration (R425): an input with no record keeps the defaults. An input that comes
into use counts only after 2 stable samples (R132). -/
def loadTamper (recs : List TamperRec) (cover : Bool) (s : State) : State :=
  let s := forEach (List.range 8) (fun n s =>
    match recs.find? (fun r => r.input == n) with
    | some r => modTin n (fun i =>
        if r.unused then { i with d := sampleThreshold r.ms, unused := true, a := {}, b := {}, len := 0, alarmed := false }
        else { i with d := sampleThreshold r.ms, unused := false }) s
    | none => modTin n (fun i => { i with d := 656, unused := false }) s) s
  { s with tam := { s.tam with cover := cover, board := if cover then s.tam.board else { s.tam.board with hist := [], due := false } } }

/-- One sample of a channel: the filtered level follows two equal samples (R431). -/
def channelTick (c : Channel) (raw : Bool) : Channel :=
  { raw := some raw, filt := if c.raw = some raw then some raw else c.filt }

/-- Channel bits of a discrepancy's source (R445). -/
def channelBits (ta tb : Bool) : Nat := flag ta * 256 + flag tb * 512

/-- R432 on the filtered levels of one input at a tick (DEDUCED, log 52). -/
def disagreeTick (tick : Nat) (ta tb : Bool) (i : TamInput) : TamInput :=
  if ta && tb then { i with trippedDue := i.trippedDue || !i.alarmed, alarmed := true, len := 0 }
  else if ta != tb then
    let len := i.len + 1
    let hit := decide (len = i.d) && !i.alarmed
    { i with len := len, start := if len = 1 then tick else i.start, alarmed := i.alarmed || hit,
             discDue := if hit then some (channelBits ta tb) else i.discDue }
  else
    { i with briefDue := if 0 < i.len ∧ i.alarmed = false then i.briefDue ++ [(i.start, i.len)] else i.briefDue, len := 0, alarmed := false }

/-- One sample of an input in use (R431, R432); it counts once both channels have their first stable level. -/
def inputTick (tick : Nat) (ra rb : Bool) (i : TamInput) : TamInput :=
  if i.unused then i
  else
    let i := { i with a := channelTick i.a ra, b := channelTick i.b rb }
    match i.a.filt, i.b.filt with
    | some ta, some tb => disagreeTick tick ta tb i
    | _, _ => i

/-- Is a meander in alarm: 2 mismatches within the last 4 ticks (R427)? -/
def meanderAlarm (h : List Bool) : Bool := decide (2 ≤ ((h.take 4).filter id).length)

/-- One tick of a meander: the LFSR of x^31 + x^28 + 1 advances, the bit it brings is driven, then its complement; the two sense
samples are compared (R427) (DEDUCED, log 53). -/
def meanderTick (sense1 sense2 : Bool) (m : Meander) : Meander :=
  let b := bit m.lfsr 30 != bit m.lfsr 27
  let bad := sense1 != b || sense2 == b
  let hist := (bad :: m.hist).take 4
  { lfsr := (m.lfsr * 2 + flag b) % 2 ^ 31, hist := hist, count := if bad then saturate 8 (m.count + 1) else m.count,
    due := m.due || (meanderAlarm hist && !meanderAlarm m.hist) }

/-- TAMPER_MONITOR_SAMPLE: one tick. `a` and `b` are the tripped channels as maps, `lid` and `board` the sense samples, then the
readings of temperature (1/16 °C), always-on supply (mV) and the sensor conditions present. -/
def tamperSample (a b : Nat) (lid board : Bool × Bool) (temp : Int) (mv present : Nat) (s : State) : State :=
  if !s.tam.up then s
  else
    let t := s.tam
    let tick := t.ticks + 1
    let ins := (List.range 8).foldl (fun ins n => Tab.modify ins n {} (inputTick tick (bit a n) (bit b n))) t.inputs
    { s with tam := { t with
        ticks := tick, edges := min 1024 (t.edges + 1), inputs := ins, lid := meanderTick lid.1 lid.2 t.lid,
        board := if t.cover then meanderTick board.1 board.2 t.board else t.board,
        temp := temp, mv := mv, lowSupply := decide (mv < 2400), present := present % 32 } }

/-- One brief disagreement is logged, or counted in NIGHT; a third within an orbit warns (R432, R433). -/
def reportBrief (n : Nat) (e : Nat × Nat) (s : State) : State :=
  let i := s.tin n
  let span := match i.starts with
    | [_, f] => if e.1 - f < 281475 then some (e.1 - f) else none
    | _ => none
  let i' := { i with starts := (e.1 :: i.starts).take 2 }
  if s.glb.phase = .night then
    modTin n (fun _ => { i' with
      nightCount := i.nightCount + 1, nightMax := max i.nightMax e.2, nightRep := i.nightRep ++ span.toList }) s
  else
    let s := raiseEv 0xF011 2 n e.2 i.d (modTin n (fun _ => i') s)
    match span with
    | some k => raiseEv 0xF012 4 n 3 k s
    | none => s

/-- DISCREPANCY_BRIEF: the brief disagreements of an input that have ended. -/
def discrepancyBrief (n : Nat) (s : State) : State :=
  if 8 ≤ n then s
  else
    let es := (s.tin n).briefDue
    forEach es (reportBrief n) (modTin n (fun i => { i with briefDue := [] }) s)

/-- At wake the briefs of the NIGHT are logged (R433). -/
def logNight (s : State) : State :=
  forEach (List.range 8) (fun n s =>
    let i := s.tin n
    let s := if i.nightCount = 0 then s else raiseEv 0xF016 2 n i.nightCount i.nightMax s
    forEach i.nightRep (fun k => raiseEv 0xF012 4 n 3 k) (modTin n (fun i => { i with nightRep := [] }) s)) s

/-! ### What an alarm clears (R437, R459) -/

/-- The commit words of the key store are erased; its banks stay in external flash. -/
def loseWords (k : KeyState) : KeyState := { k with groups := Tab.mapAll k.groups (fun _ g => { g with word := 0 }) }

/-- The whole vault is erased (R437, R449, R451). -/
def eraseVault (s : State) : State :=
  eraseMeshVault { s with
    key := { loseWords s.key with cskBanks := [], cskLast := [], gens := [], vaultEmpty := true }
    car := { s.car with siteBanks := {} } }

/-- The vault secrets are erased; the site record stays (R459). -/
def eraseSecrets (s : State) : State :=
  eraseMeshVault { s with key := { loseWords s.key with cskBanks := [], vaultEmpty := true } }

/-- Every register and working memory of the banks is cleared, and the drawer states of the cipher lanes (R252, R263, R280, R308). -/
def clearBanks (s : State) : State :=
  { s with job := { s.job with jobs := Tab.mapAll s.job.jobs (fun _ x =>
      { x with bank := {}, drawer := if x.engine = 0 then [] else x.drawer }) } }

/-- The drawers are cleared with the rest of internal SRAM (R73, R437). -/
def clearDrawers (s : State) : State := { s with job := { s.job with jobs := Tab.mapAll s.job.jobs (fun _ x => { x with drawer := [] }) } }

/-- The umbra line (R437): engine registers, DRBG, context keys and mesh link keys. -/
def umbraLine (s : State) : State :=
  let s := rngClear (clearBanks { s with eng := { s.eng with ctxKeys := [] } })
  updateRef (forEach (s.msh.members.filter (fun e => e.2.st != .frozen)) (fun e => closeLink e.1 .down) s)

/-- Every ciphertext handle record is cleared (R291). -/
def clearHandles (p : HeRec → Bool) (s : State) : State :=
  forEach ((s.eng.handles.filter (fun e => p e.2)).map (·.1)) freeRecord s

/-- Every result slot, handle record and key of internal SRAM goes; slots that held keys advance (R214, R459). -/
def clearKeyStore (s : State) : State :=
  let s := forEach (s.key.slots.map (·.1)) removeKey s
  clearHandles (fun _ => true) { s with eng := { s.eng with results := [] } }

/-- Internal SRAM is cleared (R437): keys, result slots, handle records, drawers, staged image, world memory. -/
def clearSram (s : State) : State :=
  let s := clearHandles (fun _ => true) (clearDrawers { s with key := { s.key with slots := [], draws := [], preps := [], eraseDue := [] }, eng := { s.eng with results := [] } })
  { s with
    car := { s.car with staged := if s.car.intent.isSome then s.car.staged else none }
    wld := { s.wld with table := [], mem := [], cur := none,
                        worlds := Tab.mapAll s.wld.worlds (fun _ w => { w with
                          st := if w.st = .empty then .empty else if w.st = .frozen then .frozen else .stopped, pages := [], codePages := 0, dataPages := 0,
                          queue := [], inbox := none, awaiting := [], image := [], loadJob := none, stopJob := none, stopDue := false }) } }

/-- The FINAL status and words of a job that a break meets (R202, R438): its own where its burst was complete, torn where it was
under way, WITHDRAWN otherwise. -/
def brokenAnswer (x : Job) : Nat × Nat × Nat × Nat :=
  match x.burst, x.result with
  | some _, some r => if burstBroken x then (0x7003, 0, 0, 0) else (r.status, r.w0, r.w1, r.w2)
  | _, _ => (0x7001, 0, 0, 0)

/-- Every job that holds a slot gets its FINAL entry in the transits that follow (R438, R497); at once where no transit runs. A
NIGHT_ENTER among them takes the device to NIGHT no more (R1, R3). -/
def breakJobs (s : State) : State :=
  let s := { s with dov := { s.dov with reqs := [] }, time := { s.time with stepReq := none, stepDue := [] }, pwr := { s.pwr with nightJob := none } }
  forEach (liveJobs s) (fun e s =>
    let a := brokenAnswer e.2
    let s := if burstBroken e.2 then raiseEv 0x4012 5 e.2.desc.tag.toNat e.2.fn (outputLength e.2 0x7003) s else s
    if s.time.genRunning then
      modJob e.1 (fun x => { x with
        answer := some a, plan := [], park := none, deferDue := false, staged := false,
        result := if x.burst.isSome then x.result else none, st := if x.st = .parked then .saved else x.st }) s
    else endJob e.1 a.1 a.2.1 a.2.2.1 a.2.2.2 s) s

/-- Both pairs are held in reset; Keeper's own waits go. -/
def pairsDown (s : State) : State :=
  let s := modPair 0 (fun p => { p with up := false, restartL := none, halted := false, absentL := some (p.absentL.getD s.time.L) }) s
  modPair 1 (fun p => { p with up := false, restartL := none, halted := false }) s

/-! ### Alarms (R434 to R440, R445) -/

/-- The L of an instant: of the transit, or the always-on copy where none runs (R437). -/
def alarmInstantL (s : State) : Nat := if s.time.genRunning then s.time.L else s.time.aonL

/-- Are the core supplies on? In NIGHT, and before a power good that a supply has yet to reach, they may not be (R443). -/
def coreOn (s : State) : Bool :=
  match s.glb.phase with
  | .night => false
  | .off => s.pwr.cause == some 1 || s.pwr.cause == some 2 || s.pwr.cause == some 3 || s.pwr.cause == some 4 || s.pwr.cause == some 6
  | .pwrfail => !s.tam.disarmed
  | _ => true

/-- Are the main-armed sensors armed (R434, R435)? -/
def mainArmed (s : State) : Bool := coreOn s && !s.tam.disarmed

/-- The alarm in the always-on domain: latch, counts, vault; a repeat changes only the count (R440) (DEDUCED, log 52). -/
def latchAlarm (cls src : Nat) (s : State) : State :=
  let L := alarmInstantL s
  let since := if s.time.genRunning then 0 else saturate 32 (s.tam.ticks - s.tam.aonTick)
  let t := s.tam
  let s := eraseVault { s with tam := { t with count := saturate 32 (t.count + 1), vaultErased := true } }
  if t.latched then
    let s := if coreOn s then s else { s with tam := { s.tam with unseen := true } }
    if t.repeats.contains (cls, src) ∨ s.glb.phase = .night then s
    else raiseEv 0xF013 5 (cls + src * 65536) s.tam.count 0 { s with tam := { s.tam with repeats := s.tam.repeats ++ [(cls, src)] } }
  else
    { s with tam := { s.tam with
        latched := true, unseen := !coreOn s, lastClass := cls, lastSource := src, alarmL := L, alarmLog := some (cls, src, L, since) } }

/-- Close the invasive debug rights (R455). -/
def closeInvasive (s : State) : State := { s with lcs := { s.lcs with rights := s.lcs.rights % 16, rightsDue := none } }

/-- TAMPER_ALARM to every bound function, or ALARM_AT_DAWN kept for function 0 (R438, R443). -/
def alarmNotice (cls src L : Nat) (s : State) : State :=
  if s.orr.admittedOnce then
    forEach ((boundFns s).filter (fun f => (s.cqOf f 0).st == .active)) (notify 0x0007 cls src (lo32 L) (hi32 L) 0) s
  else { s with tam := { s.tam with dawnNotice := some (cls, src, L, eventL s) } }

/-- The alarm instant A and what follows from it (R437 to R440), in every state in which a core supply is on; without one the
always-on domain alone acts, and the alarm stays unseen until a Dawn (R443). -/
def alarm (cls src : Nat) (s : State) : State :=
  let first := !s.tam.latched
  let L := alarmInstantL s
  let s := latchAlarm cls src s
  if coreOn s then
    let s := watched (fun s => { s with glb := { s.glb with umbra := true, dark := false } }) (closeInvasive (abortBist 0 s))
    let s := if first then alarmNotice cls src L s else s
    let s := pairsDown (breakJobs (umbraLine s))
    let s := { s with msh := { s.msh with restores := [], rounds := [], tunnel := [] } }
    let s := clearSram s
    { s with tam := { s.tam with zeroDue := some L, unseen := false } }
  else s

/-- INPUT_TRIPPED. -/
def inputTripped (n : Nat) (s : State) : State :=
  if n < 8 ∧ (s.tin n).trippedDue then alarm 1 n (modTin n (fun i => { i with trippedDue := false }) s) else s

/-- INPUT_DISCREPANCY. -/
def inputDiscrepancy (n : Nat) (s : State) : State :=
  if 8 ≤ n then s
  else match (s.tin n).discDue with
    | some b => alarm 2 (n + b) (modTin n (fun i => { i with discDue := none }) s)
    | none => s

/-- ESCUTCHEON: 0 lid, 1 board cover. -/
def escutcheon (m : Nat) (s : State) : State :=
  if m = 0 ∧ s.tam.lid.due then alarm 3 0 { s with tam := { s.tam with lid := { s.tam.lid with due := false } } }
  else if m = 1 ∧ s.tam.board.due then alarm 3 1 { s with tam := { s.tam with board := { s.tam.board with due := false } } }
  else s

/-- Sources of a sensor class (Formats). -/
def sensorSources (cls : Nat) : Nat := if cls = 4 then 7 else if cls = 5 then 2 else if cls = 6 then 3 else if cls = 7 then 32 else if cls = 8 then 3 else 0

/-- Is the sensor armed in every state rather than under main power alone (R434, R527)? -/
def alwaysArmed (s : State) (cls src : Nat) : Bool :=
  (cls == 4 && src == 6) || cls == 5 || cls == 7 || (cls == 6 && src == 2 && s.tam.edges == 1024)

/-- SENSOR_ALARM (R434): a qualified condition of an armed sensor. -/
def sensorAlarm (cls src : Nat) (s : State) : State :=
  if s.tam.up && decide (src < sensorSources cls) && (alwaysArmed s cls src || (mainArmed s && !(cls == 6 && src == 2))) then alarm cls src s else s

/-- TAM_ALARM is logged with the values of the alarm (R445). -/
def logAlarm (p3 : Nat) (s : State) : State :=
  match s.tam.alarmLog with
  | none => s
  | some (cls, src, L, since) =>
    let s := { s with tam := { s.tam with alarmLog := none } }
    if s.evt.queue.length < 1024 then
      { s with evt := { s.evt with queue := s.evt.queue ++
          [{ code := 0xF010, sev := 7, source := source 6 0, L := L, p1 := cls + src * 65536, p2 := since, p3 := p3 }] } }
    else countLost 0xF010 s

/-- Every ring and status block that is not OFF goes to FAULT with PAGE_REVOKED (R139, R438). -/
def revokeRings (s : State) : State :=
  forEach s.hlk.fns (fun e s =>
    let f := e.1
    let up := fun (st : RingState) => st == .active || st == .draining
    let s := forEach ((e.2.sqs.filter (fun q => up q.2.st)).map (·.1)) (fun n => faultSq f n 0x0A) s
    let s := forEach ((e.2.cqs.filter (fun q => up q.2.st)).map (·.1)) (fun n => faultCq f n 0x0A) s
    if e.2.sbEnabled then ringFaultEvent f 32 0x0A (modFn f (fun x => { x with sbEnabled := false }) s) else s) s

/-- ZEROIZE_COMPLETE (R437, R438): at the boundary after the last entry, the entries being written from the transit after A on, or 256
transits after A, the page owner table is cleared and pair 0 restarts; `vaultOk` and `sramOk` say that the steps were complete in time. -/
def zeroizeComplete (vaultOk sramOk : Bool) (s : State) : State :=
  match s.tam.zeroDue with
  | none => s
  | some a =>
    if s.time.L < a + 2 ∨ ((liveJobs s).any (fun e => e.2.answer.isSome) ∧ s.time.L < a + 256) then s
    else
      let s := forEach ((liveJobs s).filter (fun e => e.2.answer.isSome)) (fun e => dropJob e.1) s
      let s := revokeRings { s with job := { s.job with pot := [], wanted := [] } }
      let s := logAlarm (flag vaultOk + flag sramOk * 2) { s with tam := { s.tam with zeroDue := none } }
      pairRestart 0 s

/-- ALARM_AT_DAWN once CQ 0 of function 0 is ACTIVE (R443). -/
def alarmAtDawn (s : State) : State :=
  match s.tam.dawnNotice with
  | some (cls, src, L, raised) =>
    if (s.cqOf 0 0).st = .active then
      holdNotice 0 { type := 0x0006, subject := cls, p0 := src, p1 := lo32 L, p2 := hi32 L, p3 := 0, raisedL := raised }
        { s with tam := { s.tam with dawnNotice := none } }
    else s
  | none => s

/-! ### Supplies (R435, R436, R527) -/

/-- LOW_BATTERY (R436): once per Dawn; in NIGHT it waits for the wake. -/
def lowBattery (mv : Nat) (s : State) : State :=
  if !s.tam.up || decide (2400 ≤ mv) then s
  else
    let s := { s with tam := { s.tam with lowSupply := true, mv := mv } }
    if s.glb.phase = .night then { s with tam := { s.tam with lowNight := some (s.tam.lowNight.getD mv) } }
    else if s.tam.lowLogged then s
    else raiseEv 0xF014 4 mv 0 0 { s with tam := { s.tam with lowLogged := true } }

/-- AON_POWER_LOSS (R436): the vault and every always-on register lose their contents. -/
def aonPowerLoss (s : State) : State :=
  let s := eraseVault s
  { s with
    tam := { up := false, edges := 0 }
    wld := { s.wld with holdLatched := false }
    bst := { s.bst with fullNext := false }
    time := { s.time with aonL := 0, aonTime := none }
    pwr := { s.pwr with fails := 0, causes := [], sinceLedger := 0, aonLost := true, wakeDelay := 0, cause := if s.glb.phase = .night then none else s.pwr.cause }
    glb := { s.glb with pwrReq := true, phase := if s.glb.phase = .night then .off else s.glb.phase } }

/-- A seed of 31 bits other than 0 from 4 free bytes (DEDUCED, log 53). -/
def lfsrSeed (bs : List Byte) : Nat := leAt bs 0 4 % (2 ^ 31 - 1) + 1

/-- ALWAYS_ON_POWER_UP (R425, R428, R527): the defaults, and LFSR seeds from the RC oscillator's jitter. -/
def alwaysOnPowerUp (s : State) : State :=
  if s.tam.up then s
  else
    let bs := freeBytes s 8
    drawFree 8 { s with tam := { lid := { lfsr := lfsrSeed bs }, board := { lfsr := lfsrSeed (bs.drop 4) }, up := true, edges := 0 } }

/-- SENSOR_DISARM (R435, R497): 2 ms after PWR_FAIL_N the main sensors are disarmed, the umbra line is driven, the device holds
itself in reset, and what was not written is lost (DEDUCED, log 52) (DESIGN CHOICE, log 62). -/
def sensorDisarm (s : State) : State :=
  if s.glb.phase = .pwrfail ∧ s.tam.disarmed = false then
    let s := umbraLine s
    let s := forEach (liveJobs s) (fun e => dropJob e.1) s
    { s with tam := { s.tam with disarmed := true }, time := { s.time with genRunning := false } }
  else s

/-! ### Registers -/

/-- TAM_STATUS. -/
def tamStatus (s : State) : Nat :=
  flag s.tam.latched + flag s.tam.unseen * 2 + flag s.tam.vaultErased * 4 + flag s.tam.lowSupply * 8 + s.tam.lastClass % 16 * 16
    + s.tam.lastSource % 65536 * 65536

/-- TAM_INPUT_STATE. -/
def tamInputs (s : State) : Nat :=
  ((List.range 8).map (fun n =>
    let i := s.tin n
    let ta := i.a.filt == some true
    let tb := i.b.filt == some true
    (flag ta + flag tb * 2 + flag (ta != tb) * 4 + flag i.unused * 8) * 16 ^ n)).sum

/-- TAM_INPUT_CFG and TAM_INPUT_DISAGREE of an input. -/
def tamCfg (i : TamInput) : Nat := i.d % 65536 + flag i.unused * 65536
def tamDisagree (i : TamInput) : Nat := saturate 16 i.len + i.starts.length * 65536

/-- TAM_ESC_STATUS. -/
def tamEsc (s : State) : Nat :=
  1 + flag s.tam.cover * 2 + flag (s.tam.lid.hist.headD false) * 4 + flag (s.tam.board.hist.headD false) * 8 + s.tam.lid.count * 256
    + s.tam.board.count * 65536

/-- TAM_SENSOR_STATUS. -/
def tamSensors (s : State) : Nat := s.tam.present % 32 + flag s.tam.disarmed * 32

/-- TAM_NIGHT_BRIEF. -/
def tamNight (s : State) : Nat := ((List.range 8).map (fun n => min 15 (s.tin n).nightCount * 16 ^ n)).sum

/-- UMBRA_N is low (R442). -/
def umbraLow (s : State) : Bool := s.tam.latched

end Sys2Proof.Machine
end

