-- ==== Sys2Proof/Machine/Effect.lean ====
section
/-! DEFINITION. What every command shares: its effect leaves the queue of waiting commands alone, and it reaches the block only
while the host link, or the core, is there. -/

namespace Sys2Proof.Machine

/-- The outcome of a command whose effect is `t`: the queue stays as it was (DESIGN CHOICE, log 4). -/
def done (s t : State) : Host.Outcome State Fault Refusal := .next { t with pending := s.pending }

/-- A command of a function's host: it reaches the device while the link is up and the function exists on it (R134, R162) (DESIGN CHOICE, log 4). -/
def onHost (f : Nat) (g : State → State) (s : State) : State := if s.hlk.up && fnExists s f then g s else s

/-- A condition inside the core: it is met while the main domains are out of reset (DESIGN CHOICE, log 4). -/
def whenAwake (g : State → State) (s : State) : State :=
  if s.glb.phase = .run ∨ s.glb.phase = .dawn ∨ (s.glb.phase = .pwrfail ∧ s.tam.disarmed = false) then g s else s

end Sys2Proof.Machine
end

