-- ==== Sys2Proof/Machine/ExecBignum.lean ====
section
/-! DEFINITION. Meanings of the commands of the big-number engines (spec/12_bignum.md). -/

namespace Sys2Proof.Machine

/-- BIG_RSA_SIGN (R271). -/
def execBigRsaSign (job : Nat) (ok : Bool) (s : State) : Host.Outcome State Fault Refusal :=
  done s (bigRsaSign job ok s)

/-- BIG_RSA_VERIFY (R266). -/
def execBigRsaVerify (job : Nat) (s : State) : Host.Outcome State Fault Refusal :=
  done s (bigRsaVerify job s)

/-- BIG_RSA_ENCRYPT (R266). -/
def execBigRsaEncrypt (job : Nat) (s : State) : Host.Outcome State Fault Refusal :=
  done s (bigRsaEncrypt job s)

/-- BIG_RSA_DECRYPT (R268). -/
def execBigRsaDecrypt (job : Nat) (ok : Bool) (s : State) : Host.Outcome State Fault Refusal :=
  done s (bigRsaDecrypt job ok s)

/-- BIG_ECDSA_SIGN (R271). -/
def execBigEcdsaSign (job : Nat) (ok : Bool) (s : State) : Host.Outcome State Fault Refusal :=
  done s (bigEcdsaSign job ok s)

/-- BIG_ECDSA_VERIFY (R266). -/
def execBigEcdsaVerify (job : Nat) (s : State) : Host.Outcome State Fault Refusal :=
  done s (bigEcdsaVerify job s)

/-- BIG_ECDH (R268). -/
def execBigEcdh (job : Nat) (ok : Bool) (s : State) : Host.Outcome State Fault Refusal :=
  done s (bigEcdh job ok s)

/-- BIG_EC_EPHEMERAL (R268). -/
def execBigEcEphemeral (job : Nat) (ok : Bool) (s : State) : Host.Outcome State Fault Refusal :=
  done s (bigEcEphemeral job ok s)

/-- BIG_EDDSA_SIGN (R266). -/
def execBigEddsaSign (job : Nat) (ok : Bool) (s : State) : Host.Outcome State Fault Refusal :=
  done s (bigEddsaSign job ok s)

/-- BIG_EDDSA_VERIFY (R266). -/
def execBigEddsaVerify (job : Nat) (s : State) : Host.Outcome State Fault Refusal :=
  done s (bigEddsaVerify job s)

/-- BIG_XDH (R268). -/
def execBigXdh (job : Nat) (ok : Bool) (s : State) : Host.Outcome State Fault Refusal :=
  done s (bigXdh job ok s)

/-- BIG_MODARITH (R276). -/
def execBigModarith (job : Nat) (s : State) : Host.Outcome State Fault Refusal :=
  done s (bigModarith job s)

end Sys2Proof.Machine
end

