-- ==== Sys2Proof/Machine/FnReset.lean ====
section
/-! DEFINITION. Function resets (spec/06_host_transport.md R157, R158): FLR, Bus Master Enable, D3hot, hot reset, link down,
VF Enable. -/

namespace Sys2Proof.Machine

/-- Causes whose reset returns FN_CTRL, FN_ATTN, the MSI-X table and the PBA to their reset values. -/
def resetsConfig (cause : Nat) : Bool := cause == 0 || cause == 4 || cause == 5 || cause == 6 || cause == 7

/-- The configuration space after a reset: what the host programmed goes with the causes that return registers to their reset
values, the error status apart, which is sticky (PRESUMED, log 77); a cleared Bus Master Enable reads 0. -/
def resetCfg (cause : Nat) (c : FnConfig) : FnConfig :=
  if resetsConfig cause then { aer := c.aer } else { c with busMaster := c.busMaster && cause != 1 }

/-- The function's record after a reset: rings OFF, no credits, status block disabled, notices dropped and counted. What of R142 is
logged once per Dawn stays so, and so does the count of losses that no notice has carried yet (R174). -/
def resetFn (cause : Nat) (x : Fn) : Fn :=
  { x with
    sqs := x.sqs.map (fun e => (e.1, { ignoredLogged := e.2.ignoredLogged }))
    cqs := x.cqs.map (fun e => (e.1, { ignoredLogged := e.2.ignoredLogged }))
    sbPage := 0, sbEnabled := false, sbLast := []
    noticeLost := saturate 32 x.held.length, held := [], nextSq := 0
    ctrl := if resetsConfig cause then 0 else x.ctrl
    attn := if resetsConfig cause then 0 else x.attn
    msixTable := if resetsConfig cause then [] else x.msixTable
    msixPba := if resetsConfig cause then 0 else x.msixPba
    d3hot := x.d3hot && !resetsConfig cause
    cfg := resetCfg cause x.cfg }

/-- Steps 4 and 6 of a function reset (R157): every ring is OFF, and the reset is logged. -/
def endReset (r : ResetDue) (s : State) : State :=
  let s := forEach ((s.fnOf r.fn).sqs.map (·.1)) (fun n => releaseCredits r.fn n) s
  raiseFrom (source 1 r.fn) 0x3010 3 r.fn r.cause r.withdrawn (modFn r.fn (resetFn r.cause) s)

/-- The commit phases in progress. -/
def committing (s : State) : List Nat := ((liveJobs s).filter (fun e => inCommit e.2)).map (·.1)

/-- A function reset (R157): the jobs of the function in a commit phase finish it without an entry, every other job ends WITHDRAWN
without one and takes its request and staged image with it; the rest waits until every commit phase in progress has ended (R77). -/
def fnReset (f cause : Nat) (s : State) : State :=
  let ws := (liveJobs s).filter (fun e => e.2.fn == f && !inCommit e.2)
  let s := orphanJobs (fun x => x.fn == f) (pruneWanted (forEach ws (fun e => dropJob e.1) s))
  let r : ResetDue := { fn := f, cause := cause, withdrawn := ws.length, jobs := committing s }
  if r.jobs.isEmpty then endReset r s else { s with hlk := { s.hlk with resetsDue := s.hlk.resetsDue ++ [r] } }

/-- The resets whose commit phases have ended go on (R77). -/
def settleResets (s : State) : State :=
  let still := fun (r : ResetDue) => r.jobs.any (fun j => (committing s).contains j)
  let due := s.hlk.resetsDue.filter (fun r => !still r)
  forEach due endReset { s with hlk := { s.hlk with resetsDue := s.hlk.resetsDue.filter still } }

/-- Every function of the device. -/
def everyFn : List Nat := List.range 65

/-- VF Enable goes from 1 to 0: each VF is reset as it disappears. -/
def clearVfEnable (cause : Nat) (s : State) : State :=
  if s.hlk.vfEnable then
    let s := forEach ((List.range 64).map (· + 1)) (fun f => fnReset f cause) s
    { s with hlk := { s.hlk with vfEnable := false } }
  else s

/-- A reset of one function, for a cause; of function 0 under causes 0 and 7 the VFs go with cause 5. -/
def fnResetEvent (f cause : Nat) (s : State) : State :=
  if fnExists s f then
    let s := fnReset f cause s
    if f = 0 ∧ (cause = 0 ∨ cause = 7) then clearVfEnable 5 s else s
  else s

/-- FLR. -/
def flr (f : Nat) (s : State) : State := fnResetEvent f 0 s

/-- BUS_MASTER_ENABLE_CLEARED. -/
def busMasterCleared (f : Nat) (s : State) : State := fnResetEvent f 1 s

/-- D3HOT_ENTRY. -/
def d3hotEntry (f : Nat) (s : State) : State :=
  if (s.fnOf f).d3hot then s else fnResetEvent f 2 (modFn f (fun x => { x with d3hot := true }) s)

/-- D3HOT_TO_D0. -/
def d3hotToD0 (f : Nat) (s : State) : State :=
  if (s.fnOf f).d3hot then fnResetEvent f 7 (modFn f (fun x => { x with d3hot := false }) s) else s

/-- Every function is reset with cause 4; the VFs leave the link with VF Enable (R157, R158). -/
def resetLinkFns (s : State) : State :=
  let s := forEach everyFn (fun f => fnReset f 4) s
  { s with hlk := { s.hlk with vfEnable := false } }

/-- HOT_RESET (R158): the host link only. -/
def hotReset (s : State) : State := if s.hlk.up then resetLinkFns s else s

/-- LINK_DOWN (R158). -/
def linkDown (s : State) : State :=
  if s.hlk.up then
    let s := resetLinkFns s
    raiseEv 0x3012 4 0 0 0 { s with hlk := { s.hlk with up := false, lanes := 0, gts := 0 } }
  else s

/-- VF_ENABLE_CLEARED. -/
def vfEnableCleared (s : State) : State := clearVfEnable 6 s

/-! ### Configuration space (R133, R134, R155, R156) -/

/-- The number of the path that reaches the configuration space of function 0; function k's is `cfgPath + k`. The manual gives the
contents of the capabilities and not their offsets: the Type 0 header is that of PCI Express, and the model numbers the words of the
capabilities from 0x40 on (PRESUMED, log 77). -/
def cfgPath : Nat := 256

/-- A word of a function's configuration space: identity, command, class code, subsystem, then Device Control, Device Control 2, MSI-X
Message Control, the AER error status, the serial number, power management, and the SR-IOV fields of function 0 (R133, R134). -/
def configWord (s : State) (f off : Nat) : Nat :=
  let c := (s.fnOf f).cfg
  match off with
  | 0x00 => bits (otpWord s 11) 15 0 + (if f = 0 then 0x4832 else 0x4833) * 2 ^ 16
  | 0x04 => flag c.busMaster * 4
  | 0x08 => 0x108000 * 2 ^ 8
  | 0x2C => bits (otpWord s 11) 31 16 + bits (otpWord s 12) 15 0 * 2 ^ 16
  | 0x40 => flag c.relaxed * 2 ^ 4 + c.mps * 2 ^ 5 + flag c.extTag * 2 ^ 8 + c.mrrs * 2 ^ 12
  | 0x44 => c.timeout + flag c.tenBitTag * 2 ^ 12
  | 0x48 => 17 + flag c.msixMask * 2 ^ 14 + flag c.msixEnable * 2 ^ 15
  | 0x4C => c.aer
  | 0x50 => otpWord s 8
  | 0x54 => otpWord s 9
  | 0x58 => flag (s.fnOf f).d3hot * 3
  | 0x5C => if f = 0 then flag s.hlk.vfEnable else 0
  | 0x60 => if f = 0 then 64 + 64 * 2 ^ 16 else 0
  | 0x64 => if f = 0 then 1 + 1 * 2 ^ 16 else 0
  | 0x68 => if f = 0 then 1 else 0
  | _ => 0

/-- Read tags the function may use (R133): 768, 256 or 32. -/
def readTags (c : FnConfig) : Nat := if c.tenBitTag then 768 else if c.extTag then 256 else 32

/-- Change what a function's configuration space holds. -/
def modCfg (f : Nat) (g : FnConfig → FnConfig) (s : State) : State := modFn f (fun x => { x with cfg := g x.cfg }) s

/-- A write of a word of a function's configuration space. A cleared Bus Master Enable, a change of power state and a cleared VF Enable
have the effect of their own commands (R157). -/
def configWrite (f off w : Nat) (s : State) : State :=
  let c := (s.fnOf f).cfg
  match off with
  | 0x04 =>
    let s' := modCfg f (fun c => { c with busMaster := bit w 2 }) s
    if c.busMaster && !bit w 2 then busMasterCleared f s' else s'
  | 0x40 =>
    modCfg f (fun c => { c with
      relaxed := bit w 4, mps := if bits w 7 5 ≤ 2 then bits w 7 5 else c.mps, extTag := bit w 8
      mrrs := if bits w 14 12 ≤ 5 then bits w 14 12 else c.mrrs }) s
  | 0x44 => modCfg f (fun c => { c with timeout := bits w 3 0, tenBitTag := bit w 12 }) s
  | 0x48 => flushPending f (modCfg f (fun c => { c with msixMask := bit w 14, msixEnable := bit w 15 }) s)
  | 0x4C => modCfg f (fun c => { c with aer := (List.range 32).foldl (fun a i => a + flag (bit c.aer i && !bit w i) * 2 ^ i) 0 }) s
  | 0x58 => if bits w 1 0 = 3 then d3hotEntry f s else if bits w 1 0 = 0 then d3hotToD0 f s else s
  | 0x5C =>
    if f ≠ 0 then s
    else if bit w 0 then { s with hlk := { s.hlk with vfEnable := true } }
    else vfEnableCleared s
  | _ => s

end Sys2Proof.Machine
end

