-- ==== Sys2Proof/Machine/KeyGen.lean ====
section
/-! DEFINITION. KEY_GENERATE from its request to its key (spec/09_cabinets_keys.md R219, spec/12_bignum.md R277, R278,
spec/14_randomness.md R321). -/

namespace Sys2Proof.Machine

/-- Cost of a key generation in engine cycles (R277, R305). -/
def keyGenCost (d : Desc) : Nat := generateCost (d.par 40 2) (sizeParam d)

/-- Engine class of a key generation: 2 or 3; none for symmetric and generic keys, whose type has no engine. -/
def keyGenClass (t : Nat) : Option Nat := if t < 0x10 then none else if t < 0x40 then some 2 else some 3

/-- The last L a management job may use: L(D) + 4 orbits (R278, R321). -/
def managementLast (x : Job) : Nat := x.bellD / transitCycles + 4 * orbitL

/-- Can the tiles complete it in their management holds by L(D) + 4 orbits (R278)? -/
def keyGenFits (s : State) (x : Job) : Bool :=
  match keyGenClass (x.desc.par 40 2) with
  | none => true
  | some cls =>
    (tilesOfClass cls).any (inCapacity s) && decide (s.time.L + ceilDiv (keyGenCost x.desc) holdCycles ≤ managementLast x)

/-- A key generation ends POLICY_SHORTFALL, with its engine class, cost and operating point (R172, R278). -/
def keyGenShort (j : Nat) (x : Job) (s : State) : State :=
  let cls := (keyGenClass (x.desc.par 40 2)).getD 0
  failJob j 0x4008 cls (keyGenCost x.desc) ((bestPoint s cls).getD 3) s

/-- The quorum of a KEY_GENERATE: it runs, or ends POLICY_SHORTFALL (R278). -/
def runKeyGenerate (j : Nat) (x : Job) (s : State) : State := if keyGenFits s x then s else keyGenShort j x s

/-- The material of a new key: random bytes for symmetric, generic and homomorphic keys, else what its standard makes of a
64-byte seed; an RSA key ends in its public exponent. -/
def keyGenMaterial (s : State) (d : Desc) : List Byte :=
  let t := d.par 40 2
  let n := materialLen t (sizeParam d)
  let e := if d.par 48 4 = 0 then 65537 else d.par 48 4
  if t < 0x10 then freeBytes s n
  else if t = 0x60 then freeBytes s 32 ++ beBytes 4 (d.par 48 4)
  else if t = 0x10 then standardBytes 0x7001 [t, sizeParam d, e] [freeBytes s 64] (n - 8) ++ beBytes 8 e
  else standardBytes 0x7001 [t, sizeParam d, 0] [freeBytes s 64] n

/-- An approved generation completes (R277, R321): `outcome` 0 a key, 1 an internal check failed, 2 and 3 no prime p, q was
accepted; `tile` is where it ran. -/
def generate (j tile outcome : Nat) (x : Job) (s : State) : State :=
  let d := x.desc
  if outcome = 1 then verifyFailed j tile d.opcode d.tag s
  else if 2 ≤ outcome ∧ d.par 40 2 = 0x10 then
    failJob j 0x5020 0 0 0 (raiseFrom (source 2 tile) 0x8014 5 (tile % 32) (sizeParam d) (outcome - 2) s)
  else
    let n := materialLen (d.par 40 2) (sizeParam d)
    createKey j x (cabOfFn s x.fn) 0 2 (keyGenMaterial s d) (drawFree (n + 64) (takeSeed s))

/-- KEY_GENERATE: it opens its request; issued again after the quorum it makes the key, once its reseed can be had. -/
def keyGenerate (j tile outcome : Nat) (s : State) : State :=
  match openable s j 0x7001 with
  | some x => openOwn j x rightKeyCreate s
  | none =>
    match (runnable s j 0x7001).filter (·.approved) with
    | none => s
    | some x =>
      if prReady s then generate j tile outcome x s
      else if managementLast x ≤ s.time.L then keyGenShort j x s else s

end Sys2Proof.Machine
end

