-- ==== Sys2Proof/Machine/Power.lean ====
section
/-! DEFINITION. How a run ends, firmware images and their update, NIGHT, power failure, operating point limits and ceilings
(spec/22_dawn_power.md R478 to R504), and the bootstrap page entries (R486). -/

namespace Sys2Proof.Machine

/-! ### The end of a run (R478, R479) -/

/-- What stands after the main domains have been reset: vault, always-on domain, OTP, ledger cells, external flash, and what a
warm reset keeps of the ring and the ceilings; the Dawn that follows drops what its own reset type drops (DESIGN CHOICE, log 14) (DEDUCED, log 43). -/
def resetVolatile (s : State) : State :=
  { State.reset with
    pending := s.pending, freeCtr := s.freeCtr, out := s.out, tam := s.tam
    glb := { pwrReq := s.glb.pwrReq }
    time := { aonL := s.time.aonL, aonTime := s.time.aonTime }
    orr := { ceilPolicy := s.orr.ceilPolicy, ceilI2c := s.orr.ceilI2c }
    car := { copyA := s.car.copyA, copyB := s.car.copyB, floor := s.car.floor, intent := s.car.intent, siteBanks := s.car.siteBanks }
    evt := { ring := s.evt.ring, reserve := s.evt.reserve, next := s.evt.next,
             journal := s.evt.journal, nextBlock := s.evt.nextBlock }
    wld := { store := s.wld.store, holdLatched := s.wld.holdLatched }
    key := { gens := s.key.gens, groups := s.key.groups, cskBanks := s.key.cskBanks,
             cskLast := s.key.cskLast, vaultEmpty := s.key.vaultEmpty }
    lcs := { otp := s.lcs.otp, tap := s.lcs.tap }
    pwr := { copies := s.pwr.copies, staging := s.pwr.staging, excluded := s.pwr.excluded, fails := s.pwr.fails,
             causes := s.pwr.causes, sinceLedger := s.pwr.sinceLedger, cause := s.pwr.cause, woken := s.pwr.woken,
             aonLost := s.pwr.aonLost, wakeDelay := s.pwr.wakeDelay, lastCause := s.pwr.lastCause }
    ldg := { cells := s.ldg.cells, counters := s.ldg.counters, anchor := s.ldg.anchor, lrVersion := s.ldg.lrVersion, lrDigest := s.ldg.lrDigest,
             lanes := Tab.mapAll s.ldg.lanes (fun _ l => { cur := l.cur, lost := l.lost }) }
    msh := { idSeed := s.msh.idSeed, shareKey := s.msh.shareKey, shares := s.msh.shares,
             custody := Tab.mapAll s.msh.custody (fun _ c => { c with rot := none, due := none }) }
    bst := { fullNext := s.bst.fullNext } }

/-- Ledger time and its quality are copied to the always-on domain (R48). -/
def copyTime (s : State) : State :=
  if s.time.genRunning then { s with time := { s.time with aonTime := some (s.time.ledgerUs, s.time.quality) } } else s

/-- The run ends and a Dawn follows at the next power good, for a cause of GLB_RESET_CAUSE (DESIGN CHOICE, log 14). -/
def endRun (cause : Nat) (s : State) : State :=
  let s := resetVolatile (copyTime s)
  { s with pwr := { s.pwr with cause := some cause } }

/-- WARM_RESET: SYS_RST_N low for 1 µs with supplies in range (R478). -/
def warmReset (s : State) : State :=
  match s.glb.phase with
  | .dawn => endRun 1 s
  | .run => endRun 1 s
  | .backoff => endRun 1 s
  | .pwrfail => endRun 1 s
  | _ => s

/-- BOOT_RETRY: the wait of R495 is over. -/
def bootRetry (s : State) : State := if s.glb.phase = .backoff then endRun 6 s else s

/-- POWER_RECOVERED (R498): PWR_FAIL_N has been high for 10 ms; never before the disarming of P + 2 ms (DESIGN CHOICE, log 62). -/
def powerRecovered (s : State) : State := if s.glb.phase = .pwrfail ∧ s.tam.disarmed then endRun 4 s else s

/-- WAKE (R501): cause 0 WAKE_N, 1 the timer, 2 the supplies; seconds asleep (DESIGN CHOICE, log 62). -/
def wake (cause secs : Nat) (s : State) : State :=
  if s.glb.phase = .night ∧ cause ≤ 2 ∧ (cause = 1 → s.pwr.wakeDelay ≠ 0 ∧ s.pwr.wakeDelay ≤ secs) then
    { s with glb := { s.glb with phase := .off, pwrReq := true },
             pwr := { s.pwr with cause := some 5, woken := some (cause, secs), wakeDelay := 0 } }
  else s

/-! ### Power failure (R497) -/

/-- Non-volatile writes under way that P abandons: a firmware write, a first copy not yet written, key store banks not
yet committed, bank erases. -/
def writesUnderWay (s : State) : Nat :=
  flag s.pwr.write.isSome + flag (s.car.intent.any (fun i => !i.written)) + s.key.preps.length + s.key.eraseDue.length

/-- POWER_FAIL: PWR_FAIL_N asserts (P of R497). -/
def powerFail (s : State) : State :=
  match s.glb.phase with
  | .run | .dawn =>
    let lost := (liveJobs s).length
    let writes := writesUnderWay s
    let s := abortBist 1 (copyTime s)
    let s := { s with time := { s.time with aonL := if s.time.genRunning then s.time.L else s.time.aonL }
                      tam := { s.tam with aonTick := s.tam.ticks }, pwr := { s.pwr with write := none }
                      key := { s.key with preps := [], eraseDue := [] } }
    let s := raiseEv 0x0120 5 lost writes 0 (breakJobs s)
    watched (fun s => { s with orr := { s.orr with admitOpen := false }, glb := { s.glb with phase := .pwrfail } }) s
  | _ => s

/-! ### Firmware images (R488, R489, R492, R493) -/

/-- Header fields: kind, sequence, mortise, total length. -/
def fwKind (b : List Byte) : Nat := byteAt b 6
def fwSeq (b : List Byte) : Nat := leAt b 8 8
def fwMortise (b : List Byte) : Nat := leAt b 16 4
def fwTotal (b : List Byte) : Nat := 5648 + leAt b 20 4

/-- The image a copy holds: its header's total length of the region. -/
def fwImage (b : List Byte) : List Byte := b.take (fwTotal b)

/-- The reason code of the first check of R489 that fails; 0 where the copy is valid (DEDUCED, log 54). -/
def fwReason (s : State) (kind : Nat) (b : List Byte) : Nat :=
  let img := fwImage b
  if leAt b 0 4 ≠ 0x4946474B ∨ leAt b 4 2 ≠ 1 ∨ fwKind b ≠ kind ∨ leAt b 20 4 < leAt b 24 4 + leAt b 28 4 ∨ 2 ^ 22 < fwTotal b
      ∨ b.length < fwTotal b then 1
  else if digestBytes (Config.sha3 (fwBody img)) ≠ slice img 32 32 then 2
  else if Config.sha3 (slice img 384 1952) ≠ otpDigest s 16 then 3
  else if !sigHolds 3 (slice img 384 1952) (img.take 2336) (slice img 2336 3309) then 4
  else if fwSeq img = 0 then 5
  else 0

/-- Is a staged image valid: R489 for the kind it names, its length that of its header? (DEDUCED, log 54). -/
def fwStagedOk (s : State) (img : List Byte) : Bool :=
  (fwKind img == 1 || fwKind img == 2) && fwReason s (fwKind img) img == 0 && img.length == fwTotal img

/-- Sequence of the running copy of a kind. -/
def runningSeq (s : State) (kind : Nat) : Nat := if kind = 1 then s.pwr.keeperSeq else s.pwr.bundleSeq

/-- Bytes of firmware copy 0 to 3. -/
def fwCopy (s : State) (k : Nat) : List Byte := s.pwr.copies.getD k []

/-- Write a place: 0 to 3 a copy, 4 the staging area. -/
def setPlace (k : Nat) (bs : List Byte) (s : State) : State :=
  if k < 4 then { s with pwr := { s.pwr with copies := s.pwr.copies.set k bs } } else { s with pwr := { s.pwr with staging := bs } }

/-- A flash write of a firmware image begins: the region is erased first (DEDUCED, log 54). -/
def beginWrite (j place : Nat) (img : List Byte) (s : State) : State :=
  let s := setPlace place [] s
  { s with pwr := { s.pwr with write := some { job := j, place := place, image := img } } }

/-- FIRMWARE_STAGE (R492); it waits while another firmware write runs. -/
def firmwareStage (j : Nat) (s : State) : State :=
  match runnable s j 0xD010 with
  | none => s
  | some x =>
    if s.pwr.write.isSome then s
    else if !fwStagedOk s x.input then failJob j 0x2001 16 0 0 s
    else if fwSeq x.input ≤ runningSeq s (fwKind x.input) then failJob j 0x3002 16 0 0 s
    else beginWrite j 4 x.input s

/-- The copy a commit overwrites (R493): the one of its kind that does not hold the running image; B where both do. -/
def commitPlace (s : State) (kind : Nat) : Nat :=
  let base := if kind = 1 then 0 else 2
  let run := match s.pwr.pick with
    | some p => base + (if kind = 1 then p.keeper else p.bundle)
    | none => base
  if fwImage (fwCopy s base) ≠ fwImage (fwCopy s run) then base else base + 1

/-- A firmware commit runs (R493 steps 1 and 2). -/
def runFirmwareCommit (j : Nat) (s : State) : State :=
  let img := s.pwr.staging
  if s.pwr.write.isSome then s
  else if !fwStagedOk s img then failJob j 0x2001 16 0 0 s
  else beginWrite j (commitPlace s (fwKind img)) img s

/-- FIRMWARE_COMMIT: it opens its request; without a roster, and once approved, it runs. -/
def firmwareCommit (j : Nat) (s : State) : State :=
  match runnable s j 0xD011 with
  | none => s
  | some x =>
    if s.pwr.write.any (fun w => w.job == j) ∨ awaiting s j then s
    else if x.approved ∨ s.car.site.isNone then runFirmwareCommit j s
    else openRequest j x [rosterFor s 0 (some rightCarcass)] (commandDigest s (cabOfFn s x.fn) x) s

/-- FIRMWARE_COPY_WRITTEN: the write and read-back are over; `found` is what the place then holds. -/
def firmwareCopyWritten (found : List Byte) (s : State) : State :=
  match s.pwr.write with
  | none => s
  | some w =>
    let s := setPlace w.place found { s with pwr := { s.pwr with write := none } }
    let live := (s.jobOf w.job).any (fun x => !x.finished)
    if found ≠ w.image then (if live then failJob w.job 0x7010 0 0 0 s else s)
    else if w.place = 4 then
      let s := raiseEv 0x0114 4 (fwKind found) (lo32 (fwSeq found)) 0 s
      if live then setResult w.job { status := 0 } s else s
    else
      let s := raiseEv 0x0115 5 (fwKind found) (w.place % 2) (lo32 (fwSeq found)) s
      let atOrbit := (s.jobOf w.job).any (fun x => bit (x.desc.par 40 1) 0)
      let s := { s with pwr := { s.pwr with resetAtOrbit := s.pwr.resetAtOrbit || atOrbit } }
      if live then setResult w.job { status := 0, w0 := fwKind found, w1 := lo32 (fwSeq found) } s else s

/-- FIRMWARE_RESET (R493): the warm reset at the orbit boundary. -/
def firmwareReset (s : State) : State :=
  if s.pwr.resetAtOrbit ∧ s.time.genRunning ∧ s.time.L % orbitL = 0 then endRun 3 s else s

/-! ### Ceilings and hardware limits (R502, R503) -/

/-- A ceiling is set: the command's, or the I²C one; logged with the effective ceilings. -/
def setCeiling (i2c : Bool) (p : Nat) (s : State) : State :=
  let s := { s with orr := if i2c then { s.orr with ceilI2c := p } else { s.orr with ceilPolicy := p } }
  raiseEv 0x0140 3 (flag i2c) (ceilings s) 0 s

/-- POWER_POLICY: the ceilings take effect with its commit phase. -/
def powerPolicy (j : Nat) (s : State) : State :=
  match runnable s j 0xD002 with
  | none => s
  | some x =>
    let p := x.desc.par 40 1
    setResult j { status := 0, w0 := ceilings { s with orr := { s.orr with ceilPolicy := p } }, effects := [.ceiling p] } s

/-- Does the I²C target answer (R531): from power good until the supplies fall or NIGHT is entered? -/
def i2cUp (s : State) : Bool :=
  match s.glb.phase with
  | .dawn => true
  | .run => true
  | .backoff => true
  | .pwrfail => true
  | _ => false

/-- I2C_CEILING: exactly four bytes, with [31:8] 0, apply at the STOP; any other write is ignored. -/
def i2cCeiling (bs : List Byte) (s : State) : State :=
  if i2cUp s ∧ bs.length = 4 ∧ allZero (bs.drop 1) then setCeiling true (byteAt bs 0) s else s

/-- A fall of a tile's hardware limit by one point, by thermal (0) or margin (1) counts; never below 0.75 GHz. -/
def lowerLimit (t cause : Nat) (s : State) : State :=
  let x := s.tile t
  if 3 ≤ x.limit then s
  else
    raiseFrom (source 2 t) 0x0141 4 (t % 32 + tileClass t * 256) (x.limit + 1) cause
      (modTile t (fun x => { x with limit := x.limit + 1, limitDue := true, limitCause := cause + 1 }) s)

/-- TILE_LIMIT_CHANGE (R502): the counts of a tile have reached a step of the table. -/
def tileLimitChange (t : Nat) (s : State) : State :=
  let x := s.tile t
  if !allTiles.contains t then s
  else if 128 ≤ x.hot then lowerLimit t 0 (modTile t (fun x => { x with hot := 0 }) s)
  else if 16 ≤ x.margin then lowerLimit t 1 (modTile t (fun x => { x with margin := 0 }) s)
  else if orbitL ≤ x.clean then
    modTile t (fun x => { x with clean := 0, limit := x.limit - 1, limitCause := if x.limit ≤ 1 then 0 else x.limitCause }) s
  else s

/-! ### NIGHT (R499, R500) -/

/-- Does the device refuse NIGHT now: CARCASS_BUSY? -/
def nightBusy (s : State) : Bool := s.car.intent.isSome || s.pwr.write.any (fun w => decide (w.place < 4)) || s.pwr.resetAtOrbit

/-- Worlds stop; their store slots stay (R500). -/
def haltWorlds (s : State) : State :=
  { s with wld := { s.wld with cur := none, worlds := Tab.mapAll s.wld.worlds (fun _ w => { w with
      st := if w.st = .running then .stopped else w.st, queue := [], inbox := none, awaiting := [] }) } }

/-- NIGHT_ENTER at T (R500 step 1). -/
def nightEnter (j : Nat) (s : State) : State :=
  match runnable s j 0xD003 with
  | none => s
  | some x =>
    if nightBusy s then failJob j 0x6010 0 0 0 s
    else
      let s := watched (fun s => { s with orr := { s.orr with admitOpen := false } }) (abortBist 2 s)
      let s := forEach ((liveJobs s).filter (fun e => e.1 != j && !inCommit e.2)) (fun e => endJob e.1 0x7001 0 0 0) s
      let s := haltWorlds { s with dov := { s.dov with reqs := [] }, pwr := { s.pwr with nightJob := some (j, s.time.L), wakeDelay := x.desc.par 48 4 } }
      setResult j { status := 0 } s

/-- NIGHT begins once the FINAL entry is written (R500 steps 2 and 3): the anchor, the always-on copies, the clearing of every
main domain (DEDUCED, log 43). -/
def enterNight (delay : Nat) (bitOk : Bool) (s : State) : State :=
  let s := raiseEv 0x0130 3 delay 0 0 (copyTime (writeAnchor bitOk s))
  let s := { s with time := { s.time with aonL := s.time.L }, tam := { s.tam with aonTick := s.tam.ticks } }
  let s := resetVolatile s
  let tam := { s.tam with inputs := Tab.mapAll s.tam.inputs (fun _ i => { i with nightCount := 0, nightMax := 0, nightRep := [] }) }
  { s with glb := { s.glb with phase := .night, pwrReq := false }, tam := tam, pwr := { s.pwr with wakeDelay := delay, cause := none } }

/-! ### First ring pages (R486) -/

/-- The window of a function's cabinet that holds a page and names the function or any function. -/
def bootWindow (s : State) (f page : Nat) : Option Window :=
  s.car.active.windows.find? (fun w => decide (w.first ≤ page ∧ page < w.first + w.count) && w.cab == cabOfFn s f
    && (w.fn == 0xFFFF || w.fn == f))

/-- Is an SQ or CQ of the function ACTIVE? -/
def ringActive (x : Fn) : Bool := x.sqs.any (fun q => q.2.st == .active) || x.cqs.any (fun q => q.2.st == .active)

/-- BOOT_MAP: FN_BOOT_CTRL is written (DEDUCED, log 31). -/
def bootMap (f w : Nat) (s : State) : State :=
  if !fnExists s f || !bit w 0 then s
  else
    let x := s.fnOf f
    let page := x.bootPage % 2 ^ 20
    let done := fun (r : Nat) => modFn f (fun x => { x with bootResult := r }) s
    if !bound s f then done 1
    else match bootWindow s f page with
      | none => done 2
      | some v =>
        if ringActive x || pagePinned s page then done 3
        else if 64 ≤ x.bootMade then done 4
        else
          let e : PageEntry := {
            rights := v.rights % 4, cab := cabOfFn s f, fn := f
            frame := x.bootFrameLo / 4096 % 2 ^ 20 + x.bootFrameHi % 2 ^ 28 * 2 ^ 20 }
          let s := modFn f (fun x => { x with bootResult := 0, bootMade := x.bootMade + 1 }) (potChange page (some e) s)
          releasePages [page] s

/-! ### Descriptor checks -/

/-- What the power and firmware commands ask of a descriptor (R492, R493, R499, R503). -/
def powerInfo (cab : Nat) (d : Desc) : OpInfo :=
  let own := if cab = 0 then none else some (0x3001, 0, 0)
  match d.opcode with
  | 0xD002 => { plane := .M, fields := reservedFrom d 41, owner := own }
  | 0xD003 =>
    { plane := .M, fields := zeroField d 40 8 :: reservedFrom d 52, owner := own,
      length := if d.par 48 4 ≤ 31536000 then none else some (0x5001, 48, 31536000) }
  | 0xD010 =>
    { plane := .M, usesIn := true, fields := reservedFrom d 40, owner := own,
      length := if d.inLen < 5648 then some (0x5001, 20, 0) else if 2 ^ 22 < d.inLen then some (0x5001, 20, 2 ^ 22) else none }
  | _ => { plane := .M, fields := (40, decide (d.par 40 1 < 2)) :: reservedFrom d 41, owner := own }

end Sys2Proof.Machine
end

