-- ==== Sys2Proof/Machine/Lifecycle.lean ====
section
/-! DEFINITION. Life-cycle states, their transitions, debug authorization, CABINET_ZEROIZE and boundary scan
(spec/20_lifecycle_debug.md R446 to R461). -/

namespace Sys2Proof.Machine

/-! ### Steps and transitions (R447, R450 to R452) -/

/-- The state a step reaches (R447): 1 TEST, 2 PERSONALISED, 3 SHIPPED, 4 WORKSHOP, 5 RETURNED, 6 RETIRED, 7 SCRAP. -/
def stepState (i : Nat) : Nat := [1, 2, 3, 4, 3, 4, 3, 4, 3, 4, 3, 5, 6, 7].getD i 0

/-- Step byte i of the life-cycle field (R446). -/
def stepByte (otp : Tab Nat) (i : Nat) : Nat := Tab.getD otp (i / 4) 0 / 256 ^ (i % 4) % 256

/-- Program bits of an OTP word: they only ever go from 0 to 1. -/
def programWord (w bits : Nat) (otp : Tab Nat) : Tab Nat :=
  let v := Tab.getD otp w 0 ||| bits
  if v = 0 then otp else Tab.put otp w v

/-- Program a step byte to the value `v`. -/
def programStep (i v : Nat) (otp : Tab Nat) : Tab Nat := programWord (i / 4) (v % 256 * 256 ^ (i % 4)) otp

/-- The step byte a listed transition programs (R447, R451), given the WORKSHOP visits taken; none where it is not listed. -/
def transitionStep (from_ to_ visits : Nat) : Option Nat :=
  match from_, to_ with
  | 0, 1 => some 0
  | 1, 2 => some 1
  | 2, 3 => some 2
  | 3, 4 => if visits < 4 then some (3 + 2 * visits) else none
  | 4, 3 => some (2 + 2 * visits)
  | 3, 5 => some 11
  | 4, 5 => some 11
  | 3, 6 => some 12
  | 5, 6 => some 12
  | 0, _ => none
  | _, 7 => if from_ ≤ 7 then some 13 else none
  | _, _ => none

/-- Token number of a target (R451). -/
def tokenOf (from_ to_ : Nat) : Nat :=
  if to_ = 1 then 0 else if to_ = 2 then 1 else if to_ = 3 then (if from_ = 4 then 4 else 2) else if to_ = 4 then 3 else to_

/-- Does a token match its digest in OTP (R452)? -/
def tokenOk (s : State) (k : Nat) (token : List Byte) : Bool := Config.sha3 token == otpDigest s (32 + 8 * k)

/-- The transition of the life-cycle state now, with the visits taken. -/
def nextStep (s : State) (to_ : Nat) : Option Nat := transitionStep s.lcs.code to_ s.lcs.visits

/-- End every job that has not reached its commit phase, but for one (R452, R459). -/
def withdrawAll (but : Option Nat) (s : State) : State :=
  forEach ((liveJobs s).filter (fun e => some e.1 != but && !inCommit e.2)) (fun e => endJob e.1 0x7001 0 0 0)
    s

/-- The erasure before a transition (R451). -/
def eraseFor (from_ to_ : Nat) (s : State) : State :=
  if to_ = 2 ∨ 5 ≤ to_ then clearSram (eraseVault s)
  else if from_ = 3 ∧ to_ = 4 then eraseSecrets s
  else s

/-- Steps 4 and 5 of R452: jobs end, the erasure, and `bits` bits of the step byte (8: all; fewer: the power went). From here on
the device waits for its reset. -/
def runTransition (but : Option Nat) (to_ bits : Nat) (s : State) : State :=
  match nextStep s to_ with
  | none => s
  | some i =>
    let s := eraseFor s.lcs.code to_ (withdrawAll but s)
    { s with lcs := { s.lcs with otp := programStep i (2 ^ min 8 bits - 1) s.lcs.otp, pendingReset := true } }

/-- The token check of R452 step 2, logged where it fails; `f` is the function that submitted it. -/
def tokenBad (to_ f : Nat) (s : State) : State := raiseEv 0x0411 5 to_ f 0 s

/-- A transition is done: its event (R452 step 6). -/
def transitionDone (from_ to_ : Nat) (s : State) : State := raiseEv 0x0410 6 from_ to_ (lo32 (alarmInstantL s)) s

/-- LCS_TRANSITION (R452): the token, then the quorum SHIPPED asks for while an image is active, then the transition in its commit
phase. -/
def lcsTransition (j bits : Nat) (s : State) : State :=
  match runnable s j 0xB001 with
  | none => s
  | some x =>
    let to_ := x.desc.par 40 1
    let from_ := s.lcs.code
    let go := fun (s : State) => setResult j { status := 0, w0 := to_, effects := [.transition to_ bits] } s
    if awaiting s j ∨ s.lcs.pendingReset then s
    else if x.approved then go s
    else if (nextStep s to_).isNone then failJob j 0x3002 40 0 0 s
    else if !tokenOk s (tokenOf from_ to_) x.input then failJob j 0x5040 0 0 0 (tokenBad to_ x.fn s)
    else if from_ = 3 ∧ !s.car.active.bare then openOwn j x rightCarcass s
    else go s

/-! ### Debug rights (R454 to R459) -/

/-- Rights open without authorization, and rights obtainable, by life-cycle code (R450) (DEDUCED, log 57). -/
def rightsDefault (code : Nat) : Nat := if code ≤ 1 then 0x1FF else 0
def rightsObtainable (code : Nat) : Nat := if 2 ≤ code ∧ code ≤ 5 then 0x1FF else if code = 6 then 0x0F else 0

/-- Are all rights of one bitmap in another? -/
def rightsWithin (a b : Nat) : Bool := a &&& b == a

/-- Does a bitmap hold an invasive right: bits [8:4]? -/
def rightsInvasive (r : Nat) : Bool := bits r 8 4 != 0

/-- Is any invasive right open now? -/
def invasiveOpen (s : State) : Bool := rightsInvasive s.lcs.rights

/-- Does a grant force zeroization (R459)? -/
def forcedZeroize (s : State) (rights : Nat) : Bool :=
  rightsInvasive rights && (s.lcs.code == 2 || s.lcs.code == 3) && !s.key.csk.isEmpty

/-- The zeroization of R459. -/
def zeroizeForDebug (j rights : Nat) (s : State) : State :=
  let n := s.key.csk.length
  let s := clearKeyStore (eraseSecrets (withdrawAll (some j) s))
  raiseEv 0x0415 6 n rights 0 (umbraLine s)

/-- Rights are to open at the next boundary. -/
def dueRights (rights source : Nat) (s : State) : State := { s with lcs := { s.lcs with rightsDue := some (rights, source) } }

/-- A grant: in its commit phase the device zeroizes where that is forced (R459), and the rights open at the next boundary, which writes
its FINAL entry (R457). `source` is 1 certificate, 2 response. -/
def grant (j rights source : Nat) (zeroize : Bool) (s : State) : State :=
  setResult j { status := 0, w0 := rights, effects := [.openRights rights source zeroize] } s

/-- Steps 6 and 7 of R457 for verified bytes: the rights asked for, those within reach, and ZEROIZE_ACK. -/
def authorize (j : Nat) (x : Job) (rights reach : Nat) (ack : Bool) (source : Nat) (s : State) : State :=
  if !rightsWithin rights reach then failJob j 0x3002 16 0 0 s
  else if !forcedZeroize s rights then grant j rights source false s
  else if !ack then failJob j 0x3002 16 0 0 s
  else if s.lcs.code = 3 ∧ !s.car.active.bare then openOwn j x rightCarcass s
  else grant j rights source true s

/-- Public key and signature of a certificate or response: ML-DSA-65 under the vendor debug root (R456, R457 steps 4 and 5). -/
def debugKeyOk (s : State) (b : List Byte) : Bool := Config.sha3 (slice b 64 1952) == otpDigest s 24
def debugSigOk (b : List Byte) : Bool := sigHolds 3 (slice b 64 1952) (b.take 2016) (slice b 2016 3309)

/-- Rights named in a certificate or response. -/
def certRights (b : List Byte) : Nat := leAt b 20 4
def responseRights (b : List Byte) : Nat := leAt b 16 4

/-- Step 2 of R457 for a certificate. -/
def certFormOk (b : List Byte) : Bool :=
  leAt b 0 4 == 0x4344474B && leAt b 4 2 == 1 && decide (leAt b 6 2 < 2) && leAt b 17 3 == 0 && leAt b 28 4 == 0 && leAt b 56 8 == 0
    && decide (certRights b < 512)

/-- Step 3 for a certificate: serial, hardware revision, state mask, L limit. -/
def certHere (s : State) (b : List Byte) : Bool :=
  leAt b 8 8 == serialOf s && leAt b 24 4 == otpWord s 10 && bit (leAt b 16 1) s.lcs.code
    && (leAt b 32 8 == 0 || decide (s.time.L < leAt b 32 8))

/-- DEBUG_CERT (R457). -/
def debugCert (j : Nat) (s : State) : State :=
  match openable s j 0xB002 with
  | none => s
  | some x =>
    let b := x.input
    if !certFormOk b then failJob j 0x2001 16 0 0 s
    else if !certHere s b || !debugKeyOk s b || !debugSigOk b then failJob j 0x5040 0 0 0 s
    else authorize j x (certRights b) (rightsObtainable s.lcs.code) (bit (leAt b 6 2) 0) 1 s

/-- Life of a challenge: 16 orbits. -/
def challengeLife : Nat := 2 ^ 24

/-- Is a challenge open? -/
def challengeOpen (s : State) : Option Challenge := s.lcs.challenge.filter (fun c => decide (s.time.L < c.issueL + challengeLife))

/-- DEBUG_CHALLENGE (R458) (DEDUCED, log 57). -/
def debugChallenge (j : Nat) (s : State) : State :=
  match runnable s j 0xB003 with
  | none => s
  | some x =>
    let rights := x.desc.par 44 4
    let b := leBytes 4 0x4843474B ++ leBytes 2 1 ++ leBytes 1 s.lcs.code ++ zeros 1 ++ leBytes 8 (serialOf s) ++ leBytes 4 (otpWord s 10)
      ++ leBytes 4 rights ++ leBytes 8 s.time.L ++ freeBytes s 32 ++ zeros 32
    let s := setResult j { status := 0, output := b } (drawFree 32 s)
    { s with lcs := { s.lcs with challenge := some { bytes := b, rights := rights, issueL := s.time.L } } }

/-- Step 2 of R457 for a response. -/
def responseFormOk (b : List Byte) : Bool :=
  leAt b 0 4 == 0x5243474B && leAt b 4 2 == 1 && decide (leAt b 6 2 < 2) && leAt b 20 4 == 0 && leAt b 56 8 == 0
    && decide (responseRights b < 512)

/-- DEBUG_RESPONSE (R458): the challenge is spent once the signature holds. -/
def debugResponse (j : Nat) (s : State) : State :=
  match openable s j 0xB004 with
  | none => s
  | some x =>
    let b := x.input
    if !responseFormOk b then failJob j 0x2001 16 0 0 s
    else match challengeOpen s with
      | none => failJob j 0x5040 0 0 0 s
      | some c =>
        if leAt b 8 8 ≠ serialOf s ∨ slice b 24 32 ≠ digestBytes (Config.sha3 c.bytes) ∨ !debugKeyOk s b ∨ !debugSigOk b then
          failJob j 0x5040 0 0 0 s
        else
          authorize j x (responseRights b) (rightsObtainable s.lcs.code &&& c.rights) (bit (leAt b 6 2) 0) 2
            { s with lcs := { s.lcs with challenge := none } }

/-- The quorum of a grant that forces zeroization (R459). -/
def runDebugGrant (j : Nat) (x : Job) (s : State) : State :=
  let source := if x.desc.opcode = 0xB002 then 1 else 2
  let rights := if x.desc.opcode = 0xB002 then certRights x.input else responseRights x.input
  grant j rights source true s

/-- Rights that are due open at a boundary (R457); the FINAL entry of the grant follows in that transit. -/
def openRights (s : State) : State :=
  match s.lcs.rightsDue with
  | none => s
  | some (rights, source) =>
    raiseEv 0x0414 5 rights source (lo32 s.time.L)
      { s with lcs := { s.lcs with
          rightsDue := none, rights := s.lcs.rights ||| rights, rightsSource := s.lcs.rightsSource ||| 2 ^ source } }

/-! ### CABINET_ZEROIZE (R460) -/

/-- CABINET_ZEROIZE opens its request. -/
def cabinetZeroize (j : Nat) (s : State) : State :=
  match openable s j 0xB010 with
  | none => s
  | some x => openOwn j x rightKeyDestroy s

/-- Erase everything of a cabinet in internal SRAM: slots, result slots, handle records, context key. -/
def eraseCabinet (cab : Nat) (s : State) : State :=
  let s := forEach ((s.key.slots.filter (fun e => hCab e.2.attr.handle == cab)).map (·.1)) removeKey s
  let s := clearHandles (fun r => r.cab == cab) s
  { s with eng := { s.eng with results := Tab.keep s.eng.results (fun k _ => k / 64 != cab), ctxKeys := Tab.del s.eng.ctxKeys cab } }

/-- The commit phase of CABINET_ZEROIZE (R460): the cabinet's jobs end, its slots go in both banks with its storage key, and a new one
is due at the following boundary. -/
def zeroizeCabinet (j cab : Nat) (keep : Bool) (s : State) : State :=
  let gs := cabinetGroups s cab
  let s := forEach ((liveJobs s).filter (fun e => e.1 != j && !inCommit e.2 && cabOfFn s e.2.fn == cab)) (fun e => endJob e.1 0x7001 0 0 0) s
  let s := eraseCsk cab (eraseCabinet cab (forEach gs (commitGroup j) s))
  let s := if keep then s else dropBackup (holdersFor s cab) cab s
  let s := { s with lcs := { s.lcs with cskDue := s.lcs.cskDue.filter (· != cab) ++ [cab] } }
  raiseEv 0x0416 5 cab (flag keep) (Tab.getD s.key.cskLast cab 0 + 1) s

/-- CABINET_ZEROIZE at quorum (R460): the groups of its cabinet are written without it; its commit phase does the rest. -/
def runCabinetZeroize (j : Nat) (x : Job) (s : State) : State :=
  let cab := x.desc.par 40 1
  setKeyResult j { status := 0, w0 := Tab.getD s.key.cskLast cab 0 + 1, effects := [.zeroizeCab cab (bit (x.desc.par 41 1) 0)] } s

/-! ### The DAP mailbox (R453) -/

/-- What LCS_TRANSITION asks of a descriptor. -/
def transitionInfo (s : State) (cab : Nat) (d : Desc) : OpInfo :=
  { plane := .M, usesIn := true, fields := reservedFrom d 41,
    owner := if cab = 0 then none else some (0x3001, 40, 0),
    policy := if s.glb.lockdown || s.lcs.code == 7 then some (0x3002, 0, 0)
      else if (nextStep s (d.par 40 1)).isNone then some (0x3002, 40, 0) else none,
    length := if d.inLen = 32 then none else some (0x5001, 20, if 32 < d.inLen then 32 else 0) }

/-- The status the mailbox's checks give a descriptor and token; none where the transition may run. -/
def mailboxBad (s : State) (d : Desc) (token : List Byte) : Option (Nat × Nat × Nat) :=
  let i := transitionInfo s 0 d
  if d.opcode ≠ 0xB001 then some (0x2002, d.opcode, 0)
  else if s.lcs.pendingReset then some (0x6001, 0, 0)
  else match badField d i with
    | some off => some (0x2001, off, 0)
    | none => match i.policy with
      | some e => some e
      | none => match i.length with
        | some e => some e
        | none => if tokenOk s (tokenOf s.lcs.code (d.par 40 1)) token then none else some (0x5040, 0, 0)

/-- A mailbox completion leaves for the DAP. -/
def mailboxEntry (d : Desc) (e : Nat × Nat × Nat) (s : State) : State :=
  let c : Completion := {
    tag := d.tag, status := e.1, interim := false, torn := false, creditless := false, sq := 0, phase := false
    when_ := alarmInstantL s, outLen := 0, w0 := e.2.1, w1 := e.2.2, w2 := 0 }
  emit (.dapEntry c) { s with lcs := { s.lcs with dapCompletion := some c } }

/-- LCS_DAP_DOORBELL (R453): in BLANK and TEST the mailbox submits LCS_TRANSITION; `bits` of the step byte are programmed. -/
def lcsDapDoorbell (bits : Nat) (s : State) : State :=
  let d := Desc.parse s.lcs.dapDesc
  let token := s.lcs.dapToken ++ zeros (32 - s.lcs.dapToken.length)
  let to_ := d.par 40 1
  if 2 ≤ s.lcs.code ∨ s.glb.lockdown then s
  else match s.glb.phase with
    | .dawn | .run =>
      match mailboxBad s d token with
      | some e => mailboxEntry d e (if e.1 = 0x5040 then raiseFrom (source 7 0) 0x0411 5 to_ 0 0 s else s)
      | none =>
        let from_ := s.lcs.code
        let s := runTransition none to_ bits s
        if bits < 8 then s else mailboxEntry d (0, to_, lo32 (alarmInstantL s)) (transitionDone from_ to_ s)
    | _ => s

/-! ### Boundary scan (R461) -/

/-- Instructions that take the balls: EXTEST, CLAMP, HIGHZ. -/
def scanCode (c : Nat) : Bool := c == 3 || c == 4 || c == 5

/-- The instruction in force for a code: BYPASS where it is not available. -/
def tapEffective (s : State) (c : Nat) : Nat :=
  if c = 1 ∨ c = 2 ∨ c = 0x10 then c else if scanCode c && !s.glb.lockdown then c else 0xFF

/-- The first selection after a Dawn of an instruction that is not available is logged. -/
def tapLog (c : Nat) (s : State) : State :=
  if scanCode c && s.glb.lockdown && !s.lcs.tapLogged.contains c then
    raiseEv 0x0417 2 c 0xF 0 { s with lcs := { s.lcs with tapLogged := s.lcs.tapLogged ++ [c] } }
  else s

/-- TAP_INSTRUCTION: the instruction register takes a code. -/
def tapInstruction (c : Nat) (s : State) : State :=
  let e := tapEffective s (c % 256)
  let s := tapLog (c % 256) s
  let s := { s with lcs := { s.lcs with tap := e } }
  if s.glb.phase = .scan then
    if scanCode e then s
    else endRun 2 { s with glb := { s.glb with pwrReq := true } }
  else if !scanCode e ∨ (s.glb.phase = .off ∧ s.pwr.cause = none) then s
  else
    let s := resetVolatile (copyTime (umbraLine s))
    { s with glb := { s.glb with phase := .scan }, pwr := { s.pwr with cause := none } }

/-- IDCODE (R461). -/
def idcode (s : State) : Nat := 1 + otpWord s 13 % 2048 * 2 + 0x4832 * 4096 + bits (otpWord s 10) 11 8 * 2 ^ 28

/-! ### Descriptor checks and registers -/

/-- What the life-cycle and debug commands ask of a descriptor (R449, R450, R451, R457, R458, R460). -/
def lifecycleInfo (s : State) (cab : Nat) (d : Desc) : OpInfo :=
  let own := if cab = 0 then none else some (0x3001, 0, 0)
  let closed := if s.glb.lockdown || s.lcs.code == 7 then some (0x3002, 0, 0) else none
  let body := if d.inLen = 5325 then none else some (0x5001, 20, if 5325 < d.inLen then 5325 else 0)
  match d.opcode with
  | 0xB001 => transitionInfo s cab d
  | 0xB003 =>
    { plane := .M, usesOut := true, fields := [zeroField d 40 4, (44, decide (d.par 44 4 < 512))] ++ reservedFrom d 48,
      policy := closed, outLen := 96, needOut := some 96 }
  | 0xB010 =>
    { plane := .M, fields := (41, decide (d.par 41 1 < 2)) :: reservedFrom d 42,
      owner := if d.par 40 1 = cab then none else some (0x3001, 40, 0),
      policy := if s.lcs.code == 7 then some (0x3002, 0, 0) else none }
  | _ => { plane := .M, usesIn := true, fields := reservedFrom d 40, owner := own, policy := closed, length := body }

/-- LCS_STATE. -/
def lcsState (s : State) : Nat :=
  s.lcs.code + s.lcs.visits * 16 + flag s.lcs.tornCompleted * 256 + flag s.lcs.pendingReset * 512

/-- LCS_CHALLENGE. -/
def lcsChallenge (s : State) : Nat :=
  match challengeOpen s with
  | none => 0
  | some c => 1 + saturate 24 ((c.issueL + challengeLife - s.time.L) / 256) * 256

end Sys2Proof.Machine
end

