-- ==== Sys2Proof/Machine/Commit.lean ====
section
/-! DEFINITION. The commit phase of a job (spec/03_orrery.md R75 to R77, spec/08_jobs_memory.md R190 to R192): its final check,
its visible changes, its terminal burst and its FINAL entry. -/

namespace Sys2Proof.Machine

/-- The pages those ranges touch, in the order they are written. -/
def commitPages (x : Job) (r : Result) : List Nat := (commitRanges x r).flatMap (fun e => pagesOf e.1 e.2.length)

/-- The pages the final check looks at (R191, R240): those of the whole direct output range, and of the context record. -/
def checkedPages (x : Job) (r : Result) : List Nat :=
  pagesOf x.desc.outAddr x.desc.outCap
    ++ (match r.record with | some (a, b) => pagesOf a b.length | none => [])

/-- A page's bytes of a range from `addr` on, with the host frames captured for its pages. -/
def rangePieces : List Nat → Nat → List Byte → Nat → List (Nat × List Byte)
  | _, _, _, 0 => []
  | frames, addr, bs, fuel + 1 =>
    if bs.isEmpty then []
    else
      let room := 4096 - addr % 4096
      ((frames.headD 0) * 4096 + addr % 4096, bs.take room) :: rangePieces (frames.drop 1) (addr + room) (bs.drop room) fuel

/-- The whole burst as host writes, in ascending address order within each range. -/
def burstPieces (x : Job) (r : Result) (frames : List Nat) : List (Nat × List Byte) :=
  let n := (pagesOf x.desc.outAddr r.output.length).length
  rangePieces frames x.desc.outAddr r.output (r.output.length / 4096 + 2)
    ++ (match r.record with | some (a, b) => rangePieces (frames.drop n) a b (b.length / 4096 + 2) | none => [])

/-- Bytes `from_` to `to_` of a list of host writes. -/
def cutPieces : List (Nat × List Byte) → Nat → Nat → List (Nat × List Byte)
  | [], _, _ => []
  | (a, bs) :: l, from_, to_ =>
    let n := bs.length
    let head := if from_ < n ∧ 0 < to_ ∧ from_ < to_ then [(a + from_, (bs.take to_).drop from_)] else []
    head ++ cutPieces l (from_ - n) (to_ - n)

/-- Host writes leave in order. -/
def emitPieces (ps : List (Nat × List Byte)) (s : State) : State :=
  { s with out := s.out ++ ps.map (fun p => Out.hostWrite p.1 p.2) }

/-- One visible change of a commit phase (DEDUCED, log 34). -/
def applyEffect (j : Nat) (bitOk : Bool) (e : Effect) (s : State) : State :=
  match e with
  | .putKey slot attr material => placeKey j slot attr material s
  | .rewriteKey slot flags => reflagKey j slot flags s
  | .destroyKey h => dropKey j h s
  | .zeroizeCab cab keep => zeroizeCabinet j cab keep s
  | .openRights rights src zeroize => dueRights rights src (if zeroize then zeroizeForDebug j rights s else s)
  | .transition to_ bits => runTransition (some j) to_ bits s
  | .putResult cab index bytes => { s with eng := { s.eng with results := Tab.put s.eng.results (64 * cab + index) bytes } }
  | .putHandle index attr => { s with eng := { s.eng with handles := Tab.put s.eng.handles index attr } }
  | .ackRing seq => ackRing seq s
  | .ackJournal seq => ackJournal seq s
  | .sealRecord lane seq => commitSeal j lane seq bitOk s
  | .installCsk cab gen used key =>
    let s := { s with key := { s.key with cskBanks := Tab.modify s.key.cskBanks cab {} (fun b => b.store { key := key, gen := gen })
                                          cskLast := Tab.put s.key.cskLast cab (max gen (Tab.getD s.key.cskLast cab 0)) } }
    askRotation cab none (raiseEv 0xE016 5 cab gen used s)
  | .newCsk cab => askRotation cab none (createCsk cab s)
  | .ceiling p => setCeiling false p s

/-- Is the FINAL entry held: erases stand before it (R211, R222), rights open at a boundary first (R457), or the power went while a
step byte was programmed (R452)? -/
def finalHeld (s : State) (j : Nat) (x : Job) : Bool :=
  s.key.eraseDue.any (fun e => e.1 == j) || ((x.desc.opcode == 0xB002 || x.desc.opcode == 0xB004) && s.lcs.rightsDue.isSome)
    || (x.burst.isSome && x.result.any (fun r => r.effects.any (fun e => match e with
      | .transition _ bits => decide (bits < 8)
      | _ => false)))

/-- The detail words of a FINAL entry: W1 of a life-cycle transition is the L of the entry (R452), of a grant the rights open by then
(R457). -/
def finalW1 (s : State) (x : Job) (r : Result) : Nat :=
  if r.status = 0 ∧ x.desc.opcode = 0xB001 then lo32 s.time.L
  else if r.status = 0 ∧ (x.desc.opcode = 0xB002 ∨ x.desc.opcode = 0xB004) then s.lcs.rights
  else r.w1

/-- Is the transit one the Orrery has placed the job's commit phase in (R76): that of its last slice, of its commit-only last slice
(R191), or for a management job one whose link budget holds its output and completion? A KEY_DESTROY, which writes nothing, applies in
the transit of its quorum (R222). -/
def commitPlaced (s : State) (x : Job) : Bool :=
  if x.desc.opcode = 0x7004 then true
  else if x.desc.cls = 3 ∨ x.commitOnly then x.st == .running && x.plan.any (fun b => b.transit == s.time.L && b.last) else true

/-- May the job begin its commit phase now? It is placed in this transit, the key store banks it changes are written (R211), no commit phase begins in the last 2 transits before the
commit boundary of an image (R131), and NIGHT, which comes at an instant of its own, waits for the commit phases of other jobs
(R77, R500). -/
def commitReady (s : State) (j : Nat) (x : Job) : Bool :=
  x.result.all (prepared s j) && !x.finished && x.answer.isNone && x.park.isNone && !finalHeld s j x && !commitBars s s.time.L
    && (if x.desc.opcode = 0xD003 then (liveJobs s).all (fun e => e.1 == j || !inCommit e.2) else commitPlaced s x)

/-- The FINAL entry is written (R169); what follows it: a seal is released (R367), a transition logged (R452). -/
def finishCommit (j : Nat) (x : Job) (r : Result) (s : State) : State :=
  let from_ := s.lcs.code
  let s := endJob j r.status r.w0 (finalW1 s x r) r.w2 s
  r.effects.foldl (fun s e => match e with
    | .sealRecord lane _ => releaseSeal lane s
    | .transition to_ _ => transitionDone from_ to_ s
    | _ => s) s

/-- Issue up to `n` further bytes of a burst under way; with the last of them the FINAL entry follows. -/
def advanceBurst (j n : Nat) (x : Job) (r : Result) (b : Burst) (s : State) : State :=
  let to_ := min (burstLen x r) (b.issued + n)
  let s := emitPieces (cutPieces (burstPieces x r b.frames) b.issued to_) s
  let s := modJob j (fun y => { y with burst := some { b with issued := to_ } }) s
  if to_ = burstLen x r ∧ !finalHeld s j x then finishCommit j x r s else s

/-- The final check of R191 and R367, and the start of the commit phase. -/
def beginCommit (j n : Nat) (bitOk : Bool) (x : Job) (r : Result) (s : State) : State :=
  match sealBlocked s x r, firstMeet s x.fn 2 (checkedPages x r) with
  | some e, _ => failJob j e.1 e.2.1 e.2.2 0 s
  | none, some (page, .fault) =>
    if x.desc.cls = 0 ∨ x.plane = 1 then abandonJob j page s
    else parkJob j page 2 wholeSlice (modJob j (fun y => { y with commitOnly := true }) s)
  | none, some (page, .violation cause) => freezeMaster 0 x.fn cause (addrIn x page) x.desc.tag (some j) s
  | _, _ =>
    let b : Burst := {
      beganL := s.time.L, issued := 0
      frames := (commitPages x r).map (fun p => ((Tab.get? s.job.pot p).map (·.frame)).getD 0) }
    let s := r.effects.foldl (fun s e => applyEffect j bitOk e s) (modJob j (fun y => { y with burst := some b }) s)
    advanceBurst j n x r b s

/-- COMMIT_PHASE: the commit phase of a job begins, or goes on, and issues up to `n` bytes of its burst; `bitOk` says whether the
ledger cell bit it writes reads back (DESIGN CHOICE, log 61). -/
def commitPhase (j n : Nat) (bitOk : Bool) (s : State) : State :=
  match s.jobOf j with
  | none => s
  | some x =>
    match x.result with
    | none => s
    | some r =>
      match x.burst with
      | some b => if x.finished ∨ x.answer.isSome then s else advanceBurst j n x r b s
      | none =>
        let s := if x.finished then s else prepareUpdate j s
        if commitReady s j x then beginCommit j n bitOk x r s else s

/-- The command, after which NIGHT begins where it was NIGHT_ENTER's and its FINAL entry has been written (R500). -/
def commitNow (j n : Nat) (bitOk : Bool) (s : State) : State :=
  let t := commitPhase j n bitOk s
  if s.pwr.nightJob.any (fun e => e.1 == j) && (s.jobOf j).any (fun x => !x.finished) && (t.jobOf j).any (·.finished) then
    enterNight s.pwr.wakeDelay bitOk t
  else t

/-- KEY_BANK_ERASED (R211, R222): the inactive bank of a group is erased; FINAL entries that waited for it are written. -/
def bankErased (g : Nat) (s : State) : State :=
  let js := (s.key.eraseDue.filter (fun e => e.2 == g)).map (·.1)
  forEach js (fun j => commitPhase j 0 true) (keyBankErased g s)

/-- At a transit's end: a burst that began in an earlier transit has left the device, unless an erase still stands before its FINAL
entry; a commit phase placed in this transit has begun (R76). -/
def endBursts (s : State) : State :=
  forEach (liveJobs s) (fun e s =>
    match e.2.burst with
    | some b => if b.beganL < s.time.L then commitPhase e.1 (2 ^ 32) true s else s
    | none => if e.2.desc.opcode = 0xD003 then s else commitPhase e.1 0 true s) s

end Sys2Proof.Machine
end

