-- ==== Sys2Proof/Machine/Approve.lean ====
section
/-! DEFINITION. DOVETAIL_APPROVE with what a quorum starts (spec/09_cabinets_keys.md R228, R229). -/

namespace Sys2Proof.Machine

/-- What a request's quorum starts, by opcode. KEY_GENERATE, LCS_TRANSITION and FIRMWARE_COMMIT go on with their own command,
issued again for the approved job. -/
def runApproved (r : Request) (s : State) : State :=
  match s.jobOf r.job with
  | none => s
  | some x =>
    if x.finished then s
    else match r.opcode with
      | 0x7001 => runKeyGenerate r.job x s
      | 0x7002 => runKeyImport r.job x s
      | 0x7003 => runKeyExport (serialOf s) r.job x s
      | 0x7004 => runKeyDestroy r.job x s
      | 0x7012 => runThaw r.job x s
      | 0x8001 => runCarcassStage r.job s
      | 0x8011 => approveStep r.job s
      | 0x9010 => runCustodyRotate r.job x s
      | 0x9011 => runCustodyRestore r.job x r.approvals s
      | 0xA001 => runAppletLoad r.job x s
      | 0xB002 => runDebugGrant r.job x s
      | 0xB004 => runDebugGrant r.job x s
      | 0xB010 => runCabinetZeroize r.job x s
      | _ => s

/-- DOVETAIL_APPROVE. -/
def dovetailApprove (j : Nat) (s : State) : State :=
  match approve j s with
  | (s, none) => s
  | (s, some r) => runApproved r s

end Sys2Proof.Machine
end

