-- ==== Sys2Proof/Machine/CarcassCommit.lean ====
section
/-! DEFINITION. The commit boundary of a carcass image (spec/05_carcass_custody.md R129 to R132), and the DRBG draws that wait
for it or for the key store step of a Dawn (spec/22_dawn_power.md R482). -/

namespace Sys2Proof.Machine

/-! ### Draws (R215, R241, R428, R482) -/

/-- Is a draw still wanted? -/
def drawWanted (s : State) (d : Draw) : Bool :=
  match d with
  | .identity => s.msh.idSeed.isNone
  | .csk cab => hasCab s.car.active cab && !Tab.has s.key.csk cab
  | .ctx cab => hasCab s.car.active cab && !Tab.has s.eng.ctxKeys cab
  | .escutcheon => true

/-- Does an open invasive right hold a draw back (R455)? -/
def drawHeld (s : State) (d : Draw) : Bool :=
  match d with
  | .csk _ => invasiveOpen s
  | _ => false

/-- Make a draw. -/
def makeDraw (d : Draw) (s : State) : State :=
  match d with
  | .identity => makeIdentity s
  | .csk cab => createCsk cab s
  | .ctx cab => drawFree 32 { s with eng := { s.eng with ctxKeys := Tab.put s.eng.ctxKeys cab (freeBytes s 32) } }
  | .escutcheon =>
    let bs := freeBytes s 8
    drawFree 8 { s with tam := { s.tam with
      lid := { s.tam.lid with lfsr := lfsrSeed bs }, board := { s.tam.board with lfsr := lfsrSeed (bs.drop 4) } } }

/-- One waiting draw: made with prediction resistance (R321), or kept. -/
def serveDraw (d : Draw) (s : State) : State :=
  if !drawWanted s d then s
  else if prReady s && !drawHeld s d then makeDraw d (takeSeed s)
  else { s with key := { s.key with draws := s.key.draws ++ [d] } }

/-- The waiting draws, in their order, as far as the DRBG can serve them. -/
def serveDraws (s : State) : State := s.key.draws.foldl (fun s d => serveDraw d s) { s with key := { s.key with draws := [] } }

/-- Ask for draws. -/
def askDraws (ds : List Draw) (s : State) : State := { s with key := { s.key with draws := s.key.draws ++ ds } }

/-! ### The changes of R132 -/

/-- Cabinets of one structure that another lacks. -/
def cabsWithout (a b : Carcass) : List Nat := (a.cabinets.map (·.cab)).filter (fun k => !hasCab b k)

/-- A removed cabinet: jobs, requests, keys in both banks, storage key, results, handles, context key. -/
def removeCabinet (cab : Nat) (s : State) : State :=
  let s := forEach ((liveJobs s).filter (fun e => !inCommit e.2 && cabOfFn s e.2.fn == cab && bound s e.2.fn)) (fun e => endJob e.1 0x7001 0 0 0) s
  let s := forEach (cabinetGroups s cab) (fun g => keepEntries g (fun e => hCab e.attr.handle != cab)) s
  eraseCsk cab (eraseCabinet cab (cancelWhere (fun r => r.cab == cab) s))

/-- Does a structure keep a slot in a cabinet's range? -/
def slotIn (c : Carcass) (cab slot : Nat) : Bool := c.slots.any (fun r => r.cab == cab && decide (r.first ≤ slot ∧ slot < r.first + r.count))

/-- Keys whose slots leave their cabinet's range. -/
def eraseLeaving (new : Carcass) (s : State) : State :=
  forEach (s.key.slots.filter (fun e =>
      !(heldSlots e.1 e.2).all (slotIn new (hCab e.2.attr.handle))))
    (fun e s => eraseKey e.1 (withdrawNaming e.2.attr.handle s.job.nextJob s)) s

/-- Entries a commit makes not present, with the rings and status blocks they back (R139, R182). -/
def dropEntries (new : Carcass) (s : State) : State :=
  let s := { s with job := { s.job with pot := Tab.keep s.job.pot (entryStays new) } }
  let gone := fun (s : State) (ps : List Nat) => ps.any (fun p => !Tab.has s.job.pot p)
  let up := fun (st : RingState) => st == .active || st == .draining
  forEach s.hlk.fns (fun e s =>
    let f := e.1
    let s := forEach (e.2.sqs.filter (fun q => up q.2.st && gone s (sqPages q.2))) (fun q => faultSq f q.1 0x0A) s
    let s := forEach (e.2.cqs.filter (fun q => up q.2.st && gone s (cqPages q.2))) (fun q => faultCq f q.1 0x0A) s
    if e.2.sbEnabled && gone s [e.2.sbPage] then
      ringFaultEvent f 32 0x0A (modFn f (fun x => { x with sbEnabled := false }) s) else s) s

/-- A lane's record in a structure. -/
def laneIn (c : Carcass) (n : Nat) : Option LaneRec := c.lanes.find? (fun l => l.lane == n)

/-- Lanes moved to another cabinet or unbound close their period (DEDUCED, log 45). -/
def closeMoved (old new : Carcass) (s : State) : State :=
  forEach (old.lanes.filter (fun l => (laneIn new l.lane).map (·.cab) != some l.cab && laneBooked s l.lane)) (fun l => closePeriod l.lane 5 2) s

/-- Lanes after the commit: one unbound stops, one bound or changed joins; cycles in progress are abandoned, and the
pulse counter of a lane whose record changes starts again (R340, R349). -/
def rejoinLanes (old new : Carcass) (s : State) : State :=
  let s := { s with mtr := Tab.mapAll s.mtr (fun _ l => { l with cycle := none }) }
  let s := forEach (old.lanes.filter (fun l => (laneIn new l.lane).isNone)) (fun l =>
    modLane l.lane (fun x => { x with st := .unbound, cause := 0, joinFrom := none, win := none, identifyNext := false })) s
  let changed := fun (l : LaneRec) => laneIn old l.lane != some l
  let s := forEach ((old.lanes ++ new.lanes).filter (fun l => laneIn old l.lane != laneIn new l.lane)) (fun l =>
    modLane l.lane (fun x => { x with pulses := 0, counting := false })) s
  forEach (new.lanes.filter (fun l => changed l && !isFrozen s 4 l.lane)) (fun l => joinLaneFrom l.lane (s.time.L / frameL)) s

/-- Owner of a cipher lane in a structure. -/
def ownerIn (c : Carcass) (t : Nat) : Option Nat := (c.owned.find? (fun e => e.1 == t)).map (·.2)

/-- Jobs on cipher lanes that change owner or pooling end. -/
def freeMovedLanes (old new : Carcass) (s : State) : State :=
  let moved := (tilesOfClass 0).filter (fun t => ownerIn old t != ownerIn new t)
  forEach ((liveJobs s).filter (fun e => !inCommit e.2 && e.2.tile.any (fun t => moved.contains t && e.2.plane == 0)))
    (fun e => endJob e.1 0x7001 0 0 0) s

/-- Cabinets whose QUORUM or OFFICER records change. -/
def rosterChanged (old new : Carcass) (cab : Nat) : Bool :=
  decide (old.quorums.filter (·.cab == cab) ≠ new.quorums.filter (·.cab == cab))
    || decide (old.officers.filter (·.cab == cab) ≠ new.officers.filter (·.cab == cab))

/-- Worlds whose APPLET record changes or goes are stopped; of one that has stopped or holds nothing, the store slot goes (R383). -/
def stopChanged (old new : Carcass) (s : State) : State :=
  forEach (old.applets.filter (fun a => !new.applets.contains a)) (fun a s =>
    let st := (s.world a.world).st
    if st = .empty ∨ st = .stopped then { s with wld := { s.wld with store := Tab.del s.wld.store a.world } }
    else
      let s := stopWorld a.world 1 s
      if st = .frozen then modWorld a.world (fun w => { w with st := .frozen }) s else s) s

/-- The tamper configuration of a structure; a disagreement already at or beyond the new D is an alarm. -/
def commitTamper (new : Carcass) (s : State) : State :=
  let s := loadTamper new.tamper new.boardCover s
  forEach (List.range 8) (fun n s =>
    let i := s.tin n
    if !i.unused && !i.alarmed && decide (i.d ≤ i.len) then
      alarm 2 (n + channelBits (i.a.filt == some true) (i.b.filt == some true)) (modTin n (fun i => { i with alarmed := true }) s)
    else s) s

/-- The new structure applies, with the effects of R132. -/
def applyStructure (old new : Carcass) (s : State) : State :=
  let s := forEach (cabsWithout old new) removeCabinet s
  let s := cancelWhere (fun r => rosterChanged old new r.cab || r.rosters.any (fun q => rosterChanged old new q.cab)) s
  let s := closeMoved old new (freeMovedLanes old new (eraseLeaving new s))
  let s := stopChanged old new s
  let s := { s with car := { s.car with active := new } }
  let s := dropEntries new s
  let s := forEach ((List.range 65).filter (fun f => old.fns.find? (fun r => r.fn == f) != new.fns.find? (fun r => r.fn == f)))
    (fun f => fnReset f 3) s
  meshCommit old (rejoinLanes old new s)

/-- CARCASS_COMMIT (R129 steps 2 to 5): at the first orbit boundary after the first copy has been read back. -/
def carcassCommit (bitOk : Bool) (s : State) : State :=
  match s.car.intent, s.car.staged with
  | some i, some g =>
    if !i.written || s.time.L % orbitL != 0 || s.glb.phase != .run || s.glb.umbra || keeperAbsent s then s
    else if (counterOf s 1).worn then abandonIntent 1 s
    else
      let old := s.car.active
      let new := g.image
      let floor := s.car.floor
      let n := affectedCount old new
      let s := raiseFloor bitOk (completeCommit new i s)
      let s := match i.job with
        | some j => endJob j 0 0 0 0 s
        | none => s
      let s := raiseEv 0x2013 5 (lo32 floor) (lo32 new.seq) n s
      let s := applyStructure old new (setCopyReason i.firstCopy (0, 0) s)
      let s := { s with car := { s.car with
        staged := none, bareReason := 0, aActive := i.firstCopy == 0, bActive := i.firstCopy == 1, repairPending := true, split := none } }
      let s := watched (fun s => { s with glb := { s.glb with maint := false } }) s
      let added := if old.bare then new.cabinets.map (·.cab) else cabsWithout new old
      serveDraws (commitTamper new (askDraws (added.map Draw.csk ++ added.map Draw.ctx) s))
  | _, _ => s

end Sys2Proof.Machine
end

