-- ==== Sys2Proof/Machine/ExecCarcass.lean ====
section
/-! DEFINITION. Meanings of the commands of the carcass image and ledger time (spec/05_carcass_custody.md, spec/02_transit_orbit_time.md R50 to R53). -/

namespace Sys2Proof.Machine

/-- CARCASS_STAGE (R127). -/
def execCarcassStage (job : Nat) (s : State) : Host.Outcome State Fault Refusal :=
  done s (carcassStage job s)

/-- CARCASS_UNSTAGE (R127). -/
def execCarcassUnstage (job : Nat) (s : State) : Host.Outcome State Fault Refusal :=
  done s (carcassUnstage job s)

/-- CARCASS_READ (R127). -/
def execCarcassRead (job : Nat) (s : State) : Host.Outcome State Fault Refusal :=
  done s (carcassRead job s)

/-- CARCASS_COPY_WRITTEN (R129). -/
def execCarcassCopyWritten (found : List Byte) (s : State) : Host.Outcome State Fault Refusal :=
  done s (carcassCopyWritten found s)

/-- CARCASS_INTENT_TIMEOUT (R129). -/
def execCarcassIntentTimeout (s : State) : Host.Outcome State Fault Refusal :=
  done s (carcassIntentTimeout s)

/-- CARCASS_COMMIT (R132). -/
def execCarcassCommit (bitOk : Bool) (s : State) : Host.Outcome State Fault Refusal :=
  done s (carcassCommit bitOk s)

/-- COPY_REPAIR (R124). -/
def execCopyRepair (found : List Byte) (s : State) : Host.Outcome State Fault Refusal :=
  done s (copyRepair found s)

/-- TIME_NONCE (R50). -/
def execTimeNonce (job : Nat) (s : State) : Host.Outcome State Fault Refusal :=
  done s (timeNonce job s)

/-- TIME_STATEMENT (R52). -/
def execTimeStatement (job : Nat) (s : State) : Host.Outcome State Fault Refusal :=
  done s (timeStatement job s)

/-- TIME_STEP_APPLY (R53). -/
def execTimeStepApply (s : State) : Host.Outcome State Fault Refusal :=
  done s (timeStepApply s)

end Sys2Proof.Machine
end

