-- ==== Sys2Proof/Machine/ExecCipher.lean ====
section
/-! DEFINITION. Meanings of the commands of NOP and the cipher lanes (R176; spec/10_cipher_lanes.md). -/

namespace Sys2Proof.Machine

/-- NOP (R176). -/
def execNop (job : Nat) (s : State) : Host.Outcome State Fault Refusal :=
  done s (nopJob job s)

/-- SYM_ENCRYPT (R233). -/
def execSymEncrypt (job : Nat) (s : State) : Host.Outcome State Fault Refusal :=
  done s (symEncrypt job s)

/-- SYM_DECRYPT (R233). -/
def execSymDecrypt (job : Nat) (s : State) : Host.Outcome State Fault Refusal :=
  done s (symDecrypt job s)

/-- SYM_AEAD_ENCRYPT (R233). -/
def execSymAeadEncrypt (job : Nat) (s : State) : Host.Outcome State Fault Refusal :=
  done s (symAeadEncrypt job s)

/-- SYM_AEAD_DECRYPT (R236). -/
def execSymAeadDecrypt (job : Nat) (s : State) : Host.Outcome State Fault Refusal :=
  done s (symAeadDecrypt job s)

/-- SYM_CMAC (R233). -/
def execSymCmac (job : Nat) (s : State) : Host.Outcome State Fault Refusal :=
  done s (symCmac job s)

/-- SYM_KEY_WRAP (R234). -/
def execSymKeyWrap (job : Nat) (s : State) : Host.Outcome State Fault Refusal :=
  done s (symKeyWrap job s)

/-- SYM_KEY_UNWRAP (R236). -/
def execSymKeyUnwrap (job : Nat) (s : State) : Host.Outcome State Fault Refusal :=
  done s (symKeyUnwrap job s)

/-- SYM_CONTEXT_SAVE (R241). -/
def execSymContextSave (job : Nat) (s : State) : Host.Outcome State Fault Refusal :=
  done s (symContextSave job s)

/-- SYM_CONTEXT_RESTORE (R241). -/
def execSymContextRestore (job : Nat) (s : State) : Host.Outcome State Fault Refusal :=
  done s (symContextRestore job s)

/-- SYM_REENCRYPT (R235). -/
def execSymReencrypt (job : Nat) (s : State) : Host.Outcome State Fault Refusal :=
  done s (symReencrypt job s)

end Sys2Proof.Machine
end

