-- ==== Sys2Proof/Machine/Dawn.lean ====
section
/-! DEFINITION. Dawn: the always-on check, the boot ROM, firmware selection, the ledger step, BIST, the key store step, the
opening of admission and link training (spec/22_dawn_power.md R478 to R496; R213, R214, R357, R443, R448, R507 to R511). The
steps of the Dawn timeline run as one command, and the commands that follow see its end (log 40). -/

namespace Sys2Proof.Machine

/-! ### What the part was given from outside before power good -/

/-- Flash regions replaced while no power was good: 0, 1 carcass copies, 2 to 5 firmware copies. -/
def dawnFlash (e : Nat × List Byte) (s : State) : State :=
  if e.1 < 2 then writeCopy e.1 e.2 s
  else if e.1 < 6 then { s with pwr := { s.pwr with copies := s.pwr.copies.set (e.1 - 2) e.2 } }
  else s

/-- Is every step of the life-cycle field untaken? -/
def isBlank (otp : Tab Nat) : Bool := (List.range 4).all (fun w => Tab.getD otp w 0 == 0)

/-- OTP words 8 to 96 are programmed while the part is BLANK (R446). -/
def factoryWords (ws : List (Nat × Nat)) (s : State) : State :=
  if isBlank s.lcs.otp then
    let own := ws.filter (fun e => decide (8 ≤ e.1 ∧ e.1 ≤ 96))
    let otp := own.foldl (fun o e => programWord e.1 (e.2 % 2 ^ 32) o) s.lcs.otp
    { s with lcs := { s.lcs with otp := otp } }
  else s

/-! ### The life-cycle field (R448) -/

/-- Is a step byte torn: 2^k − 1 with k from 1 to 7? -/
def isTorn (b : Nat) : Bool := [1, 3, 7, 15, 31, 63, 127].contains b

/-- Are the taken steps among 0 to 10 an unbroken run from step 0: the first taken step after a gap, where there is one. -/
def runGap (taken : Nat → Bool) : Option Nat := (List.range 11).find? (fun i => decide (0 < i) && taken i && !taken (i - 1))

/-- The state of a set of taken steps, and the WORKSHOP visits among them. -/
def stateOfSteps (taken : Nat → Bool) : Nat × Nat :=
  let hi := ((List.range 14).filter taken).getLast?
  ((hi.map stepState).getD 0, ([3, 5, 7, 9].filter taken).length)

/-- The word of an OTP word. -/
def wordNow (otp : Tab Nat) (w : Nat) : Nat × Nat := (w, Tab.getD otp w 0)

/-- The decoded field: code, visits and the torn step with the byte found; or the check that fails with its word and value. -/
def decodeLcs (otp : Tab Nat) (agree : Bool) : Except (Nat × Nat × Nat) (Nat × Nat × Option (Nat × Nat)) :=
  let b := stepByte otp
  let taken := fun i => b i == 255
  let torn := (List.range 14).filter (fun i => isTorn (b i))
  let bad := (List.range 16).find? (fun i => if i < 14 then !(b i == 0 || b i == 255 || isTorn (b i)) else b i != 0)
  if !agree then .error (1, wordNow otp 0)
  else match bad with
  | some i => .error (2, wordNow otp (i / 4))
  | none =>
    match torn with
    | _ :: i :: _ => .error (2, wordNow otp (i / 4))
    | _ =>
      match runGap taken with
      | some i => .error (3, wordNow otp (i / 4))
      | none =>
        let st := stateOfSteps taken
        let crcOk := crc32c ((List.range 88).flatMap (fun i => leBytes 4 (Tab.getD otp (8 + i) 0))) == Tab.getD otp 96 0
        match torn with
        | i :: _ =>
          if !(List.range 8).any (fun to_ => transitionStep st.1 to_ st.2 == some i) then .error (2, wordNow otp (i / 4))
          else if !crcOk then .error (4, wordNow otp 96)
          else
            let now := stateOfSteps (fun k => taken k || k == i)
            .ok (now.1, now.2, some (i, b i))
        | [] => if st.1 ≠ 0 ∧ crcOk = false then .error (4, wordNow otp 96) else .ok (st.1, st.2, none)

/-- The boot ROM's OTP step (R448, R449): a torn byte is completed; a pattern that fails is lockdown. -/
def otpStep (agree : Bool) (s : State) : State :=
  match decodeLcs s.lcs.otp agree with
  | .ok (code, visits, none) => { s with lcs := { s.lcs with code := code, visits := visits } }
  | .ok (code, visits, some (i, b)) =>
    raiseEv 0x0412 6 i b code
      { s with lcs := { s.lcs with code := code, visits := visits, tornCompleted := true, otp := programStep i 255 s.lcs.otp } }
  | .error (c, w, v) =>
    let s := eraseVault { s with lcs := { s.lcs with code := 15, visits := 0 }, glb := { s.glb with lockdown := true } }
    raiseEv 0x0413 7 c w v s

/-! ### The always-on check (R443, R444) -/

/-- The check: a Dawn that meets an alarm is in UMBRA (R437), one with an alarm not seen ends there (R443); otherwise the latch is
cleared (R444). -/
def alwaysOnCheck (a : Option (Nat × Nat)) (s : State) : State :=
  let s := match a with
    | some (cls, src) => latchAlarm cls src s
    | none => s
  let t := s.tam
  let s := if a.isSome || t.unseen then
      { s with glb := { s.glb with umbra := a.isSome, dark := a.isNone },
               tam := { t with unseen := a.isNone, dawnNotice := some (t.lastClass, t.lastSource, t.alarmL, eventL s), zeroDue := none } }
    else { s with tam := { t with latched := false, dawnNotice := none, zeroDue := none } }
  let t := s.tam
  { s with tam := { t with disarmed := false, lowLogged := false, repeats := [],
                           lid := { t.lid with count := 0 }, board := { t.board with count := 0 } } }

/-- What waited to be logged: the alarm, the loss of the always-on supplies, a low battery and the briefs of NIGHT, the wake. -/
def logAlwaysOn (s : State) : State :=
  let s := logAlarm 3 s
  let s := if s.pwr.aonLost then raiseEv 0xF015 6 0 0 0 { s with pwr := { s.pwr with aonLost := false } } else s
  let s := match s.tam.lowNight with
    | some mv => raiseEv 0xF014 4 mv 0 0 { s with tam := { s.tam with lowNight := none, lowLogged := true } }
    | none => s
  match s.pwr.woken with
  | some (cause, secs) => raiseEv 0x0131 3 cause secs 0 (logNight { s with pwr := { s.pwr with woken := none } })
  | none => s

/-! ### Firmware selection (R489, R490) -/

/-- Check the four copies; the bad ones are logged. -/
def checkFirmware (s : State) : State :=
  let rs := (List.range 4).map (fun k => fwReason s (if k < 2 then 1 else 2) (fwCopy s k))
  let s := { s with pwr := { s.pwr with reasons := rs } }
  forEach (List.range 4) (fun k s => if rs.getD k 0 = 0 then s else raiseEv 0x0111 5 k (rs.getD k 0) 0 s) s

/-- Does an image list a sequence of the other kind; a hardware revision? -/
def listsSeq (img : List Byte) (seq : Nat) : Bool := (List.range 32).any (fun i => leAt img (96 + 8 * i) 8 == seq)
def listsHw (img : List Byte) (rev : Nat) : Bool := (List.range 8).any (fun i => leAt img (64 + 4 * i) 4 == rev)

/-- The four pairs in the order of later(): Keeper sequence, bundle sequence, A before B; the latest first. -/
def pairOrder (s : State) : List (Nat × Nat) :=
  let key := fun (p : Nat × Nat) => fwSeq (fwCopy s p.1) * 2 ^ 64 + fwSeq (fwCopy s (2 + p.2))
  (sortBy key [(1, 1), (1, 0), (0, 1), (0, 0)]).reverse

/-- May a pair run: both copies valid, majors equal? -/
def pairRuns (s : State) (p : Nat × Nat) : Bool :=
  s.pwr.reasons.getD p.1 1 == 0 && s.pwr.reasons.getD (2 + p.2) 1 == 0
    && fwMortise (fwCopy s p.1) / 65536 == fwMortise (fwCopy s (2 + p.2)) / 65536

/-- Is a pair mutually tested? -/
def pairTested (s : State) (p : Nat × Nat) : Bool :=
  let k := fwCopy s p.1
  let b := fwCopy s (2 + p.2)
  listsSeq k (fwSeq b) && listsSeq b (fwSeq k) && listsHw k (otpWord s 10) && listsHw b (otpWord s 10)

/-- The pair `best` is the one to run, and its copies' sequences and code identities are the machine's (R490). -/
def applyPick (best : Option (Nat × Nat)) (s : State) : State :=
  match best with
  | none => { s with pwr := { s.pwr with pick := none } }
  | some p =>
    { s with
      glb := { s.glb with limited := !pairTested s p }
      pwr := { s.pwr with
        pick := some { keeper := p.1, bundle := p.2, tested := pairTested s p }
        keeperSeq := fwSeq (fwCopy s p.1)
        bundleSeq := fwSeq (fwCopy s (2 + p.2))
        mortise := fwMortise (fwCopy s p.1)
        bundleMortise := fwMortise (fwCopy s (2 + p.2)) } }

/-- No pair is excluded any more (R494). -/
def clearExcluded (s : State) : State := { s with pwr := { s.pwr with excluded := [] } }

/-- The pair to run (R490); exclusions that cover every runnable pair are cleared (R494). -/
def selectPair (s : State) : State :=
  let runs := (pairOrder s).filter (pairRuns s)
  let left := runs.filter (fun p => !s.pwr.excluded.contains p)
  let cand := if left.isEmpty then runs else left
  applyPick ((cand.find? (pairTested s)).or cand.head?) (if left.isEmpty then clearExcluded s else s)

/-- PWR_PAIR. -/
def pwrPair (s : State) : Nat :=
  match s.pwr.pick with
  | some p => p.keeper % 2 + p.bundle % 2 * 2 + flag p.tested * 4
  | none => 0

/-! ### Failed attempts (R494, R495) -/

/-- Back-off after k failures in a row, ms: min(2^(k − 1) s, 1 orbit) (DEDUCED, log 42). -/
def backoffMs (k : Nat) : Nat := min (1000 * 2 ^ min (k - 1) 4) 8589

/-- What the recorder holds is placed and journaled before the attempt's reset (DEDUCED, log 42). -/
def drainRecorder (s : State) : State :=
  let s := forEach (List.range s.evt.queue.length) (fun _ s => eventIntake { s with evt := { s.evt with taken := 0 } }) s
  forEach (List.range s.evt.jQueue.length) (fun _ => journalProgram true) s

/-- The attempt has failed: causes 3 and 4 exclude the pair, and had counted the attempt (DEDUCED, log 42). -/
def failAttempt (cause : Nat) (s : State) : State :=
  let k := s.pwr.fails + 1
  let late := cause = 3 ∨ cause = 4
  let excluded := match s.pwr.pick with
    | some p => if late then s.pwr.excluded ++ [(p.keeper, p.bundle)] else s.pwr.excluded
    | none => s.pwr.excluded
  let since := if late then 0 else s.pwr.sinceLedger + 1
  let causes := s.pwr.causes ++ [{ attempt := saturate 8 k, cause := cause, backoffMs := backoffMs k }]
  let s := resetVolatile s
  { s with
    glb := { s.glb with phase := .backoff }
    pwr := { s.pwr with fails := k, causes := causes.drop (causes.length - 8), sinceLedger := since, excluded := excluded, cause := none } }

/-! ### Event step and ledger step (R466, R357 to R361, R372, R496) -/

/-- The newest of a list of sequences. -/
def newestSeq : List Word → Option Word
  | [] => none
  | a :: rest => some (rest.foldl (fun m b => if seqBefore m b then b else m) a)

/-- The event step: the ring is kept or cleared, the next sequence found, and the start logged. -/
def eventStep (kept : Bool) (s : State) : State :=
  let e : EvtState := { s.evt with journal := s.evt.journal.map (fun b => { b with skipped := false }) }
  let ring := if kept then e.ring else []
  let reserve := if kept then e.reserve else []
  let found := (journalRecords s).length
  let next := match newestSeq ((ring ++ reserve).map (·.seq) ++ (journalRecords s).map (·.seq)) with
    | some n => n + 1
    | none => 0
  let retained := kept && !(ring.isEmpty && reserve.isEmpty)
  let s := { s with evt := { e with ring := ring, reserve := reserve, next := next, mark := next, ringRetained := retained, journalFound := decide (0 < found) } }
  let p2 := flag retained + flag (decide (0 < found)) * 2
  let e : Event := { code := 0x0010, sev := 3, source := 0, L := eventL s % 2 ^ 64, p1 := next.toNat, p2 := p2, p3 := found % 2 ^ 32 }
  { s with evt := { s.evt with queue := e :: s.evt.queue } }

/-- What the k-th write of a counter's cells in this Dawn meets (R355, R356): does the bit read back, and the outcomes of the erases
that follow a carry, 0 where both pass. -/
def cellOf (inp : DawnInput) (id k : Nat) : Bool × List Nat :=
  ((inp.cells.filter (fun e => e.1 == id)).map (·.2)).getD k (true, [])

/-- The erases of a carry: each that fails carries the counter past its row, and the last one ends the carry (R355, R356). -/
def endCarry (id : Nat) (fails : List Nat) (s : State) : State := carryCompletion id 0 (forEach fails (carryCompletion id) s)

/-- What the rows of a counter say, no carry being open (R354): B and K of its best high row, and the count of its active
thermometer row, counted up to its highest bit where it is broken. -/
def readCounter (id : Nat) (s : State) : State :=
  let h := (bestHigh s id).getD (0, 0)
  let n := thermCount (cellRow s (thermRow id h.2))
  let s := modCounter id (fun c => { c with base := h.1, k := h.2, count := n.1, intent := false }) s
  if n.2 then raiseEv 0xC014 6 id (thermRow id h.2) n.1 s else s

/-- One counter of the ledger step (R357): a carry that was open is completed forward, and its value is read. -/
def recoverCounter (inp : DawnInput) (id : Nat) (s : State) : State :=
  match (openIntents s).filter (fun i => i.2.1 == id) with
  | [] => readCounter id s
  | i :: rest =>
    let i := rest.foldl (fun m e => if m.2.2.2 < e.2.2.2 then e else m) i
    let s := modCounter id (fun c => { c with base := i.2.2.1, k := i.2.2.2, count := 0, intent := true, slot := i.1 }) s
    let s := endCarry id (Tab.getD inp.completes id []) s
    let s := forEach (rest.map (·.1)) markDone s
    if (counterOf s id).worn then s
    else readCounter id (raiseEv 0xC011 5 id (lo32 i.2.2.1) 0 { s with ldg := { s.ldg with intentDone := true } })

/-- The counters that the cells or an earlier run name. -/
def knownCounters (s : State) : List Nat :=
  ([0, 1, 2, 3] ++ (List.range 48).map (· + 16)).filter (fun id =>
    Tab.has s.ldg.counters id || (openIntents s).any (fun i => i.2.1 == id)
      || s.ldg.cells.any (fun r => decide (highBase id ≤ r.1 ∧ r.1 < thermBase id + thermRows id)))

/-- A record that is lost: its counter counts as worn (R359). -/
def recordGone (id : Nat) (s : State) : State :=
  let s := raiseEv 0xC017 7 id (lo32 (counterValue (counterOf s id))) 0 (modCounter id (fun c => { c with worn := true }) { s with ldg := { s.ldg with recordLost := true } })
  if id = 2 then { s with ldg := { s.ldg with anchor := none } }
  else if 0x10 ≤ id then modLaneLdg (id - 0x10) (fun l => { l with lost := true, cur := none }) s
  else s

/-- The record a mark counter's value names is read (R358, R359, R361). -/
def recoverRecord (id : Nat) (s : State) : State :=
  let v := counterValue (counterOf s id)
  if v = 0 then s
  else match currentRecord s id v with
  | none => recordGone id s
  | some bs =>
    if id = 1 then { s with car := { s.car with floor := leAt bs 8 8 } }
    else if id = 2 then { s with ldg := { s.ldg with anchor := some (parseAnchor bs) } }
    else modLaneLdg (id - 0x10) (fun l => { l with cur := some (parseLaneRecord bs) }) s

/-- Increment a counter, for the k-th time in this Dawn, and complete a carry it makes at once (R38, R355, R356). -/
def bump (inp : DawnInput) (id k : Nat) (s : State) : State := endCarry id (cellOf inp id k).2 (increment id (cellOf inp id k).1 s)

/-- The identity of the legally relevant part (R372): version and digest. -/
def setIdentity (s : State) : State :=
  let img := runningBundle s
  let sec := slice (fwBody img) (leAt img 24 4) (leAt img 28 4)
  let v := leAt sec 0 4
  let d := Config.sha3 sec
  let first := s.ldg.lrVersion = 0 ∧ s.ldg.lrDigest = 0
  let changed := s.ldg.lrVersion ≠ v ∨ s.ldg.lrDigest ≠ d
  let old := s.ldg.lrVersion
  let s := { s with ldg := { s.ldg with lrVersion := v, lrDigest := d, lrL := s.time.L } }
  if changed ∧ ¬first then raiseEv 0xC020 5 old v (leAt (digestBytes d) 0 4) s else s

/-- Counters and lanes after recovery (R357, R359, R361). -/
def ledgerRecovery (inp : DawnInput) (s : State) : State :=
  let s := forEach inp.rows (fun r => setRow r.1 r.2) s
  let s := { s with car := { s.car with intent := readCommitIntent s } }
  let ids := knownCounters s
  let s := forEach ids (recoverCounter inp) s
  let s := forEach (ids.filter (fun id => id != 0 && id != 3)) recoverRecord s
  let s := { s with ldg := { s.ldg with lanes := Tab.mapAll s.ldg.lanes (fun _ l => { l with view := l.cur.getD {} }) } }
  let a := s.ldg.anchor.getD {}
  { s with ldg := { s.ldg with closed := a.closed }, time := { s.time with lastStep := a.step, lastStepL := a.stepL } }

/-- Start attempts since the last one that reached this step are counted, and their failures logged (R495, R496) (DEDUCED, log 16). -/
def countAttempts (inp : DawnInput) (s : State) : State :=
  let s := forEach (List.range (s.pwr.sinceLedger + 1)) (bump inp 3) s
  let s := forEach s.pwr.causes (fun c => raiseEv 0x0113 5 c.attempt c.cause c.backoffMs) s
  { s with pwr := { s.pwr with causes := [], sinceLedger := 0 } }

/-- The first L of this Dawn (R39) (DESIGN CHOICE, log 14). -/
def dawnL (s : State) : Nat := (counterValue (counterOf s 0) + 1) * orbitL

/-- Ledger time at Dawn (R48, R364). -/
def dawnTime (ticks : Nat) (t : TimeState) (floor : Nat) : TimeState :=
  match t.aonTime with
  | some (us, q) =>
    if q = .unset then { t with ledgerUs := floor, quality := .unset }
    else
      let n := ticks * 15625
      { t with ledgerUs := us + n / 512, subPs := n % 512 * 1000000 / 512, quality := .carried, carriedUs := n / 512 }
  | none => { t with ledgerUs := floor, quality := .unset }

/-- Counter 0x01 is worn, so no commit can complete: an open intent is abandoned (R356) (DEDUCED, log 41). -/
def dropIntent (s : State) : State :=
  match s.car.intent with
  | some i => if (counterOf s 1).worn then raiseEv 0x2014 5 (lo32 i.seq) 1 0 (closeIntentCell true { s with car := { s.car with intent := none } }) else s
  | none => s

/-- The changes of R132 that what stands outside the main domains takes from a commit carried forward at Dawn: storage keys, key store
entries, lane periods, applet store, share store and custody records. -/
def carriedChanges (old new : Carcass) (s : State) : State :=
  let s := forEach ((s.key.cskBanks.map (·.1)).filter (fun c => !hasCab new c)) eraseCsk s
  let s := forEach (s.key.groups.map (·.1)) (fun g => keepEntries g (fun e => slotIn new (hCab e.attr.handle) e.slot)) s
  let s := forEach (old.applets.filter (fun a => !new.applets.contains a))
    (fun a s => { s with wld := { s.wld with store := Tab.del s.wld.store a.world } }) s
  shareCommit old (closeMoved old new s)

/-- The floor counter rises at Dawn, with its floor record. -/
def floorBump (inp : DawnInput) (s : State) : State := endCarry 1 (cellOf inp 1 0).2 (raiseFloor (cellOf inp 1 0).1 s)

/-- The selection with the intent it completes (R120, R129): a carried intent raises the floor counter, and what R132 changes outside
the main domains follows. -/
def selectStep (inp : DawnInput) (s : State) : State :=
  let s := dropIntent s
  let t := selectCarcass s
  if s.car.intent.any (fun i => t.car.intent.isNone && i.seq == t.car.floor) && !t.car.active.bare then
    carriedChanges (structureBefore s (if t.car.aActive then 0 else 1)) t.car.active (floorBump inp t)
  else t

/-- The generator starts (R39): no orbit begins before its number is stored (R38), and a worn counter starts none (R40); one that wears
in this step is logged here, since no boundary follows (DEDUCED, log 15). -/
def startGenerator (inp : DawnInput) (was : Bool) (s : State) : State :=
  let s := bump inp 0 0 s
  if (counterOf s 0).worn then
    let s := { s with time := { s.time with genStopped := true }, glb := { s.glb with counterWorn := true } }
    if was then s else raiseEv 0xC016 7 0 0 0 s
  else { s with time := { s.time with genRunning := true } }

/-- Events raised earlier in the Dawn carry the L of the first transit (R481), but for TAM_ALARM, which carries the alarm's (R445). -/
def stampEvents (s : State) : State :=
  { s with evt := { s.evt with queue := s.evt.queue.map (fun e => if e.code = 0xF010 then e else { e with L := eventL s % 2 ^ 64 }) }
           tam := { s.tam with dawnNotice := s.tam.dawnNotice.map (fun n => (n.1, n.2.1, n.2.2.1, eventL s)) } }

/-! ### BIST at Dawn (R505 to R511) -/

/-- Does a run of 1 or 2 of a partition of this Dawn fail? -/
def dawnEntries (s : State) (kind : Nat) (found : List BistFound) : List BistEntry :=
  (List.range 32).flatMap (fun p => [bistEntry s p 1 kind found, bistEntry s p 2 kind found])

/-- The BIST step: results, failing partitions, tiles out; the second part says whether a core partition failed. -/
def bistStep (full : Bool) (inp : DawnInput) (s : State) : State :=
  let es := dawnEntries s (flag full) inp.bist
  let s := forEach es (keepResult 0) s
  let failed := (List.range 32).filter (fun p => es.any (fun e => e.part == p && entryFails e))
  let s := forEach failed (fun p s =>
    match es.find? (fun e => e.part == p && entryFails e) with
    | some e => forEach (partTiles p) (fun t => modTile t (fun x => { x with bistOut := true })) (raiseEv 0x0511 5 p e.run e.result s)
    | none => s) s
  let map := bitmapOf 32 (fun p => failed.contains p)
  let pass := !failed.any (fun p => decide (18 ≤ p))
  raiseEv 0x0510 3 (flag full) map inp.bistMs
    { s with
      bst := { s.bst with dawnPass := pass, dawnFail := map, fullNext := if full then false else s.bst.fullNext }
      wld := { s.wld with fullBist := full, holdLatched := s.wld.holdLatched && !pass } }

/-! ### The key store step (R213 to R215, R482) -/

/-- Banks and entries the world outside has spoilt. -/
def spoilBanks (inp : DawnInput) (s : State) : State :=
  { s with key := { s.key with groups := Tab.mapAll s.key.groups (fun g x =>
      let spoil := fun (k : Nat) (b : RecBank (List BankEntry)) => { b with
        intact := b.intact && !inp.banksBad.contains (g, k)
        body := b.body.map (fun e => { e with good := e.good && !inp.entriesBad.contains e.slot }) }
      { x with b0 := x.b0.map (spoil 0), b1 := x.b1.map (spoil 1) }) } }

/-- Why an entry is bad (R213): 0 range, 1 no storage key, 2 tag. -/
def entryBad (s : State) (e : BankEntry) : Option Nat :=
  let cab := hCab e.attr.handle
  if !slotIn s.car.active cab e.slot then some 0
  else match (Tab.get? s.key.csk cab).filter (fun c => c.gen == e.attr.cskGen) with
    | none => some 1
    | some c => if e.good && e.under == c.key then none else some 2

/-- A bank that is not in force is erased; one whose check fails is logged as torn (DEDUCED, log 33). -/
def dropBank (g k : Nat) (b : Option (RecBank (List BankEntry))) (s : State) : State :=
  match b with
  | some b => if b.intact then s else raiseEv 0x5030 4 g k (lo32 b.seq) s
  | none => s

/-- The slots of a step that stop to hold a key in it: of a group without a bank in force all 16, and those of bad entries (R214). -/
structure Emptied where
  groups : List Nat := []
  slots : List Nat := []
  deriving DecidableEq, Repr

/-- One entry that stands: its part joins the key of its handle; a part before it that is not there is a gap. -/
def loadEntry (e : BankEntry) (s : State) : State :=
  let first := e.slot - e.attr.part
  match s.key.slots.find? (fun k => k.2.attr.handle == e.attr.handle && k.1 - k.2.attr.part == first) with
  | some (at_, _) =>
    { s with key := { s.key with slots := Tab.update s.key.slots at_ (fun k =>
        { k with material := k.material ++ e.text.take (k.attr.length - 432 * e.attr.part), gaps := k.gaps.filter (· != e.slot) }) } }
  | none =>
    let k : KeySlot := {
      attr := e.attr, material := e.text.take (e.attr.length - 432 * e.attr.part)
      gaps := ((List.range e.attr.span).map (· + first)).filter (· != e.slot) }
    { s with key := { s.key with slots := Tab.put s.key.slots e.slot k } }

/-- One group (R213): its entries slot by slot, or empty where no bank is in force; its banks are erased, its commit word stays
(DEDUCED, log 33). -/
def loadGroup (a : State × Emptied) (g : Nat) : State × Emptied :=
  let s := a.1
  let x := groupOf s g
  let s := match x.active with
    | none => dropBank g 1 x.b1 (dropBank g 0 x.b0 s)
    | some k => dropBank g (1 - k) (if k = 0 then x.b1 else x.b0) s
  match x.active with
  | none =>
    let s := raiseEv 0x5031 6 g (lo32 x.word) 0 s
    ({ s with key := { s.key with
        groups := Tab.update s.key.groups g (fun b => { word := b.word }), rollback := true, groupsBad := s.key.groupsBad + 1 } },
     { a.2 with groups := a.2.groups ++ [g] })
  | some _ =>
    (sortBy (·.slot) (activeEntries s g)).foldl (fun a e =>
      match entryBad a.1 e with
      | some c => (raiseEv 0x5032 5 e.slot c 0 a.1, { a.2 with slots := a.2.slots ++ [e.slot] })
      | none => (loadEntry e a.1, a.2)) (eraseInactive g s, a.2)

/-- The generation table after the step (R214): a slot that holds a key takes its generation; of the others each advances once for the
Dawn, and once more where it has been emptied in it. With the vault empty the table starts again at 0. -/
def dawnGens (empty : Bool) (em : Emptied) (s : State) : Tab Nat :=
  let held := s.key.slots.flatMap (fun k => (heldSlots k.1 k.2).map (fun n => (n, hGen k.2.attr.handle)))
  let old := fun n => if empty then 0 else slotGen s n
  (List.range 8192).map (fun n =>
    (n, match held.find? (fun h => h.1 == n) with
      | some h => h.2
      | none =>
        if empty then 0
        else if em.groups.contains (n / 16) || em.slots.contains n then nextGen (nextGen (old n)) else nextGen (old n)))

/-- The groups are loaded in order (R213), with the slots and groups found empty. -/
def loadGroups (gs : List Nat) (s : State) : State × Emptied := gs.foldl loadGroup (s, {})

/-- The generation numbers after the load (R214); the vault stays empty until a Dawn that is not dark. -/
def storeReady (empty : Bool) (r : State × Emptied) : State :=
  { r.1 with key := { r.1.key with gens := dawnGens empty r.2 r.1, storeLoaded := true, vaultEmpty := empty && umbral r.1 } }

/-- The key store is rebuilt (R213, R214). -/
def keyStoreStep (inp : DawnInput) (s : State) : State :=
  let empty := s.key.vaultEmpty
  let s := spoilBanks inp s
  storeReady empty (loadGroups (List.range 512)
    { s with key := { s.key with slots := [], preps := [], rollback := false, groupsBad := 0, gensReset := empty } })

/-- The draws of the step, in their order (R482). -/
def dawnDraws (s : State) : List Draw :=
  let cabs := sortBy id (s.car.active.cabinets.map (·.cab))
  (if s.msh.idSeed.isNone then [Draw.identity] else [])
    ++ (cabs.filter (fun c => !Tab.has s.key.csk c && !cabHas s c 2)).map Draw.csk
    ++ cabs.map Draw.ctx ++ [Draw.escutcheon]

/-- Keeper starts and the selected structure applies. -/
def carcassStep (inp : DawnInput) (s : State) : State :=
  let dark := umbral s
  let s := modPair 0 (fun p => { p with up := true }) s
  let s := modPair 1 (fun p => { p with up := !dark }) s
  let s := match s.car.site with
    | some r => if s.car.active.bare then loadTamper r.tamper r.boardCover s else loadTamper s.car.active.tamper s.car.active.boardCover s
    | none => loadTamper s.car.active.tamper s.car.active.boardCover s
  let s := keyStoreStep inp s
  let s := if dark then s else askDraws (dawnDraws s) (meshVault inp.sharesBad s)
  let s := { s with eng := { s.eng with epoch := s.time.L / orbitL % 2 ^ 32 } }
  let s := if dark ∨ s.glb.limited then s else dawnWorlds s
  if dark then s else dawnLanes (s.time.L / frameL) s

/-! ### POWER_GOOD, ADMISSION_OPEN, LINK_TRAINING -/

/-- The cause of the Dawn (GLB_RESET_CAUSE) (DEDUCED, log 41). -/
def dawnCause (inp : DawnInput) (s : State) : Nat :=
  if s.pwr.aonLost then 7
  else match s.pwr.cause with
    | some 5 => 5
    | some c => if inp.cold then 0 else c
    | none => 0

/-- Was the reset a warm one (R478)? (DEDUCED, log 41). -/
def warmCause (c : Nat) : Bool := c != 0 && c != 5 && c != 7

/-- The Dawn from the ledger step on, a pair having been picked (DESIGN CHOICE, log 40). -/
def laterDawn (inp : DawnInput) (kept : Bool) (s : State) : State :=
  let was := (counterOf s 0).worn
  let full := s.wld.holdLatched || s.bst.fullNext || s.glb.resetCause == 7
  let s := ledgerRecovery inp (eventStep kept s)
  let L0 := dawnL s
  let s := countAttempts inp { s with time := { s.time with L := L0 } }
  let s := raiseEv 0x0112 3 (pwrPair s) (lo32 s.pwr.keeperSeq) (lo32 s.pwr.bundleSeq) s
  let s := selectStep inp (setIdentity s)
  let s := forEach (s.ldg.lanes.map (·.1)) (fun n => seqSkip n 0) s
  let s := stampEvents (startGenerator inp was s)
  let s := { s with time := dawnTime inp.rtcTicks s.time (ledgerFloorUs s) }
  let s := { s with time := { s.time with admitExpectL := L0 + inp.expect } }
  let s := rngDawn (bistStep full inp s)
  if !s.bst.dawnPass ∧ s.wld.holdLatched = false then failAttempt 4 (drainRecorder s)
  else if !inp.keeperReady then failAttempt 3 (drainRecorder s)
  else timeAnchor (carcassStep inp s)

/-- The steps up to the ledger step (DESIGN CHOICE, log 40). -/
def earlyDawn (inp : DawnInput) (s : State) : State :=
  let cause := dawnCause inp s
  let kept := warmCause cause && inp.ringOk
  let before := s.pwr.fails
  let last := match s.pwr.causes.getLast? with
    | some c => c.cause
    | none => if before = 0 then 0 else s.pwr.lastCause
  let s := resetVolatile s
  let s := if warmCause cause then s else { s with orr := { s.orr with ceilPolicy := 0, ceilI2c := 0 } }
  let s := { s with
    glb := { s.glb with phase := .dawn, resetCause := cause, attempt := saturate 8 (before + 1), pwrReq := true }
    pwr := { s.pwr with cause := none, beforeDawn := before, lastCause := last } }
  let s := factoryWords inp.factory (forEach inp.flash dawnFlash s)
  let s := logAlwaysOn (alwaysOnCheck inp.alarm s)
  let s := otpStep inp.otpAgree s
  let s := { s with lcs := { s.lcs with rights := rightsDefault s.lcs.code, rightsSource := if rightsDefault s.lcs.code = 0 then 0 else 1 } }
  if s.lcs.code = 0 then s
  else if !inp.romOk then failAttempt 2 s
  else
    let s := selectPair (checkFirmware s)
    if s.pwr.pick.isNone then failAttempt 1 s else laterDawn inp kept s

/-- POWER_GOOD (R480, R481): a Dawn begins at power good and runs its steps up to the opening of admission (DESIGN CHOICE, log 40). -/
def powerGood (inp : DawnInput) (s : State) : State :=
  if s.glb.phase = .off ∧ (s.pwr.cause.isSome ∨ inp.cold) ∧ s.tam.up ∧ s.tam.edges = 1024 then earlyDawn inp s else s

/-- ADMISSION_OPEN (R481, R487, R494, R495): `ms` is the time since power good. -/
def admissionOpen (ms : Nat) (s : State) : State :=
  if s.glb.phase = .dawn ∧ s.time.genRunning ∧ s.glb.counterWorn = false ∧ s.wld.pair0.up then
    let s := watched (fun s => { s with
        orr := { s.orr with admitOpen := true, admittedOnce := true }
        glb := { s.glb with phase := .run, dawnMs := saturate 16 ms, hold := s.wld.holdLatched, umbra := umbral s, dark := false }
        tam := { s.tam with unseen := s.tam.unseen && !umbral s }
        pwr := { s.pwr with fails := 0, excluded := [] } }) (drbgLate s)
    let s := if s.glb.hold then modPair 1 (fun p => { p with up := false }) s else s
    let s := raiseEv 0x0110 3 s.glb.dawnMs (stateCode (devState s)) s.glb.resetCause s
    meshStart (s.time.L + ceilDiv ((700 - ms) * 1000000) 8192) s
  else s

/-- LINK_TRAINING (R484): the link trains with a width and rate; functions are those of the selected image (R485). BLANK trains
none (R450). -/
def linkTraining (lanes gts : Nat) (vf : Bool) (s : State) : State :=
  if (s.glb.phase = .dawn ∨ s.glb.phase = .run) ∧ s.lcs.code ≠ 0 ∧ s.hlk.up = false then
    { s with hlk := { s.hlk with up := true, lanes := lanes, gts := gts, vfEnable := vf } }
  else s

end Sys2Proof.Machine
end

