-- ==== Sys2Proof/Machine/Fetch.lean ====
section
/-! DEFINITION. Descriptor fetch: the opcode table, the checks of R166 in their order, and the job that follows
(spec/07_ramrek_messages.md R163 to R167, R176, R177; spec/08_jobs_memory.md R185; spec/06_host_transport.md R144, R156). -/

namespace Sys2Proof.Machine

/-! ### The opcode table (R176) -/

/-- Does a right asked for lie outside the window of its page, or a function outside the window or the cabinet (R185)? The
descriptor offset of the field. -/
def pageField (s : State) (cab : Nat) (d : Desc) : Option Nat :=
  let wins := s.car.active.windows.filter (fun w => w.cab == cab && rangesMeet w.first w.count (d.par 40 4) (d.par 44 4))
  let f := d.par 56 2
  let rightBad := (d.opcode == 0xE001 || d.opcode == 0xE003) && wins.any (fun w => (d.par 58 1 % 4 &&& w.rights) != d.par 58 1 % 4)
  let fnBad := d.opcode == 0xE001 && ((f != 0xFFFF && !(fnRec? s f).any (fun r => r.cab == cab))
    || wins.any (fun w => w.fn != 0xFFFF && w.fn != f))
  if fnBad then some 56 else if rightBad then some 58 else none

/-- What the page commands ask of a descriptor (R185). -/
def pageInfo (s : State) (f cab : Nat) (d : Desc) : OpInfo :=
  let n := d.par 44 4
  let map := d.opcode == 0xE001
  let list := map && bit (d.par 59 1) 0
  let frame := d.par 48 8
  let top := if d.opcode = 0xE004 then 1 else 4096
  { plane := .C, usesAux := list,
    fields := [(36, !list || d.auxLen == 8 * n),
      (48, if !map || list then frame == 0 else decide (frame < 2 ^ 48) && (n == 0 || decide (frame + n - 1 < 2 ^ 48))),
      (56, if map then decide (d.par 56 2 ≤ 64) || d.par 56 2 == 0xFFFF else d.par 56 2 == 0),
      (58, if map || d.opcode == 0xE003 then decide (1 ≤ d.par 58 1 ∧ d.par 58 1 < 4) else d.par 58 1 == 0),
      (59, if map then decide (d.par 59 1 < 2) else d.par 59 1 == 0)] ++ reservedFrom d 60,
    owner :=
      if !(fnRec? s f).any (fun r => bit r.flags 0) then some (0x3001, 2, 0)
      else if !inWindows s cab (d.par 40 4 * 4096) (n * 4096) then some (0x3001, 40, 0)
      else (pageField s cab d).map (fun o => (0x3011, o, 0)),
    length := if n = 0 ∨ top < n then some (0x5001, 44, top) else none }

/-- The opcodes of one area and what their chapter says of a descriptor; none where the table does not list the opcode. -/
def opInfo (s : State) (f : Nat) (d : Desc) : Option OpInfo :=
  let cab := cabOfFn s f
  let op := d.opcode
  if op = 0x0001 then some { plane := .C, fields := reservedFrom d 40 }
  else if 0x1001 ≤ op ∧ op ≤ 0x100A then some (cipherInfo s cab d)
  else if 0x2001 ≤ op ∧ op ≤ 0x2007 then some (digestInfo s cab d)
  else if [0x3001, 0x3002, 0x3003, 0x3004, 0x3010, 0x3011, 0x3012, 0x3013, 0x3020, 0x3021, 0x3022, 0x3030].contains op then
    some (bignumInfo s cab d)
  else if [0x4001, 0x4002, 0x4003, 0x4010, 0x4011].contains op ∨ (0x4020 ≤ op ∧ op ≤ 0x4028) then some (polyInfo s cab d)
  else if op = 0x5001 then some (rngInfo s d)
  else if [0x6001, 0x6010, 0x6011, 0x6020].contains op then some (ledgerInfo s f cab d)
  else if 0x7001 ≤ op ∧ op ≤ 0x7008 then some (keyInfoOf s cab d)
  else if 0x7010 ≤ op ∧ op ≤ 0x7012 then some (dovetailInfo s cab d)
  else if 0x8001 ≤ op ∧ op ≤ 0x8003 then some (custodyInfo s cab d)
  else if op = 0x8010 ∨ op = 0x8011 then some (timeInfo cab d)
  else if op = 0x9001 ∨ op = 0x9002 then some (tunnelInfo s f d)
  else if op = 0x9010 ∨ op = 0x9011 then some (meshCustodyInfo s cab d)
  else if op = 0x9020 then some (aggregateInfo s cab d)
  else if 0xA001 ≤ op ∧ op ≤ 0xA003 then some (worldInfo s cab d)
  else if (0xB001 ≤ op ∧ op ≤ 0xB004) ∨ op = 0xB010 then some (lifecycleInfo s cab d)
  else if op = 0xC001 ∨ op = 0xC002 then some (eventInfo s f d)
  else if op = 0xD001 then some (selftestInfo s cab d)
  else if [0xD002, 0xD003, 0xD010, 0xD011].contains op then some (powerInfo cab d)
  else if 0xE001 ≤ op ∧ op ≤ 0xE004 then some (pageInfo s f cab d)
  else none

/-- What is asked of a descriptor whose opcode the table does not list: its class, its reserved byte, its pairs (R164) (DEDUCED, log 18). -/
def unknownInfo : OpInfo := { plane := .C, usesA := true, usesB := true, usesIn := true, usesOut := true, usesAux := true }

/-! ### Step 2 (R177, R391, R392, R452, R455) -/

/-- The opcodes each restricting state permits: UMBRA, HOLD, MAINTENANCE and LIMITED. -/
def inUmbra (op : Nat) : Bool := [0x0001, 0xC001, 0xC002, 0xB001, 0xB002, 0xB003, 0xB004].contains op
def inHold (op : Nat) : Bool := [0x0001, 0xC001, 0xC002, 0xB002, 0xB003, 0xB004, 0x8003].contains op
def inLimited (op : Nat) : Bool :=
  [0x0001, 0xC001, 0xC002, 0x7010, 0x7011, 0xD001, 0xD002, 0xD003, 0xD010, 0xD011, 0xB001, 0xB002, 0xB003, 0xB004, 0x6001, 0x6011,
   0x6020, 0x8001, 0x8002, 0x8003, 0x8010, 0x8011, 0xE001, 0xE002, 0xE003, 0xE004].contains op

/-- Does a descriptor name or create a key (R455)? (DEDUCED, log 19). -/
def namesKey (d : Desc) : Bool :=
  let op := d.opcode
  let named := d.handleA != noHandle || d.handleB != noHandle
  if op / 0x1000 = 1 then true
  else if op = 0x2002 ∨ op = 0x2003 then named
  else if op / 0x1000 = 3 then (op != 0x3030 && named) || op == 0x3013
  else if op = 0x4001 then true
  else if op = 0x4002 then named || pDest d != 0
  else if pPq op then named
  else if 0x4020 ≤ op ∧ op ≤ 0x4027 then takesSk op || (op == 0x4020 && !pAdopt d)
  else op == 0x6010 || decide (0x7001 ≤ op ∧ op ≤ 0x7008)

/-- The refusal of the device state: the first of UMBRA, HOLD, MAINTENANCE and LIMITED that does not permit the opcode, then a
reset that is pending, open invasive rights, and Keeper's absence (DEDUCED, log 19). -/
def stateRefusal (s : State) (d : Desc) (i : Option OpInfo) : Option Nat :=
  let op := d.opcode
  let plane := i.map (·.plane)
  if s.glb.umbra && !inUmbra op then some 0x6003
  else if s.glb.hold && !inHold op then some 0x6002
  else if (s.glb.maint || s.glb.limited) && !inLimited op then some 0x6001
  else if s.lcs.pendingReset && !([0x0001, 0xC001, 0xC002].contains op) then some 0x6001
  else if invasiveOpen s && i.isSome && namesKey d then some 0x6001
  else if keeperAbsent s && plane == some .M then some 0x6030
  else if s.glb.keeperClosed && plane == some .D then some 0x6030
  else none

/-! ### Steps 5 to 9 -/

/-- Step 5 (R65, R66): the cause of CLASS_INELIGIBLE. -/
def classBad (s : State) (d : Desc) (i : OpInfo) : Option Nat :=
  let prompt := d.cls == 0
  let bar := fun (c : Nat) => i.promptBar == some c
  let checks : List (Nat × Bool) :=
    [(3, (i.plane == .M) != (d.cls == 3)),
     (0, prompt && ((i.plane == .D && i.cost.any (fun c => decide (promptLimit s i.engine < c))) || bar 0)),
     (1, prompt && (decide (4096 < d.inLen + d.auxLen) || bar 1)),
     (2, prompt && (decide (min 1024 (bLink s / 12 - 32) < i.outLen) || bar 2))]
  (checks.find? (·.2)).map (·.1)

/-- Does the descriptor name, or would it write, a wrapped context record of a cabinet without a context key (R482)? (DEDUCED, log 18). -/
def wrappedShort (s : State) (cab : Nat) (d : Desc) : Bool :=
  let area := d.opcode / 0x1000
  let sr := [0x1008, 0x1009, 0x2005, 0x2006].contains d.opcode
  (area == 1 || (area == 2 && d.opcode != 0x2007)) && (sr || d.par 52 1 == 1) && !Tab.has s.eng.ctxKeys cab

/-- The first check of R166 that fails: status and detail words (DEDUCED, log 18). -/
def firstRefusal (s : State) (f : Nat) (d : Desc) : Option (Nat × Nat × Nat × Nat) :=
  let cab := cabOfFn s f
  let known := opInfo s f d
  let i := known.getD unknownInfo
  let quad := fun (e : Option (Nat × Nat × Nat)) => e.map (fun e => (e.1, e.2.1, e.2.2, 0))
  if isFrozen s 0 f then some (0x3004, 0, 0, 0)
  else match stateRefusal s d known with
  | some st => some (st, 0, 0, 0)
  | none =>
    match badField d i with
    | some o => some (0x2001, o, 0, 0)
    | none =>
      if known.isNone then some (0x2002, d.opcode, 0, 0)
      else match classBad s d i with
      | some c => some (0x2010, c, 0, 0)
      | none =>
        let range := (badRange s cab d i).map (fun o => (0x3001, o, 0, 0))
        let small := match i.needOut with
          | some n => if d.outCap < n then some (0x2014, n, 0, 0) else none
          | none => none
        -- W0 = 0 is R482's; cost and point are R172's
        let short := if wrappedShort s cab d then some (0x4008, 0, i.cost.getD 0, (bestPoint s i.engine).getD 3) else none
        -- the lane of a seal is looked at when the job is planned (R347)
        let lane := if d.opcode = 0x6010 then quad (sealLaneBad s f (d.par 40 1)) else none
        [quad i.owner, range, quad i.policy, quad i.length, i.late, small, short, lane].findSome? id

/-! ### DESCRIPTOR_FETCH -/

/-- The job a descriptor becomes. -/
def newJob (s : State) (f n : Nat) (d : Desc) (i : OpInfo) : Job :=
  let q := s.sqOf f n
  { fn := f, sq := n, cq := q.cq, desc := d, bellD := bellInstant q q.head (s.time.L * transitCycles),
    plane := match i.plane with | .D => 0 | .C => 1 | .M => 2,
    engine := i.engine, outLen := i.outLen, needs := i.needs, transits := i.transits, cost := i.cost.getD 0, remaining := i.cost.getD 0,
    staged := d.inLen == 0 && d.auxLen == 0 && i.recordRead.isNone,
    recordRead := i.recordRead, wantSlot := i.wantSlot, wantHe := i.wantHe, backing := i.backing }

/-- A descriptor answered BUSY_STARTING within its credit where the generator has stopped (R40): it uses its credit, holds no
slot and returns nothing (DEDUCED, log 23). -/
def stoppedAnswer (f n : Nat) (d : Desc) (s : State) : State :=
  let q := s.sqOf f n
  let s := giveBack f n 2 (modSq f n fetched s)
  let s := modFn f (fun x => { x with slots := x.slots - 1 }) s
  writeEntry f q.cq (plainAnswer s d.tag n 0x1002 false) s

/-- DESCRIPTOR_FETCH (R144, R145, R166): the descriptor whose turn it is, within its credit limit, is checked, and refused or
queued. Its 64 bytes are `bs` (DESIGN CHOICE, log 8). -/
def descriptorFetch (f n : Nat) (bs : List Byte) (s : State) : State :=
  let q := s.sqOf f n
  if nextFetch s = some (f, n) ∧ withinLimit q = true then
    let d := Desc.parse bs
    let s := passTurn f n s
    if s.time.genStopped then stoppedAnswer f n d s
    else
      let bad := firstRefusal s f d
      let x := newJob s f n d ((opInfo s f d).getD unknownInfo)
      let j := s.job.nextJob
      let s := modSq f n fetched s
      let s := { s with job := { s.job with jobs := Tab.put s.job.jobs j x, nextJob := j + 1 } }
      match bad with
      | some (st, w0, w1, w2) => endJob j st w0 w1 w2 s
      | none => s
  else s

/-- The bit of the uncorrectable error status a failed read sets: completion timeout, Unsupported Request, Completer Abort, poisoned
data (PRESUMED, log 77). -/
def aerBit (cause : Nat) : Nat := if cause = 0 then 14 else if cause = 1 then 20 else if cause = 2 then 15 else 12

/-- A failed read is reported through AER (R156). -/
def reportAer (f cause : Nat) (s : State) : State :=
  emit (.aer f (aerBit cause)) (modFn f (fun x => { x with cfg := { x.cfg with aer := x.cfg.aer ||| 2 ^ aerBit cause } }) s)

/-- HOST_READ_FAILURE (R156): a descriptor read of a ring fails (`job` none), or an operand read of a job, by the cause of `aerBit`;
`addr` is the device address. -/
def hostReadFailure (job : Option Nat) (f n addr cause : Nat) (s : State) : State :=
  match job with
  | none => if nextFetch s = some (f, n) then faultSq f n 0x09 (passTurn f n (reportAer f cause s)) else s
  | some j =>
    match s.jobOf j with
    | some x =>
      if x.finished || inCommit x || x.answer.isSome then s
      else failJob j (if cause = 3 then 0x2013 else 0x2012) addr 0 0 (reportAer x.fn cause s)
    | none => s

end Sys2Proof.Machine
end

