-- ==== Sys2Proof/Machine/Boundary.lean ====
section
/-! DEFINITION. The boundaries: the end of a transit and the transit that follows it, meter frames, orbits, the planning tail and
the entry to HOLD (spec/02_transit_orbit_time.md R33 to R43; spec/03_orrery.md R57 to R81; R180, R394, R502, R525). -/

namespace Sys2Proof.Machine

/-! ### The end of a transit -/

/-- What the end of a transit does: the DMA of its slices, bursts that leave, resets that waited for them, seals whose job is gone,
pressure, the notices (R151), then the credits, and after the status blocks that carry them their interrupts (R153). -/
def transitEnd (inp : TransitInput) (s : State) : State :=
  let s := settleResets (endBursts (forEach inp.dma dmaRequest s))
  let s := writeNotices (alarmAtDawn (ringPressure (skipRemoved s)))
  signalCredits s (statusBlocks (creditBatch s))

/-- The noise sources in the transit that ends (R312 to R315): a source the input does not list gave nothing. -/
def noiseSamples (inp : TransitInput) (s : State) : State :=
  let s := forEach ((List.range 16).map (· + 16)) (fun n =>
    let r := Tab.getD inp.pairs n (0, 0, [])
    pairSample n r.1 r.2.1 r.2.2) s
  forEach [0, 1, 2, 3] (fun n => channelSample n (Tab.getD inp.channels n [])) s

/-- A tile's reading and the transit counts of R502. -/
def tileReading (r : TileReading) (s : State) : State :=
  if !allTiles.contains r.tile then s
  else modTile r.tile (fun x => { x with
    tempC := r.tempC, mv := r.mv, warn := r.warn
    hot := if 105 ≤ r.tempC then x.hot + 1 else 0
    margin := if r.warn then x.margin + 1 else 0
    clean := if r.tempC ≤ 95 ∧ r.warn = false then x.clean + 1 else 0 }) s

/-! ### The transit that begins -/

/-- Approved thaws take effect (R201). -/
def applyThaws (s : State) : State :=
  let due := s.job.thawDue
  forEach due (fun e s =>
    let s := thawMaster e.1 e.2.1 e.2.2 s
    match e.1 with
    | 2 => restartWorld e.2.1 s
    | 3 => thawPeer e.2.1 s
    | 4 => thawLane e.2.1 s
    | _ => s) { s with job := { s.job with thawDue := [] } }

/-- VDD_CORE_VID (R525): at most 4 codes toward the highest island (DEDUCED, log 55). -/
def nextVid (s : State) : Nat :=
  let mv := (s.orr.tiles.map (·.2.mv)).foldl max 0
  if mv = 0 then s.pwr.vid
  else
    let want := min 56 (max 4 (ceilDiv (mv - 600) 5))
    if s.pwr.vid < want then min want (s.pwr.vid + 4) else max want (s.pwr.vid - 4)

/-- A worn counter 0x00 closes admission and is logged at the next boundary (R40). R40 speaks of a counter that wears before
s = k + 1 is stored; where it wears in orbit k after that, the model does the same at the next boundary, begins orbit k + 1, which
is stored, and stops at the orbit after it (DESIGN CHOICE, log 67). -/
def wornCloses (s : State) : State :=
  if (counterOf s 0).worn ∧ s.glb.counterWorn = false then
    watched (fun s => { s with orr := { s.orr with admitOpen := false }, glb := { s.glb with counterWorn := true } }) (raiseEv 0xC016 7 0 0 0 s)
  else s

/-- Storage keys due after a zeroization are drawn (R460); draws that wait are served. -/
def boundaryDraws (s : State) : State :=
  let due := s.lcs.cskDue
  serveDraws (askDraws (due.map Draw.csk) { s with lcs := { s.lcs with cskDue := [] } })

/-- NIGHT goes on: its job's commit phase ends by T + 64 (R500). -/
def nightGoesOn (s : State) : State :=
  match s.pwr.nightJob with
  | none => s
  | some (j, t) =>
    if (s.jobOf j).all (·.finished) then (if t < s.time.L then enterNight s.pwr.wakeDelay true s else s)
    else if t + 64 ≤ s.time.L then commitNow j (2 ^ 32) true s
    else s

/-- Has the device a live phase reference other than itself (R41, R411)? -/
def refLive (s : State) : Bool := s.msh.parent.any (fun m => (s.memberOf m).any (fun x => x.st == .live))

/-- L steps, ledger time with it, and the event engine's record allowance and mark start again (R46, R467) (DEDUCED, log 15). -/
def beginL (s : State) : State :=
  { s with
    time := advanceLedger (trimUpdate (refLive s) { s.time with L := s.time.L + 1 })
    evt := { s.evt with taken := 0, mark := s.evt.next, replaced := [] } }

/-- The six slot counts, as they stand at the beginning of the transit. -/
def fillBooks (s : State) : State := { s with job := { s.job with books := slotBooks s } }

/-- VDD_CORE_VID moves towards its target (R525) (DEDUCED, log 55). -/
def stepVid (s : State) : State := { s with pwr := { s.pwr with vid := nextVid s } }

/-- Rights that are due open; where invasive ones open that were closed, every job that names or creates a key and has not reached its
commit phase ends STATE_LIMITED (R455). -/
def openDueRights (s : State) : State :=
  let t := openRights s
  if invasiveOpen t && !invasiveOpen s then
    forEach ((liveJobs t).filter (fun e => !inCommit e.2 && namesKey e.2.desc)) (fun e => endJob e.1 0x6001 0 0 0) t
  else t

/-- What the boundary at which transit L + 1 begins does. -/
def boundaryWork (s : State) : State :=
  let s := beginL s
  let s := wornCloses (booksBoundary s)
  let s := applyThaws (releaseFinished s)
  let s := reportClipped (revisePlans (changePoints (latchCapacity s)))
  let s := takeSnapshots (fillBooks (loadBanks (startSlices (writeAnswers s))))
  let s := startRotations (boundaryDraws (openDueRights s))
  stepVid (pruneBist (pruneMesh (pruneWanted s)))

/-- The boundary at which transit L + 1 begins. -/
def transitBegin (s : State) : State := nightGoesOn (inOneCycle boundaryWork s)

/-- The generator stops (R40): jobs end, and events carry the all-ones L from here on. -/
def stopGenerator (s : State) : State :=
  let s := forEach (liveJobs s) (fun e => endJob e.1 0x7001 0 0 0) s
  let s := forEach (s.mtr.map (·.1)) (fun n => modLane n (fun l => { l with cycle := none })) s
  watched (fun s => { s with
    time := { s.time with genRunning := false, genStopped := true }
    orr := { s.orr with admitOpen := false }, glb := { s.glb with counterWorn := true } }) s

/-- TRANSIT_BOUNDARY (R33, R37, R38, R40): an orbit never begins before its number has been stored; where its counter is worn the
generator stops instead (DEDUCED, log 13) (DEDUCED, log 15) (DESIGN CHOICE, log 61). -/
def transitBoundary (inp : TransitInput) (s : State) : State :=
  if !s.time.genRunning then s
  else
    let next := s.time.L + 1
    let held := next % orbitL = 0 ∧ counterValue (counterOf s 0) < next / orbitL
    if held ∧ (counterOf s 0).worn = false then s
    else
      let s := forEach inp.tiles tileReading (noiseSamples inp (transitEnd inp s))
      if held then stopGenerator s else transitBegin s

/-! ### Meter frames and orbits -/

/-- The work of a meter frame boundary: the always-on copy of L, losses of the frame before, the stored orbit in the first frame of an
orbit, period closes. `bitOk` says whether ledger bits read back (DEDUCED, log 13). -/
def frameWork (bitOk : Bool) (s : State) : State :=
  let L := s.time.L
  let s := rejoinThawed (recordsLost { s with time := { s.time with aonL := L }, tam := { s.tam with aonTick := s.tam.ticks } })
  let s := if counterValue (counterOf s 0) < L / orbitL + 1 then increment 0 bitOk s else s
  let s := if L % orbitL = 0 then timeAnchor s else s
  let s := if L % (256 * orbitL) = 0 then writeAnchor bitOk s else s
  periodClose bitOk s

/-- METER_FRAME_BOUNDARY (R34, R38, R348, R362, R364, R425, R473, R540), once for each frame. -/
def meterFrameBoundary (bitOk : Bool) (s : State) : State :=
  if s.time.genRunning ∧ s.time.L % frameL = 0 ∧ s.time.aonL ≠ s.time.L then inOneCycle (frameWork bitOk) s else s

/-- UNTESTED_PAIRING at every orbit boundary in LIMITED (R491). -/
def untestedNotice (s : State) : State :=
  if s.glb.limited ∧ (s.cqOf 0 0).st = .active then
    notify 0x0004 0 s.pwr.mortise s.pwr.bundleMortise (otpWord s 10) 0 0 s
  else s

/-- ORBIT_BOUNDARY (R34): counts of an orbit start again, and the notices of every orbit are sent (DEDUCED, log 13). -/
def orbitBoundary (s : State) : State :=
  if s.time.genRunning ∧ s.time.L % orbitL = 0 then
    let s := orbitSources { s with
      orr := { s.orr with tiles := Tab.mapAll s.orr.tiles (fun _ x => { x with verifyFails := 0 }) }
      tam := { s.tam with repeats := [] } }
    untestedNotice (splitNotice s)
  else s

/-! ### The planning tail and HOLD -/

/-- The structure the next transit runs under: the new image's in the tail of the last transit before its commit boundary
(R131), else the active one. -/
def nextStructure (s : State) : Carcass :=
  match s.car.intent, s.car.staged with
  | some i, some g => if i.written && (s.time.L + 1) % orbitL == 0 && !s.glb.umbra && !keeperAbsent s && !(counterOf s 1).worn then g.image else s.car.active
  | _, _ => s.car.active

/-- Run under a structure other than the active one. -/
def underStructure (c : Carcass) (f : State → State) (s : State) : State :=
  let t := f { s with car := { s.car with active := c } }
  { t with car := { t.car with active := s.car.active } }

/-- The tail of the transit under way has begun (R55). -/
def openTail (s : State) : State := if s.time.genRunning then { s with time := { s.time with tailL := some s.time.L } } else s

/-- PLANNING_TAIL (R55, R62, R69, R131, R197, R515): nothing is planned once power has failed. -/
def planningTail (s : State) : State :=
  if s.time.genRunning ∧ s.glb.phase = .run then
    openTail (underStructure (nextStructure s) planTail (abandonTimely (bistTail s)))
  else openTail s

/-- HOLD_ENTRY (R394, R395): the boundary after a comparator died. -/
def holdEntry (s : State) : State :=
  match s.wld.holdDue with
  | none => s
  | some l =>
    if s.time.L ≤ l ∨ s.time.genRunning = false then s
    else
      let s := withdrawAll none (abortBist 3 { s with pwr := { s.pwr with nightJob := none } })
      let s := modPair 1 (fun p => { p with up := false, restartL := none }) { s with wld := { s.wld with holdDue := none, holdLatched := true } }
      watched (fun s => { s with glb := { s.glb with hold := true } }) s

end Sys2Proof.Machine
end

