-- ==== Sys2Proof/Machine/ExecClock.lean ====
section
/-! DEFINITION. Meanings of the commands of the clock: transits, frames, orbits, 1PPS, the planning tail, commit phases and ledger completions (rules R33 to R76, R355, R360). -/

namespace Sys2Proof.Machine

/-- TRANSIT_BOUNDARY (R33). -/
def execTransitBoundary (inp : TransitInput) (s : State) : Host.Outcome State Fault Refusal :=
  done s (transitBoundary inp s)

/-- METER_FRAME_BOUNDARY (R34). -/
def execMeterFrameBoundary (bitOk : Bool) (s : State) : Host.Outcome State Fault Refusal :=
  done s (meterFrameBoundary bitOk s)

/-- ORBIT_BOUNDARY (R34). -/
def execOrbitBoundary (s : State) : Host.Outcome State Fault Refusal :=
  done s (orbitBoundary s)

/-- PPS_EDGE (R42). -/
def execPpsEdge (stamp : Nat) (cycle : Nat) (s : State) : Host.Outcome State Fault Refusal :=
  done s (ppsEdge stamp cycle s)

/-- PPS_INTERVAL_TIMEOUT (R42). -/
def execPpsIntervalTimeout (s : State) : Host.Outcome State Fault Refusal :=
  done s (ppsIntervalTimeout s)

/-- PLANNING_TAIL (R69). -/
def execPlanningTail (s : State) : Host.Outcome State Fault Refusal :=
  done s (planningTail s)

/-- OPERAND_STAGED (R61, R216). -/
def execOperandStaged (job : Nat) (input : List Byte) (aux : List Byte) (extra : List Byte) (s : State) : Host.Outcome State Fault Refusal :=
  done s (stageJob job input aux extra s)

/-- COMMIT_PHASE (R75). -/
def execCommitPhase (job : Nat) (count : Nat) (bitOk : Bool) (s : State) : Host.Outcome State Fault Refusal :=
  done s (commitNow job count bitOk s)

/-- CARRY_COMPLETION (R355). -/
def execCarryCompletion (counter : Nat) (fail : Nat) (s : State) : Host.Outcome State Fault Refusal :=
  done s (carryCompletion counter fail s)

/-- LANE_RECORD_WRITE (R360). -/
def execLaneRecordWrite (lane : Nat) (bitOk : Bool) (s : State) : Host.Outcome State Fault Refusal :=
  done s (laneRecordWrite lane bitOk s)

end Sys2Proof.Machine
end

