-- ==== Sys2Proof/Machine/ExecDigest.lean ====
section
/-! DEFINITION. Meanings of the commands of the digest engines (spec/11_digest.md). -/

namespace Sys2Proof.Machine

/-- DIG_HASH (R253). -/
def execDigHash (job : Nat) (s : State) : Host.Outcome State Fault Refusal :=
  done s (digHash job s)

/-- DIG_HMAC (R254). -/
def execDigHmac (job : Nat) (s : State) : Host.Outcome State Fault Refusal :=
  done s (digHmac job s)

/-- DIG_KMAC (R254). -/
def execDigKmac (job : Nat) (s : State) : Host.Outcome State Fault Refusal :=
  done s (digKmac job s)

/-- DIG_XOF (R256). -/
def execDigXof (job : Nat) (s : State) : Host.Outcome State Fault Refusal :=
  done s (digXof job s)

/-- DIG_CONTEXT_SAVE (R257). -/
def execDigContextSave (job : Nat) (s : State) : Host.Outcome State Fault Refusal :=
  done s (digContextSave job s)

/-- DIG_CONTEXT_RESTORE (R257). -/
def execDigContextRestore (job : Nat) (s : State) : Host.Outcome State Fault Refusal :=
  done s (digContextRestore job s)

/-- DIG_RESULT_RELEASE (R260). -/
def execDigResultRelease (job : Nat) (s : State) : Host.Outcome State Fault Refusal :=
  done s (digResultRelease job s)

end Sys2Proof.Machine
end

