-- ==== Sys2Proof/Machine/Registers.lean ====
section
/-! DEFINITION. The register space (spec/25_register_index.md R535 to R539, and each chapter's register table): what a read
returns on either read path, the latches a read of a low half fills, and writes of registers with no behaviour of their own. -/

namespace Sys2Proof.Machine

/-! ### Paths (R537, R538) -/

/-- The number of the DAP's read path; 0 is BAR0 of function 0, k from 1 to 64 the BAR0 of VF k. -/
def dapPath : Nat := 100

/-- Selectors and latches of a path; a VF has none. -/
def pathOfNo (s : State) (path : Nat) : ReadPath := if path = 0 then s.bar0 else if path = dapPath then s.dap else {}

/-- Change the selectors and latches of a path (DEDUCED, log 25). -/
def modPath (path : Nat) (g : ReadPath → ReadPath) (s : State) : State :=
  if path = 0 then { s with bar0 := g s.bar0 } else if path = dapPath then { s with dap := g s.dap } else s

/-- The value of a selector on a path (DEDUCED, log 25). -/
def selOf (p : ReadPath) (a : Nat) : Nat := Tab.getD p.sel a 0
/-- The value a latch holds on a path (DEDUCED, log 25). -/
def latchOf (p : ReadPath) (a : Nat) : Nat := Tab.getD p.latch a 0

/-- May the DAP read a block: REG_READ; BIST_DAP for the BST_ block (R519); EVENT_DAP for the EVT_ block (R454) (DEDUCED, log 24). -/
def dapMayRead (s : State) (block : Nat) : Bool :=
  bit s.lcs.rights 1 || (block == 19 && bit s.lcs.rights 3) || (block == 17 && bit s.lcs.rights 0)

/-- Is the mailbox of the LCS block in reach of the DAP (R453): in BLANK and TEST, outside lockdown? (DEDUCED, log 24). -/
def mailboxOpen (s : State) : Bool := decide (s.lcs.code < 2) && !s.glb.lockdown && (s.glb.phase == .run || s.glb.phase == .dawn)

/-- PWR_CEILING (R503): the effective ceilings, those of POWER_POLICY and those of the sideband. -/
def pwrCeiling (s : State) : Nat := ceilings s + s.orr.ceilPolicy % 256 * 256 + s.orr.ceilI2c % 256 * 65536

/-! ### The I²C sideband (R531, R539) -/

/-- The 32 bytes of the sideband's eight registers, latched together when the target acknowledges the register byte. -/
def i2cBytes (s : State) : List Byte :=
  leBytes 4 (otpWord s 10) ++ leBytes 4 (glbStatus s) ++ leBytes 4 (glbHealth s) ++ leBytes 4 (tamStatus s)
    ++ leBytes 4 (signedField 16 s.tam.temp) ++ leBytes 4 (pwrCeiling s) ++ leBytes 4 s.orr.ceilI2c ++ zeros 4

/-- A sideband read of n bytes from a register byte on: bytes past 0x1F read 0; a target that does not answer gives none. -/
def i2cRead (reg n : Nat) (s : State) : List Byte :=
  if i2cUp s then (List.range n).map (fun k => byteAt (i2cBytes s) (reg + k)) else []

/-! ### Blocks of function 0's BAR0: the word at an offset -/

/-- GLB_ and ORR_. -/
def glbWord (s : State) : Nat → Nat
  | 0x0 => glbStatus s
  | 0x4 => glbHealth s
  | 0x8 => s.glb.resetCause + saturate 8 s.glb.attempt * 256
  | 0xC => s.glb.dawnMs % 65536
  | _ => 0

/-- ORR_STATUS. -/
def orrStatus (s : State) : Nat :=
  let m := bitmapOf 4 (shortfall s)
  flag s.orr.admitOpen + flag (m != 0) * 2 + m * 4

/-- ORR_CAB_LOTS of a selection: lots bound, lots held now. -/
def cabLots (s : State) (cab cls : Nat) : Nat :=
  let bound_ := ((s.car.active.lots.filter (fun l => l.cls == cls && l.cab == cab)).map (·.lots)).sum
  let now := (((heldLots s cls).filter (fun e => e.2.1 == cab)).map (·.2.2)).sum
  saturate 8 bound_ + saturate 8 now * 256

/-- Outstanding charge of a cabinet in a class, its owned lanes among them (R69, R249) (DEDUCED, log 26). -/
def cabCharge (s : State) (cab cls : Nat) (bulk : Bool) : Nat :=
  chargeOf s (.own cab cls) bulk
    + (if cls = 0 then ((s.car.active.owned.filter (fun e => e.2 == cab)).map (fun e => chargeOf s (.lane e.1) bulk)).sum else 0)

/-- A register worked out from units that start with a Dawn: it reads its reset value, 0, until one has begun (DEDUCED, log 26). -/
def atWork (s : State) (v : Nat) : Nat :=
  match s.glb.phase with
  | .dawn => v
  | .run => v
  | .pwrfail => v
  | _ => 0

/-- ORR_. -/
def orrWord (s : State) (p : ReadPath) (off : Nat) : Nat :=
  let sel := selOf p 0x100040
  let cab := bits sel 5 0
  let cls := bits sel 7 6
  match off with
  | 0x0 => orrStatus s
  | 0x10 => atWork s (classCapacity s 0)
  | 0x14 => atWork s (classCapacity s 1)
  | 0x18 => atWork s (classCapacity s 2)
  | 0x1C => atWork s (classCapacity s 3)
  | 0x20 => atWork s (reservedTotal s 0)
  | 0x24 => atWork s (reservedTotal s 1)
  | 0x28 => atWork s (reservedTotal s 2)
  | 0x2C => atWork s (reservedTotal s 3)
  | 0x40 => sel
  | 0x44 => cabLots s cab cls
  | 0x48 => cabCharge s cab cls false
  | 0x4C => cabCharge s cab cls true
  | 0x50 => bLink s % 2 ^ 20
  | 0xF000 => lo32 s.time.L
  | 0xF004 => latchOf p 0x10F004
  | 0xF008 => clockStatus s.time
  | 0xF00C => signedField 32 s.time.phaseError
  | _ => 0

/-- The staged sequence; 0 when none is staged. -/
def stagedSeq (s : State) : Nat := (s.car.staged.map (fun g => g.image.seq)).getD 0

/-- CAR_. -/
def carWord (s : State) (p : ReadPath) : Nat → Nat
  | 0x0 => carStatus s
  | 0x8 => lo32 s.car.active.seq
  | 0xC => latchOf p 0x20000C
  | 0x10 => lo32 s.car.floor
  | 0x14 => latchOf p 0x200014
  | 0x18 => reasonWord s.car.reasonA
  | 0x1C => reasonWord s.car.reasonB
  | 0x20 => lo32 (stagedSeq s)
  | 0x24 => latchOf p 0x200024
  | _ => 0

/-- The freeze record JOB_FREEZE_SEL selects (R200). -/
def freezeSel (s : State) (p : ReadPath) : Option Freeze :=
  let sel := selOf p 0x400050
  s.job.freezes.find? (fun z => z.kind == bits sel 2 0 && z.number == bits sel 15 8)

/-- Frozen functions from number `lo` on. -/
def frozenFns (s : State) (lo n : Nat) : Nat := bitmapOf n (fun i => isFrozen s 0 (lo + i))
/-- Frozen tiles of a class. -/
def frozenTiles (s : State) (cls : Nat) : Nat := bitmapOf (classCount cls) (fun i => isFrozen s 1 (32 * cls + i))

/-- JOB_. -/
def jobWord (s : State) (p : ReadPath) : Nat → Nat
  | 0x0 => s.job.books.getD 0 0
  | 0x4 => latchOf p 0x400004
  | 0x8 => latchOf p 0x400008
  | 0xC => latchOf p 0x40000C
  | 0x10 => latchOf p 0x400010
  | 0x14 => latchOf p 0x400014
  | 0x20 => (((liveJobs s).filterMap (fun e => e.2.park.map (·.1))).eraseDups).length
  | 0x30 => frozenFns s 0 32
  | 0x34 => frozenFns s 32 32
  | 0x38 => frozenFns s 64 1
  | 0x40 => frozenTiles s 0 + frozenTiles s 1 % 256 * 2 ^ 24
  | 0x44 => frozenTiles s 1 / 256 + frozenTiles s 2 * 256 + frozenTiles s 3 * 65536
  | 0x50 => selOf p 0x400050
  | 0x54 => ((freezeSel s p).map (fun z => 1 + z.cause % 256 * 256)).getD 0
  | 0x58 => ((freezeSel s p).map (·.addr)).getD 0
  | 0x5C => ((freezeSel s p).map (·.tag.toNat)).getD 0
  | 0x60 => lo32 (((freezeSel s p).map (·.L)).getD 0)
  | 0x64 => latchOf p 0x400064
  | _ => 0

/-- Slots a cabinet's keys occupy. -/
def slotsUsed (s : State) (cab : Nat) : Nat :=
  ((s.key.slots.filter (fun e => hCab e.2.attr.handle == cab)).map (fun e => (heldSlots e.1 e.2).length)).sum

/-- KEY_. -/
def keyWord (s : State) (p : ReadPath) (off : Nat) : Nat :=
  let cab := selOf p 0x500010
  match off with
  | 0x0 => flag s.key.storeLoaded + flag s.key.rollback * 2 + flag (updateBusy s) * 4 + flag s.key.gensReset * 8
  | 0x4 => s.key.groupsBad
  | 0x10 => cab
  | 0x14 => (rangeOf s cab).1 % 65536 + (rangeOf s cab).2 * 65536
  | 0x18 => slotsUsed s cab % 65536 + ephemeralHeld s cab * 65536
  | 0x1C => ((Tab.get? s.key.csk cab).map (·.gen)).getD 0
  | 0x20 => (s.dov.reqs.filter (fun r => r.cab == cab)).length % 32
  | _ => 0

/-- SYM_LANE_INFO of a lane. -/
def laneInfo (s : State) (n : Nat) : Nat :=
  if 24 ≤ n then 0
  else
    let t := s.tile n
    (laneOwner s n).getD 0 + flag (laneOwner s n).isSome * 64 + t.point * 256 + flag t.bankA.isSome * 1024 + flag t.parityOut * 2048

/-- SYM_. -/
def symWord (s : State) (p : ReadPath) : Nat → Nat
  | 0x0 => bitmapOf 24 (fun n => (laneOwner s n).isNone)
  | 0x4 => tilesOut s 0
  | 0x8 => selOf p 0x600008
  | 0xC => laneInfo s (selOf p 0x600008)
  | 0x10 => s.eng.maskAllow
  | 0x14 => s.orr.maskPlanned
  | 0x18 => s.eng.epoch
  | _ => 0

/-- Result slots of a cabinet that jobs have reserved (R259). -/
def slotsReserved (s : State) (cab : Nat) : Nat :=
  ((liveJobs s).filter (fun e => e.2.gotSlot.isSome && cabOfFn s e.2.fn == cab)).length

/-- DIG_. -/
def digWord (s : State) (p : ReadPath) : Nat → Nat
  | 0x0 => tilesOut s 1
  | 0x4 => selOf p 0x700004
  | 0x8 => (s.eng.results.filter (fun e => e.1 / 64 == selOf p 0x700004)).length % 128 + slotsReserved s (selOf p 0x700004) % 128 * 256
  | _ => 0

/-- BIG_TILE_INFO and POL_TILE_INFO. -/
def tileInfo (t : Tile) : Nat := t.point % 4 + flag t.bankA.isSome * 4 + flag t.parityOut * 8 + flag t.verifyOut * 16

/-- BIG_. -/
def bigWord (s : State) (p : ReadPath) : Nat → Nat
  | 0x0 => tilesOut s 2
  | 0x4 => selOf p 0x800004
  | 0x8 => tileInfo (s.tile (64 + selOf p 0x800004))
  | 0xC => (s.tile (64 + selOf p 0x800004)).verifyFails
  | _ => 0

/-- Ciphertext handle records live or pending. -/
def handlesUsed (s : State) : Nat := s.eng.handles.length + ((liveJobs s).filter (fun e => e.2.gotHe.isSome)).length

/-- POL_. -/
def polWord (s : State) (p : ReadPath) : Nat → Nat
  | 0x0 => tilesOut s 3
  | 0x4 => selOf p 0x900004
  | 0x8 => tileInfo (s.tile (96 + selOf p 0x900004))
  | 0xC => (s.tile (96 + selOf p 0x900004)).verifyFails
  | 0x10 => handlesUsed s % 2 ^ 15
  | 0x14 => selOf p 0x900014
  | 0x18 => heHeld s (selOf p 0x900014) % 2 ^ 12
  | 0x1C => allowOf s 1
  | 0x20 => s.orr.portPlanned
  | _ => 0

/-- RNG_. -/
def rngWord (s : State) (p : ReadPath) : Nat → Nat
  | 0x0 => rngStatus s
  | 0x4 => sourceOk s
  | 0x8 => selOf p 0xA00008
  | 0xC => sourceHealth s (selOf p 0xA00008)
  | 0x10 => lo32 s.rng.produced
  | 0x14 => latchOf p 0xA00014
  | 0x18 => latchOf p 0xA00018
  | 0x1C => latchOf p 0xA0001C
  | 0x20 => latchOf p 0xA00020
  | 0x24 => lo32 s.rng.reseeds
  | 0x28 => if s.rng.ready then saturate 32 (s.time.L - s.rng.lastReseedL) else 0
  | 0x2C => s.rng.portAllow
  | 0x30 => s.orr.kgPlanned
  | _ => 0

/-- The lane MTR_LANE_SELECT selects; none for 48 to 63. -/
def laneSel (p : ReadPath) (a : Nat) : Option Nat := if selOf p a < 48 then some (selOf p a) else none

/-- MTR_. -/
def mtrWord (s : State) (p : ReadPath) (off : Nat) : Nat :=
  let mapOf := fun (q : Lane → Bool) => laneMap s q
  match off with
  | 0x0 => lo32 (mapOf (fun _ => true))
  | 0x4 => hi32 (mapOf (fun _ => true))
  | 0x8 => lo32 (mapOf (fun l => l.st == .live))
  | 0xC => hi32 (mapOf (fun l => l.st == .live))
  | 0x10 => lo32 (mapOf (fun l => l.st == .suspect))
  | 0x14 => hi32 (mapOf (fun l => l.st == .suspect))
  | 0x18 => lo32 (mapOf (fun l => l.st == .frozen))
  | 0x1C => hi32 (mapOf (fun l => l.st == .frozen))
  | 0x20 => selOf p 0xB00020
  | 0x24 => ((laneSel p 0xB00020).map (laneStateWord s)).getD 0
  | 0x28 => ((laneSel p 0xB00020).map (fun n => (s.lane n).pulses % 2 ^ 32)).getD 0
  | 0x2C => ((laneSel p 0xB00020).map (fun n => laneErrors (s.lane n))).getD 0
  | 0x30 => ((laneSel p 0xB00020).map (fun n => (s.lane n).lastSeq % 65536)).getD 0
  | _ => 0

/-- Last consumed sequence, period index and mark value of the selected lane; 0 beyond lane 47. -/
def laneMark (s : State) (p : ReadPath) : Nat × Nat × Nat :=
  match laneSel p 0xC00030 with
  | some n => (((laneLdg s n).cur.map (·.seq)).getD 0, (laneLdg s n).view.period, counterValue (counterOf s (markId n)))
  | none => (0, 0, 0)

/-- The counter LDG_COUNTER_SELECT selects. -/
def counterSel (s : State) (p : ReadPath) : Counter := counterOf s (selOf p 0xC00060)

/-- LDG_. -/
def ldgWord (s : State) (p : ReadPath) (off : Nat) : Nat :=
  if 0x8 ≤ off ∧ off < 0x28 then leAt (digestBytes s.ldg.lrDigest) (off - 8) 4
  else match off with
  | 0x0 => flag s.ldg.intentDone + flag (s.ldg.counters.any (fun e => e.2.worn)) * 2 + flag s.ldg.recordLost * 4
  | 0x4 => s.ldg.lrVersion
  | 0x30 => selOf p 0xC00030
  | 0x34 => lo32 (laneMark s p).1
  | 0x38 => latchOf p 0xC00038
  | 0x3C => latchOf p 0xC0003C
  | 0x40 => latchOf p 0xC00040
  | 0x44 => latchOf p 0xC00044
  | 0x50 => lo32 s.ldg.closed
  | 0x54 => latchOf p 0xC00054
  | 0x58 => s.car.active.periodMin
  | 0x60 => selOf p 0xC00060
  | 0x64 => lo32 (counterValue (counterSel s p))
  | 0x68 => latchOf p 0xC00068
  | 0x6C => latchOf p 0xC0006C
  | 0xF000 => lo32 s.time.ledgerUs
  | 0xF004 => latchOf p 0xC0F004
  | 0xF008 => timeStatus s.time
  | 0xF00C => slewRemain s.time
  | 0xF010 => s.time.rate
  | 0xF018 => lo32 (signedField 64 s.time.lastStep)
  | 0xF01C => hi32 (signedField 64 s.time.lastStep)
  | _ => 0

/-- WLD_. -/
def wldWord (s : State) (p : ReadPath) : Nat → Nat
  | 0x0 => wldStatus s
  | 0x4 => absentTransits s
  | 0x8 => saturate 16 s.wld.pair0.attempts + saturate 16 s.wld.pair1.attempts * 65536
  | 0x10 => selOf p 0xD00010
  | 0x14 => worldStateWord s (selOf p 0xD00010)
  | 0x18 => worldAllot s (selOf p 0xD00010)
  | 0x20 => selOf p 0xD00020
  | 0x24 => atWork s (((pageEntryOf s (selOf p 0xD00020)).map pageWord).getD 0)
  | _ => 0

/-- MSH_. -/
def mshWord (s : State) (p : ReadPath) (off : Nat) : Nat :=
  if 0x10 ≤ off ∧ off < 0x20 then mshPort s ((off - 0x10) / 4)
  else if 0x20 ≤ off ∧ off < 0x30 then mshErrors s ((off - 0x20) / 4)
  else if 0x60 ≤ off ∧ off < 0x80 then leAt (digestBytes (idDigest s)) (off - 0x60) 4
  else if 0x1000 ≤ off ∧ off < 0x17A0 then leAt (idKey s) (off - 0x1000) 4
  else match off with
  | 0x0 => mshStatus s
  | 0x4 => mshParent s
  | 0x40 => selOf p 0xE00040
  | 0x44 => mshMember s (selOf p 0xE00040)
  | 0x48 => mshEpoch s (selOf p 0xE00040)
  | 0x50 => saturate 16 s.msh.tunnel.length
  | 0x80 => selOf p 0xE00080
  | 0x84 => (s.custodyOf (selOf p 0xE00080)).gen
  | 0x88 => mshCustody s (selOf p 0xE00080)
  | 0x90 => s.msh.shares.length % 2 ^ 15
  | _ => 0

/-- TAM_. -/
def tamWord (s : State) (p : ReadPath) : Nat → Nat
  | 0x0 => tamStatus s
  | 0x4 => lo32 s.tam.alarmL
  | 0x8 => latchOf p 0xF00008
  | 0xC => saturate 32 s.tam.count
  | 0x10 => tamInputs s
  | 0x14 => selOf p 0xF00014
  | 0x18 => tamCfg (s.tin (selOf p 0xF00014))
  | 0x1C => tamDisagree (s.tin (selOf p 0xF00014))
  | 0x20 => tamEsc s
  | 0x24 => tamSensors s
  | 0x28 => signedField 16 s.tam.temp
  | 0x2C => s.tam.mv % 65536
  | 0x30 => tamNight s
  | _ => 0

/-- The bytes of the mailbox completion; zeros where there is none. -/
def mailboxBytes (s : State) : List Byte :=
  match s.lcs.dapCompletion with
  | some c => leBytes 4 c.tag.toNat ++ leBytes 4 (c.status % 65536) ++ leBytes 8 c.when_ ++ leBytes 4 c.outLen
      ++ leBytes 4 c.w0 ++ leBytes 4 c.w1 ++ leBytes 4 c.w2
  | none => []

/-- LCS_; `dap` opens the completion of the mailbox. -/
def lcsWord (s : State) (p : ReadPath) (dap : Bool) (off : Nat) : Nat :=
  if 0x160 ≤ off ∧ off < 0x180 then (if dap then leAt (mailboxBytes s) (off - 0x160) 4 else 0)
  else match off with
  | 0x0 => lcsState s
  | 0x4 => otpWord s 10
  | 0x8 => otpWord s 8
  | 0xC => otpWord s 9
  | 0x10 => s.lcs.rights
  | 0x14 => s.lcs.rightsSource
  | 0x18 => lcsChallenge s
  | 0x20 => selOf p 0x1000020
  | 0x24 => if selOf p 0x1000020 < 128 then otpWord s (selOf p 0x1000020) else 0
  | _ => 0

/-- The oldest journal sequence held; 0 where none is. -/
def oldestJournal (s : State) : Nat := ((journalRecords s).head?.map (fun r => r.seq.toNat)).getD 0

/-- EVT_. -/
def evtWord (s : State) (off : Nat) : Nat :=
  if 0x40 ≤ off ∧ off < 0x60 then s.evt.latch.getD ((off - 0x40) / 4) 0
  else match off with
  | 0x0 => flag s.evt.ringRetained + flag s.evt.journalFound * 2 + flag (decide (49152 ≤ unread s)) * 4
  | 0x4 => s.evt.next.toNat
  | 0x8 => oldestSeq s
  | 0xC => s.evt.ack.toNat
  | 0x10 => unread s
  | 0x14 => saturate 32 s.evt.lost
  | 0x18 => saturate 32 s.evt.overwritten
  | 0x1C => s.evt.reserve.length % 2 ^ 11 + saturate 16 s.evt.lost7 * 65536
  | 0x20 => s.evt.selSeq.toNat
  | 0x24 => flag s.evt.found + flag s.evt.inReserve * 2
  | 0x80 => s.evt.jAck.toNat
  | 0x84 => oldestJournal s
  | 0x88 => s.evt.jQueue.length % 512
  | 0x8C => saturate 32 s.evt.jLost
  | 0x90 => saturate 32 s.evt.jOver
  | _ => 0

/-- PWR_TILE_INFO of a selection; 0 where no tile has the number. -/
def pwrTile (s : State) (sel : Nat) : Nat :=
  let cls := bits sel 9 8
  if bits sel 4 0 < classCount cls then
    let t := s.tile (32 * cls + bits sel 4 0)
    t.point % 4 + t.limit % 4 * 4 + flag (t.limitCause == 1) * 16 + flag (t.limitCause == 2) * 32
      + signedField 8 t.tempC * 256 + t.mv % 4096 * 65536
  else 0

/-- PWR_. -/
def pwrWord (s : State) (p : ReadPath) : Nat → Nat
  | 0x0 => pwrPair s
  | 0x4 => lo32 s.pwr.keeperSeq
  | 0x8 => latchOf p 0x1200008
  | 0xC => latchOf p 0x120000C
  | 0x10 => latchOf p 0x1200010
  | 0x14 => s.pwr.mortise
  | 0x18 => s.pwr.bundleMortise
  | 0x1C => s.pwr.reasons.foldr (fun r a => r % 256 + 256 * a) 0
  | 0x20 => saturate 16 s.pwr.beforeDawn + s.pwr.lastCause % 16 * 65536
  | 0x24 => pwrCeiling s
  | 0x28 => selOf p 0x1200028
  | 0x2C => pwrTile s (selOf p 0x1200028)
  | _ => 0

/-- The last run BST_SELECT selects: partition in [4:0], run in [8]. -/
def bstSel (s : State) (p : ReadPath) : Option BistResult :=
  let sel := selOf p 0x1300010
  Tab.get? s.bst.results (2 * bits sel 4 0 + bits sel 8 8)

/-- BST_; `dap` opens the registers of R519. -/
def bstWord (s : State) (p : ReadPath) (dap : Bool) (off : Nat) : Nat :=
  if 0x20 ≤ off ∧ off < 0x30 then ((bstSel s p).map (fun r => leAt r.entry.sig (off - 0x20) 4)).getD 0
  else match off with
  | 0x0 => bstStatus s
  | 0x4 => s.bst.dawnFail
  | 0x8 => bstOut s
  | 0x10 => selOf p 0x1300010
  | 0x14 => ((bstSel s p).map (fun r => r.entry.result % 256 + r.src % 4 * 256)).getD 0
  | 0x18 => ((bstSel s p).map (fun r => r.entry.failed)).getD 0
  | 0x1C => ((bstSel s p).map (fun r => r.entry.first)).getD 0
  | 0x40 => if dap then s.bst.dapScope else 0
  | 0x44 => if dap then s.bst.dapMap else 0
  | _ => 0

/-! ### The function window -/

/-- A register of SQ n: offset within its 32 bytes. -/
def sqWord (q : Sq) : Nat → Nat
  | 0x0 => q.base % 2 ^ 20 * 4096
  | 0x4 => q.sizeLog2 % 32 + flag q.enableBit * 256 + q.cq % 16 * 65536
  | 0x8 => sqStatus q
  | 0xC => q.limit.toNat
  | 0x10 => q.head.toNat
  | _ => 0

/-- A register of CQ n. -/
def cqWord (q : Cq) : Nat → Nat
  | 0x0 => q.base % 2 ^ 20 * 4096
  | 0x4 => q.sizeLog2 % 32 + flag q.enableBit * 256 + flag q.intEn * 512
  | 0x8 => cqStatus q
  | 0x10 => q.written.toNat
  | _ => 0

/-- The function window of a function (R135). -/
def fnWord (s : State) (f off : Nat) : Nat :=
  let x := s.fnOf f
  if 0x1000 ≤ off ∧ off < 0x1200 then sqWord (s.sqOf f ((off - 0x1000) / 32)) ((off - 0x1000) % 32)
  else if 0x1400 ≤ off ∧ off < 0x1600 then cqWord (s.cqOf f ((off - 0x1400) / 32)) ((off - 0x1400) % 32)
  else if 0x3000 ≤ off ∧ off < 0x3120 then
    let w := (off - 0x3000) / 4
    Tab.getD x.msixTable w (if w % 4 = 3 then 1 else 0)
  else if 0x8000 ≤ off ∧ off < 0x9000 then resultWord s f ((off - 0x8000) / 4)
  else match off with
  | 0x0 => fnStatus s f
  | 0x4 => x.ctrl
  | 0x8 => x.attn
  | 0xC => x.sbPage % 2 ^ 20 * 4096 + flag x.sbEnabled
  | 0x10 => atWork s (fnSlots s f)
  | 0x14 => saturate 32 x.noticeLost
  | 0x18 => saturate 9 x.held.length
  | 0x20 => x.bootPage
  | 0x24 => x.bootFrameLo
  | 0x28 => x.bootFrameHi
  | 0x30 => x.bootMade % 128 + x.bootResult * 256
  | 0x3800 => x.msixPba
  | 0x9000 => resultOcc s f 0
  | 0x9004 => resultOcc s f 32
  | _ => 0

/-! ### Reads -/

/-- The word at an address of a block of function 0's BAR0. -/
def blockWord (s : State) (path block off : Nat) : Nat :=
  let p := pathOfNo s path
  let dap := path == dapPath
  match block with
  | 0 => glbWord s off
  | 1 => orrWord s p off
  | 2 => carWord s p off
  | 3 => if 0x10000 ≤ off ∧ off < 0x20000 then fnWord s 0 (off - 0x10000) else 0
  | 4 => jobWord s p off
  | 5 => keyWord s p off
  | 6 => symWord s p off
  | 7 => digWord s p off
  | 8 => bigWord s p off
  | 9 => polWord s p off
  | 10 => rngWord s p off
  | 11 => mtrWord s p off
  | 12 => ldgWord s p off
  | 13 => wldWord s p off
  | 14 => mshWord s p off
  | 15 => tamWord s p off
  | 16 => lcsWord s p dap off
  | 17 => evtWord s off
  | 18 => pwrWord s p off
  | 19 => bstWord s p dap off
  | _ => 0

/-- What a naturally aligned 32-bit read returns on a path (R535 to R538) (DESIGN CHOICE, log 29). -/
def readWord (s : State) (path a : Nat) : Nat :=
  (if path = 0 ∨ path = dapPath then blockWord s path (a / 2 ^ 20) (a % 2 ^ 20) else fnWord s path a) % 2 ^ 32

/-- The latches a read of a low half fills: addresses and the values they take. -/
def companions (s : State) (p : ReadPath) : Nat → List (Nat × Nat)
  | 0x10F000 => [(0x10F004, hi32 s.time.L)]
  | 0x200008 => [(0x20000C, hi32 s.car.active.seq)]
  | 0x200010 => [(0x200014, hi32 s.car.floor)]
  | 0x200020 => [(0x200024, hi32 (stagedSeq s))]
  | 0x400000 => [(0x400004, s.job.books.getD 1 0), (0x400008, s.job.books.getD 2 0), (0x40000C, s.job.books.getD 3 0),
                 (0x400010, s.job.books.getD 4 0), (0x400014, s.job.books.getD 5 0)]
  | 0x400060 => [(0x400064, hi32 (((freezeSel s p).map (·.L)).getD 0))]
  | 0xA00010 => [(0xA00014, hi32 s.rng.produced), (0xA00018, lo32 s.rng.drawn), (0xA0001C, hi32 s.rng.drawn), (0xA00020, s.rng.held)]
  | 0xC00034 => [(0xC00038, hi32 (laneMark s p).1), (0xC0003C, (laneMark s p).2.1), (0xC00040, lo32 (laneMark s p).2.2),
                 (0xC00044, hi32 (laneMark s p).2.2)]
  | 0xC00050 => [(0xC00054, hi32 s.ldg.closed)]
  | 0xC00064 => [(0xC00068, hi32 (counterValue (counterSel s p))),
                 (0xC0006C, (counterSel s p).k % 65536 + flag (counterSel s p).worn * 65536 + flag (counterSel s p).intent * 131072)]
  | 0xC0F000 => [(0xC0F004, hi32 s.time.ledgerUs)]
  | 0xF00004 => [(0xF00008, hi32 s.tam.alarmL)]
  | 0x1200004 => [(0x1200008, hi32 s.pwr.keeperSeq), (0x120000C, lo32 s.pwr.bundleSeq), (0x1200010, hi32 s.pwr.bundleSeq)]
  | _ => []

/-- Is an offset inside the BAR of a path (R135)? -/
def inBar (path a : Nat) : Bool := decide (a < if path = 0 ∨ path = dapPath then 0x4000000 else 0x10000)

/-- Does a read on a path reach the device: the function's host is there (R539), or the right is open (R454, R519)? -/
def readReaches (s : State) (path a : Nat) : Bool :=
  inBar path a &&
  if path = dapPath then dapMayRead s (a / 2 ^ 20) || (mailboxOpen s && decide (0x1000160 ≤ a ∧ a < 0x1000180)) else hostReaches s path

/-- LATCHING_READ (R538): a read of a register on a path; one of a low half fills its companions' latches of that path (DESIGN CHOICE, log 29). -/
def latchingRead (path a : Nat) (s : State) : State :=
  if cfgPath ≤ path then
    (if hostReaches s (path - cfgPath) && a % 4 == 0 then emit (.readData path a (configWord s (path - cfgPath) a)) s else s)
  else if readReaches s path a && a % 4 == 0 then
    let v := readWord s path a
    let ls := if path = 0 ∨ path = dapPath then companions s (pathOfNo s path) a else []
    emit (.readData path a v) (modPath path (fun p => { p with latch := ls.foldl (fun t e => Tab.put t e.1 e.2) p.latch }) s)
  else s

/-! ### Writes -/

/-- How a write meets an address. -/
inductive RegAccess where
  /-- a register whose writable bits are those of the mask, with no behaviour of its own -/
  | rw (mask : Nat)
  /-- listed, and written by a command of its own or not at all -/
  | other
  /-- reserved -/
  | reserved
  deriving DecidableEq, Repr

/-- The selectors of function 0's blocks with their fields. -/
def selectors : Tab Nat :=
  [(0x100040, 0xFF), (0x400050, 0xFF07), (0x500010, 0x3F), (0x600008, 0x1F), (0x700004, 0x3F), (0x800004, 7), (0x900004, 7),
   (0x900014, 0x3F), (0xA00008, 0x1F), (0xB00020, 0x3F), (0xC00030, 0x3F), (0xC00060, 0xFF), (0xD00010, 0xF), (0xD00020, 0x7FF),
   (0xE00040, 0xFF), (0xE00080, 0x3F), (0xF00014, 7), (0x1000020, 0x3FF), (0x1200028, 0x31F), (0x1300010, 0x11F)]

/-- Registers a block lists below 4 KiB, as ranges of offsets. -/
def listedRanges : Nat → List (Nat × Nat)
  | 0 => [(0x0, 0x10)]
  | 1 => [(0x0, 0x4), (0x10, 0x30), (0x40, 0x54), (0xF000, 0xF010)]
  | 2 => [(0x0, 0x4), (0x8, 0x28)]
  | 4 => [(0x0, 0x18), (0x20, 0x24), (0x30, 0x3C), (0x40, 0x48), (0x50, 0x68)]
  | 5 => [(0x0, 0x8), (0x10, 0x24)]
  | 6 => [(0x0, 0x1C)]
  | 7 => [(0x0, 0xC)]
  | 8 => [(0x0, 0x10)]
  | 9 => [(0x0, 0x24)]
  | 10 => [(0x0, 0x34)]
  | 11 => [(0x0, 0x34)]
  | 12 => [(0x0, 0x28), (0x30, 0x48), (0x50, 0x5C), (0x60, 0x70), (0xF000, 0xF014), (0xF018, 0xF020)]
  | 13 => [(0x0, 0xC), (0x10, 0x1C), (0x20, 0x28)]
  | 14 => [(0x0, 0x8), (0x10, 0x30), (0x40, 0x4C), (0x50, 0x54), (0x60, 0x8C), (0x90, 0x94), (0x1000, 0x17A0)]
  | 15 => [(0x0, 0x34)]
  | 16 => [(0x0, 0x1C), (0x20, 0x28), (0x100, 0x184)]
  | 17 => [(0x0, 0x28), (0x40, 0x60), (0x80, 0x94)]
  | 18 => [(0x0, 0x30)]
  | 19 => [(0x0, 0xC), (0x10, 0x30), (0x40, 0x4C)]
  | _ => []

/-- Access of an offset of the function window. -/
def fnAccess (off : Nat) : RegAccess :=
  if 0x1000 ≤ off ∧ off < 0x1200 then
    let r := (off - 0x1000) % 32
    if r = 0 then .rw 0xFFFFF000 else if r ≤ 0x10 then .other else .reserved
  else if 0x1400 ≤ off ∧ off < 0x1600 then
    let r := (off - 0x1400) % 32
    if r = 0 then .rw 0xFFFFF000 else if r ≤ 0x10 ∧ r ≠ 0xC then .other else .reserved
  else if 0x2000 ≤ off ∧ off < 0x2080 then .other
  else if 0x3000 ≤ off ∧ off < 0x3120 then
    .rw (if off % 16 = 0 then 0xFFFFFFFC else if off % 16 = 12 then 1 else 0xFFFFFFFF)
  else if 0x3800 ≤ off ∧ off < 0x3808 then .other
  else if 0x8000 ≤ off ∧ off < 0x9008 then .other
  else match off with
  | 0x4 => .rw 3
  | 0x20 => .rw 0xFFFFF
  | 0x24 => .rw 0xFFFFF000
  | 0x28 => .rw 0xFFFFFFF
  | 0x0 | 0x8 | 0xC | 0x10 | 0x14 | 0x18 | 0x2C | 0x30 => .other
  | _ => .reserved

/-- Access of an address of function 0's BAR0. PWR_CEILING has reserved bits, and its others ignore writes. -/
def barAccess (a : Nat) : RegAccess :=
  if 0x310000 ≤ a ∧ a < 0x320000 then fnAccess (a - 0x310000)
  else match Tab.get? selectors a with
    | some m => .rw m
    | none =>
      if a = 0x1200024 then .rw 0xFFFFFF
      else if (listedRanges (a / 2 ^ 20)).any (fun r => decide (r.1 ≤ a % 2 ^ 20 ∧ a % 2 ^ 20 < r.2)) then .other else .reserved

/-- Access on the path of a function. -/
def accessOn (f a : Nat) : RegAccess := if f = 0 then barAccess a else fnAccess a

/-- The bits of a mask in a value. -/
def masked (w mask : Nat) : Nat := Nat.land w mask

/-- The first write of a 1 to a reserved bit of an address after each Dawn is logged (R536) (DEDUCED, log 27). -/
def noteReserved (f a w mask : Nat) (s : State) : State :=
  if masked w mask = w % 2 ^ 32 ∨ s.hlk.reservedLogged.contains (f, a) then s
  else
    raiseFrom (source 1 f) 0x3014 2 f a (w % 2 ^ 32)
      { s with hlk := { s.hlk with reservedLogged := s.hlk.reservedLogged ++ [(f, a)] } }

/-- The offset of a function's window within its BAR (R135). -/
def windowBase (f : Nat) : Nat := if f = 0 then 0x310000 else 0

/-- Addresses of SQn_CTRL and CQn_CTRL on a function's path. -/
def sqCtrlAt (f n : Nat) : Nat := windowBase f + 0x1004 + 0x20 * n
def cqCtrlAt (f n : Nat) : Nat := windowBase f + 0x1404 + 0x20 * n

/-- A ring's base written: while the ring is not OFF a change leaves the field and reports CHANGED_WHILE_ENABLED (R141). -/
def sqBase (page : Nat) (q : Sq) : Sq := if q.st = .off then { q with base := page } else if q.base = page then q else { q with error := 0x0B }
/-- As `sqBase`, for a completion ring. -/
def cqBase (page : Nat) (q : Cq) : Cq := if q.st = .off then { q with base := page } else if q.base = page then q else { q with error := 0x0B }

/-- A register of the function window takes a value; `v` has its reserved bits clear (DEDUCED, log 27) (PRESUMED, log 28). -/
def fnWrite (f off v : Nat) (s : State) : State :=
  if 0x1000 ≤ off ∧ off < 0x1200 then modSq f ((off - 0x1000) / 32) (sqBase (v / 4096)) s
  else if 0x1400 ≤ off ∧ off < 0x1600 then modCq f ((off - 0x1400) / 32) (cqBase (v / 4096)) s
  else if 0x3000 ≤ off ∧ off < 0x3120 then
    flushPending f (modFn f (fun x => { x with msixTable := Tab.put x.msixTable ((off - 0x3000) / 4) v }) s)
  else match off with
  | 0x4 => modFn f (fun x => { x with ctrl := v }) s
  | 0x20 => modFn f (fun x => { x with bootPage := v }) s
  | 0x24 => modFn f (fun x => { x with bootFrameLo := v }) s
  | 0x28 => modFn f (fun x => { x with bootFrameHi := v }) s
  | _ => s

/-- A register written on a function's path takes the value of its fields (DEDUCED, log 27). -/
def takeValue (f a v : Nat) (s : State) : State :=
  if f ≠ 0 then fnWrite f a v s
  else if 0x310000 ≤ a ∧ a < 0x320000 then fnWrite 0 (a - 0x310000) v s
  else if Tab.has selectors a then modPath 0 (fun p => { p with sel := Tab.put p.sel a v }) s
  else s

/-- Bytes of a field of the mailbox with one word replaced. -/
def putWord (bs : List Byte) (n off w : Nat) : List Byte :=
  let b := bs ++ zeros (n - bs.length)
  b.take off ++ leBytes 4 (w % 2 ^ 32) ++ b.drop (off + 4)

/-- A word of the mailbox's descriptor, by its byte offset in it. -/
def putDapDesc (off w : Nat) (s : State) : State := { s with lcs := { s.lcs with dapDesc := putWord s.lcs.dapDesc 64 off w } }

/-- A word of the mailbox's token, by its byte offset in it. -/
def putDapToken (off w : Nat) (s : State) : State := { s with lcs := { s.lcs with dapToken := putWord s.lcs.dapToken 32 off w } }

/-- A write of the DAP: its own selectors, the registers of R519, and the mailbox of R453 (DEDUCED, log 24). -/
def dapWrite (a w : Nat) (s : State) : State :=
  match Tab.get? selectors a with
  | some m =>
    if dapMayRead s (a / 2 ^ 20) then modPath dapPath (fun p => { p with sel := Tab.put p.sel a (masked w m) }) s else s
  | none =>
    if a = 0x1300040 then (if bit s.lcs.rights 3 then { s with bst := { s.bst with dapScope := w % 4 } } else s)
    else if a = 0x1300044 then (if bit s.lcs.rights 3 then { s with bst := { s.bst with dapMap := w % 2 ^ 18 } } else s)
    else if !mailboxOpen s then s
    else if 0x1000100 ≤ a ∧ a < 0x1000140 then putDapDesc (a - 0x1000100) w s
    else if 0x1000140 ≤ a ∧ a < 0x1000160 then putDapToken (a - 0x1000140) w s
    else s

/-- REGISTER_WRITE (R536): a naturally aligned 32-bit write on a path. Registers with a command of their own take no value
here, and read-only ones ignore it. -/
def registerWrite (path a w : Nat) (s : State) : State :=
  if a % 4 ≠ 0 then s
  else if cfgPath ≤ path then (if hostReaches s (path - cfgPath) then configWrite (path - cfgPath) a w s else s)
  else if path = dapPath then dapWrite a w s
  else if !(hostReaches s path && inBar path a) then s
  else match accessOn path a with
    | .rw m => takeValue path a (masked w m) (noteReserved path a w m s)
    | .other => s
    | .reserved => noteReserved path a w 0 s

end Sys2Proof.Machine
end

