-- ==== Sys2Proof/Machine/ExecHost.lean ====
section
/-! DEFINITION. Meanings of the commands of the host link: doorbells, rings, function resets and register accesses (spec/06_host_transport.md, spec/25_register_index.md). -/

namespace Sys2Proof.Machine

/-- SQ_DOORBELL (R142). -/
def execSqDoorbell (fn : Nat) (ring : Nat) (count : Word) (cycle : Nat) (s : State) : Host.Outcome State Fault Refusal :=
  done s (onHost fn (sqDoorbell fn ring count cycle) s)

/-- CQ_DOORBELL (R142). -/
def execCqDoorbell (fn : Nat) (ring : Nat) (count : Word) (s : State) : Host.Outcome State Fault Refusal :=
  done s (onHost fn (cqDoorbell fn ring count) s)

/-- DESCRIPTOR_FETCH (R166). -/
def execDescriptorFetch (fn : Nat) (ring : Nat) (bytes : List Byte) (s : State) : Host.Outcome State Fault Refusal :=
  done s (descriptorFetch fn ring bytes s)

/-- CREDITLESS_ANSWER (R150). -/
def execCreditlessAnswer (fn : Nat) (ring : Nat) (bytes : List Byte) (s : State) : Host.Outcome State Fault Refusal :=
  done s (creditlessAnswer fn ring bytes s)

/-- SQ_ENABLE (R141). -/
def execSqEnable (fn : Nat) (ring : Nat) (value : Nat) (s : State) : Host.Outcome State Fault Refusal :=
  done s (onHost fn (fun s => sqEnable fn ring value (noteReserved fn (sqCtrlAt fn ring) value 0xF011F s)) s)

/-- SQ_DISABLE (R141). -/
def execSqDisable (fn : Nat) (ring : Nat) (value : Nat) (s : State) : Host.Outcome State Fault Refusal :=
  done s (onHost fn (fun s => sqDisable fn ring value (noteReserved fn (sqCtrlAt fn ring) value 0xF011F s)) s)

/-- CQ_ENABLE (R141). -/
def execCqEnable (fn : Nat) (ring : Nat) (value : Nat) (s : State) : Host.Outcome State Fault Refusal :=
  done s (onHost fn (fun s => cqEnable fn ring value (noteReserved fn (cqCtrlAt fn ring) value 0x31F s)) s)

/-- CQ_DISABLE (R141). -/
def execCqDisable (fn : Nat) (ring : Nat) (value : Nat) (s : State) : Host.Outcome State Fault Refusal :=
  done s (onHost fn (fun s => cqDisable fn ring value (noteReserved fn (cqCtrlAt fn ring) value 0x31F s)) s)

/-- STATUS_BLOCK_ENABLE (R152). -/
def execStatusBlockEnable (fn : Nat) (value : Nat) (s : State) : Host.Outcome State Fault Refusal :=
  done s (onHost fn (fun s => statusBlockEnable fn value (noteReserved fn (windowBase fn + 0xC) value 0xFFFFF001 s)) s)

/-- FN_ATTN_CLEAR (R8). -/
def execFnAttnClear (fn : Nat) (value : Nat) (s : State) : Host.Outcome State Fault Refusal :=
  done s (onHost fn (fun s => fnAttnClear fn value (noteReserved fn (windowBase fn + 8) value 0x3F s)) s)

/-- NOTICE_WRITE (R151). -/
def execNoticeWrite (fn : Nat) (s : State) : Host.Outcome State Fault Refusal :=
  done s (noticeWrite fn s)

/-- HOST_READ_FAILURE (R156). -/
def execHostReadFailure (job : Option Nat) (fn : Nat) (ring : Nat) (addr : Nat) (cause : Nat) (s : State) : Host.Outcome State Fault Refusal :=
  done s (hostReadFailure job fn ring addr cause s)

/-- FLR (R157). -/
def execFlr (fn : Nat) (s : State) : Host.Outcome State Fault Refusal :=
  done s (onHost fn (flr fn) s)

/-- BUS_MASTER_ENABLE_CLEARED (R157). -/
def execBusMasterEnableCleared (fn : Nat) (s : State) : Host.Outcome State Fault Refusal :=
  done s (onHost fn (busMasterCleared fn) s)

/-- D3HOT_ENTRY (R157). -/
def execD3hotEntry (fn : Nat) (s : State) : Host.Outcome State Fault Refusal :=
  done s (onHost fn (d3hotEntry fn) s)

/-- D3HOT_TO_D0 (R157). -/
def execD3hotToD0 (fn : Nat) (s : State) : Host.Outcome State Fault Refusal :=
  done s (onHost fn (d3hotToD0 fn) s)

/-- HOT_RESET (R158). -/
def execHotReset (s : State) : Host.Outcome State Fault Refusal :=
  done s (hotReset s)

/-- LINK_DOWN (R158). -/
def execLinkDown (s : State) : Host.Outcome State Fault Refusal :=
  done s (linkDown s)

/-- VF_ENABLE_CLEARED (R157). -/
def execVfEnableCleared (s : State) : Host.Outcome State Fault Refusal :=
  done s (onHost 0 vfEnableCleared s)

/-- BAD_ACCESS (R136). -/
def execBadAccess (fn : Nat) (offset : Nat) (size : Nat) (write : Bool) (s : State) : Host.Outcome State Fault Refusal :=
  done s (onHost fn (badAccess fn offset size write) s)

/-- REGISTER_WRITE (R536). -/
def execRegisterWrite (path : Nat) (offset : Nat) (value : Nat) (s : State) : Host.Outcome State Fault Refusal :=
  done s (registerWrite path offset value s)

/-- LATCHING_READ (R538). -/
def execLatchingRead (path : Nat) (offset : Nat) (s : State) : Host.Outcome State Fault Refusal :=
  done s (latchingRead path offset s)

end Sys2Proof.Machine
end

