-- ==== Sys2Proof/Machine/ExecKeys.lean ====
section
/-! DEFINITION. Meanings of the commands of keys and dovetail approval (spec/09_cabinets_keys.md). -/

namespace Sys2Proof.Machine

/-- KEY_GENERATE (R219). -/
def execKeyGenerate (job : Nat) (tile : Nat) (outcome : Nat) (s : State) : Host.Outcome State Fault Refusal :=
  done s (keyGenerate job tile outcome s)

/-- KEY_IMPORT (R220). -/
def execKeyImport (job : Nat) (s : State) : Host.Outcome State Fault Refusal :=
  done s (keyImport job s)

/-- KEY_EXPORT (R221). -/
def execKeyExport (job : Nat) (s : State) : Host.Outcome State Fault Refusal :=
  done s (keyExport job s)

/-- KEY_DESTROY (R222). -/
def execKeyDestroy (job : Nat) (s : State) : Host.Outcome State Fault Refusal :=
  done s (keyDestroy job s)

/-- KEY_LOAD_FERRIED (R216). -/
def execKeyLoadFerried (job : Nat) (s : State) : Host.Outcome State Fault Refusal :=
  done s (keyLoadFerried job s)

/-- KEY_LOAD_PUBLIC (R218). -/
def execKeyLoadPublic (job : Nat) (s : State) : Host.Outcome State Fault Refusal :=
  done s (keyLoadPublic job s)

/-- KEY_INFO (R223). -/
def execKeyInfo (job : Nat) (s : State) : Host.Outcome State Fault Refusal :=
  done s (keyInfo job s)

/-- KEY_EPHEMERAL_FREE (R206). -/
def execKeyEphemeralFree (job : Nat) (s : State) : Host.Outcome State Fault Refusal :=
  done s (keyEphemeralFree job s)

/-- DOVETAIL_APPROVE (R228). -/
def execDovetailApprove (job : Nat) (s : State) : Host.Outcome State Fault Refusal :=
  done s (dovetailApprove job s)

/-- DOVETAIL_QUERY (R230). -/
def execDovetailQuery (job : Nat) (s : State) : Host.Outcome State Fault Refusal :=
  done s (dovetailQuery job s)

/-- DOVETAIL_LAPSE (R229). -/
def execDovetailLapse (request : Nat) (s : State) : Host.Outcome State Fault Refusal :=
  done s (dovetailLapse request s)

/-- THAW (R201). -/
def execThaw (job : Nat) (s : State) : Host.Outcome State Fault Refusal :=
  done s (thaw job s)

end Sys2Proof.Machine
end

