-- ==== Sys2Proof/Machine/ExecLanes.lean ====
section
/-! DEFINITION. Meanings of the commands of the meter lanes (spec/15_meter_lanes.md). -/

namespace Sys2Proof.Machine

/-- LANE_CYCLE_START (R337). -/
def execLaneCycleStart (lane : Nat) (s : State) : Host.Outcome State Fault Refusal :=
  done s (laneCycleStart lane s)

/-- READING (R336). -/
def execReading (lane : Nat) (clean : Bool) (bytes : List Byte) (s : State) : Host.Outcome State Fault Refusal :=
  done s (reading lane clean bytes s)

/-- IDENTITY (R336). -/
def execIdentity (lane : Nat) (clean : Bool) (bytes : List Byte) (s : State) : Host.Outcome State Fault Refusal :=
  done s (identity lane clean bytes s)

/-- LANE_RESPONSE_TIMEOUT (R335). -/
def execLaneResponseTimeout (lane : Nat) (s : State) : Host.Outcome State Fault Refusal :=
  done s (laneResponseTimeout lane s)

/-- LANE_RETRY (R337). -/
def execLaneRetry (lane : Nat) (s : State) : Host.Outcome State Fault Refusal :=
  done s (laneRetry lane s)

/-- DECISION_POINT (R341). -/
def execDecisionPoint (lane : Nat) (s : State) : Host.Outcome State Fault Refusal :=
  done s (decisionPoint lane s)

/-- PULSE (R340). -/
def execPulse (lane : Nat) (s : State) : Host.Outcome State Fault Refusal :=
  done s (pulse lane s)

/-- LANE_BABBLING (R348). -/
def execLaneBabbling (lane : Nat) (s : State) : Host.Outcome State Fault Refusal :=
  done s (laneBabbling lane s)

/-- LANE_JOIN (R349). -/
def execLaneJoin (lane : Nat) (s : State) : Host.Outcome State Fault Refusal :=
  done s (laneJoin lane s)

end Sys2Proof.Machine
end

