-- ==== Sys2Proof/Machine/ExecLedger.lean ====
section
/-! DEFINITION. Meanings of the commands of randomness reads, lane status and the ledger commands (spec/14_randomness.md, spec/15_meter_lanes.md, spec/16_ledger_seals.md). -/

namespace Sys2Proof.Machine

/-- RNG_READ (R327). -/
def execRngRead (job : Nat) (s : State) : Host.Outcome State Fault Refusal :=
  done s (rngRead job s)

/-- LANE_STATUS (R351). -/
def execLaneStatus (job : Nat) (s : State) : Host.Outcome State Fault Refusal :=
  done s (laneStatus job s)

/-- SEAL_REQUEST (R367). -/
def execSealRequest (job : Nat) (ok : Bool) (s : State) : Host.Outcome State Fault Refusal :=
  done s (sealRequest job ok s)

/-- LEDGER_READ (R373). -/
def execLedgerRead (job : Nat) (s : State) : Host.Outcome State Fault Refusal :=
  done s (ledgerRead job s)

/-- LEDGER_IDENTITY (R372). -/
def execLedgerIdentity (job : Nat) (s : State) : Host.Outcome State Fault Refusal :=
  done s (ledgerIdentity job s)

end Sys2Proof.Machine
end

