-- ==== Sys2Proof/Machine/ExecMesh.lean ====
section
/-! DEFINITION. Meanings of the commands of the Ulyel mesh: frames, timers, custody (spec/18_ulyel_mesh.md). -/

namespace Sys2Proof.Machine

/-- PORT_LOCK_CHANGE (R396). -/
def execPortLockChange (port : Nat) (pcs : Bool) (fec : Bool) (s : State) : Host.Outcome State Fault Refusal :=
  done s (whenAwake (portLockChange port pcs fec) s)

/-- HELLO (R405). -/
def execHello (port : Nat) (bytes : List Byte) (s : State) : Host.Outcome State Fault Refusal :=
  done s (meshFrame 1 port bytes s)

/-- KEY_INIT (R407). -/
def execKeyInit (port : Nat) (bytes : List Byte) (s : State) : Host.Outcome State Fault Refusal :=
  done s (meshFrame 2 port bytes s)

/-- KEY_REPLY (R407). -/
def execKeyReply (port : Nat) (bytes : List Byte) (s : State) : Host.Outcome State Fault Refusal :=
  done s (meshFrame 3 port bytes s)

/-- KEY_CONFIRM (R407). -/
def execKeyConfirm (port : Nat) (bytes : List Byte) (s : State) : Host.Outcome State Fault Refusal :=
  done s (meshFrame 4 port bytes s)

/-- HEARTBEAT (R412). -/
def execHeartbeat (port : Nat) (rx : Nat) (bytes : List Byte) (s : State) : Host.Outcome State Fault Refusal :=
  done s (meshHeartbeat port rx bytes s)

/-- CREDIT (R401). -/
def execCredit (port : Nat) (bytes : List Byte) (s : State) : Host.Outcome State Fault Refusal :=
  done s (meshFrame 0x11 port bytes s)

/-- SHARE_PUT (R416). -/
def execSharePut (port : Nat) (bytes : List Byte) (s : State) : Host.Outcome State Fault Refusal :=
  done s (meshFrame 0x20 port bytes s)

/-- SHARE_ACK (R416). -/
def execShareAck (port : Nat) (bytes : List Byte) (s : State) : Host.Outcome State Fault Refusal :=
  done s (meshFrame 0x21 port bytes s)

/-- SHARE_COMMIT (R416). -/
def execShareCommit (port : Nat) (bytes : List Byte) (s : State) : Host.Outcome State Fault Refusal :=
  done s (meshFrame 0x22 port bytes s)

/-- SHARE_REQUEST (R417). -/
def execShareRequest (port : Nat) (bytes : List Byte) (s : State) : Host.Outcome State Fault Refusal :=
  done s (meshFrame 0x23 port bytes s)

/-- SHARE_RELEASE (R418). -/
def execShareRelease (port : Nat) (bytes : List Byte) (s : State) : Host.Outcome State Fault Refusal :=
  done s (meshFrame 0x24 port bytes s)

/-- SHARE_REFUSE (R418). -/
def execShareRefuse (port : Nat) (bytes : List Byte) (s : State) : Host.Outcome State Fault Refusal :=
  done s (meshFrame 0x25 port bytes s)

/-- SHARE_PROBE (R416). -/
def execShareProbe (port : Nat) (bytes : List Byte) (s : State) : Host.Outcome State Fault Refusal :=
  done s (meshFrame 0x26 port bytes s)

/-- SHARE_DROP (R416). -/
def execShareDrop (port : Nat) (bytes : List Byte) (s : State) : Host.Outcome State Fault Refusal :=
  done s (meshFrame 0x27 port bytes s)

/-- AGG_OFFER (R420). -/
def execAggOffer (port : Nat) (bytes : List Byte) (s : State) : Host.Outcome State Fault Refusal :=
  done s (meshFrame 0x30 port bytes s)

/-- AGG_SHARE (R421). -/
def execAggShare (port : Nat) (bytes : List Byte) (s : State) : Host.Outcome State Fault Refusal :=
  done s (meshFrame 0x31 port bytes s)

/-- AGG_PARTIAL (R421). -/
def execAggPartial (port : Nat) (bytes : List Byte) (s : State) : Host.Outcome State Fault Refusal :=
  done s (meshFrame 0x32 port bytes s)

/-- AGG_CIPHER (R422). -/
def execAggCipher (port : Nat) (bytes : List Byte) (s : State) : Host.Outcome State Fault Refusal :=
  done s (meshFrame 0x33 port bytes s)

/-- HELLO_TIMER (R405). -/
def execHelloTimer (member : Nat) (s : State) : Host.Outcome State Fault Refusal :=
  done s (helloTimer member s)

/-- HEARTBEAT_SEND (R409). -/
def execHeartbeatSend (phases : List (Nat × Nat)) (s : State) : Host.Outcome State Fault Refusal :=
  done s (heartbeatSend phases s)

/-- MEMBER_LOST (R410). -/
def execMemberLost (member : Nat) (s : State) : Host.Outcome State Fault Refusal :=
  done s (memberLost member s)

/-- REKEY (R408). -/
def execRekey (member : Nat) (s : State) : Host.Outcome State Fault Refusal :=
  done s (rekey member s)

/-- CREDIT_RETURN (R401). -/
def execCreditReturn (member : Nat) (s : State) : Host.Outcome State Fault Refusal :=
  done s (creditReturn member s)

/-- MESSAGE_RESEND (R402). -/
def execMessageResend (member : Nat) (s : State) : Host.Outcome State Fault Refusal :=
  done s (messageResend member s)

/-- SHARE_SET_COMMIT (R416). -/
def execShareSetCommit (cab : Nat) (s : State) : Host.Outcome State Fault Refusal :=
  done s (shareSetCommit cab s)

/-- ROTATION_TIMEOUT (R416). -/
def execRotationTimeout (cab : Nat) (s : State) : Host.Outcome State Fault Refusal :=
  done s (rotationTimeout cab s)

/-- SHARE_SET_ERASE (R416). -/
def execShareSetErase (s : State) : Host.Outcome State Fault Refusal :=
  done s (shareSetErase s)

/-- RESTORE_TIMEOUT (R418). -/
def execRestoreTimeout (job : Nat) (s : State) : Host.Outcome State Fault Refusal :=
  done s (restoreTimeout job s)

/-- AGG_ROUND_TIMEOUT (R420). -/
def execAggRoundTimeout (round : Nat) (s : State) : Host.Outcome State Fault Refusal :=
  done s (aggRoundTimeout round s)

end Sys2Proof.Machine
end

