-- ==== Sys2Proof/Machine/ExecMeshJobs.lean ====
section
/-! DEFINITION. Meanings of the commands of the mesh and applet commands of the host (R413 to R422, R381 to R386). -/

namespace Sys2Proof.Machine

/-- MESH_TUNNEL_IN (R413). -/
def execMeshTunnelIn (job : Nat) (s : State) : Host.Outcome State Fault Refusal :=
  done s (meshTunnelIn job s)

/-- MESH_TUNNEL_OUT (R413). -/
def execMeshTunnelOut (job : Nat) (s : State) : Host.Outcome State Fault Refusal :=
  done s (meshTunnelOut job s)

/-- CUSTODY_ROTATE (R416). -/
def execCustodyRotate (job : Nat) (s : State) : Host.Outcome State Fault Refusal :=
  done s (custodyRotate job s)

/-- CUSTODY_RESTORE (R417). -/
def execCustodyRestore (job : Nat) (s : State) : Host.Outcome State Fault Refusal :=
  done s (custodyRestore job s)

/-- MESH_AGGREGATE (R420). -/
def execMeshAggregate (job : Nat) (back : List Byte) (s : State) : Host.Outcome State Fault Refusal :=
  done s (meshAggregate job back s)

/-- APPLET_LOAD (R381). -/
def execAppletLoad (job : Nat) (s : State) : Host.Outcome State Fault Refusal :=
  done s (appletLoad job s)

/-- APPLET_STOP (R383). -/
def execAppletStop (job : Nat) (s : State) : Host.Outcome State Fault Refusal :=
  done s (appletStop job s)

/-- APPLET_MESSAGE (R386). -/
def execAppletMessage (job : Nat) (s : State) : Host.Outcome State Fault Refusal :=
  done s (appletMessage job s)

end Sys2Proof.Machine
end

