-- ==== Sys2Proof/Machine/ExecPages.lean ====
section
/-! DEFINITION. Meanings of the commands of the page owner table (R186 to R197). -/

namespace Sys2Proof.Machine

/-- PAGE_MAP (R186). -/
def execPageMap (job : Nat) (s : State) : Host.Outcome State Fault Refusal :=
  done s (pageCommand job 0xE001 s)

/-- PAGE_UNMAP (R186). -/
def execPageUnmap (job : Nat) (s : State) : Host.Outcome State Fault Refusal :=
  done s (pageCommand job 0xE002 s)

/-- PAGE_PROTECT (R186). -/
def execPageProtect (job : Nat) (s : State) : Host.Outcome State Fault Refusal :=
  done s (pageCommand job 0xE003 s)

/-- PAGE_QUERY (R188). -/
def execPageQuery (job : Nat) (s : State) : Host.Outcome State Fault Refusal :=
  done s (pageQuery job s)

/-- PAGE_WANTED_REPEAT (R195). -/
def execPageWantedRepeat (fn : Nat) (page : Nat) (s : State) : Host.Outcome State Fault Refusal :=
  done s (pageWantedRepeat fn page s)

/-- PAGE_ABANDON_TIMEOUT (R197). -/
def execPageAbandonTimeout (job : Nat) (s : State) : Host.Outcome State Fault Refusal :=
  done s (pageAbandonTimeout job s)

end Sys2Proof.Machine
end

