-- ==== Sys2Proof/Machine/ExecPoly.lean ====
section
/-! DEFINITION. Meanings of the commands of the polynomial engines (spec/13_polynomial.md). -/

namespace Sys2Proof.Machine

/-- POL_MLKEM_KEYPAIR (R283). -/
def execPolMlkemKeypair (job : Nat) (check : Nat) (s : State) : Host.Outcome State Fault Refusal :=
  done s (polMlkemKeypair job check s)

/-- POL_MLKEM_ENCAPS (R285). -/
def execPolMlkemEncaps (job : Nat) (check : Nat) (s : State) : Host.Outcome State Fault Refusal :=
  done s (polMlkemEncaps job check s)

/-- POL_MLKEM_DECAPS (R286). -/
def execPolMlkemDecaps (job : Nat) (check : Nat) (s : State) : Host.Outcome State Fault Refusal :=
  done s (polMlkemDecaps job check s)

/-- POL_MLDSA_SIGN (R287). -/
def execPolMldsaSign (job : Nat) (check : Nat) (s : State) : Host.Outcome State Fault Refusal :=
  done s (polMldsaSign job check s)

/-- POL_MLDSA_VERIFY (R283). -/
def execPolMldsaVerify (job : Nat) (check : Nat) (s : State) : Host.Outcome State Fault Refusal :=
  done s (polMldsaVerify job check s)

/-- POL_HE_ENCRYPT (R294). -/
def execPolHeEncrypt (job : Nat) (back : List (List Byte)) (s : State) : Host.Outcome State Fault Refusal :=
  done s (polHeEncrypt job back s)

/-- ADOPT (R298). -/
def execAdopt (job : Nat) (bytes : List Byte) (s : State) : Host.Outcome State Fault Refusal :=
  done s (adopt job bytes s)

/-- POL_HE_DECRYPT (R296). -/
def execPolHeDecrypt (job : Nat) (back : List (List Byte)) (s : State) : Host.Outcome State Fault Refusal :=
  done s (polHeDecrypt job back s)

/-- POL_HE_ADD (R300). -/
def execPolHeAdd (job : Nat) (back : List (List Byte)) (s : State) : Host.Outcome State Fault Refusal :=
  done s (polHeAdd job back s)

/-- POL_HE_MULTIPLY (R300). -/
def execPolHeMultiply (job : Nat) (back : List (List Byte)) (s : State) : Host.Outcome State Fault Refusal :=
  done s (polHeMultiply job back s)

/-- POL_HE_ROTATE (R300). -/
def execPolHeRotate (job : Nat) (back : List (List Byte)) (s : State) : Host.Outcome State Fault Refusal :=
  done s (polHeRotate job back s)

/-- POL_HE_KEYSWITCH (R300). -/
def execPolHeKeyswitch (job : Nat) (back : List (List Byte)) (s : State) : Host.Outcome State Fault Refusal :=
  done s (polHeKeyswitch job back s)

/-- POL_HE_RESCALE (R300). -/
def execPolHeRescale (job : Nat) (back : List (List Byte)) (s : State) : Host.Outcome State Fault Refusal :=
  done s (polHeRescale job back s)

/-- POL_HE_REFRESH (R302). -/
def execPolHeRefresh (job : Nat) (back : List (List Byte)) (s : State) : Host.Outcome State Fault Refusal :=
  done s (polHeRefresh job back s)

/-- POL_HANDLE_FREE (R297). -/
def execPolHandleFree (job : Nat) (s : State) : Host.Outcome State Fault Refusal :=
  done s (polHandleFree job s)

end Sys2Proof.Machine
end

