-- ==== Sys2Proof/Machine/ExecPower.lean ====
section
/-! DEFINITION. Meanings of the commands of Dawn, NIGHT, ceilings, boundary scan and the mailbox (spec/22_dawn_power.md, R453, R461, R531). -/

namespace Sys2Proof.Machine

/-- POWER_RECOVERED (R498). -/
def execPowerRecovered (s : State) : Host.Outcome State Fault Refusal :=
  done s (powerRecovered s)

/-- POWER_GOOD (R481). -/
def execPowerGood (inp : DawnInput) (s : State) : Host.Outcome State Fault Refusal :=
  done s (powerGood inp s)

/-- ADMISSION_OPEN (R481). -/
def execAdmissionOpen (ms : Nat) (s : State) : Host.Outcome State Fault Refusal :=
  done s (admissionOpen ms s)

/-- LINK_TRAINING (R484). -/
def execLinkTraining (lanes : Nat) (gts : Nat) (vf : Bool) (s : State) : Host.Outcome State Fault Refusal :=
  done s (linkTraining lanes gts vf s)

/-- WARM_RESET (R478). -/
def execWarmReset (s : State) : Host.Outcome State Fault Refusal :=
  done s (warmReset s)

/-- WAKE (R501). -/
def execWake (cause : Nat) (secs : Nat) (s : State) : Host.Outcome State Fault Refusal :=
  done s (wake cause secs s)

/-- BOOT_RETRY (R495). -/
def execBootRetry (s : State) : Host.Outcome State Fault Refusal :=
  done s (bootRetry s)

/-- BOOT_MAP (R486). -/
def execBootMap (fn : Nat) (value : Nat) (s : State) : Host.Outcome State Fault Refusal :=
  done s (onHost fn (fun s => bootMap fn value (noteReserved fn (windowBase fn + 0x2C) value 1 s)) s)

/-- TILE_LIMIT_CHANGE (R502). -/
def execTileLimitChange (tile : Nat) (s : State) : Host.Outcome State Fault Refusal :=
  done s (tileLimitChange tile s)

/-- I2C_CEILING (R531). -/
def execI2cCeiling (bytes : List Byte) (s : State) : Host.Outcome State Fault Refusal :=
  done s (i2cCeiling bytes s)

/-- TAP_INSTRUCTION (R461). -/
def execTapInstruction (code : Nat) (s : State) : Host.Outcome State Fault Refusal :=
  done s (tapInstruction code s)

/-- LCS_DAP_DOORBELL (R453). -/
def execLcsDapDoorbell (bits : Nat) (s : State) : Host.Outcome State Fault Refusal :=
  done s (lcsDapDoorbell bits s)

end Sys2Proof.Machine
end

