-- ==== Sys2Proof/Machine/ExecRandom.lean ====
section
/-! DEFINITION. Meanings of the commands of tile parity, noise sources and the DRBG (R250, R312 to R322). -/

namespace Sys2Proof.Machine

/-- TILE_PARITY_ERROR (R250). -/
def execTileParityError (tile : Nat) (bank : Nat) (s : State) : Host.Outcome State Fault Refusal :=
  done s (whenAwake (tileParityError tile bank) s)

/-- SOURCE_WINDOW_CLOSE (R312): the raw bits of the source that have not reached the model yet, up to the last of a window. The bits
decide what happens at each sample (DESIGN CHOICE, log 85). -/
def execSourceWindowClose (source : RawWindow) (s : State) : Host.Outcome State Fault Refusal :=
  done s (whenAwake (takeRaw source.source source.raw) s)

/-- RNG_HEALTH_INTERMITTENT (R317): the raw bits of the source that have not reached the model yet, up to the one at which a test fails
(DESIGN CHOICE, log 85). -/
def execRngHealthIntermittent (source : Nat) (raw : List Bool) (s : State) : Host.Outcome State Fault Refusal :=
  done s (whenAwake (takeRaw source raw) s)

/-- DRBG_RESEED (R320). -/
def execDrbgReseed (s : State) : Host.Outcome State Fault Refusal :=
  done s (drbgReseed s)

/-- DRBG_BLOCKED (R320). -/
def execDrbgBlocked (s : State) : Host.Outcome State Fault Refusal :=
  done s (drbgBlocked s)

/-- DRBG_INSTANTIATE (R319). -/
def execDrbgInstantiate (s : State) : Host.Outcome State Fault Refusal :=
  done s (drbgInstantiate s)

/-- DRBG_KAT_FAILED (R322). -/
def execDrbgKatFailed (cause : Nat) (s : State) : Host.Outcome State Fault Refusal :=
  done s (whenAwake (drbgKatFailed cause) s)

end Sys2Proof.Machine
end

