-- ==== Sys2Proof/Machine/ExecRest.lean ====
section
/-! DEFINITION. Meanings of the commands of events, self-test runs, always-on samples, flash completions, rejected frames and debug halts. -/

namespace Sys2Proof.Machine

/-- EVENT_INTAKE (R467). -/
def execEventIntake (s : State) : Host.Outcome State Fault Refusal :=
  done s (whenAwake eventIntake s)

/-- EVT_ACK_SEQ (R468). -/
def execEvtAckSeq (value : Word) (s : State) : Host.Outcome State Fault Refusal :=
  done s (onHost 0 (ackRing value) s)

/-- EVT_SEL_SEQ (R470). -/
def execEvtSelSeq (value : Word) (s : State) : Host.Outcome State Fault Refusal :=
  done s (onHost 0 (selectRecord value) s)

/-- EVT_JOURNAL_ACK (R477). -/
def execEvtJournalAck (value : Word) (s : State) : Host.Outcome State Fault Refusal :=
  done s (onHost 0 (ackJournal value) s)

/-- JOURNAL_PROGRAM (R474). -/
def execJournalProgram (ok : Bool) (s : State) : Host.Outcome State Fault Refusal :=
  done s (whenAwake (journalProgram ok) s)

/-- BIST_RUN_COMPLETE (R516). -/
def execBistRunComplete (part : Nat) (found : List BistFound) (s : State) : Host.Outcome State Fault Refusal :=
  done s (bistRunComplete part found s)

/-- BST_DAP_START (R519). -/
def execBstDapStart (s : State) : Host.Outcome State Fault Refusal :=
  done s (bstDapStart s)

/-- TAMPER_MONITOR_SAMPLE (R431). -/
def execTamperMonitorSample (a : Nat) (b : Nat) (lid : Bool × Bool) (board : Bool × Bool) (temp : Int) (mv : Nat) (present : Nat) (s : State) : Host.Outcome State Fault Refusal :=
  done s (tamperSample a b lid board temp mv present s)

/-- ALWAYS_ON_POWER_UP (R527). -/
def execAlwaysOnPowerUp (s : State) : Host.Outcome State Fault Refusal :=
  done s (alwaysOnPowerUp s)

/-- KEY_BANK_ERASED (R211). -/
def execKeyBankErased (group : Nat) (s : State) : Host.Outcome State Fault Refusal :=
  done s (bankErased group s)

/-- FIRMWARE_COPY_WRITTEN (R493). -/
def execFirmwareCopyWritten (found : List Byte) (s : State) : Host.Outcome State Fault Refusal :=
  done s (firmwareCopyWritten found s)

/-- APPLET_STORE_WRITTEN (R381). -/
def execAppletStoreWritten (world : Nat) (ok : Bool) (s : State) : Host.Outcome State Fault Refusal :=
  done s (appletStoreWritten world ok s)

/-- MESH_FRAME_REJECTED (R399). -/
def execMeshFrameRejected (port : Nat) (fec : Bool) (bytes : List Byte) (s : State) : Host.Outcome State Fault Refusal :=
  done s (meshFrameRejected port fec bytes s)

/-- DEBUG_PAIR_HALT (R455). -/
def execDebugPairHalt (pair : Nat) (s : State) : Host.Outcome State Fault Refusal :=
  done s (debugPairHalt pair s)

/-- DEBUG_PAIR_RESUME (R455). -/
def execDebugPairResume (pair : Nat) (s : State) : Host.Outcome State Fault Refusal :=
  done s (debugPairResume pair s)

end Sys2Proof.Machine
end

