-- ==== Sys2Proof/Machine/ExecService.lean ====
section
/-! DEFINITION. Meanings of the commands of life cycle, events, self-test and power commands of the host (spec/20_lifecycle_debug.md to spec/23_self_test.md). -/

namespace Sys2Proof.Machine

/-- LCS_TRANSITION (R452). -/
def execLcsTransition (job : Nat) (bits : Nat) (s : State) : Host.Outcome State Fault Refusal :=
  done s (lcsTransition job bits s)

/-- DEBUG_CERT (R457). -/
def execDebugCert (job : Nat) (s : State) : Host.Outcome State Fault Refusal :=
  done s (debugCert job s)

/-- DEBUG_CHALLENGE (R458). -/
def execDebugChallenge (job : Nat) (s : State) : Host.Outcome State Fault Refusal :=
  done s (debugChallenge job s)

/-- DEBUG_RESPONSE (R458). -/
def execDebugResponse (job : Nat) (s : State) : Host.Outcome State Fault Refusal :=
  done s (debugResponse job s)

/-- CABINET_ZEROIZE (R460). -/
def execCabinetZeroize (job : Nat) (s : State) : Host.Outcome State Fault Refusal :=
  done s (cabinetZeroize job s)

/-- EVENT_SNAPSHOT (R471). -/
def execEventSnapshot (job : Nat) (s : State) : Host.Outcome State Fault Refusal :=
  done s (eventSnapshot job s)

/-- JOURNAL_READ (R477). -/
def execJournalRead (job : Nat) (s : State) : Host.Outcome State Fault Refusal :=
  done s (journalRead job s)

/-- SELFTEST (R514). -/
def execSelftest (job : Nat) (s : State) : Host.Outcome State Fault Refusal :=
  done s (selftest job s)

/-- POWER_POLICY (R503). -/
def execPowerPolicy (job : Nat) (s : State) : Host.Outcome State Fault Refusal :=
  done s (powerPolicy job s)

/-- NIGHT_ENTER (R500). -/
def execNightEnter (job : Nat) (s : State) : Host.Outcome State Fault Refusal :=
  done s (nightEnter job s)

/-- FIRMWARE_STAGE (R492). -/
def execFirmwareStage (job : Nat) (s : State) : Host.Outcome State Fault Refusal :=
  done s (firmwareStage job s)

/-- FIRMWARE_COMMIT (R493). -/
def execFirmwareCommit (job : Nat) (s : State) : Host.Outcome State Fault Refusal :=
  done s (firmwareCommit job s)

/-- FIRMWARE_RESET (R493). -/
def execFirmwareReset (s : State) : Host.Outcome State Fault Refusal :=
  done s (firmwareReset s)

end Sys2Proof.Machine
end

