-- ==== Sys2Proof/Machine/ExecTamper.lean ====
section
/-! DEFINITION. Meanings of the commands of tamper and zeroization (spec/19_tamper.md). -/

namespace Sys2Proof.Machine

/-- INPUT_TRIPPED (R432). -/
def execInputTripped (input : Nat) (s : State) : Host.Outcome State Fault Refusal :=
  done s (inputTripped input s)

/-- INPUT_DISCREPANCY (R432). -/
def execInputDiscrepancy (input : Nat) (s : State) : Host.Outcome State Fault Refusal :=
  done s (inputDiscrepancy input s)

/-- DISCREPANCY_BRIEF (R432). -/
def execDiscrepancyBrief (input : Nat) (s : State) : Host.Outcome State Fault Refusal :=
  done s (discrepancyBrief input s)

/-- ESCUTCHEON (R427). -/
def execEscutcheon (meander : Nat) (s : State) : Host.Outcome State Fault Refusal :=
  done s (escutcheon meander s)

/-- SENSOR_ALARM (R434). -/
def execSensorAlarm (cls : Nat) (source : Nat) (s : State) : Host.Outcome State Fault Refusal :=
  done s (sensorAlarm cls source s)

/-- ZEROIZE_COMPLETE (R437). -/
def execZeroizeComplete (vaultOk : Bool) (sramOk : Bool) (s : State) : Host.Outcome State Fault Refusal :=
  done s (zeroizeComplete vaultOk sramOk s)

/-- LOW_BATTERY (R436). -/
def execLowBattery (mv : Nat) (s : State) : Host.Outcome State Fault Refusal :=
  done s (lowBattery mv s)

/-- AON_POWER_LOSS (R436). -/
def execAonPowerLoss (s : State) : Host.Outcome State Fault Refusal :=
  done s (aonPowerLoss s)

/-- POWER_FAIL (R497). -/
def execPowerFail (s : State) : Host.Outcome State Fault Refusal :=
  done s (powerFail s)

/-- SENSOR_DISARM (R435). -/
def execSensorDisarm (s : State) : Host.Outcome State Fault Refusal :=
  done s (sensorDisarm s)

end Sys2Proof.Machine
end

