-- ==== Sys2Proof/Machine/ExecWorlds.lean ====
section
/-! DEFINITION. Meanings of the commands of worlds, monitor calls and the management pairs (spec/17_worlds.md). -/

namespace Sys2Proof.Machine

/-- WORLD_SWITCH (R378). -/
def execWorldSwitch (quantum : Nat) (s : State) : Host.Outcome State Fault Refusal :=
  done s (worldSwitch quantum s)

/-- YIELD (R384). -/
def execYield (world : Nat) (s : State) : Host.Outcome State Fault Refusal :=
  done s (yield world s)

/-- MSG_RECV (R386). -/
def execMsgRecv (world : Nat) (s : State) : Host.Outcome State Fault Refusal :=
  done s (msgRecv world s)

/-- MSG_DONE (R386). -/
def execMsgDone (world : Nat) (s : State) : Host.Outcome State Fault Refusal :=
  done s (msgDone world s)

/-- MSG_SEND (R386). -/
def execMsgSend (world : Nat) (len : Nat) (out : List Byte) (s : State) : Host.Outcome State Fault Refusal :=
  done s (msgSend world len out s)

/-- LEDGER_VIEW (R385). -/
def execLedgerView (world : Nat) (lane : Nat) (buf : Nat) (s : State) : Host.Outcome State Fault Refusal :=
  done s (ledgerViewCall world lane buf s)

/-- TIME (R385). -/
def execTime (world : Nat) (buf : Nat) (s : State) : Host.Outcome State Fault Refusal :=
  done s (timeCall world buf s)

/-- L_NOW (R384). -/
def execLNow (world : Nat) (s : State) : Host.Outcome State Fault Refusal :=
  done s (lNow world s)

/-- BAD_CALL (R384). -/
def execBadCall (world : Nat) (number : Nat) (addr : Nat) (s : State) : Host.Outcome State Fault Refusal :=
  done s (badCall world number addr s)

/-- WORLD_VIOLATION (R375). -/
def execWorldViolation (world : Nat) (kind : Option Access) (vaddr : Nat) (s : State) : Host.Outcome State Fault Refusal :=
  done s (worldViolation world kind vaddr s)

/-- APPLET_RUN (R381). -/
def execAppletRun (world : Nat) (s : State) : Host.Outcome State Fault Refusal :=
  done s (appletRun world s)

/-- WORLD_STOP (R383). -/
def execWorldStop (world : Nat) (s : State) : Host.Outcome State Fault Refusal :=
  done s (worldStop world s)

/-- MESSAGE_DELIVERY (R386). -/
def execMessageDelivery (world : Nat) (s : State) : Host.Outcome State Fault Refusal :=
  done s (messageDelivery world s)

/-- MESSAGE_TIMEOUT (R386). -/
def execMessageTimeout (world : Nat) (s : State) : Host.Outcome State Fault Refusal :=
  done s (messageTimeout world s)

/-- LOCKSTEP_MISMATCH (R388). -/
def execLockstepMismatch (pair : Nat) (cause : Nat) (s : State) : Host.Outcome State Fault Refusal :=
  done s (lockstepMismatch pair cause s)

/-- COMPARATOR_DEAD (R388). -/
def execComparatorDead (pair : Nat) (cause : Nat) (s : State) : Host.Outcome State Fault Refusal :=
  done s (whenAwake (comparatorDead pair cause) s)

/-- COMPARATOR_PROBE (R389). -/
def execComparatorProbe (pair : Nat) (rail : Nat) (cycles : Nat) (s : State) : Host.Outcome State Fault Refusal :=
  done s (comparatorProbe pair rail cycles s)

/-- PAIR_RESTART (R390). -/
def execPairRestart (pair : Nat) (s : State) : Host.Outcome State Fault Refusal :=
  done s (pairRestart pair s)

/-- PAIR_RESTART_COMPLETE (R390). -/
def execPairRestartComplete (pair : Nat) (bad : List Nat) (s : State) : Host.Outcome State Fault Refusal :=
  done s (pairRestartComplete pair bad s)

/-- PAIR_RESTART_TIMEOUT (R390). -/
def execPairRestartTimeout (pair : Nat) (s : State) : Host.Outcome State Fault Refusal :=
  done s (pairRestartTimeout pair s)

/-- KEEPER_ABSENT_CLOSE (R392). -/
def execKeeperAbsentClose (s : State) : Host.Outcome State Fault Refusal :=
  done s (keeperAbsentClose s)

/-- ADMISSION_REOPEN (R392). -/
def execAdmissionReopen (s : State) : Host.Outcome State Fault Refusal :=
  done s (admissionReopen s)

/-- HOLD_ENTRY (R394). -/
def execHoldEntry (s : State) : Host.Outcome State Fault Refusal :=
  done s (holdEntry s)

end Sys2Proof.Machine
end

