-- ==== Sys2Proof/Machine/Dispatch.lean ====
section
/-! DEFINITION. Dispatch: one arm per command. -/

namespace Sys2Proof.Machine

/-- The effect of a command on everything but the queue of waiting commands. -/
def exec (i : Instr) (s : State) : Host.Outcome State Fault Refusal :=
  match i with
  | .transitBoundary inp => Sys2Proof.Machine.execTransitBoundary inp s
  | .meterFrameBoundary bitOk => Sys2Proof.Machine.execMeterFrameBoundary bitOk s
  | .orbitBoundary => Sys2Proof.Machine.execOrbitBoundary s
  | .ppsEdge stamp cycle => Sys2Proof.Machine.execPpsEdge stamp cycle s
  | .ppsIntervalTimeout => Sys2Proof.Machine.execPpsIntervalTimeout s
  | .planningTail => Sys2Proof.Machine.execPlanningTail s
  | .operandStaged job input aux extra => Sys2Proof.Machine.execOperandStaged job input aux extra s
  | .commitPhase job count bitOk => Sys2Proof.Machine.execCommitPhase job count bitOk s
  | .carryCompletion counter fail => Sys2Proof.Machine.execCarryCompletion counter fail s
  | .laneRecordWrite lane bitOk => Sys2Proof.Machine.execLaneRecordWrite lane bitOk s
  | .sqDoorbell fn ring count cycle => Sys2Proof.Machine.execSqDoorbell fn ring count cycle s
  | .cqDoorbell fn ring count => Sys2Proof.Machine.execCqDoorbell fn ring count s
  | .descriptorFetch fn ring bytes => Sys2Proof.Machine.execDescriptorFetch fn ring bytes s
  | .creditlessAnswer fn ring bytes => Sys2Proof.Machine.execCreditlessAnswer fn ring bytes s
  | .sqEnable fn ring value => Sys2Proof.Machine.execSqEnable fn ring value s
  | .sqDisable fn ring value => Sys2Proof.Machine.execSqDisable fn ring value s
  | .cqEnable fn ring value => Sys2Proof.Machine.execCqEnable fn ring value s
  | .cqDisable fn ring value => Sys2Proof.Machine.execCqDisable fn ring value s
  | .statusBlockEnable fn value => Sys2Proof.Machine.execStatusBlockEnable fn value s
  | .fnAttnClear fn value => Sys2Proof.Machine.execFnAttnClear fn value s
  | .noticeWrite fn => Sys2Proof.Machine.execNoticeWrite fn s
  | .hostReadFailure job fn ring addr cause => Sys2Proof.Machine.execHostReadFailure job fn ring addr cause s
  | .flr fn => Sys2Proof.Machine.execFlr fn s
  | .busMasterEnableCleared fn => Sys2Proof.Machine.execBusMasterEnableCleared fn s
  | .d3hotEntry fn => Sys2Proof.Machine.execD3hotEntry fn s
  | .d3hotToD0 fn => Sys2Proof.Machine.execD3hotToD0 fn s
  | .hotReset => Sys2Proof.Machine.execHotReset s
  | .linkDown => Sys2Proof.Machine.execLinkDown s
  | .vfEnableCleared => Sys2Proof.Machine.execVfEnableCleared s
  | .badAccess fn offset size write => Sys2Proof.Machine.execBadAccess fn offset size write s
  | .registerWrite path offset value => Sys2Proof.Machine.execRegisterWrite path offset value s
  | .latchingRead path offset => Sys2Proof.Machine.execLatchingRead path offset s
  | .nop job => Sys2Proof.Machine.execNop job s
  | .symEncrypt job => Sys2Proof.Machine.execSymEncrypt job s
  | .symDecrypt job => Sys2Proof.Machine.execSymDecrypt job s
  | .symAeadEncrypt job => Sys2Proof.Machine.execSymAeadEncrypt job s
  | .symAeadDecrypt job => Sys2Proof.Machine.execSymAeadDecrypt job s
  | .symCmac job => Sys2Proof.Machine.execSymCmac job s
  | .symKeyWrap job => Sys2Proof.Machine.execSymKeyWrap job s
  | .symKeyUnwrap job => Sys2Proof.Machine.execSymKeyUnwrap job s
  | .symContextSave job => Sys2Proof.Machine.execSymContextSave job s
  | .symContextRestore job => Sys2Proof.Machine.execSymContextRestore job s
  | .symReencrypt job => Sys2Proof.Machine.execSymReencrypt job s
  | .digHash job => Sys2Proof.Machine.execDigHash job s
  | .digHmac job => Sys2Proof.Machine.execDigHmac job s
  | .digKmac job => Sys2Proof.Machine.execDigKmac job s
  | .digXof job => Sys2Proof.Machine.execDigXof job s
  | .digContextSave job => Sys2Proof.Machine.execDigContextSave job s
  | .digContextRestore job => Sys2Proof.Machine.execDigContextRestore job s
  | .digResultRelease job => Sys2Proof.Machine.execDigResultRelease job s
  | .bigRsaSign job ok => Sys2Proof.Machine.execBigRsaSign job ok s
  | .bigRsaVerify job => Sys2Proof.Machine.execBigRsaVerify job s
  | .bigRsaEncrypt job => Sys2Proof.Machine.execBigRsaEncrypt job s
  | .bigRsaDecrypt job ok => Sys2Proof.Machine.execBigRsaDecrypt job ok s
  | .bigEcdsaSign job ok => Sys2Proof.Machine.execBigEcdsaSign job ok s
  | .bigEcdsaVerify job => Sys2Proof.Machine.execBigEcdsaVerify job s
  | .bigEcdh job ok => Sys2Proof.Machine.execBigEcdh job ok s
  | .bigEcEphemeral job ok => Sys2Proof.Machine.execBigEcEphemeral job ok s
  | .bigEddsaSign job ok => Sys2Proof.Machine.execBigEddsaSign job ok s
  | .bigEddsaVerify job => Sys2Proof.Machine.execBigEddsaVerify job s
  | .bigXdh job ok => Sys2Proof.Machine.execBigXdh job ok s
  | .bigModarith job => Sys2Proof.Machine.execBigModarith job s
  | .polMlkemKeypair job check => Sys2Proof.Machine.execPolMlkemKeypair job check s
  | .polMlkemEncaps job check => Sys2Proof.Machine.execPolMlkemEncaps job check s
  | .polMlkemDecaps job check => Sys2Proof.Machine.execPolMlkemDecaps job check s
  | .polMldsaSign job check => Sys2Proof.Machine.execPolMldsaSign job check s
  | .polMldsaVerify job check => Sys2Proof.Machine.execPolMldsaVerify job check s
  | .polHeEncrypt job back => Sys2Proof.Machine.execPolHeEncrypt job back s
  | .adopt job bytes => Sys2Proof.Machine.execAdopt job bytes s
  | .polHeDecrypt job back => Sys2Proof.Machine.execPolHeDecrypt job back s
  | .polHeAdd job back => Sys2Proof.Machine.execPolHeAdd job back s
  | .polHeMultiply job back => Sys2Proof.Machine.execPolHeMultiply job back s
  | .polHeRotate job back => Sys2Proof.Machine.execPolHeRotate job back s
  | .polHeKeyswitch job back => Sys2Proof.Machine.execPolHeKeyswitch job back s
  | .polHeRescale job back => Sys2Proof.Machine.execPolHeRescale job back s
  | .polHeRefresh job back => Sys2Proof.Machine.execPolHeRefresh job back s
  | .polHandleFree job => Sys2Proof.Machine.execPolHandleFree job s
  | .rngRead job => Sys2Proof.Machine.execRngRead job s
  | .laneStatus job => Sys2Proof.Machine.execLaneStatus job s
  | .sealRequest job ok => Sys2Proof.Machine.execSealRequest job ok s
  | .ledgerRead job => Sys2Proof.Machine.execLedgerRead job s
  | .ledgerIdentity job => Sys2Proof.Machine.execLedgerIdentity job s
  | .keyGenerate job tile outcome => Sys2Proof.Machine.execKeyGenerate job tile outcome s
  | .keyImport job => Sys2Proof.Machine.execKeyImport job s
  | .keyExport job => Sys2Proof.Machine.execKeyExport job s
  | .keyDestroy job => Sys2Proof.Machine.execKeyDestroy job s
  | .keyLoadFerried job => Sys2Proof.Machine.execKeyLoadFerried job s
  | .keyLoadPublic job => Sys2Proof.Machine.execKeyLoadPublic job s
  | .keyInfo job => Sys2Proof.Machine.execKeyInfo job s
  | .keyEphemeralFree job => Sys2Proof.Machine.execKeyEphemeralFree job s
  | .dovetailApprove job => Sys2Proof.Machine.execDovetailApprove job s
  | .dovetailQuery job => Sys2Proof.Machine.execDovetailQuery job s
  | .dovetailLapse request => Sys2Proof.Machine.execDovetailLapse request s
  | .thaw job => Sys2Proof.Machine.execThaw job s
  | .carcassStage job => Sys2Proof.Machine.execCarcassStage job s
  | .carcassUnstage job => Sys2Proof.Machine.execCarcassUnstage job s
  | .carcassRead job => Sys2Proof.Machine.execCarcassRead job s
  | .carcassCopyWritten found => Sys2Proof.Machine.execCarcassCopyWritten found s
  | .carcassIntentTimeout => Sys2Proof.Machine.execCarcassIntentTimeout s
  | .carcassCommit bitOk => Sys2Proof.Machine.execCarcassCommit bitOk s
  | .copyRepair found => Sys2Proof.Machine.execCopyRepair found s
  | .timeNonce job => Sys2Proof.Machine.execTimeNonce job s
  | .timeStatement job => Sys2Proof.Machine.execTimeStatement job s
  | .timeStepApply => Sys2Proof.Machine.execTimeStepApply s
  | .meshTunnelIn job => Sys2Proof.Machine.execMeshTunnelIn job s
  | .meshTunnelOut job => Sys2Proof.Machine.execMeshTunnelOut job s
  | .custodyRotate job => Sys2Proof.Machine.execCustodyRotate job s
  | .custodyRestore job => Sys2Proof.Machine.execCustodyRestore job s
  | .meshAggregate job back => Sys2Proof.Machine.execMeshAggregate job back s
  | .appletLoad job => Sys2Proof.Machine.execAppletLoad job s
  | .appletStop job => Sys2Proof.Machine.execAppletStop job s
  | .appletMessage job => Sys2Proof.Machine.execAppletMessage job s
  | .lcsTransition job bits => Sys2Proof.Machine.execLcsTransition job bits s
  | .debugCert job => Sys2Proof.Machine.execDebugCert job s
  | .debugChallenge job => Sys2Proof.Machine.execDebugChallenge job s
  | .debugResponse job => Sys2Proof.Machine.execDebugResponse job s
  | .cabinetZeroize job => Sys2Proof.Machine.execCabinetZeroize job s
  | .eventSnapshot job => Sys2Proof.Machine.execEventSnapshot job s
  | .journalRead job => Sys2Proof.Machine.execJournalRead job s
  | .selftest job => Sys2Proof.Machine.execSelftest job s
  | .powerPolicy job => Sys2Proof.Machine.execPowerPolicy job s
  | .nightEnter job => Sys2Proof.Machine.execNightEnter job s
  | .firmwareStage job => Sys2Proof.Machine.execFirmwareStage job s
  | .firmwareCommit job => Sys2Proof.Machine.execFirmwareCommit job s
  | .firmwareReset => Sys2Proof.Machine.execFirmwareReset s
  | .pageMap job => Sys2Proof.Machine.execPageMap job s
  | .pageUnmap job => Sys2Proof.Machine.execPageUnmap job s
  | .pageProtect job => Sys2Proof.Machine.execPageProtect job s
  | .pageQuery job => Sys2Proof.Machine.execPageQuery job s
  | .pageWantedRepeat fn page => Sys2Proof.Machine.execPageWantedRepeat fn page s
  | .pageAbandonTimeout job => Sys2Proof.Machine.execPageAbandonTimeout job s
  | .tileParityError tile bank => Sys2Proof.Machine.execTileParityError tile bank s
  | .sourceWindowClose source => Sys2Proof.Machine.execSourceWindowClose source s
  | .rngHealthIntermittent source raw => Sys2Proof.Machine.execRngHealthIntermittent source raw s
  | .drbgReseed => Sys2Proof.Machine.execDrbgReseed s
  | .drbgBlocked => Sys2Proof.Machine.execDrbgBlocked s
  | .drbgInstantiate => Sys2Proof.Machine.execDrbgInstantiate s
  | .drbgKatFailed cause => Sys2Proof.Machine.execDrbgKatFailed cause s
  | .laneCycleStart lane => Sys2Proof.Machine.execLaneCycleStart lane s
  | .reading lane clean bytes => Sys2Proof.Machine.execReading lane clean bytes s
  | .identity lane clean bytes => Sys2Proof.Machine.execIdentity lane clean bytes s
  | .laneResponseTimeout lane => Sys2Proof.Machine.execLaneResponseTimeout lane s
  | .laneRetry lane => Sys2Proof.Machine.execLaneRetry lane s
  | .decisionPoint lane => Sys2Proof.Machine.execDecisionPoint lane s
  | .pulse lane => Sys2Proof.Machine.execPulse lane s
  | .laneBabbling lane => Sys2Proof.Machine.execLaneBabbling lane s
  | .laneJoin lane => Sys2Proof.Machine.execLaneJoin lane s
  | .worldSwitch quantum => Sys2Proof.Machine.execWorldSwitch quantum s
  | .yield world => Sys2Proof.Machine.execYield world s
  | .msgRecv world => Sys2Proof.Machine.execMsgRecv world s
  | .msgDone world => Sys2Proof.Machine.execMsgDone world s
  | .msgSend world len out => Sys2Proof.Machine.execMsgSend world len out s
  | .ledgerView world lane buf => Sys2Proof.Machine.execLedgerView world lane buf s
  | .time world buf => Sys2Proof.Machine.execTime world buf s
  | .lNow world => Sys2Proof.Machine.execLNow world s
  | .badCall world number addr => Sys2Proof.Machine.execBadCall world number addr s
  | .worldViolation world kind vaddr => Sys2Proof.Machine.execWorldViolation world kind vaddr s
  | .appletRun world => Sys2Proof.Machine.execAppletRun world s
  | .worldStop world => Sys2Proof.Machine.execWorldStop world s
  | .messageDelivery world => Sys2Proof.Machine.execMessageDelivery world s
  | .messageTimeout world => Sys2Proof.Machine.execMessageTimeout world s
  | .lockstepMismatch pair cause => Sys2Proof.Machine.execLockstepMismatch pair cause s
  | .comparatorDead pair cause => Sys2Proof.Machine.execComparatorDead pair cause s
  | .comparatorProbe pair rail cycles => Sys2Proof.Machine.execComparatorProbe pair rail cycles s
  | .pairRestart pair => Sys2Proof.Machine.execPairRestart pair s
  | .pairRestartComplete pair bad => Sys2Proof.Machine.execPairRestartComplete pair bad s
  | .pairRestartTimeout pair => Sys2Proof.Machine.execPairRestartTimeout pair s
  | .keeperAbsentClose => Sys2Proof.Machine.execKeeperAbsentClose s
  | .admissionReopen => Sys2Proof.Machine.execAdmissionReopen s
  | .holdEntry => Sys2Proof.Machine.execHoldEntry s
  | .portLockChange port pcs fec => Sys2Proof.Machine.execPortLockChange port pcs fec s
  | .hello port bytes => Sys2Proof.Machine.execHello port bytes s
  | .keyInit port bytes => Sys2Proof.Machine.execKeyInit port bytes s
  | .keyReply port bytes => Sys2Proof.Machine.execKeyReply port bytes s
  | .keyConfirm port bytes => Sys2Proof.Machine.execKeyConfirm port bytes s
  | .heartbeat port rx bytes => Sys2Proof.Machine.execHeartbeat port rx bytes s
  | .credit port bytes => Sys2Proof.Machine.execCredit port bytes s
  | .sharePut port bytes => Sys2Proof.Machine.execSharePut port bytes s
  | .shareAck port bytes => Sys2Proof.Machine.execShareAck port bytes s
  | .shareCommit port bytes => Sys2Proof.Machine.execShareCommit port bytes s
  | .shareRequest port bytes => Sys2Proof.Machine.execShareRequest port bytes s
  | .shareRelease port bytes => Sys2Proof.Machine.execShareRelease port bytes s
  | .shareRefuse port bytes => Sys2Proof.Machine.execShareRefuse port bytes s
  | .shareProbe port bytes => Sys2Proof.Machine.execShareProbe port bytes s
  | .shareDrop port bytes => Sys2Proof.Machine.execShareDrop port bytes s
  | .aggOffer port bytes => Sys2Proof.Machine.execAggOffer port bytes s
  | .aggShare port bytes => Sys2Proof.Machine.execAggShare port bytes s
  | .aggPartial port bytes => Sys2Proof.Machine.execAggPartial port bytes s
  | .aggCipher port bytes => Sys2Proof.Machine.execAggCipher port bytes s
  | .helloTimer member => Sys2Proof.Machine.execHelloTimer member s
  | .heartbeatSend phases => Sys2Proof.Machine.execHeartbeatSend phases s
  | .memberLost member => Sys2Proof.Machine.execMemberLost member s
  | .rekey member => Sys2Proof.Machine.execRekey member s
  | .creditReturn member => Sys2Proof.Machine.execCreditReturn member s
  | .messageResend member => Sys2Proof.Machine.execMessageResend member s
  | .shareSetCommit cab => Sys2Proof.Machine.execShareSetCommit cab s
  | .rotationTimeout cab => Sys2Proof.Machine.execRotationTimeout cab s
  | .shareSetErase => Sys2Proof.Machine.execShareSetErase s
  | .restoreTimeout job => Sys2Proof.Machine.execRestoreTimeout job s
  | .aggRoundTimeout round => Sys2Proof.Machine.execAggRoundTimeout round s
  | .inputTripped input => Sys2Proof.Machine.execInputTripped input s
  | .inputDiscrepancy input => Sys2Proof.Machine.execInputDiscrepancy input s
  | .discrepancyBrief input => Sys2Proof.Machine.execDiscrepancyBrief input s
  | .escutcheon meander => Sys2Proof.Machine.execEscutcheon meander s
  | .sensorAlarm cls source => Sys2Proof.Machine.execSensorAlarm cls source s
  | .zeroizeComplete vaultOk sramOk => Sys2Proof.Machine.execZeroizeComplete vaultOk sramOk s
  | .lowBattery mv => Sys2Proof.Machine.execLowBattery mv s
  | .aonPowerLoss => Sys2Proof.Machine.execAonPowerLoss s
  | .powerFail => Sys2Proof.Machine.execPowerFail s
  | .sensorDisarm => Sys2Proof.Machine.execSensorDisarm s
  | .powerRecovered => Sys2Proof.Machine.execPowerRecovered s
  | .powerGood inp => Sys2Proof.Machine.execPowerGood inp s
  | .admissionOpen ms => Sys2Proof.Machine.execAdmissionOpen ms s
  | .linkTraining lanes gts vf => Sys2Proof.Machine.execLinkTraining lanes gts vf s
  | .warmReset => Sys2Proof.Machine.execWarmReset s
  | .wake cause secs => Sys2Proof.Machine.execWake cause secs s
  | .bootRetry => Sys2Proof.Machine.execBootRetry s
  | .bootMap fn value => Sys2Proof.Machine.execBootMap fn value s
  | .tileLimitChange tile => Sys2Proof.Machine.execTileLimitChange tile s
  | .i2cCeiling bytes => Sys2Proof.Machine.execI2cCeiling bytes s
  | .tapInstruction code => Sys2Proof.Machine.execTapInstruction code s
  | .lcsDapDoorbell bits => Sys2Proof.Machine.execLcsDapDoorbell bits s
  | .eventIntake => Sys2Proof.Machine.execEventIntake s
  | .evtAckSeq value => Sys2Proof.Machine.execEvtAckSeq value s
  | .evtSelSeq value => Sys2Proof.Machine.execEvtSelSeq value s
  | .evtJournalAck value => Sys2Proof.Machine.execEvtJournalAck value s
  | .journalProgram ok => Sys2Proof.Machine.execJournalProgram ok s
  | .bistRunComplete part found => Sys2Proof.Machine.execBistRunComplete part found s
  | .bstDapStart => Sys2Proof.Machine.execBstDapStart s
  | .tamperMonitorSample a b lid board temp mv present => Sys2Proof.Machine.execTamperMonitorSample a b lid board temp mv present s
  | .alwaysOnPowerUp => Sys2Proof.Machine.execAlwaysOnPowerUp s
  | .keyBankErased group => Sys2Proof.Machine.execKeyBankErased group s
  | .firmwareCopyWritten found => Sys2Proof.Machine.execFirmwareCopyWritten found s
  | .appletStoreWritten world ok => Sys2Proof.Machine.execAppletStoreWritten world ok s
  | .meshFrameRejected port fec bytes => Sys2Proof.Machine.execMeshFrameRejected port fec bytes s
  | .debugPairHalt pair => Sys2Proof.Machine.execDebugPairHalt pair s
  | .debugPairResume pair => Sys2Proof.Machine.execDebugPairResume pair s

end Sys2Proof.Machine
end

