-- ==== Sys2Proof/WellFormed.lean ====
section
/-! DEFINITION. Well-formed commands: the operands lie in the ranges the spec gives the things they name. -/

namespace Sys2Proof

/-- The FROZEN_MASTER numbers of engine tiles: 24 cipher lanes, 16 digest, 8 big-number and 8 polynomial engines (R200). -/
def tileNumber (t : Nat) : Bool :=
  decide (t < 24 ∨ (32 ≤ t ∧ t < 48) ∨ (64 ≤ t ∧ t < 72) ∨ (96 ≤ t ∧ t < 104))

/-- The noise sources: channels 0 to 3, pairs 16 to 31 (RNG_SRC_SELECT). -/
def sourceNumber (n : Nat) : Bool := decide (n < 4 ∨ (16 ≤ n ∧ n < 32))

/-- The forward-only counters: 0 to 3 and one per lane from 0x10 (R353). -/
def counterNumber (n : Nat) : Bool := decide (n < 4 ∨ (16 ≤ n ∧ n < 64))

/-- Are the operands of a command within the ranges the spec gives them? -/
def Instr.wf : Instr → Bool
  | .transitBoundary _ => true
  | .meterFrameBoundary _ => true
  | .orbitBoundary => true
  | .ppsEdge _ cycle => decide (cycle < 24576)
  | .ppsIntervalTimeout => true
  | .planningTail => true
  | .operandStaged _ _ _ _ => true
  | .commitPhase _ _ _ => true
  | .carryCompletion counter fail => counterNumber counter && decide (fail < 3)
  | .laneRecordWrite lane _ => decide (lane < 48)
  | .sqDoorbell fn ring _ cycle => decide (fn < 65) && decide (ring < 16) && decide (cycle < 24576)
  | .cqDoorbell fn ring _ => decide (fn < 65) && decide (ring < 16)
  | .descriptorFetch fn ring bytes => decide (fn < 65) && decide (ring < 16) && bytes.length == 64
  | .creditlessAnswer fn ring bytes => decide (fn < 65) && decide (ring < 16) && bytes.length == 64
  | .sqEnable fn ring value => decide (fn < 65) && decide (ring < 16) && decide (value < 2 ^ 32)
  | .sqDisable fn ring value => decide (fn < 65) && decide (ring < 16) && decide (value < 2 ^ 32)
  | .cqEnable fn ring value => decide (fn < 65) && decide (ring < 16) && decide (value < 2 ^ 32)
  | .cqDisable fn ring value => decide (fn < 65) && decide (ring < 16) && decide (value < 2 ^ 32)
  | .statusBlockEnable fn value => decide (fn < 65) && decide (value < 2 ^ 32)
  | .fnAttnClear fn value => decide (fn < 65) && decide (value < 2 ^ 32)
  | .noticeWrite fn => decide (fn < 65)
  | .hostReadFailure _ fn ring addr cause => decide (fn < 65) && decide (ring < 16) && decide (addr < 2 ^ 32) && decide (cause < 4)
  | .flr fn => decide (fn < 65)
  | .busMasterEnableCleared fn => decide (fn < 65)
  | .d3hotEntry fn => decide (fn < 65)
  | .d3hotToD0 fn => decide (fn < 65)
  | .hotReset => true
  | .linkDown => true
  | .vfEnableCleared => true
  | .badAccess fn offset size _ => decide (fn < 65) && decide (offset < 2 ^ 26) && decide (size < 4096)
  | .registerWrite path offset value => decide (path < 65 ∨ path = 100 ∨ (256 ≤ path ∧ path < 321)) && decide (offset < 2 ^ 26) && decide (value < 2 ^ 32)
  | .latchingRead path offset => decide (path < 65 ∨ path = 100 ∨ (256 ≤ path ∧ path < 321)) && decide (offset < 2 ^ 26)
  | .nop _ => true
  | .symEncrypt _ => true
  | .symDecrypt _ => true
  | .symAeadEncrypt _ => true
  | .symAeadDecrypt _ => true
  | .symCmac _ => true
  | .symKeyWrap _ => true
  | .symKeyUnwrap _ => true
  | .symContextSave _ => true
  | .symContextRestore _ => true
  | .symReencrypt _ => true
  | .digHash _ => true
  | .digHmac _ => true
  | .digKmac _ => true
  | .digXof _ => true
  | .digContextSave _ => true
  | .digContextRestore _ => true
  | .digResultRelease _ => true
  | .bigRsaSign _ _ => true
  | .bigRsaVerify _ => true
  | .bigRsaEncrypt _ => true
  | .bigRsaDecrypt _ _ => true
  | .bigEcdsaSign _ _ => true
  | .bigEcdsaVerify _ => true
  | .bigEcdh _ _ => true
  | .bigEcEphemeral _ _ => true
  | .bigEddsaSign _ _ => true
  | .bigEddsaVerify _ => true
  | .bigXdh _ _ => true
  | .bigModarith _ => true
  | .polMlkemKeypair _ _ => true
  | .polMlkemEncaps _ _ => true
  | .polMlkemDecaps _ _ => true
  | .polMldsaSign _ _ => true
  | .polMldsaVerify _ _ => true
  | .polHeEncrypt _ _ => true
  | .adopt _ _ => true
  | .polHeDecrypt _ _ => true
  | .polHeAdd _ _ => true
  | .polHeMultiply _ _ => true
  | .polHeRotate _ _ => true
  | .polHeKeyswitch _ _ => true
  | .polHeRescale _ _ => true
  | .polHeRefresh _ _ => true
  | .polHandleFree _ => true
  | .rngRead _ => true
  | .laneStatus _ => true
  | .sealRequest _ _ => true
  | .ledgerRead _ => true
  | .ledgerIdentity _ => true
  | .keyGenerate _ tile _ => tileNumber tile
  | .keyImport _ => true
  | .keyExport _ => true
  | .keyDestroy _ => true
  | .keyLoadFerried _ => true
  | .keyLoadPublic _ => true
  | .keyInfo _ => true
  | .keyEphemeralFree _ => true
  | .dovetailApprove _ => true
  | .dovetailQuery _ => true
  | .dovetailLapse request => decide (request < 2 ^ 32)
  | .thaw _ => true
  | .carcassStage _ => true
  | .carcassUnstage _ => true
  | .carcassRead _ => true
  | .carcassCopyWritten _ => true
  | .carcassIntentTimeout => true
  | .carcassCommit _ => true
  | .copyRepair _ => true
  | .timeNonce _ => true
  | .timeStatement _ => true
  | .timeStepApply => true
  | .meshTunnelIn _ => true
  | .meshTunnelOut _ => true
  | .custodyRotate _ => true
  | .custodyRestore _ => true
  | .meshAggregate _ _ => true
  | .appletLoad _ => true
  | .appletStop _ => true
  | .appletMessage _ => true
  | .lcsTransition _ bits => decide (bits ≤ 8)
  | .debugCert _ => true
  | .debugChallenge _ => true
  | .debugResponse _ => true
  | .cabinetZeroize _ => true
  | .eventSnapshot _ => true
  | .journalRead _ => true
  | .selftest _ => true
  | .powerPolicy _ => true
  | .nightEnter _ => true
  | .firmwareStage _ => true
  | .firmwareCommit _ => true
  | .firmwareReset => true
  | .pageMap _ => true
  | .pageUnmap _ => true
  | .pageProtect _ => true
  | .pageQuery _ => true
  | .pageWantedRepeat fn page => decide (fn < 65) && decide (page < 2 ^ 20)
  | .pageAbandonTimeout _ => true
  | .tileParityError tile bank => tileNumber tile && decide (bank < 2)
  | .sourceWindowClose w => sourceNumber w.source
  | .rngHealthIntermittent source _ => sourceNumber source
  | .drbgReseed => true
  | .drbgBlocked => true
  | .drbgInstantiate => true
  | .drbgKatFailed cause => decide (cause < 2)
  | .laneCycleStart lane => decide (lane < 48)
  | .reading lane _ _ => decide (lane < 48)
  | .identity lane _ _ => decide (lane < 48)
  | .laneResponseTimeout lane => decide (lane < 48)
  | .laneRetry lane => decide (lane < 48)
  | .decisionPoint lane => decide (lane < 48)
  | .pulse lane => decide (lane < 48)
  | .laneBabbling lane => decide (lane < 48)
  | .laneJoin lane => decide (lane < 48)
  | .worldSwitch quantum => decide (quantum ≤ 256)
  | .yield world => decide (1 ≤ world ∧ world < 16)
  | .msgRecv world => decide (1 ≤ world ∧ world < 16)
  | .msgDone world => decide (1 ≤ world ∧ world < 16)
  | .msgSend world _ _ => decide (1 ≤ world ∧ world < 16)
  | .ledgerView world _ buf => decide (1 ≤ world ∧ world < 16) && decide (buf < 2 ^ 32)
  | .time world buf => decide (1 ≤ world ∧ world < 16) && decide (buf < 2 ^ 32)
  | .lNow world => decide (1 ≤ world ∧ world < 16)
  | .badCall world number addr => decide (1 ≤ world ∧ world < 16) && decide (number < 2 ^ 32) && decide (addr < 2 ^ 32)
  | .worldViolation world _ vaddr => decide (1 ≤ world ∧ world < 16) && decide (vaddr < 2 ^ 32)
  | .appletRun world => decide (1 ≤ world ∧ world < 16)
  | .worldStop world => decide (1 ≤ world ∧ world < 16)
  | .messageDelivery world => decide (1 ≤ world ∧ world < 16)
  | .messageTimeout world => decide (1 ≤ world ∧ world < 16)
  | .lockstepMismatch pair _ => decide (pair < 2)
  | .comparatorDead pair cause => decide (pair < 2) && decide (cause < 2)
  | .comparatorProbe pair rail _ => decide (pair < 2) && decide (rail < 4)
  | .pairRestart pair => decide (pair < 2)
  | .pairRestartComplete pair _ => decide (pair < 2)
  | .pairRestartTimeout pair => decide (pair < 2)
  | .keeperAbsentClose => true
  | .admissionReopen => true
  | .holdEntry => true
  | .portLockChange port _ _ => decide (port < 4)
  | .hello port _ => decide (port < 4)
  | .keyInit port _ => decide (port < 4)
  | .keyReply port _ => decide (port < 4)
  | .keyConfirm port _ => decide (port < 4)
  | .heartbeat port rx _ => decide (port < 4) && decide (rx < 24576)
  | .credit port _ => decide (port < 4)
  | .sharePut port _ => decide (port < 4)
  | .shareAck port _ => decide (port < 4)
  | .shareCommit port _ => decide (port < 4)
  | .shareRequest port _ => decide (port < 4)
  | .shareRelease port _ => decide (port < 4)
  | .shareRefuse port _ => decide (port < 4)
  | .shareProbe port _ => decide (port < 4)
  | .shareDrop port _ => decide (port < 4)
  | .aggOffer port _ => decide (port < 4)
  | .aggShare port _ => decide (port < 4)
  | .aggPartial port _ => decide (port < 4)
  | .aggCipher port _ => decide (port < 4)
  | .helloTimer member => decide (member < 256)
  | .heartbeatSend _ => true
  | .memberLost member => decide (member < 256)
  | .rekey member => decide (member < 256)
  | .creditReturn member => decide (member < 256)
  | .messageResend member => decide (member < 256)
  | .shareSetCommit cab => decide (cab < 64)
  | .rotationTimeout cab => decide (cab < 64)
  | .shareSetErase => true
  | .restoreTimeout _ => true
  | .aggRoundTimeout round => decide (round < 2 ^ 64)
  | .inputTripped input => decide (input < 8)
  | .inputDiscrepancy input => decide (input < 8)
  | .discrepancyBrief input => decide (input < 8)
  | .escutcheon meander => decide (meander < 2)
  | .sensorAlarm cls _ => decide (4 ≤ cls ∧ cls ≤ 8)
  | .zeroizeComplete _ _ => true
  | .lowBattery _ => true
  | .aonPowerLoss => true
  | .powerFail => true
  | .sensorDisarm => true
  | .powerRecovered => true
  | .powerGood _ => true
  | .admissionOpen _ => true
  | .linkTraining lanes gts _ => [1, 2, 4, 8].contains lanes && [2, 5, 8, 16].contains gts
  | .warmReset => true
  | .wake cause _ => decide (cause < 3)
  | .bootRetry => true
  | .bootMap fn value => decide (fn < 65) && decide (value < 2 ^ 32)
  | .tileLimitChange tile => tileNumber tile
  | .i2cCeiling _ => true
  | .tapInstruction code => decide (code < 256)
  | .lcsDapDoorbell bits => decide (bits ≤ 8)
  | .eventIntake => true
  | .evtAckSeq _ => true
  | .evtSelSeq _ => true
  | .evtJournalAck _ => true
  | .journalProgram _ => true
  | .bistRunComplete part _ => decide (part < 18)
  | .bstDapStart => true
  | .tamperMonitorSample a b _ _ _ _ _ => decide (a < 256) && decide (b < 256)
  | .alwaysOnPowerUp => true
  | .keyBankErased group => decide (group < 512)
  | .firmwareCopyWritten _ => true
  | .appletStoreWritten world _ => decide (1 ≤ world ∧ world < 16)
  | .meshFrameRejected port _ _ => decide (port < 4)
  | .debugPairHalt pair => decide (pair < 2)
  | .debugPairResume pair => decide (pair < 2)

end Sys2Proof
end

