-- ==== Sys2Proof/Safety.lean ====
section
/-! DEFINITION. The terms in which claims about the block are stated: what a command's effect is, what a job holds when its
routine has run, and the form of the fuse words that every step keeps. -/

namespace Sys2Proof.Machine

/-- The command's effect is `u`: the block goes on, in `u`, with the queue of waiting commands as it was. -/
def Does (c : Instr) (s u : State) : Prop := exec c s = .next (u.withPending s.pending)

/-- The command goes on into a state that satisfies `P`, with the queue of waiting commands as it was. -/
def Yields (c : Instr) (s : State) (P : State → Prop) : Prop := ∃ t, exec c s = .next t ∧ t.pending = s.pending ∧ P t

/-- The routine of a job has run and its result waits for the commit phase. -/
def Recorded (j : Nat) (r : Result) (t : State) : Prop := (t.jobOf j).map (·.result) = some (some r)

/-- The result of a routine that answers OK with `out` as its direct output. -/
def okBytes (out : List Byte) : Result := { status := 0, output := out }

/-- The job has ended. -/
def Ended (j : Nat) (t : State) : Prop := (t.jobOf j).map (·.finished) = some true

/-- A dovetail request of the job is open over the rosters, under the next number, from this L on (R225). -/
def Opened (j op : Nat) (rosters : List Roster) (s t : State) : Prop :=
  t.dov.nextNum = s.dov.nextNum + 1 ∧ (t.jobOf j).map (·.request) = some (some s.dov.nextNum) ∧
    ∃ r, t.dov.reqs = s.dov.reqs ++ [r] ∧ r.num = s.dov.nextNum ∧ r.job = j ∧ r.opcode = op ∧ r.openL = s.time.L ∧ r.rosters = rosters

/-- A frame of a type from member `m` of the carcass arrives on its port, with its CRC and its header good (R399, R400), while a
buffer is free for it. -/
def Arrives (s : State) (port m type : Nat) (b : List Byte) (x : Member) : Prop :=
  meshUp s = true ∧ (s.portOf port).pcs = true ∧ (s.portOf port).fec = true ∧ memberOnPort s port = some m ∧ s.memberOf m = some x ∧
    x.st ≠ .frozen ∧ x.freed < 32 ∧ 28 ≤ b.length ∧ leAt b (b.length - 4) 4 = crc32c (b.take (b.length - 4)) ∧ headerGood s m b = true ∧
    byteAt b 3 = type ∧ (frameHdr b).frag = 0x8000

/-- The frame's buffer counts as freed once taken (R401). -/
def bufferUsed (m type : Nat) (s : State) : State := if type = 0x01 then s else modMember m (buffered s.time.L) s

/-- What a whole message of a good form does, with the credits its header gave (R401, R406). -/
def taken (m path rx : Nat) (h : FrameHdr) (p : List Byte) (s : State) : State :=
  if payloadGood h.type p = true then takeCredit m h.credit (onMessage m rx h p (dropPlaces m s)) else malformed m path h.flags (dropPlaces m s)

/-- A tamper alarm of a class and source has been taken (R437 to R440): it is latched and counted, the vault is erased, and in a
running device the secrets in internal SRAM are gone and UMBRA begins. -/
def Alarmed (cls src : Nat) (s t : State) : Prop :=
  t.tam.latched = true ∧ t.tam.vaultErased = true ∧ t.tam.count = saturate 32 (s.tam.count + 1) ∧ t.key.csk = [] ∧ t.msh.idSeed = none ∧
    (s.tam.latched = false → t.tam.lastClass = cls ∧ t.tam.lastSource = src ∧ t.tam.alarmL = alarmInstantL s) ∧
    (s.glb.phase = .run → t.glb.umbra = true ∧ t.key.slots = [] ∧ t.eng.ctxKeys = [] ∧ t.wld.mem = [] ∧ t.tam.zeroDue = some (alarmInstantL s))

/-- A fuse word's bit. -/
def Fuse (s : State) (w b : Nat) : Prop := (otpWord s w).testBit b = true

/-- The form of the fuse words: listed in order, none of them 0, none wider than 32 bits. -/
def FuseForm (s : State) : Prop := Tab.ok s.lcs.otp = true ∧ ∀ e ∈ s.lcs.otp, 0 < e.2 ∧ e.2 < 2 ^ 32

/-- The commands that leave the stores and units apart from the jobs, the rings and the mesh alone: the engines' jobs that make no key, most
jobs of the ledger, the keys, the structure and the mesh, the host link, the mesh's frames and timers, and the recorder's registers. -/
def leavesStores : Instr → Bool
  | .ppsEdge .. | .ppsIntervalTimeout | .operandStaged .. | .sqDoorbell .. | .cqDoorbell .. | .descriptorFetch .. | .creditlessAnswer ..
  | .sqEnable .. | .sqDisable .. | .cqEnable .. | .cqDisable .. | .statusBlockEnable .. | .fnAttnClear .. | .noticeWrite .. | .hostReadFailure ..
  | .flr .. | .busMasterEnableCleared .. | .d3hotEntry .. | .d3hotToD0 .. | .hotReset | .linkDown | .vfEnableCleared | .badAccess .. | .nop ..
  | .symEncrypt .. | .symDecrypt .. | .symAeadEncrypt .. | .symAeadDecrypt .. | .symCmac .. | .symKeyWrap .. | .symKeyUnwrap .. | .symContextSave ..
  | .symContextRestore .. | .symReencrypt .. | .digHash .. | .digHmac .. | .digKmac .. | .digXof .. | .digContextSave .. | .digContextRestore ..
  | .bigRsaSign .. | .bigRsaVerify .. | .bigRsaEncrypt .. | .bigRsaDecrypt .. | .bigEcdsaSign .. | .bigEcdsaVerify .. | .bigEcdh ..
  | .bigEcEphemeral .. | .bigEddsaSign .. | .bigEddsaVerify .. | .bigXdh .. | .bigModarith .. | .polMlkemKeypair .. | .polMlkemEncaps ..
  | .polMlkemDecaps .. | .polMldsaSign .. | .polMldsaVerify .. | .polHeEncrypt .. | .adopt .. | .polHeDecrypt .. | .polHeAdd .. | .polHeMultiply ..
  | .polHeRotate .. | .polHeKeyswitch .. | .polHeRescale .. | .polHeRefresh .. | .laneStatus .. | .ledgerRead ..
  | .ledgerIdentity .. | .keyImport .. | .keyExport .. | .keyDestroy .. | .keyLoadFerried .. | .keyLoadPublic .. | .keyInfo .. | .dovetailQuery ..
  | .dovetailLapse .. | .thaw .. | .carcassUnstage .. | .carcassRead .. | .copyRepair .. | .timeNonce .. | .timeStatement .. | .meshTunnelIn .. | .meshTunnelOut .. | .custodyRotate .. | .custodyRestore ..
  | .meshAggregate .. | .appletLoad .. | .cabinetZeroize .. | .eventSnapshot .. | .journalRead .. | .powerPolicy .. | .pageMap .. | .pageUnmap ..
  | .pageProtect .. | .pageQuery .. | .pageWantedRepeat .. | .pageAbandonTimeout .. | .tileParityError .. | .portLockChange .. | .hello ..
  | .keyInit .. | .keyReply .. | .keyConfirm .. | .heartbeat .. | .credit .. | .sharePut .. | .shareAck .. | .shareCommit .. | .shareRequest ..
  | .shareRelease .. | .shareRefuse .. | .shareProbe .. | .shareDrop .. | .aggOffer .. | .aggShare .. | .aggPartial .. | .aggCipher ..
  | .helloTimer .. | .heartbeatSend .. | .memberLost .. | .rekey .. | .creditReturn .. | .messageResend .. | .shareSetCommit .. | .rotationTimeout ..
  | .shareSetErase | .restoreTimeout .. | .aggRoundTimeout .. | .linkTraining .. | .bootMap .. | .tileLimitChange .. | .i2cCeiling .. | .eventIntake
  | .evtAckSeq .. | .evtSelSeq .. | .evtJournalAck .. | .journalProgram .. | .meshFrameRejected .. => true
  | _ => false

/-- Of these, the commands that work on the mesh. -/
def worksOnMesh : Instr → Bool
  | .meshTunnelIn .. | .meshTunnelOut .. | .meshAggregate .. | .portLockChange .. | .hello .. | .keyInit .. | .keyReply .. | .keyConfirm ..
  | .heartbeat .. | .credit .. | .sharePut .. | .shareAck .. | .shareCommit .. | .shareRequest .. | .shareRelease .. | .shareRefuse ..
  | .shareProbe .. | .shareDrop .. | .aggOffer .. | .aggShare .. | .aggPartial .. | .aggCipher .. | .helloTimer .. | .heartbeatSend ..
  | .memberLost .. | .rekey .. | .creditReturn .. | .messageResend .. | .shareSetCommit .. | .rotationTimeout .. | .shareSetErase
  | .restoreTimeout .. | .aggRoundTimeout .. | .meshFrameRejected .. => true
  | _ => false

/-- Addresses whose registers read 0 at reset. -/
def resetZeros : List Nat :=
  [0x10F000, 0x10F004, 0x10F008, 0x10F00C, 0xC0F000, 0xC0F004, 0xC0F008, 0xC0F00C, 0xC0F018, 0xC0F01C, 0x100000, 0x100010] ++
  [0x100014, 0x100018, 0x10001C, 0x100020, 0x100024, 0x100028, 0x10002C, 0x100040, 0x100044, 0x100048, 0x10004C, 0x100050] ++
  [0x200000, 0x200008, 0x20000C, 0x200010, 0x200014, 0x200018, 0x20001C, 0x200020, 0x200024, 0x310000, 0x310004, 0x310008] ++
  [0x31000C, 0x310010, 0x310014, 0x310018, 0x311000, 0x311020, 0x311004, 0x311024, 0x311008, 0x311028, 0x31100C, 0x31102C] ++
  [0x311010, 0x311030, 0x311400, 0x311420, 0x311404, 0x311424, 0x311408, 0x311428, 0x311410, 0x311430, 0x400004, 0x400008] ++
  [0x40000C, 0x400010, 0x400014, 0x400020, 0x400030, 0x400034, 0x400038, 0x400040, 0x400044, 0x400050, 0x400054, 0x400058] ++
  [0x40005C, 0x400060, 0x400064, 0x500000, 0x500004, 0x500010, 0x500014, 0x500018, 0x50001C, 0x500020, 0x600004, 0x600008] ++
  [0x60000C, 0x600010, 0x600014, 0x600018, 0x318000, 0x318004, 0x319000, 0x319004, 0x700000, 0x700004, 0x700008, 0x800000] ++
  [0x800004, 0x800008, 0x80000C, 0x900000, 0x900004, 0x900008, 0x90000C, 0x900010, 0x900014, 0x900018, 0x90001C, 0x900020] ++
  [0xA00000, 0xA00004, 0xA00008, 0xA0000C, 0xA00010, 0xA00014, 0xA00018, 0xA0001C, 0xA00020, 0xA00024, 0xA00028, 0xA0002C] ++
  [0xA00030, 0xB00000, 0xB00004, 0xB00008, 0xB0000C, 0xB00010, 0xB00014, 0xB00018, 0xB0001C, 0xB00020, 0xB00024, 0xB00028] ++
  [0xB0002C, 0xB00030, 0xC00000, 0xC00004, 0xC00008, 0xC0000C, 0xC00010, 0xC00014, 0xC00018, 0xC0001C, 0xC00020, 0xC00024] ++
  [0xC00030, 0xC00034, 0xC00038, 0xC0003C, 0xC00040, 0xC00044, 0xC00050, 0xC00054, 0xC00058, 0xC00060, 0xC00064, 0xC00068] ++
  [0xC0006C, 0xD00000, 0xD00004, 0xD00008, 0xD00010, 0xD00014, 0xD00018, 0xD00020, 0xD00024, 0xE00004, 0xE00010, 0xE00014] ++
  [0xE00018, 0xE0001C, 0xE00020, 0xE00024, 0xE00028, 0xE0002C, 0xE00040, 0xE00044, 0xE00048, 0xE00050, 0xE00060, 0xE00064] ++
  [0xE00068, 0xE0006C, 0xE00070, 0xE00074, 0xE00078, 0xE0007C, 0xE00080, 0xE00084, 0xE00088, 0xE00090, 0xF00000, 0xF00004] ++
  [0xF00008, 0xF0000C, 0xF00010, 0xF00014, 0xF0001C, 0xF00024, 0xF00028, 0xF0002C, 0xF00030, 0x1000000, 0x1000010, 0x1000014] ++
  [0x1000018, 0x1000020, 0x1000024, 0x1100000, 0x1100004, 0x1100008, 0x110000C, 0x1100010, 0x1100014, 0x1100018, 0x110001C, 0x1100020] ++
  [0x1100024, 0x1100040, 0x1100044, 0x1100048, 0x110004C, 0x1100050, 0x1100054, 0x1100058, 0x110005C, 0x1100080, 0x1100084, 0x1100088] ++
  [0x110008C, 0x1100090, 0x0, 0x8, 0xC, 0x310020, 0x310024, 0x310028, 0x310030, 0x1200000, 0x1200004, 0x1200008] ++
  [0x120000C, 0x1200010, 0x1200014, 0x1200018, 0x120001C, 0x1200020, 0x1200024, 0x1200028, 0x120002C, 0x1300000, 0x1300004, 0x1300008] ++
  [0x1300010, 0x1300014, 0x1300018, 0x130001C, 0x1300020, 0x1300024, 0x1300028, 0x130002C, 0x1300030, 0x1300034, 0x1300038, 0x130003C] ++
  [0x1300040, 0x1300044]

/-- Registers of function 0's space with their reset values from the register tables: those that are not 0, then the addresses that
read 0. -/
def resetWords : List (Nat × Nat) :=
  [(0x00C0F010, 0x7D0000), (0x00400000, 0x8000), (0x00600000, 0xFFFFFF), (0x00E00000, 0xFF0000), (0x00F00018, 0x290), (0x00F00020, 0x1), (0x00000004, 0x1)] ++
  resetZeros.map (fun a => (a, 0))

end Sys2Proof.Machine
end

