-- ==== Sys2Proof/Certificates/Slice0/Obligations.lean ====
section
/-! DEFINITION. The statements for the provers: what a step runs, what each command does when it has its own effect, what the
shared operations do, what each family leaves alone, and what every step keeps. -/

open Sys2Proof Sys2Proof.Machine

/-! ### Every command -/

/-- A step takes the command at the front of the queue and is that command run on the state with the queue's rest. -/
def Sys2Proof.Claims.StepRunsTheFrontCommand : Prop :=
  ∀ (c : Instr) (rest : List Instr) (s : State), s.pending = c :: rest → step s = exec c (s.withPending rest)

/-- On an empty queue the block idles: the model's choice (log 5). -/
def Sys2Proof.Claims.StepIdlesOnAnEmptyQueue : Prop := ∀ s : State, s.pending = [] → step s = .next s

/-- Every command goes on: none ends in a fault or a refusal, and none adds to or takes from the queue. That a command whose condition does not hold goes on and changes nothing is the model's choice (log 4). -/
def Obligations.EveryCommandGoesOn : Prop := ∀ (c : Instr) (s : State), ∃ t, exec c s = .next t ∧ t.pending = s.pending

/-! ### The lifecycle's fuses (LIFECYCLE, R446) -/

/-- Fuse programming is one-way: a fuse bit that is set before a step is set after it, whatever the command. -/
def Obligations.FuseBitsOnlyGoFromZeroToOne : Prop :=
  ∀ (s t : State) (w b : Nat), step s = .next t → Fuse s w b → Fuse t w b

/-- The fuse words keep their form under every step: listed in order, none 0, none wider than 32 bits. -/
def Obligations.FuseFormIsKept : Prop := ∀ s t : State, FuseForm s → step s = .next t → FuseForm t

/-- The fuse words have their form at reset. -/
def Obligations.FuseFormAtReset : Prop := FuseForm State.reset

/-- Only power-up, a job's commit phase, which a boundary or the erase of a bank also brings to its end, and LCS_DAP_DOORBELL program fuses; every other command, LCS_TRANSITION's own among
them, leaves every fuse word as it was. -/
def Obligations.OnlyPowerUpAndTransitionsProgramFuses : Prop :=
  ∀ (c : Instr) (s t : State), exec c s = .next t → (∀ inp, c ≠ .powerGood inp) → (∀ j n ok, c ≠ .commitPhase j n ok) →
    (∀ inp, c ≠ .transitBoundary inp) → (∀ g, c ≠ .keyBankErased g) → (∀ bits, c ≠ .lcsDapDoorbell bits) → ∀ w, otpWord t w = otpWord s w

/-! ### Time (CLOCK, R33 to R42) -/

/-- TRANSIT_BOUNDARY begins transit L + 1 (R33), after which only a pending entry into NIGHT goes on; the first transit of an
orbit whose number counter 0 has not stored waits for it (R38). -/
def Sys2Proof.Claims.TransitBoundaryBeginsTheNextTransit : Prop :=
  ∀ (inp : TransitInput) (s : State), s.time.genRunning = true →
    (¬((s.time.L + 1) % orbitL = 0 ∧ counterValue (counterOf s 0) < (s.time.L + 1) / orbitL) →
      ∃ u, u.time.L = s.time.L + 1 ∧ Does (.transitBoundary inp) s (nightGoesOn u)) ∧
    ((s.time.L + 1) % orbitL = 0 ∧ counterValue (counterOf s 0) < (s.time.L + 1) / orbitL → (counterOf s 0).worn = false →
      Does (.transitBoundary inp) s s)

/-- L moves only at TRANSIT_BOUNDARY, at Dawn and where a run of the device ends: every other command keeps it. L reading 0 between runs is the model's choice (log 14). -/
def Obligations.LMovesOnlyAtBoundariesAndRuns : Prop :=
  ∀ (c : Instr) (s t : State), exec c s = .next t → (∀ inp, c ≠ .transitBoundary inp) → (∀ inp, c ≠ .powerGood inp) →
    (∀ j n ok, c ≠ .commitPhase j n ok) → c ≠ .bootRetry → c ≠ .firmwareReset → c ≠ .powerRecovered → (∀ k, c ≠ .tapInstruction k) →
    c ≠ .warmReset → t.time.L = s.time.L

/-- 1PPS (R42, R49): an edge is captured in steps of 1.333 ns, 4 cycles; the first is only held; one 3,000,000,000 ± 600,000 cycles after the last is accepted, the eighth in a row
qualifies, and, qualified with the quality SET and no statement slew pending, it loads the negative of the folded phase into the slew; an interval that ends without an edge counts as missed,
so does any other edge, once for the interval it ends, and the fourth in a row loses 1PPS. None moves L or ledger time. -/
def Obligations.OnePpsIsAcceptedQualifiedAndLost : Prop :=
  ∀ (s : State), s.time.genRunning = true →
    (∀ instant cycle stamp, stamp = instant / 4 * 4 → s.time.ppsLast = none →
      Does (.ppsEdge instant cycle) s { s with time := { s.time with ppsLast := some stamp, ppsLate := false } }) ∧
    (∀ instant cycle stamp prev q, stamp = instant / 4 * 4 → s.time.ppsLast = some prev → 2999400000 ≤ stamp - prev → stamp - prev ≤ 3000600000 →
      q = (s.time.ppsQualified || decide (8 ≤ s.time.ppsRun + 1)) →
      Yields (.ppsEdge instant cycle) s (fun t => t.time.ppsLast = some stamp ∧ t.time.ppsRun = s.time.ppsRun + 1 ∧ t.time.ppsMissed = 0 ∧
        t.time.ppsQualified = q ∧ t.time.L = s.time.L ∧ t.time.ledgerUs = s.time.ledgerUs ∧
        t.time.slewPs = (if q = true ∧ s.time.quality = .set ∧ s.time.stmtSlew = false then -(ppsPhase (ledgerAt s.time (cycle / 4 * 4))) * 1000000
          else s.time.slewPs))) ∧
    (∀ instant cycle stamp prev m, stamp = instant / 4 * 4 → s.time.ppsLast = some prev → ¬(2999400000 ≤ stamp - prev ∧ stamp - prev ≤ 3000600000) →
      m = s.time.ppsMissed + (if s.time.ppsLate = true then 0 else 1) →
      Yields (.ppsEdge instant cycle) s (fun t => t.time.ppsLast = some stamp ∧ t.time.ppsMissed = m ∧ t.time.ppsLate = false ∧
        (s.time.ppsLate = false → t.time.ppsRun = 0 ∧ t.time.ppsQualified = (s.time.ppsQualified && decide (m < 4))) ∧
        t.time.L = s.time.L ∧ t.time.ledgerUs = s.time.ledgerUs ∧ t.time.slewPs = s.time.slewPs)) ∧
    Yields .ppsIntervalTimeout s (fun t => t.time.ppsLast = s.time.ppsLast ∧ t.time.ppsLate = true ∧ t.time.ppsRun = 0 ∧ t.time.ppsMissed = s.time.ppsMissed + 1 ∧
      t.time.ppsQualified = (s.time.ppsQualified && decide (s.time.ppsMissed + 1 < 4)) ∧ t.time.L = s.time.L ∧ t.time.ledgerUs = s.time.ledgerUs ∧
      t.time.slewPs = s.time.slewPs)

/-- METER_FRAME_BOUNDARY copies L into the always-on domain where L is a multiple of 128 (R34), and ORBIT_BOUNDARY starts each
orbit's counts again where L is a multiple of 2^20. -/
def Sys2Proof.Claims.FrameAndOrbitBoundaries : Prop :=
  ∀ (s : State), s.time.genRunning = true →
    (∀ ok, s.time.L % 128 = 0 → s.time.aonL ≠ s.time.L →
      Yields (.meterFrameBoundary ok) s (fun t => t.time.aonL = s.time.L ∧ t.time.L = s.time.L)) ∧
    (s.time.L % 2 ^ 20 = 0 →
      Yields .orbitBoundary s (fun t => (∀ e ∈ t.orr.tiles, e.2.verifyFails = 0) ∧ (∀ e ∈ t.rng.sources, e.2.faults = 0) ∧ t.tam.repeats = []))

/-- PLANNING_TAIL in a running device plans transit L + 1: what its jobs take of the masking store is recorded, and the read
backing of every job stays within the allowance (R62, R303). OPERAND_STAGED hands an admitted or PROMPT job its operand bytes where every page they
touch may be read (R61); a missing page is recorded for a PROMPT job and parks an engine's other job, a control job is abandoned on it (R194), and a ferried blob of another cabinet is answered
NOT_OWNER before any engine cycle (R216). -/
def Sys2Proof.Claims.PlanningAndStaging : Prop :=
  (∀ (s : State), s.time.genRunning = true → s.glb.phase = .run →
    Yields .planningTail s (fun t => t.orr.maskPlanned = needPlanned t 0 (s.time.L + 1) t.job.nextJob ∧
      t.orr.kgPlanned = needPlanned t 2 (s.time.L + 1) t.job.nextJob ∧ t.orr.portPlanned ≤ allowOf t 1)) ∧
  (∀ (s : State) (j : Nat) (input aux extra : List Byte) (x : Job), s.jobOf j = some x → x.finished = false → x.staged = false →
    x.park = none → (x.desc.cls = 0 ∨ x.st ≠ .queued) →
    (x.desc.opcode ≠ 0x7005 → (∀ p ∈ stagePages x input aux extra, meetPage s x.fn 1 p.1 = .ok) →
      Does (.operandStaged j input aux extra) s (refuseLong j (modJob j (stageBytes s.time.L input aux extra) s))) ∧
    (∀ page a l, stagePages x input aux extra = (page, a) :: l → meetPage s x.fn 1 page = .fault →
      Does (.operandStaged j input aux extra) s (if x.desc.cls = 0 then refuseLong j (modJob j (fun y => { y with missing := some page }) s)
        else if x.plane = 1 then abandonJob j page s else refuseLong j (parkJob j page 1 (2 ^ 32) s))) ∧
    (∀ y, y = stageBytes s.time.L input aux extra x → y.staged = true → x.answer = none → x.desc.opcode = 0x7005 → leAt y.input 6 1 ≠ cabOfFn s x.fn →
      (∀ p ∈ stagePages x input aux extra, meetPage s x.fn 1 p.1 = .ok) →
      Yields (.operandStaged j input aux extra) s (fun t => (t.jobOf j).map (·.answer) = some (some (0x3001, 16, 6, 0)) ∧
        (t.jobOf j).map (·.plan) = some [])))

/-- COMMIT_PHASE of a job whose routine has run and that writes nothing but its entry, its output range being writable: the job ends with its FINAL entry at
once (R75, R169, R191); where it is the job of NIGHT_ENTER, the device goes to NIGHT with it (R500). -/
def Sys2Proof.Claims.CommitPhaseEndsTheJob : Prop :=
  ∀ (s : State) (j n : Nat) (ok : Bool) (x : Job) (r : Result), s.jobOf j = some x → x.result = some r → x.burst = none →
    commitReady s j x = true → r.output = [] → r.record = none → r.effects = [] → firstMeet s x.fn 2 (checkedPages x r) = none →
    (s.pwr.nightJob.all (fun e => e.1 != j) = true → Yields (.commitPhase j n ok) s (Ended j)) ∧
    (∀ L, s.pwr.nightJob = some (j, L) → Yields (.commitPhase j n ok) s (fun t => t.glb.phase = .night ∧ t.pwr.wakeDelay = s.pwr.wakeDelay ∧ t.time.genRunning = false))

/-! ### Counters and the ledger's cells (LEDGER, R355 to R360) -/

/-- An increment of an open counter raises its value by exactly one, by a thermometer bit or by a carry (R355). -/
def Sys2Proof.Claims.CountersIncrementByOne : Prop :=
  ∀ (s : State) (id : Nat) (ok : Bool), counterOpen s id = true →
    counterValue (counterOf (increment id ok s) id) = counterValue (counterOf s id) + 1

/-- CARRY_COMPLETION without a failure closes the carry and changes no counter's value (R355); LANE_RECORD_WRITE makes the oldest
waiting checkpoint current, with the lane's last consumed sequence (R360). An alarm has stopped neither (R439); a carry of counter 0x00
goes on in UMBRA as well (log 87). -/
def Sys2Proof.Claims.CarriesCompleteAndLaneRecordsAreWritten : Prop :=
  (∀ (s : State) (id : Nat), (counterOf s id).intent = true → (sequencerStopped s = false ∨ id = 0) → s.ldg.anchorWait = none →
    Yields (.carryCompletion id 0) s (fun t => (counterOf t id).intent = false ∧ ∀ k, counterValue (counterOf t k) = counterValue (counterOf s k))) ∧
  (∀ (s : State) (n : Nat) (ok : Bool) (r : LaneRecord) (rest : List LaneRecord), (laneLdg s n).wait = r :: rest →
    s.time.genStopped = false → sequencerStopped s = false → counterOpen s (markId n) = true → sealPrepared s n = false →
    Yields (.laneRecordWrite n ok) s (fun t => (laneLdg t n).wait = rest ∧ (laneLdg t n).cur = some { r with seq := (laneLdg s n).view.seq } ∧
      counterValue (counterOf t (markId n)) = counterValue (counterOf s (markId n)) + 1))

/-! ### The host link (HLINK, R134 to R158) -/

/-- SQ_DOORBELL on an ACTIVE ring: a count the ring's size allows is taken, with the instant it came; a count below the head or
beyond the ring faults the ring with BAD_DOORBELL, 0x0C; a ring that is not ACTIVE takes no count (R141, R142). -/
def Sys2Proof.Claims.SubmissionDoorbells : Prop :=
  ∀ (s : State) (f n : Nat) (count : Word) (cycle : Nat), s.hlk.up = true → fnExists s f = true →
    ((s.sqOf f n).st = .active → 0 ≤ diff32 count (s.sqOf f n).head →
      diff32 count (s.sqOf f n).head ≤ (2 ^ (s.sqOf f n).sizeLog2 : Nat) →
      Does (.sqDoorbell f n count cycle) s
        (modSq f n (fun q => { q with tail := count, bells := q.bells ++ [(count, s.time.L * 24576 + cycle)] }) s)) ∧
    ((s.sqOf f n).st = .active → diff32 count (s.sqOf f n).head < 0 →
      Does (.sqDoorbell f n count cycle) s (faultSq f n 0x0C s)) ∧
    ((s.sqOf f n).st ≠ .active →
      Yields (.sqDoorbell f n count cycle) s (fun t => (t.sqOf f n).tail = (s.sqOf f n).tail ∧ (t.sqOf f n).st = (s.sqOf f n).st))

/-- CQ_DOORBELL on an ACTIVE ring: a count between the consumed and the written count is the new consumed count, and the ring is
armed, or its vector is signalled where entries still wait (R142, R155); a count outside faults the ring. -/
def Sys2Proof.Claims.CompletionDoorbells : Prop :=
  ∀ (s : State) (f n : Nat) (count : Word), s.hlk.up = true → fnExists s f = true → (s.cqOf f n).st = .active →
    (0 ≤ diff32 count (s.cqOf f n).consumed → 0 ≤ diff32 (s.cqOf f n).written count →
      Yields (.cqDoorbell f n count) s (fun t => (t.cqOf f n).consumed = count ∧ (t.cqOf f n).st = .active ∧
        (t.cqOf f n).armed = !((s.cqOf f n).intEn && count != (s.cqOf f n).written))) ∧
    (diff32 count (s.cqOf f n).consumed < 0 → Does (.cqDoorbell f n count) s (faultCq f n 0x0C s))

/-- DESCRIPTOR_FETCH of a descriptor no check refuses takes the next job number, and the job holds a slot, QUEUED (R144, R166);
CREDITLESS_ANSWER answers a descriptor beyond the credit limit with one entry: CREDIT_EXCEEDED, or BUSY_STARTING in DAWN (R150). Which descriptor is the first beyond the limit, and the order of the checks, are the model's reading (logs 18, 20). -/
def Obligations.DescriptorsAreFetchedOrAnswered : Prop :=
  ∀ (s : State) (f n : Nat) (bytes : List Byte), nextFetch s = some (f, n) →
    (withinLimit (s.sqOf f n) = true → s.time.genStopped = false → firstRefusal (passTurn f n s) f (Desc.parse bytes) = none →
      Yields (.descriptorFetch f n bytes) s (fun t => t.job.nextJob = s.job.nextJob + 1 ∧
        (t.jobOf s.job.nextJob).map (fun x => (x.desc, x.fn, x.sq, x.st, x.finished)) = some (Desc.parse bytes, f, n, .queued, false) ∧
        t.sqOf f n = fetched (s.sqOf f n) ∧ (t.fnOf f).fetchSq = (n + 1) % 16 ∧ t.hlk.fetchFn = (f + 1) % 65)) ∧
    (withinLimit (s.sqOf f n) = false → (s.cqOf f (s.sqOf f n).cq).st = .active →
      Yields (.creditlessAnswer f n bytes) s (fun t =>
        (t.cqOf f (s.sqOf f n).cq).written = (s.cqOf f (s.sqOf f n).cq).written + 1 ∧
        ∃ i a e bs, Out.entry f (s.sqOf f n).cq i a e bs ∈ t.out ∧ e.creditless = true ∧ e.interim = false ∧ bs = completionBytes e ∧
          e.status = (if served s = false ∨ s.time.genStopped = true then 0x1002 else 0x2020)))

/-- SQ_ENABLE and CQ_ENABLE of a ring that is OFF and meets its checks make it ACTIVE with its counts at 0 (R141); one that fails a
check stays OFF with its error. -/
def Sys2Proof.Claims.RingsAreEnabled : Prop :=
  ∀ (s : State) (f n w : Nat), s.hlk.up = true → fnExists s f = true →
    ((s.sqOf f n).st = .off → ∀ e, e = sqEnableError (noteReserved f (sqCtrlAt f n) w 0xF011F s) f n
        { sqWithCtrl (s.sqOf f n) w with error := 0, enableBit := true } →
      Yields (.sqEnable f n w) s (fun t => (t.sqOf f n).st = (if e = 0 then .active else .off) ∧ (t.sqOf f n).error = e ∧
        (e = 0 → (t.sqOf f n).limit = 0 ∧ (t.sqOf f n).head = 0 ∧ (t.sqOf f n).tail = 0))) ∧
    ((s.cqOf f n).st = .off → ∀ e, e = cqEnableError (noteReserved f (cqCtrlAt f n) w 0x31F s) f n
        { cqWithCtrl (s.cqOf f n) w with error := 0, enableBit := true } →
      Yields (.cqEnable f n w) s (fun t => (t.cqOf f n).st = (if e = 0 then .active else .off) ∧ (t.cqOf f n).error = e ∧
        (e = 0 → (t.cqOf f n).written = 0 ∧ (t.cqOf f n).consumed = 0 ∧ (t.cqOf f n).reserved = 0)))

/-- SQ_DISABLE takes an ACTIVE ring through DRAINING to OFF once its jobs are gone; CQ_DISABLE takes a faulted or unused ring to
OFF and holds back one that a submission ring still names, with error 0x07 (R140, R141). -/
def Sys2Proof.Claims.RingsAreDisabled : Prop :=
  ∀ (s : State) (f n w : Nat), s.hlk.up = true → fnExists s f = true →
    ((s.sqOf f n).st = .active →
      Yields (.sqDisable f n w) s (fun t => ((t.sqOf f n).st = .draining ∨ (t.sqOf f n).st = .off) ∧ (t.sqOf f n).enableBit = false)) ∧
    ((s.cqOf f n).st = .fault → Yields (.cqDisable f n w) s (fun t => (t.cqOf f n).st = .off ∧ (t.cqOf f n).reserved = 0)) ∧
    ((s.cqOf f n).st = .active → (s.fnOf f).sqs.any (fun e => e.2.cq == n && e.2.st != .off) = true →
      Yields (.cqDisable f n w) s (fun t => (t.cqOf f n).st = .active ∧ (t.cqOf f n).error = 0x07))

/-- STATUS_BLOCK_ENABLE keeps the page and enables the block only on a page the function may write (R139, R152); FN_ATTN_CLEAR
clears exactly the attention bits written 1 (R8); BOOT_MAP makes a present entry of the selected page (R486). -/
def Sys2Proof.Claims.FunctionRegistersOfTheirOwn : Prop :=
  ∀ (s : State) (f w : Nat), s.hlk.up = true → fnExists s f = true →
    Yields (.statusBlockEnable f w) s (fun t => (t.fnOf f).sbPage = w % 2 ^ 32 / 4096 ∧
      (t.fnOf f).sbEnabled = (bit w 0 && bound s f && pageGood s f 2 (w % 2 ^ 32 / 4096))) ∧
    (∀ i, i < 6 → Yields (.fnAttnClear f w) s (fun t => bit (t.fnOf f).attn i = (bit (s.fnOf f).attn i && !bit w i))) ∧
    (∀ v, bit w 0 = true → bound s f = true → bootWindow s f ((s.fnOf f).bootPage % 2 ^ 20) = some v → ringActive (s.fnOf f) = false →
      pagePinned s ((s.fnOf f).bootPage % 2 ^ 20) = false → (s.fnOf f).bootMade < 64 → (∀ e ∈ liveJobs s, e.2.park = none) →
      Yields (.bootMap f w) s (fun t => (t.fnOf f).bootResult = 0 ∧
        (Tab.get? t.job.pot ((s.fnOf f).bootPage % 2 ^ 20)).map (fun e => (e.rights, e.cab, e.fn, e.frame)) =
          some (v.rights % 4, cabOfFn s f, f, (s.fnOf f).bootFrameLo / 4096 % 2 ^ 20 + (s.fnOf f).bootFrameHi % 2 ^ 28 * 2 ^ 20)))

/-- In a transit's tail NOTICE_WRITE writes the oldest held notice to an ACTIVE CQ 0 with room, with the count of notices lost before it and its 32 bytes (R151, R173); that the command works in the
tail is the model's choice (log 78). HOST_READ_FAILURE, reported to AER, ends a job whose operand read fails, HOST_READ_FAILED or HOST_DATA_POISONED, and faults the ring whose descriptor read, the
one that is due, fails (R156). -/
def Obligations.NoticesAndReadFailures : Prop :=
  (∀ (s : State) (f : Nat) (n : Notice) (rest : List Notice), (s.fnOf f).held = n :: rest → (s.cqOf f 0).st = .active →
    0 < noticeRoom (s.cqOf f 0) → resetting s f = false → s.time.tailL = some s.time.L →
    Yields (.noticeWrite f) s (fun t => (t.fnOf f).held = rest ∧ (t.fnOf f).lostSince = 0 ∧ (t.cqOf f 0).written = (s.cqOf f 0).written + 1 ∧
      ∃ i a p, Out.notice f i a (s.fnOf f).lostSince p n (noticeBytes n (s.fnOf f).lostSince p) ∈ t.out)) ∧
  (∀ (s : State) (j f n addr cause : Nat) (x : Job), s.jobOf j = some x → x.finished = false → x.burst = none → x.answer = none →
    Does (.hostReadFailure (some j) f n addr cause) s (endJob j (if cause = 3 then 0x2013 else 0x2012) addr 0 0 (reportAer x.fn cause s))) ∧
  (∀ (s : State) (f n addr cause : Nat), nextFetch s = some (f, n) →
    Does (.hostReadFailure none f n addr cause) s (faultSq f n 0x09 (passTurn f n (reportAer f cause s))))

/-- A reset of a function (R157), by FLR, a cleared bus-master enable, D3HOT_ENTRY or D3HOT_TO_D0, leaves every ring of it OFF; while a commit phase is in progress
it waits for its end (R77). -/
def Sys2Proof.Claims.FunctionResetsTurnRingsOff : Prop :=
  ∀ (s : State) (f n : Nat), s.hlk.up = true → fnExists s f = true →
    (committing s ≠ [] → Yields (.flr f) s (fun t => resetting t f = true)) ∧ (committing s = [] →
    Yields (.flr f) s (fun t => (t.sqOf f n).st = .off ∧ (t.cqOf f n).st = .off) ∧
    Yields (.busMasterEnableCleared f) s (fun t => (t.sqOf f n).st = .off ∧ (t.cqOf f n).st = .off) ∧
    ((s.fnOf f).d3hot = false → Yields (.d3hotEntry f) s (fun t => (t.sqOf f n).st = .off ∧ (t.cqOf f n).st = .off ∧ (t.fnOf f).d3hot = true)) ∧
    ((s.fnOf f).d3hot = true → Yields (.d3hotToD0 f) s (fun t => (t.sqOf f n).st = .off ∧ (t.cqOf f n).st = .off ∧ (t.fnOf f).d3hot = false)))

/-- A link that goes down leaves no link, width or rate (R158); LINK_TRAINING brings one up with its width and rate (R484); HOT_RESET
and VF_ENABLE_CLEARED leave no VF's enable set (R157, R158). -/
def Sys2Proof.Claims.TheLinkGoesDownAndUp : Prop :=
  ∀ (s : State),
    (s.hlk.up = true →
      Yields .linkDown s (fun t => t.hlk.up = false ∧ t.hlk.lanes = 0 ∧ t.hlk.gts = 0) ∧
      Yields .hotReset s (fun t => t.hlk.up = true ∧ t.hlk.vfEnable = false) ∧
      Yields .vfEnableCleared s (fun t => t.hlk.vfEnable = false)) ∧
    (∀ lanes gts vf, s.hlk.up = false → (s.glb.phase = .dawn ∨ s.glb.phase = .run) → s.lcs.code ≠ 0 →
      Does (.linkTraining lanes gts vf) s { s with hlk := { s.hlk with up := true, lanes := lanes, gts := gts, vfEnable := vf } })

/-- BAD_ACCESS that reads returns zeros and is logged once per function (R136); REGISTER_WRITE of an unaligned address, of a
read-only register, or of a path that does not reach takes no value (R536); LATCHING_READ returns the register's word (R538). The words of a function's
configuration space are written and read on paths of their own (R133, R155); their numbers are the model's (log 77). -/
def Sys2Proof.Claims.RegisterAccesses : Prop :=
  (∀ (s : State) (f offset size : Nat), s.hlk.up = true → fnExists s f = true →
    Yields (.badAccess f offset size false) s (fun t => (t.fnOf f).badLogged = true ∧ Out.readData f offset 0 ∈ t.out)) ∧
  (∀ (s : State) (path a w m : Nat), a % 4 = 0 → path ≠ dapPath → hostReaches s path = true → inBar path a = true → accessOn path a = .rw m →
    Does (.registerWrite path a w) s (takeValue path a (masked w m) (noteReserved path a w m s))) ∧
  (∀ (s : State) (path a : Nat), readReaches s path a = true → a % 4 = 0 →
    Yields (.latchingRead path a) s (fun t => Out.readData path a (readWord s path a) ∈ t.out)) ∧
  (∀ (s : State) (f off w : Nat), hostReaches s f = true → off % 4 = 0 →
    Yields (.latchingRead (cfgPath + f) off) s (fun t => Out.readData (cfgPath + f) off (configWord s f off) ∈ t.out) ∧
    Yields (.registerWrite (cfgPath + f) 0x48 w) s (fun t => (t.fnOf f).cfg.msixEnable = bit w 15 ∧ (t.fnOf f).cfg.msixMask = bit w 14))

/-! ### Engine jobs: their routines (CIPHER, DIGEST, BIGNUM, POLY) -/

/-- A whole cipher message under a live key with its IV in AUX and within its limits: SYM_ENCRYPT and SYM_DECRYPT give the text,
SYM_AEAD_ENCRYPT text and tag, SYM_CMAC the tag alone (R233, R238, R240). Texts and tags are free functions of their inputs (log 7). -/
def Sys2Proof.Claims.CipherMessages : Prop :=
  ∀ (s : State) (j : Nat) (x : Job) (k : KeySlot) (c : CtxState), keyOf? s x.desc.handleA = some k → cInit x.desc = true →
    cFinish x.desc = true → cIvHelper x.desc = false → auxBad x.desc x.aux = none →
    c = initCtx x.desc k.material (cIv s x.desc x.aux) (x.aux.drop 16) →
    (∀ r, cRemain x.desc c = some r → x.input.length ≤ r) →
    (runnable s j 0x1001 = some x → x.desc.opcode = 0x1001 → cMode x.desc ≠ 7 → cTagLen x.desc = 0 →
      Does (.symEncrypt j) s (setResult j (okBytes (cText x.desc 0x1001 k.material c x.input)) s)) ∧
    (runnable s j 0x1002 = some x → x.desc.opcode = 0x1002 → cMode x.desc ≠ 7 → cTagLen x.desc = 0 →
      Does (.symDecrypt j) s (setResult j (okBytes (cText x.desc 0x1002 k.material c x.input)) s)) ∧
    (runnable s j 0x1003 = some x → x.desc.opcode = 0x1003 → cMode x.desc ≠ 4 → cMode x.desc ≠ 7 → cTagLen x.desc ≠ 0 →
      Does (.symAeadEncrypt j) s (setResult j (okBytes (cText x.desc 0x1003 k.material c x.input ++
        cTag x.desc k.material (nextCtx x.desc k.material c x.input (cText x.desc 0x1003 k.material c x.input)) x.input)) s)) ∧
    (runnable s j 0x1005 = some x → x.desc.opcode = 0x1005 → cMode x.desc = 7 → cTagLen x.desc ≠ 0 →
      Does (.symCmac j) s (setResult j (okBytes (cTag x.desc k.material c x.input)) s))

/-- SYM_AEAD_DECRYPT and SYM_KEY_UNWRAP release nothing that does not verify: UNWRAP_FAILED, 0x5023, with no output (R236);
SYM_KEY_WRAP gives a semiblock more than its padded input (R234). -/
def Sys2Proof.Claims.AuthenticatedOpening : Prop :=
  ∀ (s : State) (j : Nat) (x : Job) (k : KeySlot), keyOf? s x.desc.handleA = some k →
    (runnable s j 0x1004 = some x → auxBad x.desc x.aux = none →
      Does (.symAeadDecrypt j) s
        (if Config.standardHolds 0x1004 [cMode x.desc, cTagLen x.desc, cNonceLen x.desc] [k.material, x.aux, x.input] then
          setResult j (okBytes (standardBytes 0x1004 [cMode x.desc, cTagLen x.desc, cNonceLen x.desc]
            [k.material, x.aux, x.input] (x.input.length - cTagLen x.desc))) s
        else endJob j 0x5023 0 0 0 s)) ∧
    (runnable s j 0x1007 = some x → Does (.symKeyUnwrap j) s
      (if Config.standardHolds 0x1007 [cMode x.desc] [k.material, x.input] = true then
        setResult j (okBytes (standardBytes 0x1007 [cMode x.desc] [k.material, x.input]
          (if cMode x.desc = 8 then x.input.length - 8 else kwpLen k.material x.input))) s
      else endJob j 0x5023 0 0 0 s)) ∧
    (runnable s j 0x1006 = some x → x.desc.opcode = 0x1006 → cMode x.desc = 8 →
      Does (.symKeyWrap j) s
        (setResult j (okBytes (standardBytes 0x1006 [8] [k.material, x.input] (x.desc.inLen + 8))) s))

/-- A cipher context record in the other form, its fields checked (R239): SYM_CONTEXT_SAVE clears it, SYM_CONTEXT_RESTORE wraps it with a fresh nonce (R241);
SYM_REENCRYPT deciphers under HANDLE_A and enciphers under HANDLE_B (R235). -/
def Sys2Proof.Claims.ContextRecordsAndReencryption : Prop :=
  ∀ (s : State) (j : Nat) (x : Job) (k : KeySlot) (m : Nat), keyOf? s x.desc.handleA = some k →
    m = byteAt x.input 7 →
    (runnable s j 0x1008 = some x → cKeyBad s x.desc.handleA m = false → (m = 1 ∨ m = 2 ∨ m = 3 ∨ m = 6 ∨ m = 7) →
      Does (.symContextSave j) s (match openRecord s (cabOfFn s x.fn) 1 m x.desc.handleA x.input with
        | .ok body => if ctxSizes m (byteAt body 49) (byteAt body 50) = true ∧ ctxZeros body = true then
            setResult j { status := 0, w0 := 128, output := sealRecord s (cabOfFn s x.fn) 2 m x.desc.handleA (leAt x.input 16 8) (leAt x.input 24 8) body } s
          else endJob j 0x2001 48 0 0 s
        | .error e => endJob j e (if e = 0x2001 then 48 else 0) 0 0 s)) ∧
    (∀ body, runnable s j 0x1009 = some x → openRecord s (cabOfFn s x.fn) 2 m x.desc.handleA x.input = .ok body →
      cKeyBad s x.desc.handleA m = false → (m = 1 ∨ m = 2 ∨ m = 3 ∨ m = 6 ∨ m = 7) → ctxSizes m (byteAt body 49) (byteAt body 50) = true → ctxZeros body = true →
      Does (.symContextRestore j) s (setResult j { status := 0, w0 := 128, output := sealRecord s (cabOfFn s x.fn) 1 m x.desc.handleA (leAt x.input 16 8) (leAt x.input 24 8) body } (drawFree 12 s))) ∧
    (∀ b, runnable s j 0x100A = some x → keyOf? s x.desc.handleB = some b → cMode x.desc = 5 →
      Does (.symReencrypt j) s (setResult j (okBytes (cText x.desc 0x1001 b.material (initCtx x.desc b.material (x.aux.take 16) [])
          (cText x.desc 0x1002 k.material (initCtx x.desc k.material (x.aux.take 16) []) x.input))) s))

/-- A whole digest message: DIG_HASH, DIG_HMAC, DIG_KMAC and DIG_XOF deliver their result to OUT, or, with DEST a result slot, to the
slot the job holds, named in W0 (R253 to R256). Digests are free functions of their inputs (log 7). -/
def Sys2Proof.Claims.DigestMessages : Prop :=
  ∀ (s : State) (j op : Nat) (x : Job) (key msg r : List Byte) (c : Instr),
    ((c = .digHash j ∧ op = 0x2001) ∨ (c = .digHmac j ∧ op = 0x2002) ∨ (c = .digKmac j ∧ op = 0x2003) ∨ (c = .digXof j ∧ op = 0x2004)) →
    runnable s j op = some x → (x.desc.handleA = noHandle ∨ (keyOf? s x.desc.handleA).isSome) →
    (x.desc.handleB = noHandle ∨ (keyOf? s x.desc.handleB).isSome) → gInit x.desc = true → gFinish x.desc = true →
    key = gKey s x.desc x.aux → msg = gMessage s x.desc x.input → msg.length ≤ 2 ^ 61 - 1 →
    r = gResult x.desc key (if x.desc.opcode = 0x2003 then x.aux.drop (gKeyLen x.desc) else []) (zeros 200) msg msg.length →
    (gDest x.desc = 0 → Does c s (setResult j (okBytes (r)) s)) ∧
    (∀ i, gDest x.desc = 1 → x.gotSlot = some i → Does c s (setResult j { status := 0, w0 := i, w1 := r.length, effects := [.putResult (cabOfFn s x.fn) i (r ++ zeros (64 - r.length))] } s))

/-- SHA3-256 of a whole message: DIG_HASH with ALG 7 delivers the 32-byte digest of the message itself (R253). -/
def Sys2Proof.Claims.Sha3IsTheDigest : Prop :=
  ∀ (s : State) (j : Nat) (x : Job), runnable s j 0x2001 = some x → x.desc.opcode = 0x2001 → gAlg x.desc = 7 → gInit x.desc = true →
    gFinish x.desc = true → gDest x.desc = 0 → (gMessage s x.desc x.input).length ≤ 2 ^ 61 - 1 →
    Does (.digHash j) s (setResult j (okBytes (digestBytes (Config.sha3 (gMessage s x.desc x.input)))) s)

/-- A digest context record in the other form (R257), and DIG_RESULT_RELEASE, which empties a held result slot (R260). -/
def Sys2Proof.Claims.DigestRecordsAndSlots : Prop :=
  ∀ (s : State) (j : Nat) (x : Job),
    (runnable s j 0x2005 = some x → leAt x.input 8 4 = noHandle → 1 ≤ byteAt x.input 7 → byteAt x.input 7 ≤ 11 →
      Does (.digContextSave j) s (match gOpenRecord s (cabOfFn s x.fn) 1 (byteAt x.input 7) noHandle x.input with
        | .ok body => setResult j (okBytes (gSealRecord s (cabOfFn s x.fn) 2 (byteAt x.input 7) noHandle (leAt x.input 16 8) body)) s
        | .error e => endJob j e (if e = 0x2001 then 48 else 0) 0 0 s)) ∧
    (∀ body, runnable s j 0x2006 = some x → leAt x.input 8 4 = noHandle → 1 ≤ byteAt x.input 7 → byteAt x.input 7 ≤ 11 →
      gOpenRecord s (cabOfFn s x.fn) 2 (byteAt x.input 7) noHandle x.input = .ok body →
      Does (.digContextRestore j) s (setResult j (okBytes (gSealRecord s (cabOfFn s x.fn) 1 (byteAt x.input 7) noHandle (leAt x.input 16 8) body)) (drawFree 12 s))) ∧
    (runnable s j 0x2007 = some x → x.desc.par 40 4 < 64 → Tab.has s.eng.results (64 * cabOfFn s x.fn + x.desc.par 40 4) = true →
      Does (.digResultRelease j) s (setResult j { status := 0 }
        { s with eng := { s.eng with results := Tab.del s.eng.results (64 * cabOfFn s x.fn + x.desc.par 40 4) } }))

/-- Signing and encrypting with big numbers: a result that passes its check on the tile is the job's output, and one that fails it
ends VERIFY_FAILED_INTERNAL with none (R266, R271). Signatures are free functions of their inputs (log 7). -/
def Sys2Proof.Claims.BignumSigning : Prop :=
  ∀ (s : State) (j : Nat) (x : Job) (k : KeySlot), keyOf? s x.desc.handleA = some k →
    (runnable s j 0x3001 = some x → Does (.bigRsaSign j true) s (drawFree 64 (setResult j (okBytes (standardBytes 0x3001 [bScheme x.desc, bHash x.desc, bSalt x.desc] [k.material, x.input, freeBytes s 64]
        (rsaLen s x.desc.handleA))) s))) ∧
    (runnable s j 0x3003 = some x → Does (.bigRsaEncrypt j) s (drawFree 64 (setResult j (okBytes (standardBytes 0x3003 [bHash x.desc] [k.material, x.input, x.aux, freeBytes s 64] (rsaLen s x.desc.handleA))) s))) ∧
    (runnable s j 0x3010 = some x → Does (.bigEcdsaSign j true) s (drawFree 74 (setResult j (okBytes (standardBytes 0x3010 [k.attr.type] [k.material, x.input, freeBytes s 74] (2 * fieldLen s x.desc.handleA))) s))) ∧
    (runnable s j 0x3020 = some x → Does (.bigEddsaSign j true) s (setResult j (okBytes (standardBytes 0x3020 [k.attr.type] [k.material, x.input, x.aux] (edSigLen k.attr.type))) s)) ∧
    (runnable s j 0x3001 = some x → Yields (.bigRsaSign j false) s (Ended j)) ∧
    (runnable s j 0x3010 = some x → Yields (.bigEcdsaSign j false) s (Ended j)) ∧
    (runnable s j 0x3020 = some x → Yields (.bigEddsaSign j false) s (Ended j))

/-- Verifying: OK where the signature holds, SIGNATURE_INVALID, 0x5021, where it does not (R266), for RSA, where the signature is also
below the modulus (R269), ECDSA, EdDSA and ML-DSA. Whether a signature holds is free (log 7). -/
def Sys2Proof.Claims.SignatureVerdicts : Prop :=
  ∀ (s : State) (j : Nat) (x : Job) (k : KeySlot), keyOf? s x.desc.handleA = some k →
    (runnable s j 0x3002 = some x → Does (.bigRsaVerify j) s
      (if beNat x.aux < rsaModulus k ∧ Config.standardHolds 0x3002 [bScheme x.desc, bHash x.desc, bSalt x.desc] [k.material, x.input, x.aux] = true
        then setResult j { status := 0 } s else endJob j 0x5021 0 0 0 s)) ∧
    (runnable s j 0x3011 = some x → Does (.bigEcdsaVerify j) s
      (if Config.standardHolds 0x3011 [k.attr.type] [k.material, x.input, x.aux] = true
        then setResult j { status := 0 } s else endJob j 0x5021 0 0 0 s)) ∧
    (runnable s j 0x3021 = some x → Does (.bigEddsaVerify j) s
      (if Config.standardHolds 0x3021 [k.attr.type] [k.material, x.input, x.aux.take (edSigLen k.attr.type), x.aux.drop (edSigLen k.attr.type)] = true
        then setResult j { status := 0 } s else endJob j 0x5021 0 0 0 s)) ∧
    (runnable s j 0x4011 = some x → Does (.polMldsaVerify j 0) s
      (if Config.standardHolds 0x4011 [pSet x.desc] [k.material, x.input, x.aux.take (dsaSig (pSet x.desc)), x.aux.drop (dsaSig (pSet x.desc))] = true
        then setResult j { status := 0 } s else endJob j 0x5021 0 0 0 s))

/-- Agreeing and recovering secrets: BIG_ECDH delivers the agreed field element, BIG_XDH refuses an all-zero result and a peer value of another length, BIG_RSA_DECRYPT
refuses a ciphertext at or above the modulus (R268, R269); DEST 0 delivers to OUT. -/
def Sys2Proof.Claims.SecretAgreement : Prop :=
  ∀ (s : State) (j : Nat) (x : Job) (k : KeySlot) (p : List Byte), keyOf? s x.desc.handleA = some k → bDest x.desc = 0 →
    (runnable s j 0x3012 = some x → peerOf s x = some p →
      Does (.bigEcdh j true) s
        (if peerOk k.attr.type p = true then setResult j (okBytes (standardBytes 0x3012 [k.attr.type] [k.material, p] (fieldLen s x.desc.handleA))) s
        else endJob j 0x5022 0 0 0 s)) ∧
    (runnable s j 0x3022 = some x → peerOf s x = some p → p.length ≠ xLen k.attr.type → ∀ ok, Does (.bigXdh j ok) s (endJob j 0x5022 0 0 0 s)) ∧
    (runnable s j 0x3022 = some x → peerOf s x = some p → p.length = xLen k.attr.type →
      Does (.bigXdh j true) s
        (if allZero (standardBytes 0x3022 [k.attr.type] [k.material, p] (xLen k.attr.type)) then endJob j 0x5022 0 0 0 s
        else setResult j (okBytes (standardBytes 0x3022 [k.attr.type] [k.material, p] (xLen k.attr.type))) s)) ∧
    (runnable s j 0x3004 = some x → beNat x.input < rsaModulus k → Does (.bigRsaDecrypt j true) s
      (if Config.standardHolds 0x3004 [bHash x.desc] [k.material, x.input, x.aux] = true then
        setResult j (okBytes (standardBytes 0x3004 [bHash x.desc] [k.material, x.input, x.aux]
          (oaepLen (bHash x.desc) k.material x.input x.aux (rsaLen s x.desc.handleA - 2 * digestLen (bHash x.desc) - 2)))) s
      else endJob j 0x5023 0 0 0 s)) ∧
    (runnable s j 0x3004 = some x → rsaModulus k ≤ beNat x.input → ∀ ok, Does (.bigRsaDecrypt j ok) s (endJob j 0x5023 0 0 0 s))

/-- BIG_EC_EPHEMERAL and POL_MLKEM_KEYPAIR of a pair that passes its check put it in a free class 2 slot of the cabinet: W0 is its
handle, and the key appears with the commit phase (R206, R268, R285). -/
def Sys2Proof.Claims.EphemeralPairs : Prop :=
  ∀ (s : State) (j slot : Nat) (x : Job), ephemeralRoom s (cabOfFn s x.fn) 1 = true → freeSpan s (cabOfFn s x.fn) 1 = some slot →
    (runnable s j 0x3013 = some x → Yields (.bigEcEphemeral j true) s (fun t =>
      ∃ r, Recorded j r t ∧ r.status = 0 ∧ r.w0 = mkHandle (cabOfFn s x.fn) 2 slot (slotGen s slot) ∧
        ∃ a m, r.effects = [.putKey slot a m] ∧ a.handle = r.w0 ∧ a.type = curveType (bCurve x.desc) ∧ a.policy = bPolicy x.desc)) ∧
    (runnable s j 0x4001 = some x → Yields (.polMlkemKeypair j 0) s (fun t =>
      ∃ r, Recorded j r t ∧ r.status = 0 ∧ r.w0 = mkHandle (cabOfFn s x.fn) 2 slot (slotGen s slot) ∧
        ∃ a m, r.effects = [.putKey slot a m] ∧ a.handle = r.w0 ∧ a.type = 0x3F + pSet x.desc ∧ a.length = 96))

/-- BIG_MODARITH gives the modular result in the operands' width, or BAD_DESCRIPTOR at IN for a modulus that is even or less
than 3 or not of full width (R276). -/
def Sys2Proof.Claims.ModularArithmetic : Prop :=
  ∀ (s : State) (j : Nat) (x : Job), runnable s j 0x3030 = some x →
    (beNat (x.input.take (8 * bMod x.desc)) % 2 = 1 → 3 ≤ beNat (x.input.take (8 * bMod x.desc)) → allZero (x.input.take 8) = false →
      Does (.bigModarith j) s (setResult j (okBytes (beBytes (8 * bMod x.desc) (modArith (bCurve x.desc) (bMod x.desc) (bExp x.desc) x.input))) s)) ∧
    (beNat (x.input.take (8 * bMod x.desc)) % 2 = 0 → Does (.bigModarith j) s (endJob j 0x2001 16 0 0 s))

/-- ML-KEM and ML-DSA: POL_MLKEM_ENCAPS gives ciphertext and shared key for a key that meets the standard's check and KEY_INVALID
otherwise, POL_MLKEM_DECAPS the shared key, POL_MLDSA_SIGN the signature (R285 to R288). Their values are free functions of their inputs (log 7). -/
def Sys2Proof.Claims.LatticeKeysAndSignatures : Prop :=
  ∀ (s : State) (j : Nat) (x : Job) (k : KeySlot), keyOf? s x.desc.handleA = some k →
    (runnable s j 0x4002 = some x → x.desc.handleA ≠ noHandle → k.material.length = kemEk (pSet x.desc) → pDest x.desc = 0 →
      Does (.polMlkemEncaps j 0) s (if Config.standardHolds 0x4002 [pSet x.desc] [k.material] = true then
        drawFree 32 (setResult j (okBytes (standardBytes 0x4002 [pSet x.desc] [k.material, freeBytes s 32] (kemCt (pSet x.desc)) ++
            standardBytes 0x14002 [pSet x.desc] [k.material, freeBytes s 32] 32)) s)
        else endJob j 0x5022 0 0 0 s)) ∧
    (runnable s j 0x4003 = some x → pDest x.desc = 0 →
      Does (.polMlkemDecaps j 0) s (setResult j (okBytes (standardBytes 0x4003 [pSet x.desc] [k.material, x.input] 32)) s)) ∧
    (runnable s j 0x4010 = some x →
      Does (.polMldsaSign j 0) s (drawFree 32 (setResult j (okBytes (standardBytes 0x4010 [pSet x.desc] [k.material, x.input, x.aux, freeBytes s 32] (dsaSig (pSet x.desc)))) s)))

/-- The homomorphic commands that make a vector record a new handle in the index the job holds, with the level and noise their
operation gives (R291, R294, R300, R302), where its backing pages may be written; an absent one parks the job (R183, R194); ADOPT does so for bytes already in memory that pass the residue check (R298). -/
def Sys2Proof.Claims.HomomorphicCommandsMakeHandles : Prop :=
  ∀ (s : State) (j op i : Nat) (back : List (List Byte)) (x : Job) (c : Instr),
    ((c = .polHeEncrypt j back ∧ op = 0x4020) ∨ (c = .polHeAdd j back ∧ op = 0x4022) ∨ (c = .polHeMultiply j back ∧ op = 0x4023) ∨
      (c = .polHeRotate j back ∧ op = 0x4024) ∨ (c = .polHeKeyswitch j back ∧ op = 0x4025) ∨ (c = .polHeRescale j back ∧ op = 0x4026) ∨
      (c = .polHeRefresh j back ∧ op = 0x4027)) →
    runnable s j op = some x → pAdopt x.desc = false → x.gotHe = some i →
    (∀ o page, heReady s x back = .ok o → firstMeet s x.fn 2 (pagesOf (pBack x.desc) (heBytes o.set o.kind o.level)) = some (page, .fault) →
      x.desc.cls ≠ 0 → x.plane ≠ 1 → Yields c s (fun t => (t.jobOf j).map (·.park) = some (some (page, 2, s.time.L)) ∧ t.eng.handles = s.eng.handles)) ∧
    ((∀ o, heReady s x back = .ok o → firstMeet s x.fn 2 (pagesOf (pBack x.desc) (heBytes o.set o.kind o.level)) = none) →
     Yields c s (fun t => match heReady s x back with
      | .error _ => Ended j t
      | .ok o => ∃ r a, Recorded j r t ∧ r.status = 0 ∧ r.w0 = mkHe (cabOfFn s x.fn) i (Tab.getD s.eng.heGens i 0) ∧
      r.w1 = o.noise.toNat ∧ r.w2 % 256 = o.level % 256 ∧ r.effects = [.putHandle i a] ∧ a.handle = r.w0 ∧ a.level = o.level ∧ a.kind = o.kind))

/-- ADOPT, POL_HE_DECRYPT and POL_HANDLE_FREE (R296 to R298): adopted bytes give a handle of their digest, a decryption gives the
selected slots, and a freed handle's record goes at once. -/
def Sys2Proof.Claims.HandlesAreAdoptedReadAndFreed : Prop :=
  (∀ (s : State) (j i : Nat) (bytes : List Byte) (x : Job) (o : HeOut), runnable s j 0x4020 = some x → pAdopt x.desc = true →
    heOutcome s x.desc = .ok o → x.gotHe = some i → bytes.length = heBytes o.set o.kind o.level →
    Yields (.adopt j bytes) s (fun t => if residuesOk o.set (if o.kind = 0 then o.level else o.set.lmax + o.set.k) bytes = true then
        ∃ r a, Recorded j r t ∧ r.status = 0 ∧ r.effects = [.putHandle i a] ∧ a.digest = heDigest bytes ∧ a.backLen = bytes.length
      else Ended j t)) ∧
  (∀ (s : State) (j : Nat) (back : List (List Byte)) (x : Job), runnable s j 0x4021 = some x →
    Does (.polHeDecrypt j back) s (match heReady s x back with
      | .error e => heRefuse j x e s
      | .ok o => setResult j (okBytes (standardBytes 0x4021 [o.set.id, pX x.desc, pY x.desc] ([skBytes s x.desc.handleB] ++ back) (pOut s x.desc))) s)) ∧
  (∀ (s : State) (j : Nat) (x : Job) (r : HeRec), runnable s j 0x4028 = some x → heOf? s x.desc.handleA = some r →
    (∀ e ∈ liveJobs s, namesHe e.2 r.handle = false) →
    Does (.polHandleFree j) s (setResult j { status := 0 } (freeRecord (r.handle % 2 ^ 14) s)))

/-! ### Pages, random bytes, the ledger's and the keys' jobs (JOBS, RANDOM, LEDGER, KEYS, DOVETAIL) -/

/-- NOP completes OK (R176). The page commands on pages that no ring or status block pins: each named page's entry becomes the new
value, every other page's stays, and W0 counts the entries that changed (R185, R186, R188). A pinned page refuses the whole
command, RING_PAGE_PINNED. PAGE_QUERY reads the entry (R188). -/
def Sys2Proof.Claims.PageCommands : Prop :=
  ∀ (s : State) (j op : Nat) (x : Job) (c : Instr),
    (runnable s j 0x0001 = some x → Does (.nop j) s (setResult j { status := 0 } s)) ∧
    (((c = .pageMap j ∧ op = 0xE001) ∨ (c = .pageUnmap j ∧ op = 0xE002) ∨ (c = .pageProtect j ∧ op = 0xE003)) →
      runnable s j op = some x →
      (op = 0xE001 → bit (x.desc.par 59 1) 0 = true → ∀ f ∈ mapFrames x, f < 2 ^ 48) →
      (∀ p, (cmdPages x).find? (pagePinned s) = some p → Does c s (endJob j 0x3010 p 0 0 s)) ∧
      ((cmdPages x).find? (pagePinned s) = none →
        Yields c s (fun t =>
          (∀ i, i < x.desc.par 44 4 → Tab.get? t.job.pot (x.desc.par 40 4 + i) =
            newEntry s x (x.desc.par 40 4 + i) ((mapFrames x).getD i 0)) ∧
          (∀ p, p ∉ cmdPages x → Tab.get? t.job.pot p = Tab.get? s.job.pot p) ∧ ∃ r, Recorded j r t ∧ r.status = 0))) ∧
    (runnable s j 0xE004 = some x → Yields (.pageQuery j) s (fun t => ∃ r, Recorded j r t ∧ r.status = 0 ∧
      r.w0 = lo32 (((Tab.get? s.job.pot (x.desc.par 40 4)).map entryBits).getD 0) ∧
      r.w1 = hi32 (((Tab.get? s.job.pot (x.desc.par 40 4)).map entryBits).getD 0) ∧
      (bit r.w2 0 = pagePinned s (x.desc.par 40 4))))

/-- PAGE_WANTED_REPEAT sends the notice again 1,024 transits after the last while jobs stay parked (R195); PAGE_ABANDON_TIMEOUT ends a
BULK job parked for an orbit and a MANAGEMENT job parked for an orbit or past its four orbits, PAGE_ABANDONED (R197). -/
def Sys2Proof.Claims.ParkedPagesRepeatAndEnd : Prop :=
  (∀ (s : State) (f page : Nat) (w : Wanted), s.job.wanted.find? (fun w => w.fn == f && w.page == page) = some w →
    w.lastL + 1024 ≤ s.time.L → Tab.get? s.job.pot page = none → parkedOn s f page ≠ [] →
    Yields (.pageWantedRepeat f page) s (fun t => (∀ v ∈ t.job.wanted, v.fn = f → v.page = page → v.lastL = s.time.L) ∧
      ∃ u, t.job.wanted = u.job.wanted ∧ parkedOn u f page = parkedOn s f page ∧ t = (pageWanted f page w.tag u).withPending s.pending)) ∧
  (∀ (s : State) (j page right since : Nat) (x : Job), s.jobOf j = some x → x.park = some (page, right, since) → x.finished = false →
    (x.desc.cls = 2 ∨ x.desc.cls = 3) → since + 2 ^ 20 ≤ s.time.L → Yields (.pageAbandonTimeout j) s (Ended j)) ∧
  (∀ (s : State) (j page right since : Nat) (x : Job), s.jobOf j = some x → x.park = some (page, right, since) → x.desc.cls < 2 →
    Does (.pageAbandonTimeout j) s s)

/-- RNG_READ from a serving DRBG gives its number of fresh bytes, with a reseed first where its flag asks, and WITHDRAWN where the DRBG does not
serve (R319 to R321); in its test modes it gives the bytes copied out for it (R328). -/
def Sys2Proof.Claims.RandomBytesAreRead : Prop :=
  ∀ (s : State) (j : Nat) (x : Job), runnable s j 0x5001 = some x →
    (x.desc.par 40 1 ≠ 0 → Does (.rngRead j) s (setResult j { status := 0, output := x.input, w0 := s.rng.reseeds } s)) ∧
    (x.desc.par 40 1 = 0 → drbgServes s = true → bit (x.desc.par 41 1) 0 = false →
      Does (.rngRead j) s (drawFree (x.desc.par 44 4)
        (setResult j { status := 0, output := freeBytes s (x.desc.par 44 4), w0 := s.rng.reseeds } s))) ∧
    (x.desc.par 40 1 = 0 → drbgServes s = true → bit (x.desc.par 41 1) 0 = true →
      Yields (.rngRead j) s (fun t => t.rng.takeDue = s.rng.takeDue + 384 ∧ t.rng.lastReseedL = s.time.L ∧
        ∃ r, Recorded j r t ∧ r.status = 0 ∧ r.output.length = x.desc.par 44 4)) ∧
    (x.desc.par 40 1 = 0 → drbgServes s = false → Does (.rngRead j) s (endJob j 0x7001 0 0 0 s))

/-- LANE_STATUS, LEDGER_READ and LEDGER_IDENTITY give their records (R351, R372, R373); SEAL_REQUEST of a lane whose ledger is good
and that prepares no other seal signs the next seal's body and prepares its record (R367). -/
def Obligations.LedgerJobs : Prop :=
  ∀ (s : State) (j : Nat) (x : Job),
    (runnable s j 0x6001 = some x → Does (.laneStatus j) s (setResult j (okBytes (laneBytes s (x.desc.par 40 1))) s)) ∧
    (runnable s j 0x6011 = some x → Does (.ledgerRead j) s (setResult j (okBytes (ledgerView s (x.desc.par 40 1))) s)) ∧
    (runnable s j 0x6020 = some x → Does (.ledgerIdentity j) s (setResult j (okBytes
      (leBytes 4 s.ldg.lrVersion ++ zeros 4 ++ leBytes 8 s.ldg.lrL ++ digestBytes s.ldg.lrDigest ++ zeros 16)) s)) ∧
    (∀ n q k body, n = x.desc.par 40 1 → runnable s j 0x6010 = some x → s.ldg.snaps.find? (fun q => q.job == j) = some q →
      keyOf? s x.desc.handleA = some k → sealLaneBad s x.fn n = none → laneGood s n = true → sealPrepared s n = false →
      (laneLdg s n).wait = [] → body = sealBody s q k (cabOfFn s x.fn) ((laneLdg s n).view.seq + 1) →
      Yields (.sealRequest j true) s (fun t => ∃ r, Recorded j r t ∧ r.status = 0 ∧ r.output.take body.length = body ∧
        r.w0 = lo32 ((laneLdg s n).view.seq + 1) ∧ r.w1 = hi32 ((laneLdg s n).view.seq + 1) ∧ r.w2 = q.rec_.period ∧
        r.effects = [.sealRecord n ((laneLdg s n).view.seq + 1)]))

/-- Keys brought in, read and given up: KEY_LOAD_FERRIED opens a blob of the cabinet's current generation into a class 1 slot (R216),
KEY_LOAD_PUBLIC puts a valid public key into a class 3 slot (R218), KEY_INFO gives the attributes, the digest and the encoding (R223),
KEY_EPHEMERAL_FREE withdraws the jobs that name the handle and frees its slots at once (R206). -/
def Obligations.KeysAreLoadedReadAndFreed : Prop :=
  ∀ (s : State) (j : Nat) (x : Job),
    (∀ c slot, runnable s j 0x7005 = some x → leAt x.input 6 1 = cabOfFn s x.fn → Tab.get? s.key.csk (cabOfFn s x.fn) = some c →
      leAt x.input 0 4 = 0x4B46474B → leAt x.input 4 2 = 1 → leAt x.input 7 1 = 0 → leAt x.input 8 4 = c.gen → typeKnown (leAt x.input 12 2) = true →
      leAt x.input 20 4 = 0 → x.input.length = 60 + leAt x.input 14 2 →
      freeSpan s (cabOfFn s x.fn) (max 1 (ceilDiv (leAt x.input 14 2) 432)) = some slot →
      Yields (.keyLoadFerried j) s (fun t => if gcmOpens c.key (slice x.input 32 12) (x.input.take 32) (x.input.drop 44) then
          ∃ r a m, Recorded j r t ∧ r.status = 0 ∧ r.w0 = mkHandle (cabOfFn s x.fn) 1 slot (slotGen s slot) ∧ r.effects = [.putKey slot a m] ∧
            a.handle = r.w0 ∧ a.type = leAt x.input 12 2 ∧ a.policy = leAt x.input 16 4 ∧ a.length = leAt x.input 14 2
        else Ended j t)) ∧
    (∀ slot, runnable s j 0x7006 = some x →
      freeSpan s (cabOfFn s x.fn) (max 1 (ceilDiv (publicMaterial (x.desc.par 40 2) x.input).length 432)) = some slot →
      Yields (.keyLoadPublic j) s (fun t => if publicValid (x.desc.par 40 2) (sizeParam x.desc) x.input then
          ∃ r a, Recorded j r t ∧ r.status = 0 ∧ r.w0 = mkHandle (cabOfFn s x.fn) 3 slot (slotGen s slot) ∧
            r.effects = [.putKey slot a (publicMaterial (x.desc.par 40 2) x.input)] ∧ a.handle = r.w0 ∧ a.type = x.desc.par 40 2
        else Ended j t)) ∧
    (∀ k out, runnable s j 0x7007 = some x → keyOf? s x.desc.handleA = some k →
      out = attrBytes k.attr ++ (if (publicEncoding k).isEmpty then zeros 32 else digestBytes (Config.sha3 (publicEncoding k))) ++
        (if bit (x.desc.par 40 1) 0 then publicEncoding k else []) →
      Does (.keyInfo j) s (if x.desc.outCap < out.length then endJob j 0x2014 out.length 0 0 s else setResult j (okBytes out) s)) ∧
    (∀ k, runnable s j 0x7008 = some x → keyOf? s x.desc.handleA = some k → (hClass x.desc.handleA = 1 ∨ hClass x.desc.handleA = 2) →
      Yields (.keyEphemeralFree j) s (fun t => Recorded j { status := 0 } t ∧ Tab.get? t.key.slots (hSlot x.desc.handleA) = none ∧
        ∀ e ∈ liveJobs s, e.1 ≠ j → namesKeyHandle e.2.desc x.desc.handleA = true → inCommit e.2 = false →
          Ended e.1 t))

/-- A governed command of a cabinet with fewer than 16 open requests opens its dovetail request over its cabinet's roster, with
the right it asks for (R224, R225), an import once what it brings in passes its checks; with 16 open it ends NO_SLOT. -/
def Sys2Proof.Claims.GovernedCommandsOpenTheirRequest : Prop :=
  (∀ (s : State) (j op right : Nat) (x : Job) (c : Instr),
    ((∃ tile o, c = .keyGenerate j tile o ∧ op = 0x7001 ∧ right = rightKeyCreate) ∨ (c = .keyExport j ∧ op = 0x7003 ∧ right = rightKeyExport) ∨ (c = .keyDestroy j ∧ op = 0x7004 ∧ right = rightKeyDestroy) ∨
      (c = .thaw j ∧ op = 0x7012 ∧ right = rightThaw) ∨ (c = .custodyRotate j ∧ op = 0x9010 ∧ right = rightCustody) ∨
      (c = .custodyRestore j ∧ op = 0x9011 ∧ right = rightCustody) ∨ (c = .appletLoad j ∧ op = 0xA001 ∧ right = rightApplet ∧ appletBad s x = none) ∨
      (c = .cabinetZeroize j ∧ op = 0xB010 ∧ right = rightKeyDestroy)) →
    openable s j op = some x →
    (openRequests s (cabOfFn s x.fn) < 16 → Yields c s (Opened j op [rosterFor s (cabOfFn s x.fn) (some right)] s)) ∧
    (16 ≤ openRequests s (cabOfFn s x.fn) → Does c s (endJob j 0x4001 0 0 0 s))) ∧
  (∀ (s : State) (j : Nat) (x : Job), openable s j 0x7002 = some x → Yields (.keyImport j) s (fun t => match importMaterial s x with
    | .error e => Ended j t
    | .ok m => if openRequests s (cabOfFn s x.fn) < 16 then Opened j 0x7002 [rosterFor s (cabOfFn s x.fn) (some rightKeyCreate)] s t
      else t = endJob j 0x4001 0 0 0 s))

/-- KEY_GENERATE after its quorum, with its reseed at hand: a key that passes its checks takes a free span of the cabinet, persistent,
with the handle in W0; one that fails an internal check ends VERIFY_FAILED_INTERNAL (R205, R219, R277). KEY_IMPORT, KEY_EXPORT,
KEY_DESTROY and THAW run when their quorum is reached (R201, R220 to R222); a destroyed key goes with its job's commit phase, the erase of its bank then being due (R75, R211). -/
def Sys2Proof.Claims.ApprovedKeyCommandsRun : Prop :=
  ∀ (s : State) (j tile : Nat) (x : Job),
    (∀ slot c m, runnable s j 0x7001 = some x → x.approved = true → prReady s = true → Tab.get? s.key.csk (cabOfFn s x.fn) = some c →
      x.desc.par 42 1 ≠ 1 → m = keyGenMaterial s x.desc → freeSpan s (cabOfFn s x.fn) (max 1 (ceilDiv m.length 432)) = some slot →
      Yields (.keyGenerate j tile 0) s (fun t => ∃ r a, Recorded j r t ∧ r.status = 0 ∧ r.w0 = mkHandle (cabOfFn s x.fn) 0 slot (slotGen s slot) ∧
        r.effects = [.putKey slot a m] ∧ a.handle = r.w0 ∧ a.type = x.desc.par 40 2 ∧ a.policy = x.desc.par 44 4 ∧ persistent a = true)) ∧
    (runnable s j 0x7001 = some x → x.approved = true → prReady s = true → Yields (.keyGenerate j tile 1) s (Ended j)) ∧
    (∀ r, r.job = j → s.jobOf j = some x → x.finished = false →
      (r.opcode = 0x7004 → ∀ k, keyOf? s x.desc.handleA = some k →
        Recorded j { status := 0, effects := [.destroyKey x.desc.handleA] } (runApproved r s) ∧ (runApproved r s).key.slots = s.key.slots ∧
        ∀ ok, Tab.get? (applyEffect j ok (.destroyKey x.desc.handleA) s).key.slots (hSlot x.desc.handleA) = none ∧
          (applyEffect j ok (.destroyKey x.desc.handleA) s).key.eraseDue = s.key.eraseDue ++ [(j, hSlot x.desc.handleA / 16)]) ∧
      (r.opcode = 0x7012 → isFrozen s (x.desc.par 40 1) (x.desc.par 44 4) = true →
        (runApproved r s).job.thawDue = s.job.thawDue ++ [(x.desc.par 40 1, x.desc.par 44 4, cabOfFn s x.fn)] ∧
        Recorded j { status := 0, w0 := 1 } (runApproved r s)) ∧
      (r.opcode = 0x7003 → ∀ a b, keyOf? s x.desc.handleA = some a → keyOf? s x.desc.handleB = some b → ∃ q, Recorded j q (runApproved r s) ∧
        q.status = 0 ∧ q.output = standardBytes 0x7003 [x.desc.par 42 1, b.attr.type]
          [b.material, transferHeader a.attr (serialOf s) ++ a.material, freeBytes s 32] (exportLen (x.desc.par 42 1) a.material.length b.attr.type)))

/-- DOVETAIL_APPROVE ends with the status of the first check that fails; an officer counted already changes nothing; a new one is counted,
and the approval that makes the quorum takes the request off, approves its job and runs it (R227, R228). -/
def Sys2Proof.Claims.ApprovalsAreChecked : Prop :=
  ∀ (s : State) (j : Nat) (x : Job), runnable s j 0x7010 = some x →
    (∀ n, approvalLenBad s x.aux = some n → Does (.dovetailApprove j) s (endJob j 0x5001 36 n 0 s)) ∧
    (approvalLenBad s x.aux = none → match checkApproval s (x.bellD / 24576) x.aux with
      | .error _ => Yields (.dovetailApprove j) s (Ended j)
      | .ok (r, q, true) => Yields (.dovetailApprove j) s (fun t => t.dov = s.dov ∧
          Recorded j { status := 0, w0 := r.num, w1 := q.m - q.counted.length, w2 := 0 } t)
      | .ok (r, q, false) => if quorumReached (countOfficer r q.cab (approvalBody x.aux).officer x.aux) = true then
          ∃ u, Does (.dovetailApprove j) s (runApproved (countOfficer r q.cab (approvalBody x.aux).officer x.aux) u) ∧
            u.dov.reqs = s.dov.reqs.filter (fun y => y.num != r.num) ∧ (u.jobOf r.job).all (·.approved) = true
        else Yields (.dovetailApprove j) s (fun t =>
          t.dov.reqs = s.dov.reqs.map (fun y => if y.num = r.num then countOfficer r q.cab (approvalBody x.aux).officer x.aux else y) ∧
          Recorded j { status := 0, w0 := r.num, w1 := q.m - (q.counted.length + 1), w2 := 1 } t))

/-- DOVETAIL_QUERY gives the records of the cabinet's rosters in open requests (R230, with log 21); DOVETAIL_LAPSE of a
request whose window of an orbit is over takes it off and ends its job, 0x6020 (R229). -/
def Sys2Proof.Claims.RequestsAreReadAndLapse : Prop :=
  (∀ (s : State) (j : Nat) (x : Job), runnable s j 0x7011 = some x → Yields (.dovetailQuery j) s (fun t => ∃ r, Recorded j r t ∧ r.status = 0 ∧
    r.output = (queryRecords s (cabOfFn s x.fn) (x.desc.par 40 4)).flatten ∧
    r.w0 = (queryRecords s (cabOfFn s x.fn) (x.desc.par 40 4)).length)) ∧
  (∀ (s : State) (n : Nat) (r : Request), s.dov.reqs.find? (fun r => r.num == n) = some r → r.openL + 2 ^ 20 ≤ s.time.L →
    lateApproval s r = false → Yields (.dovetailLapse n) s (fun t => t.dov.reqs = s.dov.reqs.filter (fun q => q.num != n) ∧
      ((s.jobOf r.job).isSome → Ended r.job t)))

/-! ### Structure, time, mesh, applet and service jobs (CARCASS, TIME, MESH, WORLDS, LIFECYCLE, EVENTS, POWER) -/

/-- CARCASS_STAGE under an image, out of UMBRA and HOLD and with nothing staged: an image that fails a check ends CARCASS_INVALID and
leaves nothing staged; one that passes is staged with the number of its request, or opens its intent where staging needs none.
CARCASS_UNSTAGE discards it before an intent; CARCASS_READ gives the active image (R126, R127). The cases of log 56 are the model's reading. -/
def Obligations.ImagesAreStagedUnstagedAndRead : Prop :=
  ∀ (s : State) (j : Nat) (x : Job),
    (openable s j 0x8001 = some x → s.glb.umbra = false → s.glb.hold = false → s.car.intent = none → s.car.repairPending = false →
      s.car.staged = none → openRequests s (cabOfFn s x.fn) < 16 →
      Yields (.carcassStage j) s (fun t => match checkStaged s x.input with
        | .error _ => Ended j t ∧ t.car.staged = none
        | .ok c => ∃ g, t.car.staged = some g ∧ g.bytes = x.input ∧ g.image = c ∧ g.job = j ∧
          (if stageFree s = true then t.car.intent.map (fun i => (i.seq, i.openL, i.written)) = some (c.seq, s.time.L, false)
           else g.request = some s.dov.nextNum ∧ Opened j 0x8001 (stageRosters s c) s t))) ∧
    (runnable s j 0x8002 = some x → s.car.intent = none → s.car.staged ≠ none → Yields (.carcassUnstage j) s (fun t => t.car.staged = none)) ∧
    (runnable s j 0x8002 = some x → s.car.intent = none → s.car.staged = none → Does (.carcassUnstage j) s (setResult j { status := 0 } s)) ∧
    (runnable s j 0x8003 = some x → Does (.carcassRead j) s
      (if x.desc.outCap < (activeImage s).length then endJob j 0x2014 (activeImage s).length 0 0 s
       else setResult j (okBytes (activeImage s)) s))

/-- The commit of an image (R129): the first copy read back as the image within an orbit lets the intent go on, any other bytes and a later read-back abandon it; an intent
whose copy is not written within an orbit is abandoned; at an orbit boundary the structure, the site record and the floor become
the new image's. COPY_REPAIR makes the other copy hold the image's bytes (R124). -/
def Obligations.ImagesAreCommitted : Prop :=
  ∀ (s : State) (i : CommitIntent),
    (∀ g, s.car.intent = some i → s.car.staged = some g → i.written = false →
      (s.time.L < i.openL + 2 ^ 20 → Yields (.carcassCopyWritten g.bytes) s (fun t => t.car.intent = some { i with written := true } ∧
        (if i.firstCopy = 0 then t.car.copyA else t.car.copyB).take g.bytes.length = g.bytes)) ∧
      ∀ found, (found ≠ g.bytes ∨ i.openL + 2 ^ 20 ≤ s.time.L) → Yields (.carcassCopyWritten found) s (fun t => t.car.intent = none ∧ t.car.staged = none ∧
        t.car.active = s.car.active)) ∧
    (s.car.intent = some i → i.written = false → i.openL + 2 ^ 20 ≤ s.time.L → Yields .carcassIntentTimeout s (fun t =>
      t.car.intent = none ∧ t.car.staged = none ∧ t.car.active = s.car.active ∧ ∀ j, i.job = some j → (s.jobOf j).isSome → Ended j t)) ∧
    (∀ g bitOk, s.car.intent = some i → s.car.staged = some g → i.written = true → s.time.L % 2 ^ 20 = 0 → s.glb.phase = .run →
      s.glb.umbra = false → keeperAbsent s = false → (counterOf s 1).worn = false →
      Yields (.carcassCommit bitOk) s (fun t => t.car.active = g.image ∧ t.car.floor = g.image.seq ∧ t.car.intent = none ∧
        t.car.staged = none ∧ (t.car.site = siteOf g.image i.alg i.root ∨ t.tam.latched = true))) ∧
    (repairOpen s = true →
      Yields (.copyRepair (activeImage s)) s (fun t => t.car.repairPending = false ∧
        (if s.car.aActive = true then t.car.bActive = true else t.car.aActive = true)) ∧
      ∀ found, firstDiff found (activeImage s) 0 ≠ none → Yields (.copyRepair found) s (fun t => t.car.repairPending = true))

/-- TIME_NONCE gives 16 fresh bytes and keeps at most three open ones beside them (R50). A verified TIME_STATEMENT with an open nonce takes
the decision of R52; an unset clock takes its time at once, a time within the uncertainty changes no ledger time. TIME_STEP_APPLY of
a step approved before steps the ledger time at a meter frame boundary (R53). When the nonce is spent is the model's reading (log 17). -/
def Obligations.LedgerTimeIsStated : Prop :=
  ∀ (s : State) (j : Nat) (x : Job),
    (runnable s j 0x8010 = some x → Yields (.timeNonce j) s (fun t => Recorded j (okBytes (freeBytes s 16)) t ∧
      ∃ kept, t.time.nonces = kept ++ [(freeBytes s 16, s.time.L)] ∧ kept.length ≤ 3 ∧ ∀ e ∈ kept, e ∈ s.time.nonces ∧ s.time.L < e.2 + nonceLife)) ∧
    (∀ e k, openable s j 0x8011 = some x → stmtOk s x.input = true →
      s.time.nonces.find? (fun e => decide (e.1 = (stmtOf x.input).nonce ∧ s.time.L < e.2 + nonceLife)) = some e →
      timeKey s (stmtOf x.input).handle (stmtOf x.input).alg = some k →
      Does (.timeStatement j) s (if sigHolds (stmtOf x.input).alg (timeKeyBytes k) (x.input.take 64) (x.input.drop 64) = true then
          decideStmt j x (stmtOf x.input) e.2 { s with time := { s.time with nonces := s.time.nonces.filter (fun q => decide (q.1 ≠ (stmtOf x.input).nonce)) } }
        else endJob j 0x5031 0 0 0 s)) ∧
    (∀ st issue target, s.jobOf j = some x → st.step = false → target = fieldSigned 64 (st.asserted + (s.time.L - issue) * 8192 / 1000 / 2) →
      (s.time.quality = .unset → (ledgerFloorUs s : Int) ≤ target →
        (decideStmt j x st issue s).time.ledgerUs = target.toNat ∧ (decideStmt j x st issue s).time.quality = .set) ∧
      (s.time.quality ≠ .unset → (target - s.time.ledgerUs).natAbs ≤ st.unc + (s.time.L - issue) * 8192 / 1000 / 2 →
        (decideStmt j x st issue s).time.ledgerUs = s.time.ledgerUs ∧ (decideStmt j x st issue s).time.quality = .set)) ∧
    (∀ q, s.time.stepReq = some q → (approveStep q.job s).time.stepReq = none ∧
      (approveStep q.job s).time.stepDue = s.time.stepDue ++ [{ q with approvedL := some s.time.L }]) ∧
    (∀ q rest l, s.time.stepDue = q :: rest → q.approvedL = some l → l < s.time.L → s.time.L % 128 = 0 → s.time.genRunning = true →
      Yields .timeStepApply s (fun t => t.time.ledgerUs = signedField 64 (q.target + (q.elapsedPs / 1000000 : Nat)) ∧ t.time.quality = .set ∧
        t.time.stepped = true ∧ t.time.stepDue = rest ∧ ((s.jobOf q.job).isSome → Recorded q.job { status := 0 } t)))

/-- MESH_TUNNEL_IN counts every frame of its buffer as taken or refused, MESH_TUNNEL_OUT gives the whole frames that fit and keeps the rest
(R413); MESH_AGGREGATE joins its round with its mode, count and bitmap, or refuses a bitmap of fewer than three members, without this
device, or of unknown members (R420). -/
def Sys2Proof.Claims.TunnelsAndAggregation : Prop :=
  ∀ (s : State) (j : Nat) (x : Job),
    (runnable s j 0x9001 = some x → s.car.active.members.any (fun r => r.path == 4) = true →
      ∃ u a b, Does (.meshTunnelIn j) s (setResult j { status := 0, w0 := a, w1 := b } u) ∧
        a + b = (tunnelFrames (x.input.length / 8 + 1) x.input).length) ∧
    (∀ fs, runnable s j 0x9002 = some x → fs = takeFrames (min x.desc.outCap (maxOutput s)) s.msh.tunnel →
      Yields (.meshTunnelOut j) s (fun t => t.msh.tunnel = s.msh.tunnel.drop fs.length ∧ fs ++ t.msh.tunnel = s.msh.tunnel ∧
        Recorded j { status := 0, output := fs.flatMap tunnelBytes, w0 := fs.length, w1 := t.msh.tunnel.length } t)) ∧
    (∀ self back, runnable s j 0x9020 = some x → meshSelf s = some self → (bitmapMembers x.aux).contains self = true →
      3 ≤ (bitmapMembers x.aux).length → (bitmapMembers x.aux).all (fun m => m == self || (meshRec? s m).isSome) = true →
      s.roundOf (x.desc.par 48 8) = none →
      (x.desc.par 40 1 = 1 → Yields (.meshAggregate j back) s (fun t =>
        (t.roundOf (x.desc.par 48 8)).map (fun r => (r.job, r.mode, r.count, r.bitmap)) = some (some j, 1, x.desc.par 41 1, x.aux))) ∧
      (∀ h, x.desc.par 40 1 = 2 → heOf? s x.desc.handleA = some h → h.kind = 0 → Yields (.meshAggregate j back) s (fun t =>
        if h.digest = heDigest back then
          (t.roundOf (x.desc.par 48 8)).map (fun r => (r.job, r.mode, r.bitmap)) = some (some j, 2, x.aux)
        else Ended j t))) ∧
    (∀ back, runnable s j 0x9020 = some x → (bitmapMembers x.aux).length < 3 → Does (.meshAggregate j back) s (endJob j 0x2001 32 0 0 s))

/-- APPLET_STOP marks its world to stop at the next meter frame (R383); APPLET_MESSAGE queues its message, and a ninth ends NO_SLOT (R386). -/
def Sys2Proof.Claims.AppletJobs : Prop :=
  ∀ (s : State) (j w : Nat) (x : Job), w = x.desc.par 40 1 →
    (runnable s j 0xA002 = some x → (s.world w).stopDue = false →
      Yields (.appletStop j) s (fun t => (t.world w).stopDue = true ∧ (t.world w).stopJob = some j)) ∧
    (runnable s j 0xA003 = some x → (s.world w).queue.contains j = false → (s.world w).awaiting.any (fun m => m.job == j) = false →
      ((waiting s w).length < 8 → Yields (.appletMessage j) s (fun t => (t.world w).queue = (s.world w).queue ++ [j])) ∧
      (8 ≤ (waiting s w).length → Does (.appletMessage j) s (endJob j 0x4001 0 0 0 s)))

/-- LCS_TRANSITION to a listed state with its token asks, with its commit phase, for the transition, which programs its step byte and leaves the device
waiting for its reset; from the state that wants a quorum too it opens its request first; a transition the table does not list ends POLICY_DENIED, a wrong token
APPROVAL_BAD and changes nothing of the life cycle (R447, R451, R452). -/
def Sys2Proof.Claims.LifecycleTransitions : Prop :=
  ∀ (s : State) (j to_ : Nat) (x : Job), runnable s j 0xB001 = some x → to_ = x.desc.par 40 1 → awaiting s j = false → s.lcs.pendingReset = false →
    (∀ bits, x.approved = true → Does (.lcsTransition j bits) s (setResult j { status := 0, w0 := to_, effects := [.transition to_ bits] } s)) ∧
    (∀ i bits, nextStep s to_ = some i → x.approved = false →
      ((s.lcs.code ≠ 3 ∨ s.car.active.bare = true) → Yields (.lcsTransition j bits) s (fun t =>
        if tokenOk s (tokenOf s.lcs.code to_) x.input = true then t = setResult j { status := 0, w0 := to_, effects := [.transition to_ bits] } s
        else Ended j t ∧ t.lcs = s.lcs)) ∧
      (s.lcs.code = 3 → s.car.active.bare = false → openRequests s (cabOfFn s x.fn) < 16 → Yields (.lcsTransition j bits) s (fun t =>
        if tokenOk s (tokenOf s.lcs.code to_) x.input = true then Opened j 0xB001 [rosterFor s (cabOfFn s x.fn) (some rightCarcass)] s t
        else Ended j t ∧ t.lcs = s.lcs)) ∧
      Yields (.lcsTransition j bits) s (fun t => tokenOk s (tokenOf s.lcs.code to_) x.input = false → Ended j t ∧ t.lcs = s.lcs)) ∧
    (∀ i bits ok, nextStep s to_ = some i → (applyEffect j ok (.transition to_ bits) s).lcs.pendingReset = true ∧
      (applyEffect j ok (.transition to_ bits) s).lcs.otp = programStep i (2 ^ min 8 bits - 1) s.lcs.otp) ∧
    (∀ bits, nextStep s to_ = none → x.approved = false → Does (.lcsTransition j bits) s (endJob j 0x3002 40 0 0 s))

/-- DEBUG_CERT and DEBUG_RESPONSE grant, with their commit phase, rights within reach that force no zeroization, and end APPROVAL_BAD where a check of the
signer or of the bytes fails (R457, R458); DEBUG_CHALLENGE opens a fresh challenge with its state, serial and rights (R458). Who may ask for a challenge is the model's reading (log 57). -/
def Sys2Proof.Claims.DebugAuthorizations : Prop :=
  ∀ (s : State) (j : Nat) (x : Job),
    (openable s j 0xB002 = some x → certFormOk x.input = true →
      rightsWithin (certRights x.input) (rightsObtainable s.lcs.code) = true → forcedZeroize s (certRights x.input) = false →
      Yields (.debugCert j) s (fun t => if (certHere s x.input && debugKeyOk s x.input && debugSigOk x.input) = true then
        t.lcs = s.lcs ∧ Recorded j { status := 0, w0 := certRights x.input, effects := [.openRights (certRights x.input) 1 false] } t
        else Ended j t ∧ t.lcs = s.lcs)) ∧
    (∀ c, openable s j 0xB004 = some x → responseFormOk x.input = true → challengeOpen s = some c →
      rightsWithin (responseRights x.input) (rightsObtainable s.lcs.code &&& c.rights) = true → forcedZeroize s (responseRights x.input) = false →
      leAt x.input 8 8 = serialOf s →
      Yields (.debugResponse j) s (fun t =>
        if slice x.input 24 32 = digestBytes (Config.sha3 c.bytes) ∧ debugKeyOk s x.input = true ∧ debugSigOk x.input = true then
          Recorded j { status := 0, w0 := responseRights x.input, effects := [.openRights (responseRights x.input) 2 false] } t ∧ t.lcs.challenge = none
        else Ended j t ∧ t.lcs = s.lcs)) ∧
    (runnable s j 0xB003 = some x → Yields (.debugChallenge j) s (fun t => ∃ c, t.lcs.challenge = some c ∧ c.rights = x.desc.par 44 4 ∧
      c.issueL = s.time.L ∧ c.bytes.length = 96 ∧ slice c.bytes 8 8 = leBytes 8 (serialOf s) ∧ slice c.bytes 32 32 = freeBytes s 32 ∧
      Recorded j (okBytes c.bytes) t)) ∧
    (∀ rights source ok, (applyEffect j ok (.openRights rights source false) s).lcs = { s.lcs with rightsDue := some (rights, source) })

/-- EVENT_SNAPSHOT and JOURNAL_READ give whole 32-byte records from FROM on, in order, as many as OUT has room for, and acknowledge what they
gave where their flag asks (R471, R477). -/
def Sys2Proof.Claims.RecordsAreRead : Prop :=
  ∀ (s : State) (j room : Nat) (x : Job), room = min x.desc.outCap (maxOutput s) →
    (runnable s j 0xC001 = some x → bit (x.desc.par 44 1) 1 = false → Yields (.eventSnapshot j) s (fun t => ∃ r recs, Recorded j r t ∧ r.status = 0 ∧
      recs = (selected ((s.evt.ring ++ s.evt.replaced ++ s.evt.reserve).filter (fun r => seqBefore r.seq s.evt.mark)) (BitVec.ofNat 32 (x.desc.par 40 4))
        (x.desc.par 45 1)).take (room / 32) ∧
      r.output = recs.flatMap recordBytes ∧ r.w0 = recs.length ∧ (bit (x.desc.par 44 1) 0 = false → r.effects = []))) ∧
    (runnable s j 0xC002 = some x → Yields (.journalRead j) s (fun t => ∃ r recs, Recorded j r t ∧ r.status = 0 ∧
      recs = (selected (journalRecords s) (BitVec.ofNat 32 (x.desc.par 40 4)) (x.desc.par 45 1)).take (room / 32) ∧
      r.output = recs.flatMap recordBytes ∧ r.w0 = recs.length ∧
      (bit (x.desc.par 44 1) 0 = true → ∃ w, r.effects = [.ackJournal w] ∧ r.w1 = w.toNat)))

/-- SELFTEST of scope 4 sets FULL_NEXT_DAWN at once, the other scopes queue a run, a ninth waiting one ends NO_SLOT (R512 to R514);
POWER_POLICY gives the ceilings it will set (R503); NIGHT_ENTER closes admission, ends the jobs that have not reached their commit
phase and every open request, or answers CARCASS_BUSY (R500). -/
def Sys2Proof.Claims.TestsCeilingsAndNight : Prop :=
  ∀ (s : State) (j : Nat) (x : Job),
    (runnable s j 0xD001 = some x →
      (x.desc.par 40 1 = 4 → Does (.selftest j) s (setResult j { status := 0 } { s with bst := { s.bst with fullNext := true } })) ∧
      (x.desc.par 40 1 ≠ 4 → s.bst.waiting.any (fun r => r.job == some j) = false → s.bst.running.any (fun r => r.job == some j) = false →
        s.bst.waiting.length < 8 → Yields (.selftest j) s (fun t => ∃ r, t.bst.waiting = s.bst.waiting ++ [r] ∧ r.job = some j ∧
          r.scope = x.desc.par 40 1 ∧ r.todo = mapParts (x.desc.par 44 4)))) ∧
    (runnable s j 0xD002 = some x → Yields (.powerPolicy j) s (fun t => ∃ r, Recorded j r t ∧ r.status = 0 ∧ r.effects = [.ceiling (x.desc.par 40 1)])) ∧
    (runnable s j 0xD003 = some x → nightBusy s = true → Does (.nightEnter j) s (endJob j 0x6010 0 0 0 s)) ∧
    (runnable s j 0xD003 = some x → nightBusy s = false → Yields (.nightEnter j) s (fun t => t.pwr.nightJob = some (j, s.time.L) ∧
      t.orr.admitOpen = false ∧ t.dov.reqs = [] ∧ t.wld.cur = none ∧ t.pwr.wakeDelay = x.desc.par 48 4 ∧
      ∀ e ∈ liveJobs s, e.1 ≠ j → inCommit e.2 = false → Ended e.1 t))

/-- FIRMWARE_STAGE of a valid image above the running sequence, and an approved FIRMWARE_COMMIT, begin the write of their region; an
image that fails a check is refused (R492, R493); FIRMWARE_RESET ends the run at an orbit boundary, for cause 3. What the checks cover is in log 54. -/
def Sys2Proof.Claims.FirmwareIsStagedAndCommitted : Prop :=
  ∀ (s : State) (j : Nat) (x : Job),
    (runnable s j 0xD010 = some x → s.pwr.write = none → Yields (.firmwareStage j) s (fun t =>
      if fwStagedOk s x.input = true ∧ runningSeq s (fwKind x.input) < fwSeq x.input then
        t.pwr.write.map (fun w => (w.job, w.place, w.image)) = some (j, 4, x.input) else Ended j t ∧ t.pwr = s.pwr)) ∧
    (runnable s j 0xD011 = some x → s.pwr.write = none → awaiting s j = false →
      (x.approved = true ∨ s.car.site = none → Yields (.firmwareCommit j) s (fun t => if fwStagedOk s s.pwr.staging = true then
        t.pwr.write.map (fun w => (w.job, w.place, w.image)) = some (j, commitPlace s (fwKind s.pwr.staging), s.pwr.staging)
        else Ended j t ∧ t.pwr = s.pwr)) ∧
      (x.approved = false → s.car.site ≠ none → openRequests s (cabOfFn s x.fn) < 16 →
        Yields (.firmwareCommit j) s (Opened j 0xD011 [rosterFor s 0 (some rightCarcass)] s))) ∧
    (s.pwr.resetAtOrbit = true → s.time.genRunning = true → s.time.L % 2 ^ 20 = 0 → Yields .firmwareReset s (fun t =>
      t.pwr.cause = some 3 ∧ t.time.genRunning = false ∧ t.lcs.otp = s.lcs.otp ∧ t.evt.ring = s.evt.ring ∧ t.job.nextJob = 0))

/-! ### Tiles, sources and the DRBG (CIPHER, RANDOM) -/

/-- A parity error takes a tile out of capacity and ends the jobs that run on it and have not reached their commit phase (R250).
A channel's raw bits go through the von Neumann stage and the XOR of pairs, a pair's are samples (R310, R311); the sample that fills a window of a source that passed, or whose
start-up is over, closes it, and its blocks, two of a channel and one of a pair, are to be credited (R312, R316); one that fails a health test counts, and the third of an orbit fails
the source (R314, R317). -/
def Sys2Proof.Claims.TilesAndSourcesFail : Prop :=
  ∀ (s : State), s.glb.phase = .run →
    (∀ t bank, allTiles.contains t = true → (s.tile t).parityOut = false → Yields (.tileParityError t bank) s (fun u =>
      (u.tile t).parityOut = true ∧ ∀ e ∈ liveJobs s, e.2.tile = some t → e.2.st = .running → inCommit e.2 = false → Ended e.1 u)) ∧
    (∀ n b o x, sourceNumbers.contains n = true → s.rng.running = true → x = sourceOf s n → x.failed = false → x.tap = none →
      ((16 ≤ n ∧ o = b) ∨ (n < 16 ∧ ∃ a c, x.half = some a ∧ x.vn = some c ∧ a ≠ b ∧ o = (c != a))) →
      (sampleFault n (addSample o x) = none → x.win.length = 1023 → x.tainted = false → (x.passed = true ∨ n < 16 ∨ 16 ≤ x.transits) →
        Yields (.sourceWindowClose ⟨n, [b]⟩) s (fun u => (sourceOf u n).passed = true ∧ (sourceOf u n).win = [] ∧
          u.rng.credits = s.rng.credits ++ conditioned n (o :: x.win).reverse)) ∧
      (∀ test, sampleFault n (addSample o x) = some test →
        Yields (.rngHealthIntermittent n [b]) s (fun u => (sourceOf u n).faults = x.faults + 1 ∧ (sourceOf u n).lastTest = test ∧ (sourceOf u n).win = [] ∧
          u.rng.credits = s.rng.credits ∧ (sourceOf u n).failed = decide (3 ≤ x.faults + 1 ∨ x.passed = false)))) ∧
    (∀ n b a, n < 4 → s.rng.running = true → (sourceOf s n).half = some a →
      (b = a → Does (.sourceWindowClose ⟨n, [b]⟩) s (modSource n (fun x => { x with half := none }) s)) ∧
      (b ≠ a → (sourceOf s n).vn = none → Does (.sourceWindowClose ⟨n, [b]⟩) s (modSource n (fun x => { x with half := none, vn := some a }) s)))

/-- The DRBG: instantiated once the pool holds 384 bits (R319), reseeded where L is a multiple of 64 or where a block ends, blocked after 1,024
transits without a reseed (R320), and blocked until the next Dawn by a failed known-answer test (R322). -/
def Sys2Proof.Claims.TheDrbgIsSeededAndBlocked : Prop :=
  ∀ (s : State),
    (s.rng.running = true → s.rng.ready = false → s.rng.katFailed = false → 384 ≤ poolFree s → Yields .drbgInstantiate s (fun t =>
      t.rng.ready = true ∧ t.rng.blocked = false ∧ t.rng.reseeds = 0 ∧ t.rng.takeDue = s.rng.takeDue + 384)) ∧
    (s.rng.ready = true → s.rng.katFailed = false → s.rng.lastReseedL ≠ s.time.L → (s.time.L % 64 = 0 ∨ s.rng.blocked = true) →
      (384 ≤ poolFree s → Yields .drbgReseed s (fun t => t.rng.blocked = false ∧ t.rng.lastReseedL = s.time.L ∧
        t.rng.takeDue = s.rng.takeDue + 384 ∧ t.rng.reseeds = (s.rng.reseeds + 1) % 2 ^ 32)) ∧
      (poolFree s < 384 → s.time.L % 64 = 0 → Yields .drbgReseed s (fun t => t.rng.overdue = true ∧ t.rng.blocked = s.rng.blocked))) ∧
    (s.rng.ready = true → s.rng.blocked = false →
      (s.rng.lastReseedL + 1024 ≤ s.time.L → Yields .drbgBlocked s (fun t => t.rng.blocked = true ∧ t.rng.blockedL = s.time.L)) ∧
      (s.time.L < s.rng.lastReseedL + 1024 → Does .drbgBlocked s s)) ∧
    (∀ cause, s.glb.phase = .run → s.rng.katFailed = false → Yields (.drbgKatFailed cause) s (fun t =>
      t.rng.katFailed = true ∧ t.rng.blocked = true ∧ t.glb.katFailed = true))

/-! ### Meter lanes (METER) -/

/-- A cycle of a polled lane: LANE_CYCLE_START sends the request of its slot with the next SEQ (R334), a response that is not clean or does not
come counts as LINE or TIMEOUT and fails the attempt (R335, R336), LANE_RETRY sends the second attempt at transit 2n + 64. -/
def Sys2Proof.Claims.LaneCyclesRun : Prop :=
  ∀ (s : State) (n : Nat), 
    (lanesPolled s = true → lanePolled s n = true → s.time.L % 128 = 2 * n → (s.lane n).cycle = none → Yields (.laneCycleStart n) s (fun t =>
      (t.lane n).cycle.map (fun c => (c.frame, c.attempt, c.failed, c.identify)) = some (s.time.L / 128, 1, false, identifyCycle s n) ∧
      (t.lane n).seq = ((s.lane n).seq + 1) % 65536 ∧ Out.meterFrame n (lineChips (requestFrame n (s.lane n).seq (identifyCycle s n))) ∈ t.out)) ∧
    (∀ c bs, (s.lane n).cycle = some c → c.failed = false → c.resp = none →
      (Yields (.laneResponseTimeout n) s (fun t => (t.lane n).cycle = some { c with failed := true } ∧
        (t.lane n).errors.getD 0 0 = saturate 8 ((s.lane n).errors.getD 0 0 + 1))) ∧
      (∀ m, (m = .reading n false bs ∨ m = .identity n false bs) → Yields m s (fun t => (t.lane n).cycle = some { c with failed := true } ∧
        (t.lane n).errors.getD 1 0 = saturate 8 ((s.lane n).errors.getD 1 0 + 1)))) ∧
    (∀ c, (s.lane n).cycle = some c → lanesPolled s = true → lanePolled s n = true → c.failed = true → c.attempt = 1 →
      s.time.L = c.frame * 128 + 2 * n + 64 → Yields (.laneRetry n) s (fun t =>
        (t.lane n).cycle.map (fun d => (d.frame, d.attempt, d.failed)) = some (c.frame, 2, false) ∧
        (t.lane n).seq = ((s.lane n).seq + 1) % 65536 ∧ Out.meterFrame n (lineChips (requestFrame n (s.lane n).seq c.identify)) ∈ t.out))

/-- READING and IDENTITY that pass the checks of R336 keep what they report for the lane's decision point; PULSE counts on a lane whose record uses
pulses, once the lane counts (R340). -/
def Sys2Proof.Claims.LanesReportAndCount : Prop :=
  ∀ (s : State) (n : Nat),
    (∀ c bs p, (s.lane n).cycle = some c → c.failed = false → c.resp = none →
      checkResponse n (((s.lane n).seq + 65535) % 65536) c.identify bs = .ok p →
      (c.identify = false → Yields (.reading n true bs) s (fun t => (t.lane n).cycle = some { c with resp := some p } ∧
        (t.lane n).repImp = leAt p 2 8 ∧ (t.lane n).repExp = leAt p 10 8)) ∧
      (c.identify = true → Yields (.identity n true bs) s (fun t => (t.lane n).cycle = some { c with resp := some p } ∧
        (t.lane n).repId = slice p 0 16 ∧ (t.lane n).repFw = leAt p 16 2 ∧ (t.lane n).repPc = leAt p 18 2))) ∧
    (pulseUsed s n = true → lanesPolled s = true → (s.lane n).counting = true →
      Yields (.pulse n) s (fun t => (t.lane n).pulses = ((s.lane n).pulses + 1) % 2 ^ 32)) ∧
    (pulseUsed s n = false → Does (.pulse n) s s)

/-- DECISION_POINT (R337, R341): a reading that passes every check is accepted and handed over, a reading that fails one puts the lane in SUSPECT with
its cause, a missed POLL cycle counts and the eighth in a row silences the lane. LANE_JOIN starts a join in the lane's slot (R349);
LANE_BABBLING freezes the lane and taints its ledger (R348). Which cycles count as missed is the model's reading (log 44). -/
def Sys2Proof.Claims.LanesAreDecidedJoinedAndFrozen : Prop :=
  ∀ (s : State) (n : Nat), n < 48 → lanesPolled s = true →
    (∀ c, s.time.genStopped = false → (s.lane n).cycle = some c → s.time.L = c.frame * 128 + 2 * n + 96 → c.identify = false →
      (laneLdg s n).closeDue = none →
      (∀ p, laneGood s n = true → c.resp = some p → (s.lane n).power = some (leAt p 18 4) → (s.lane n).st = .live → hasJoined (s.lane n) = true →
        readingCause (laneLdg s n).view (s.lane n) c (leAt p 0 2) (leAt p 2 8) (leAt p 10 8) true = none →
        Yields (.decisionPoint n) s (fun t => (t.lane n).cycle = none ∧ (t.lane n).lastFrame = some c.frame ∧ (t.lane n).missed = 0 ∧
          (laneLdg t n).view.meterImp = leAt p 2 8 ∧ (laneLdg t n).view.meterExp = leAt p 10 8)) ∧
      (∀ p cause, c.resp = some p → (s.lane n).power = some (leAt p 18 4) → (s.lane n).st = .live →
        readingCause (laneLdg s n).view (s.lane n) c (leAt p 0 2) (leAt p 2 8) (leAt p 10 8) (hasJoined (s.lane n)) = some cause →
        Yields (.decisionPoint n) s (fun t => (t.lane n).cycle = none ∧ (t.lane n).st = .suspect ∧ (t.lane n).cause = cause ∧
          (laneLdg t n).view.meterImp = (laneLdg s n).view.meterImp)) ∧
      (c.resp = none → (s.lane n).st = .live → Yields (.decisionPoint n) s (fun t => (t.lane n).cycle = none ∧
        (t.lane n).missed = (s.lane n).missed + 1 ∧
        ((s.lane n).missed + 1 < 8 → (t.lane n).st = .live) ∧ (8 ≤ (s.lane n).missed + 1 → (t.lane n).st = .suspect ∧ (t.lane n).cause = 1)))) ∧
    (∀ f, (s.lane n).joinFrom = some f → (laneRec? s n).isSome = true → f ≤ s.time.L / 128 → s.time.L % 128 = 2 * n →
      Yields (.laneJoin n) s (fun t => (t.lane n).joinFrom = none)) ∧
    ((laneRec? s n).isSome = true → isFrozen s 4 n = false → (s.lane n).joinFrom = none → Yields (.laneBabbling n) s (fun t =>
      (t.lane n).st = .frozen ∧ isFrozen t 4 n = true ∧ (laneLdg t n).view.tainted = true))

/-! ### Worlds and core pairs (WORLDS) -/

/-- The monitor's calls of a world that runs now (R384 to R386): YIELD idles the rest of the run, MSG_RECV gives the inbox's message once and EMPTY
otherwise, MSG_DONE frees the inbox, L_NOW gives L. LEDGER_VIEW and TIME write their bytes to a buffer the world may write. -/
def Sys2Proof.Claims.MonitorCalls : Prop :=
  ∀ (s : State) (w : Nat), calls s w = true →
    Yields (.yield w) s (fun t => t.wld.yielded = true ∧ (t.world w).a0 = 0) ∧
    (∀ m, (s.world w).inbox = some m → (s.world w).taken = false → Yields (.msgRecv w) s (fun t => (t.world w).a0 = 0 ∧
      (t.world w).a1 = m.len ∧ (t.world w).a2 = m.seq ∧ (t.world w).taken = true)) ∧
    ((s.world w).inbox = none ∨ (s.world w).taken = true → Yields (.msgRecv w) s (fun t => (t.world w).a0 = 1 ∧
      (t.world w).inbox = (s.world w).inbox)) ∧
    Yields (.msgDone w) s (fun t => (t.world w).a0 = 0 ∧ (t.world w).inbox = none) ∧
    Yields (.lNow w) s (fun t => (t.world w).a0 = 0 ∧ (t.world w).a1 = s.time.L) ∧
    (∀ buf, bufferOk s w buf 32 = true → Yields (.time w buf) s (fun t => (t.world w).a0 = 0 ∧
      t.wld.mem = (worldWrite w buf (leBytes 8 s.time.ledgerUs ++ leBytes 8 (timeStatus s.time) ++ leBytes 8 s.ldg.closed ++ leBytes 8 (periodUs s)) s).wld.mem)) ∧
    (∀ lane buf, bufferOk s w buf 64 = true →
      (s.car.active.lanes.any (fun l => l.lane == lane && some l.cab == (appletRec? s w).map (·.cab)) = true →
        Yields (.ledgerView w lane buf) s (fun t => (t.world w).a0 = 0 ∧ t.wld.mem = (worldWrite w buf (ledgerView s lane) s).wld.mem)) ∧
      (s.car.active.lanes.any (fun l => l.lane == lane && some l.cab == (appletRec? s w).map (·.cab)) = false →
        Yields (.ledgerView w lane buf) s (fun t => (t.world w).a0 = 2 ∧ t.wld.mem = s.wld.mem)))

/-- MSG_SEND answers the oldest message without a reply with the first bytes of the outbox (R386); a length above 4,088 answers 3, no message 2. -/
def Sys2Proof.Claims.MessagesAreAnswered : Prop :=
  ∀ (s : State) (w len : Nat) (out : List Byte), calls s w = true →
    (∀ m rest x, 0 < len → len ≤ 4088 → (s.world w).awaiting = m :: rest → s.jobOf m.job = some x → x.finished = false → len ≤ x.desc.outCap →
      Yields (.msgSend w len out) s (fun t => (t.world w).a0 = 0 ∧ (t.world w).awaiting = rest ∧
        Recorded m.job { status := 0, output := (out ++ zeros len).take len, w0 := len } t)) ∧
    (4088 < len → Yields (.msgSend w len out) s (fun t => (t.world w).a0 = 3 ∧ (t.world w).awaiting = (s.world w).awaiting)) ∧
    (0 < len → len ≤ 4088 → (s.world w).awaiting = [] → Yields (.msgSend w len out) s (fun t => (t.world w).a0 = 2))

/-- World memory changes only at the bytes written: after TIME, LEDGER_VIEW, MSG_SEND or MESSAGE_DELIVERY every physical byte that is not the place of a
byte of the written range, under the world's own entries, reads as before. -/
def Obligations.WorldMemoryFrame : Prop :=
  ∀ (s t : State) (c : Instr) (w base len a : Nat), Memory.wf s.wld.mem = true →
    ((c = .time w base ∧ len = 32) ∨ (∃ lane, c = .ledgerView w lane base ∧ len = (ledgerView s lane).length) ∨
      (∃ n out, c = .msgSend w n out ∧ base = outboxAddr (s.world w) ∧ len = (out.take 4096).length) ∨
      (∃ j rest, c = .messageDelivery w ∧ waiting s w = j :: rest ∧ base = inboxAddr (s.world w) ∧ len = (((s.jobOf j).map (·.input)).getD []).length)) →
    exec c s = .next t →
    (∀ i p e, i < len → vpageEntry s w ((base + i) / 4096) = some (p, e) → p * 4096 + (base + i) % 4096 ≠ a) →
    Memory.read t.wld.mem a = Memory.read s.wld.mem a

/-- A call outside the table and an access its entries do not permit freeze the world, with their cause (R375, R384); an access they permit changes
nothing. -/
def Sys2Proof.Claims.WorldViolationsFreeze : Prop :=
  ∀ (s : State) (w addr : Nat), calls s w = true → isFrozen s 2 w = false →
    (∀ number, (number = 0 ∨ 7 < number) → Yields (.badCall w number addr) s (fun t => (t.world w).st = .frozen ∧ isFrozen t 2 w = true ∧
      ∃ z ∈ t.job.freezes, z.kind = 2 ∧ z.number = w ∧ z.cause = 0x13 ∧ z.addr = addr)) ∧
    (∀ kind, permits s w kind addr = false → Yields (.worldViolation w (some kind) addr) s (fun t => (t.world w).st = .frozen ∧
      ∃ z ∈ t.job.freezes, z.kind = 2 ∧ z.number = w ∧ z.cause = accessCause kind ∧ z.addr = addr)) ∧
    (∀ kind, permits s w kind addr = true → Does (.worldViolation w (some kind) addr) s s) ∧
    Yields (.worldViolation w none addr) s (fun t => (t.world w).st = .frozen ∧ ∃ z ∈ t.job.freezes, z.kind = 2 ∧ z.number = w ∧ z.cause = 0x14)

/-- Worlds start, stop and take messages: WORLD_SWITCH gives pair 1 the world of its quantum (R382), APPLET_RUN runs a loaded world and WORLD_STOP stops one
at a meter frame boundary (R381, R383), MESSAGE_DELIVERY puts the oldest message in a free inbox, MESSAGE_TIMEOUT ends one without a reply for an orbit (R386). -/
def Sys2Proof.Claims.WorldsRunAndStop : Prop :=
  ∀ (s : State) (w : Nat),
    (∀ q, monitorUp s = true → runBoundary s q = true → Yields (.worldSwitch q) s (fun t => t.wld.yielded = false ∧
      t.wld.cur = (worldAt s q).filter (fun w => (s.world w).st == .running))) ∧
    ((s.world w).st = .loading → (s.world w).stored = true → s.time.L % 128 = 0 → s.time.genRunning = true → keeperAbsent s = false → isFrozen s 2 w = false → Yields (.appletRun w) s (fun t =>
      (t.world w).st = .running ∧ (t.world w).loadJob = none ∧
      ∀ j, (s.world w).loadJob = some j → (s.jobOf j).isSome → Recorded j { status := 0 } t)) ∧
    ((s.world w).stopDue = true → s.time.L % 128 = 0 → s.time.genRunning = true → Yields (.worldStop w) s (fun t =>
      (t.world w).st = .stopped ∧ (t.world w).pages = [] ∧ (t.world w).stopDue = false ∧
      ∀ j, (s.world w).stopJob = some j → (s.jobOf j).isSome → Recorded j { status := 0 } t)) ∧
    (∀ j rest, waiting s w = j :: rest → (s.world w).inbox = none → keeperAbsent s = false → (s.world w).st = .running →
      Yields (.messageDelivery w) s (fun t => (t.world w).queue = rest ∧ (t.world w).inbox.map (fun m => (m.job, m.L)) = some (j, s.time.L) ∧
        (t.world w).awaiting.length = (s.world w).awaiting.length + 1)) ∧
    (∀ m, m ∈ (s.world w).awaiting → m.L + 2 ^ 20 ≤ s.time.L → Yields (.messageTimeout w) s (fun t => m ∉ (t.world w).awaiting ∧
      ((s.jobOf m.job).isSome → Ended m.job t)))

/-- The core pairs (R387 to R392): a mismatch takes a pair down, a probe that does not answer 01 within 4 cycles makes its comparator dead, a restart begins,
completes or fails after an orbit; a dead comparator puts the device in HOLD at the next boundary; four orbits without Keeper close admission, and its return
opens it again unless the orbit counter has worn out (R40). -/
def Obligations.CorePairs : Prop :=
  ∀ (s : State) (p : Nat), p < 2 →
    (∀ cause, (pairOf s p).up = true → Yields (.lockstepMismatch p cause) s (fun t => (pairOf t p).up = false)) ∧
    (∀ cause, s.glb.phase = .run → (pairOf s p).dead = false → Yields (.comparatorDead p cause) s (fun t => (pairOf t p).dead = true ∧
      t.wld.holdDue.isSome = true)) ∧
    (s.time.L % 2 ^ 20 = 2 ^ 19 → (pairOf s p).up = true → (pairOf s p).dead = false →
      (∀ cycles, cycles ≤ 4 → Does (.comparatorProbe p 1 cycles) s s) ∧
      (∀ rail cycles, (rail ≠ 1 ∨ 4 < cycles) → Yields (.comparatorProbe p rail cycles) s (fun t => (pairOf t p).dead = true))) ∧
    ((pairOf s p).up = false → (pairOf s p).restartL = none → s.glb.phase = .run → umbral s = false → (s.glb.hold = false ∨ p = 0) →
      (∀ l, (pairOf s p).downL = some l → l < s.time.L) → Yields (.pairRestart p) s (fun t =>
      (pairOf t p).restartL = some s.time.L ∧ (pairOf t p).attempts = saturate 16 ((pairOf s p).attempts + 1))) ∧
    (∀ bad, (pairOf s p).restartL ≠ none → Yields (.pairRestartComplete p bad) s (fun t => (pairOf t p).up = true ∧ (pairOf t p).restartL = none)) ∧
    (∀ l, (pairOf s p).restartL = some l → l + 2 ^ 20 ≤ s.time.L → Yields (.pairRestartTimeout p) s (fun t => (pairOf t p).restartL = none ∧
      (pairOf t p).up = (pairOf s p).up)) ∧
    (keeperAbsent s = true → 2 ^ 22 ≤ absentTransits s → s.orr.admitOpen = true → Yields .keeperAbsentClose s (fun t =>
      t.orr.admitOpen = false ∧ t.glb.keeperClosed = true)) ∧
    (s.glb.keeperClosed = true → keeperAbsent s = false → Yields .admissionReopen s (fun t =>
      t.orr.admitOpen = (!s.glb.counterWorn && !s.time.genStopped) ∧ t.glb.keeperClosed = false)) ∧
    (∀ l, s.wld.holdDue = some l → l < s.time.L → s.time.genRunning = true → Yields .holdEntry s (fun t => t.glb.hold = true ∧
      t.wld.holdLatched = true ∧ t.wld.holdDue = none ∧ t.wld.pair1.up = false ∧ ∀ e ∈ liveJobs s, inCommit e.2 = false → Ended e.1 t))

/-! ### The mesh (MESH) -/

/-- A frame of each type, on its member's port and good by R399 and R400: one in the clear has its message's effect; a sealed one has it where
its seal opens, counts as TAG where it does not or no key of its epoch stands, and freezes the peer where its counter was used (R400, R401, R406). The parameters of the frame check and the answer to an unknown epoch are the model's (logs 9, 48). -/
def Obligations.MeshFramesHaveTheirEffect : Prop :=
  ∀ (s : State) (port m type rx : Nat) (b : List Byte) (x : Member) (c : Instr),
    ((c = .hello port b ∧ type = 0x01) ∨ (c = .keyInit port b ∧ type = 0x02) ∨ (c = .keyReply port b ∧ type = 0x03) ∨ (c = .keyConfirm port b ∧ type = 0x04) ∨
      (c = .heartbeat port rx b ∧ type = 0x10) ∨ (c = .credit port b ∧ type = 0x11) ∨ (c = .sharePut port b ∧ type = 0x20) ∨ (c = .shareAck port b ∧ type = 0x21) ∨
      (c = .shareCommit port b ∧ type = 0x22) ∨ (c = .shareRequest port b ∧ type = 0x23) ∨ (c = .shareRelease port b ∧ type = 0x24) ∨
      (c = .shareRefuse port b ∧ type = 0x25) ∨ (c = .shareProbe port b ∧ type = 0x26) ∨ (c = .shareDrop port b ∧ type = 0x27) ∨
      (c = .aggOffer port b ∧ type = 0x30) ∨ (c = .aggShare port b ∧ type = 0x31) ∨ (c = .aggPartial port b ∧ type = 0x32) ∨ (c = .aggCipher port b ∧ type = 0x33)) →
    Arrives s port m type b x →
    (bit (frameHdr b).flags 0 = false →
      Does c s (taken m port (if type = 0x10 then rx % 24576 else 0) (frameHdr b) (slice b 24 (frameHdr b).len) (bufferUsed m type s))) ∧
    (bit (frameHdr b).flags 0 = true → rxKey x (frameHdr b).epoch = none → Does c s (tagFailed m port (bufferUsed m type s))) ∧
    (∀ key last old sealed, bit (frameHdr b).flags 0 = true → rxKey x (frameHdr b).epoch = some (key, last, old) → sealed = slice b 24 ((frameHdr b).len + 16) →
      Does c s (if gcmOpens key (frameNonce (frameHdr b).counter (frameHdr b).epoch) (b.take 24) sealed = false then tagFailed m port (bufferUsed m type s)
        else if (frameHdr b).counter ≤ last then freezePeer m 0x21 (bufferUsed m type s)
        else taken m port (if type = 0x10 then rx % 24576 else 0) (frameHdr b) (gcmPlain key (frameNonce (frameHdr b).counter (frameHdr b).epoch) (b.take 24) sealed)
          (modMember m (heard (frameHdr b) old s.time.L) (bufferUsed m type s))))

/-- What a message does to a link: HELLO resets it (R401, R405), KEY_INIT at the responder keeps the keys it derives, KEY_REPLY and KEY_CONFIRM that
verify make the link LIVE under the new epoch and abandon the keying where they do not (R407, R408), HEARTBEAT keeps what the peer advertises (R409, R411). The reset of credits by a HELLO is the model's reading (log 48). -/
def Obligations.LinkMessages : Prop :=
  ∀ (s : State) (m epoch : Nat) (p : List Byte) (x : Member), s.memberOf m = some x →
    (mayKey s = false → (onHello m p s).memberOf m = some { x with
      helloSerial := some (leAt p 0 8), credits := 32, freed := 0, queue := [] }) ∧
    (mayKey s = true → ((onHello m p s).memberOf m).map (fun y => (y.helloSerial, y.st)) =
      some (some (leAt p 0 8), if x.st = .down ∨ x.st = .lost then .keying else x.st)) ∧
    (mayKey s = true → m < (meshSelf s).getD 0 →
      ((onKeyInit m epoch p s).memberOf m).map (fun y => (y.keying.map (·.epoch))) =
        some (if x.helloSerial ≠ some (serialOfMember s m) ∨ Config.standardHolds 0x4002 [2] [p.drop 64] = false ∨ allZero (xShared (slice (freeBytes s 96) 32 32) (slice p 32 32)) = true
          then none else some epoch)) ∧
    (∀ k, mayKey s = true → (meshSelf s).getD 0 < m → x.keying = some k → k.epoch = epoch →
      ((onKeyReply m epoch p s).1.memberOf m).map (fun y => (y.keying.isSome, y.link.map (·.epoch))) =
        some (if idVerifies s m (transcript epoch (serialOf s) (serialOfMember s m) k.init p) 0x52 (slice p 1152 1952) (slice p 3104 3309) = true ∧
            allZero (xShared k.x (slice p 32 32)) = false
          then (false, some epoch) else (false, x.link.map (·.epoch)))) ∧
    (∀ k, mayKey s = true → m < (meshSelf s).getD 0 → x.keying = some k → k.epoch = epoch →
      ((onKeyConfirm m epoch p s).1.memberOf m).map (fun y => (y.keying.isSome, y.link.map (fun l => (l.epoch, l.tx, l.rx)))) =
        some (if idVerifies s m k.digest 0x49 (p.take 1952) (p.drop 1952) = true then (false, some (epoch, k.keys.drop 32, k.keys.take 32))
          else (false, x.link.map (fun l => (l.epoch, l.tx, l.rx))))) ∧
    (∀ rx, ((onHeartbeat m rx p s).memberOf m).map (fun y => (y.lastSeq, y.lastPhase, y.adv)) =
      some (leAt p 20 4, if pathOf s m < 4 then rx else 0xFFFFFFFF, some (byteAt p 24, byteAt p 25, fieldSigned 32 (leAt p 28 4))))

/-- What a custody message does: a share put is stored while SERVICE and the store allow it, an acknowledgement of the set under rotation counts once, a commit marks
the set, a drop erases it, a refused share leaves the restore short and ends it where t can no longer be had; a share released to a restore joins it
(R414 to R418). What the spec leaves to the reader is in log 50. -/
def Sys2Proof.Claims.CustodyMessages : Prop :=
  ∀ (s : State) (m : Nat) (p : List Byte),
    (mayCustody s = true → s.msh.shareKey.isSome = true → s.msh.shares.length < 16384 →
      ∃ slot, { shareOf s m p with slot := slot, nonce := freeBytes s 12 } ∈ (onSharePut m p s).msh.shares) ∧
    (mayCustody s = false → onSharePut m p s = s) ∧
    (∀ rot, (s.custodyOf (byteAt p 0)).rot = some rot → rot.gen = leAt p 4 4 → (holdersFor s (byteAt p 0)).contains m = true →
      ((onShareAck m p s).custodyOf (byteAt p 0)).rot = some (if rot.acks.contains m then rot else { rot with acks := rot.acks ++ [m] })) ∧
    (∀ e ∈ s.msh.shares, e.owner = m → e.cab = byteAt p 0 → e.gen = leAt p 4 4 → { e with committed := true } ∈ (onShareCommit m p s).msh.shares) ∧
    (∀ e ∈ (onShareDrop m p s).msh.shares, e ∈ s.msh.shares ∧ ¬(e.owner = m ∧ e.cab = byteAt p 0 ∧ e.gen = leAt p 4 4)) ∧
    (∀ r, s.msh.restores.find? (fun r => r.cab == byteAt p 0 && r.holders.contains m) = some r → r.refused.contains m = false →
      r.holders.length < r.t + (r.refused.length + 1) → (s.jobOf r.job).isSome → Ended r.job (onShareRefuse m p s)) ∧
    (∀ r, s.msh.restores.find? (fun r => r.cab == byteAt p 0 && r.holders.contains m) = some r → (r.shares.any (fun d => d.x == m + 1)) = false →
      leAt p 2 2 = m + 1 → (r.wanted = 0 ∨ r.wanted = leAt p 4 4) →
      onShareRelease m p s = tryRestore { r with shares := r.shares ++ [shareOf s ((meshSelf s).getD 0) p] }
        { s with msh := { s.msh with restores := s.msh.restores.map (fun q => if q.job = r.job then { r with shares := r.shares ++ [shareOf s ((meshSelf s).getD 0) p] } else q) } }) ∧
    (keeperAbsent s = false → devState s = .service → onShareProbe m p s = sendMsg m (if (readable s).any (fun e => e.owner == m && e.cab == byteAt p 0 && e.gen == leAt p 4 4) = true then 0x21 else 0x25)
      (if (readable s).any (fun e => e.owner == m && e.cab == byteAt p 0 && e.gen == leAt p 4 4) = true then setPayload (byteAt p 0) (leAt p 4 4) else refusePayload (byteAt p 0) 1 (leAt p 4 4)) s) ∧
    (mayCustody s = true → (∀ e ∈ readable s, e.cab = byteAt p 0 → e.owner = m → False) → onShareRequest m p s =
      sendMsg m 0x25 (refusePayload (byteAt p 0) (if (readable s).any (fun e => e.cab == byteAt p 0) = true then 4 else 1) (leAt p 4 4)) s)

/-- What an aggregation message does to a round this device has not joined: an offer opens the round or replaces the peer's, and a share, a partial sum
and a ciphertext are kept for it, each the last of its sender (R420 to R422). AGG_ROUND_TIMEOUT drops a round that not every member joined an orbit after its first offer and ends its job. -/
def Sys2Proof.Claims.AggregationMessages : Prop :=
  ∀ (s : State) (m id : Nat) (p : List Byte), id = leAt p 0 8 →
    (s.roundOf id = none → (onAggOffer m p s).roundOf id = some { id := id, firstL := s.time.L, offers := [(m, byteAt p 8, byteAt p 9, slice p 16 32)] }) ∧
    (∀ r, s.roundOf id = some r → r.job = none →
      ((onAggShare m p s).roundOf id).map (·.shares) = some (r.shares.filter (fun e => e.1 != m) ++ [(m, bytesValues ((p.length - 8) / 8) (p.drop 8))]) ∧
      ((onAggPartial m p s).roundOf id).map (·.partials) = some (r.partials.filter (fun e => e.1 != m) ++ [(m, bytesValues ((p.length - 8) / 8) (p.drop 8))]) ∧
      ((onAggCipher m p s).roundOf id).map (fun r => r.ciphers.map (·.member)) = some ((r.ciphers.filter (fun e => e.member != m)).map (·.member) ++ [m])) ∧
    (∀ r, s.roundOf id = some r → r.firstL + 2 ^ 20 ≤ s.time.L → (r.job = none ∨ ∃ q ∈ peersOf s r, joined r q = false) → Yields (.aggRoundTimeout id) s (fun t => t.roundOf id = none ∧
      ∀ j, r.job = some j → (s.jobOf j).isSome → Ended j t))

/-- Timers and events of the mesh (R396 to R413): HELLO_TIMER sends the HELLO that is due, HEARTBEAT_SEND counts a heartbeat on every LIVE link at a multiple of 16,
MEMBER_LOST closes a link silent for 1,024 transits, REKEY begins a keying after 64 orbits, CREDIT_RETURN and MESSAGE_RESEND send what waits; PORT_LOCK_CHANGE
takes a named port's locks and a frame the FEC could not correct is counted. -/
def Obligations.MeshTimersAndPorts : Prop :=
  ∀ (s : State) (m : Nat) (x : Member), s.memberOf m = some x → meshUp s = true →
    (∀ l, mayKey s = true → (x.st = .down ∨ x.st = .lost ∨ x.st = .keying) → x.helloAt = some l → l ≤ s.time.L → Yields (.helloTimer m) s (fun t =>
      (t.memberOf m).map (fun y => (y.helloSent, y.credits, y.queue)) = some (true, 32, []))) ∧
    (∀ ph, s.time.genRunning = true → s.time.L % 16 = 0 → x.st = .live → (s.msh.members.filter (fun e => e.1 == m)).length = 1 → Yields (.heartbeatSend ph) s (fun t =>
      (t.memberOf m).map (·.seq) = some ((x.seq + 1) % 2 ^ 32))) ∧
    (x.st = .live → x.heardL + 1024 ≤ s.time.L → Yields (.memberLost m) s (fun t => (t.memberOf m).map (fun y => (y.st, y.link, y.queue)) = some (.lost, none, []))) ∧
    (∀ l, mayKey s = true → (meshSelf s).getD 0 < m → x.keying = none → x.link = some l → l.keyedL + 64 * 2 ^ 20 ≤ s.time.L → x.st ≠ .frozen →
      Yields (.rekey m) s (fun t => ((t.memberOf m).bind (·.keying)).map (·.epoch) = some (x.lastEpoch + 1))) ∧
    (0 < x.freed → x.freedL < s.time.L → x.queue = [] → x.st ≠ .frozen → 0 < x.credits → Yields (.creditReturn m) s (fun t =>
      (t.memberOf m).map (fun y => (y.freed, y.credits)) = some (0, x.credits - 1))) ∧
    (∀ ty p l, x.lastMsg = some (ty, p) → x.resendAt = some l → l ≤ s.time.L → Does (.messageResend m) s (sendMsg m ty p s)) ∧
    (∀ port pcs fec, s.glb.phase = .run → port < 4 → s.car.active.members.any (fun r => r.path == port) = true →
      Yields (.portLockChange port pcs fec) s (fun t => (t.portOf port).pcs = pcs ∧ (t.portOf port).fec = fec)) ∧
    (∀ port b, port < 4 → (memberOnPort s port).isSome = true → Yields (.meshFrameRejected port true b) s (fun t =>
      (t.portOf port).errors = (s.portOf port).errors.set 3 (saturate 8 ((s.portOf port).errors.getD 3 0 + 1))))

/-- Custody's boundaries (R416 to R418): SHARE_SET_COMMIT at an orbit boundary makes the acknowledged set the current one and ends its job; ROTATION_TIMEOUT gives a rotation
up after an orbit, RESTORE_TIMEOUT a restore; SHARE_SET_ERASE erases the entries whose time has come. What the spec leaves to the reader is in log 50. -/
def Sys2Proof.Claims.CustodyBoundaries : Prop :=
  ∀ (s : State) (cab : Nat),
    (∀ rot r, (s.custodyOf cab).rot = some rot → custodyRec? s cab = some r → mayCustody s = true → s.time.L % 2 ^ 20 = 0 → s.time.L ≤ rot.startL + 2 ^ 20 →
      (∀ h ∈ r.holders, h ∈ rot.acks) → r.t ≤ rot.acks.length → Yields (.shareSetCommit cab) s (fun t => (t.custodyOf cab).gen = rot.gen ∧
        (t.custodyOf cab).committed = true ∧ (t.custodyOf cab).rot = none ∧ ∀ j, rot.job = some j → (s.jobOf j).isSome → Recorded j { status := 0 } t)) ∧
    (∀ rot, (s.custodyOf cab).rot = some rot → rot.startL + 2 ^ 20 ≤ s.time.L → Yields (.rotationTimeout cab) s (fun t => (t.custodyOf cab).rot = none ∧
      (t.custodyOf cab).gen = (s.custodyOf cab).gen ∧ ∀ j, rot.job = some j → (s.jobOf j).isSome → Ended j t)) ∧
    (∀ r, s.msh.restores.find? (fun q => q.job == r.job) = some r → r.startL + 2 ^ 20 ≤ s.time.L → Yields (.restoreTimeout r.job) s (fun t =>
      (∀ q ∈ t.msh.restores, q.job ≠ r.job) ∧ ((s.jobOf r.job).isSome → Ended r.job t))) ∧
    Yields .shareSetErase s (fun t => t.msh.shares = s.msh.shares.filter (fun e =>
      !(e.eraseAt.any (fun l => decide (l ≤ s.time.L)) || (!e.committed && decide (e.L + 2 ^ 21 ≤ s.time.L)))))

/-! ### Tamper (TAMPER) -/

/-- The conditions that raise a tamper alarm each take it, with its class and source (R434, R437 to R440): an input that tripped, a discrepancy of an input's
channels, a meander, a sensor; a sensor that is not armed raises none. -/
def Obligations.AlarmsAreTaken : Prop :=
  ∀ (s : State) (n : Nat),
    (n < 8 → (s.tin n).trippedDue = true → Yields (.inputTripped n) s (fun t => Alarmed 1 n s t ∧ (t.tin n).trippedDue = false)) ∧
    (∀ b, n < 8 → (s.tin n).discDue = some b → Yields (.inputDiscrepancy n) s (fun t => Alarmed 2 (n + b) s t ∧ (t.tin n).discDue = none)) ∧
    (s.tam.lid.due = true → Yields (.escutcheon 0) s (fun t => Alarmed 3 0 s t ∧ t.tam.lid.due = false)) ∧
    (s.tam.board.due = true → Yields (.escutcheon 1) s (fun t => Alarmed 3 1 s t ∧ t.tam.board.due = false)) ∧
    (∀ cls, s.tam.up = true → n < sensorSources cls → (alwaysArmed s cls n = true ∨ (mainArmed s = true ∧ ¬(cls = 6 ∧ n = 2))) →
      Yields (.sensorAlarm cls n) s (Alarmed cls n s)) ∧
    (∀ cls, alwaysArmed s cls n = false → mainArmed s = false → Does (.sensorAlarm cls n) s s)

/-- The always-on domain and its supplies: LOW_BATTERY is logged once in a Dawn (R436), AON_POWER_LOSS takes the vault and the always-on state (R436), ALWAYS_ON_POWER_UP
brings its defaults up with seeds that are not 0 (R425, R428), SENSOR_DISARM holds the device in reset (R435, R497); a brief discrepancy is only
logged (R433); ZEROIZE_COMPLETE clears the page owner table 256 transits after the alarm at the latest (R437, R438). -/
def Sys2Proof.Claims.SuppliesAndZeroization : Prop :=
  ∀ (s : State),
    (∀ mv, s.tam.up = true → mv < 2400 → s.glb.phase ≠ .night → Yields (.lowBattery mv) s (fun t => t.tam.lowSupply = true ∧ t.tam.mv = mv ∧
      t.tam.lowLogged = true)) ∧
    (∀ mv, 2400 ≤ mv → Does (.lowBattery mv) s s) ∧
    Yields .aonPowerLoss s (fun t => t.tam.up = false ∧ t.tam.latched = false ∧ t.key.csk = [] ∧ t.key.vaultEmpty = true ∧ t.pwr.aonLost = true ∧
      t.time.aonTime = none ∧ t.wld.holdLatched = false ∧ t.lcs.otp = s.lcs.otp) ∧
    (s.tam.up = false → Yields .alwaysOnPowerUp s (fun t => t.tam.up = true ∧ t.tam.edges = 0 ∧ 0 < t.tam.lid.lfsr ∧ t.tam.lid.lfsr < 2 ^ 31 ∧
      0 < t.tam.board.lfsr ∧ t.tam.board.lfsr < 2 ^ 31)) ∧
    (s.glb.phase = .pwrfail → s.tam.disarmed = false → Yields .sensorDisarm s (fun t => t.tam.disarmed = true ∧ t.time.genRunning = false ∧ t.eng.ctxKeys = [])) ∧
    (∀ a, s.tam.zeroDue = some a → a + 256 ≤ s.time.L → ∀ v r, Yields (.zeroizeComplete v r) s (fun t => t.tam.zeroDue = none ∧ t.job.pot = [] ∧ t.job.wanted = []))

/-- TAMPER_MONITOR_SAMPLE is one tick (R427 to R432): the tick count, the readings, and each meander's register move on; the rest of the device is as it was.
DISCREPANCY_BRIEF of an input only logs and clears what is due (R433). The register's direction is the model's reading (log 53). -/
def Sys2Proof.Claims.TamperSamples : Prop :=
  ∀ (s : State),
    (∀ a b lid board temp mv present, s.tam.up = true → Yields (.tamperMonitorSample a b lid board temp mv present) s (fun t =>
      t.tam.ticks = s.tam.ticks + 1 ∧ t.tam.edges = min 1024 (s.tam.edges + 1) ∧ t.tam.temp = temp ∧ t.tam.mv = mv ∧ t.tam.lowSupply = decide (mv < 2400) ∧
      t.tam.lid = meanderTick lid.1 lid.2 s.tam.lid ∧ t.tam.latched = s.tam.latched ∧ t = ({ s with tam := t.tam } : State))) ∧
    (∀ a b lid board temp mv present, s.tam.up = false → Does (.tamperMonitorSample a b lid board temp mv present) s s) ∧
    (∀ n, Yields (.discrepancyBrief n) s (fun t => t.tam.latched = s.tam.latched ∧ t.key = s.key ∧ t.glb = s.glb))

/-! ### Dawn, NIGHT and power (POWER) -/

/-- How a run ends (R478, R495, R498): a warm reset, a retry after a back-off, a recovered supply; each leaves the vault, the always-on state, the fuses and the
ledger cells as they are and the main domains at their reset values, with its cause kept for the Dawn. L reading 0 between runs is the model's choice (log 14). -/
def Sys2Proof.Claims.RunsEnd : Prop :=
  ∀ (s : State) (c : Instr) (cause : Nat),
    ((c = .warmReset ∧ cause = 1 ∧ (s.glb.phase = .run ∨ s.glb.phase = .dawn ∨ s.glb.phase = .backoff ∨ s.glb.phase = .pwrfail)) ∨
      (c = .bootRetry ∧ cause = 6 ∧ s.glb.phase = .backoff) ∨ (c = .powerRecovered ∧ cause = 4 ∧ s.glb.phase = .pwrfail ∧ s.tam.disarmed = true)) →
    Yields c s (fun t => t.pwr.cause = some cause ∧ t.glb.phase = .off ∧ t.tam = s.tam ∧ t.lcs.otp = s.lcs.otp ∧ t.ldg.counters = s.ldg.counters ∧
      t.key.csk = s.key.csk ∧ t.key.groups = s.key.groups ∧ t.evt.ring = s.evt.ring ∧ t.job = State.reset.job ∧ t.hlk = State.reset.hlk ∧ t.key.slots = [] ∧
      t.time.genRunning = false)

/-- POWER_GOOD with its conditions met begins a Dawn with its cause, or ends the attempt in the back-off (R480, R494); ADMISSION_OPEN ends the Dawn (R487); POWER_FAIL
ends its work (R497); WAKE ends NIGHT for one of its causes (R501). That one command runs the steps of the Dawn is the model's choice (log 40). -/
def Sys2Proof.Claims.DawnFailureAndWake : Prop :=
  ∀ (s : State),
    (∀ inp, s.glb.phase = .off → (s.pwr.cause.isSome ∨ inp.cold = true) → s.tam.up = true → s.tam.edges = 1024 → Yields (.powerGood inp) s (fun t =>
      (t.glb.phase = .dawn ∧ t.glb.resetCause = dawnCause inp s ∨ t.glb.phase = .backoff ∧ t.pwr.fails = s.pwr.fails + 1) ∧ t.pwr.cause = none)) ∧
    (∀ ms, s.glb.phase = .dawn → s.time.genRunning = true → s.glb.counterWorn = false → s.wld.pair0.up = true → Yields (.admissionOpen ms) s (fun t =>
      t.glb.phase = .run ∧ t.orr.admitOpen = true ∧ t.glb.dawnMs = saturate 16 ms ∧ t.pwr.fails = 0 ∧ t.pwr.excluded = [])) ∧
    (s.glb.phase = .run ∨ s.glb.phase = .dawn → Yields .powerFail s (fun t => t.glb.phase = .pwrfail ∧ t.orr.admitOpen = false ∧ t.pwr.write = none ∧
      t.key.eraseDue = [] ∧ t.dov.reqs = [] ∧ (s.time.genRunning = true → t.time.aonL = s.time.L))) ∧
    (∀ cause secs, s.glb.phase = .night → cause ≤ 2 → (cause = 1 → s.pwr.wakeDelay ≠ 0 ∧ s.pwr.wakeDelay ≤ secs) → Yields (.wake cause secs) s (fun t =>
      t.glb.phase = .off ∧ t.pwr.cause = some 5 ∧ t.pwr.woken = some (cause, secs) ∧ t.pwr.wakeDelay = 0)) ∧
    (∀ secs, s.glb.phase = .night → (s.pwr.wakeDelay = 0 ∨ secs < s.pwr.wakeDelay) → Does (.wake 1 secs) s s)

/-- Operating points (R502, R503): a tile's hardware limit falls by one step on its counts, never below the lowest, and rises after a clean orbit;
I2C_CEILING of four bytes applies, any other write is ignored. FIRMWARE_COPY_WRITTEN that reads back as the image completes its write, and fails its job where it does
not (R492, R493). -/
def Sys2Proof.Claims.LimitsCeilingsAndFlash : Prop :=
  ∀ (s : State),
    (∀ t, allTiles.contains t = true → 128 ≤ (s.tile t).hot → (s.tile t).limit < 3 → Yields (.tileLimitChange t) s (fun u =>
      (u.tile t).limit = (s.tile t).limit + 1 ∧ (u.tile t).hot = 0)) ∧
    (∀ t, allTiles.contains t = true → (s.tile t).hot < 128 → (s.tile t).margin < 16 → 2 ^ 20 ≤ (s.tile t).clean → Yields (.tileLimitChange t) s (fun u =>
      (u.tile t).limit = (s.tile t).limit - 1 ∧ (u.tile t).clean = 0)) ∧
    (∀ p, i2cUp s = true → Yields (.i2cCeiling [p, 0, 0, 0]) s (fun t => t.orr.ceilI2c = p.toNat ∧ t.orr.ceilPolicy = s.orr.ceilPolicy)) ∧
    (∀ bs, bs.length ≠ 4 → Does (.i2cCeiling bs) s s) ∧
    (∀ w x, s.pwr.write = some w → s.jobOf w.job = some x → x.finished = false →
      Yields (.firmwareCopyWritten w.image) s (fun t => t.pwr.write = none ∧ (∃ r, Recorded w.job r t ∧ r.status = 0) ∧
        (if w.place < 4 then t.pwr.copies = s.pwr.copies.set w.place w.image else t.pwr.staging = w.image)) ∧
      ∀ found, found ≠ w.image → Yields (.firmwareCopyWritten found) s (fun t => t.pwr.write = none ∧ Ended w.job t))

/-- The debug port (R453, R455, R461): a TAP instruction that is not available is BYPASS, and one that takes the balls stops the device; the mailbox of a BLANK or TEST device answers with
its status or begins its transition; a core pair halts and resumes under its right. -/
def Obligations.TapMailboxAndPairs : Prop :=
  ∀ (s : State),
    (∀ c, s.glb.phase ≠ .scan → scanCode (tapEffective s (c % 256)) = false → Yields (.tapInstruction c) s (fun t => t.lcs.tap = tapEffective s (c % 256) ∧
      t.glb = s.glb)) ∧
    (∀ c, s.glb.phase = .run → scanCode (tapEffective s (c % 256)) = true → Yields (.tapInstruction c) s (fun t => t.glb.phase = .scan ∧ t.time.genRunning = false ∧
      t.key.slots = [])) ∧
    (∀ c, s.glb.phase = .scan → scanCode (tapEffective s (c % 256)) = false → Yields (.tapInstruction c) s (fun t => t.glb.phase = .off ∧ t.pwr.cause = some 2)) ∧
    (∀ bits d, s.lcs.code < 2 → s.glb.lockdown = false → s.glb.phase = .run → d = Desc.parse s.lcs.dapDesc → Yields (.lcsDapDoorbell bits) s (fun t =>
      match mailboxBad s d (s.lcs.dapToken ++ zeros (32 - s.lcs.dapToken.length)) with
      | some e => t.lcs.dapCompletion.map (fun c => (c.status, c.w0, c.w1)) = some e ∧ t.lcs.otp = s.lcs.otp
      | none => ∀ i, nextStep s (d.par 40 1) = some i → t.lcs.pendingReset = true ∧ t.lcs.otp = programStep i (2 ^ min 8 bits - 1) s.lcs.otp)) ∧
    (2 ≤ s.lcs.code → ∀ bits, Does (.lcsDapDoorbell bits) s s) ∧
    (∀ p, p < 2 → mayDebug s p = true → (pairOf s p).up = true → (pairOf s p).halted = false → Yields (.debugPairHalt p) s (fun t => (pairOf t p).halted = true)) ∧
    (∀ p, p < 2 → (pairOf s p).halted = true → Yields (.debugPairResume p) s (fun t => (pairOf t p).halted = false ∧ (pairOf t p).up = (pairOf s p).up))

/-! ### Events, self-test and stores (EVENTS, BIST, KEYS, WORLDS) -/

/-- EVENT_INTAKE numbers the oldest raised record with the next sequence and places it (R465, R467); the acknowledgements move a read point only forward (R468);
EVT_SEL_SEQ latches the record of its sequence (R470); JOURNAL_PROGRAM appends the oldest queued record to the open block (R474). -/
def Sys2Proof.Claims.EventsAreNumberedAndRead : Prop :=
  ∀ (s : State),
    (∀ e rest, s.glb.phase = .run → s.evt.queue = e :: rest → s.evt.taken < 64 → s.evt.ring.length < 65536 → s.evt.jQueue.length < 256 → Yields .eventIntake s (fun t =>
      t.evt.next = s.evt.next + 1 ∧ t.evt.queue = rest ∧
      (if e.sev = 7 ∧ s.evt.reserve.length < 1024 then t.evt.reserve = s.evt.reserve ++ [{ seq := s.evt.next, ev := e }] ∧ t.evt.ring = s.evt.ring
        else t.evt.ring = s.evt.ring ++ [{ seq := s.evt.next, ev := e }] ∧ t.evt.reserve = s.evt.reserve) ∧
      t.evt.jQueue = s.evt.jQueue ++ (if e.sev < 5 then [] else [{ seq := s.evt.next, ev := e }]))) ∧
    (s.hlk.up = true → fnExists s 0 = true → ∀ w,
      Yields (.evtAckSeq w) s (fun t => t.evt.ack = (if seqBefore s.evt.ack w = true then w else s.evt.ack) ∧ t.evt.ring = s.evt.ring) ∧
      Yields (.evtJournalAck w) s (fun t => t.evt.jAck = (if seqBefore s.evt.jAck w = true then w else s.evt.jAck)) ∧
      Yields (.evtSelSeq w) s (fun t => t.evt.selSeq = w ∧ t.evt.latch.length = 8 ∧
        (∀ r, s.evt.ring.find? (fun r => r.seq == w) = some r → t.evt.found = true ∧ t.evt.inReserve = false ∧ t.evt.latch.getD 0 0 = leAt (recordBytes r) 0 4) ∧
        (s.evt.ring.find? (fun r => r.seq == w) = none → s.evt.reserve.find? (fun r => r.seq == w) = none → t.evt.found = false ∧ t.evt.latch = List.replicate 8 0))) ∧
    (∀ r rest, s.glb.phase = .run → s.evt.jQueue = r :: rest → Yields (.journalProgram true) s (fun t => t.evt.jQueue = rest ∧
      (t.evt.journal.getLast?).bind (fun b => b.recs.getLast?) = some r))

/-- BIST_RUN_COMPLETE of the partition under test goes on to the next, or ends the run and gives its job the records (R516, R518); BST_DAP_START queues a run where none is in progress and
marks one that is refused (R519). -/
def Sys2Proof.Claims.SelfTestsRun : Prop :=
  ∀ (s : State),
    (∀ r p rest found, s.bst.running = some r → r.todo = p :: rest → 0 < r.endL → r.endL ≤ s.time.L → Yields (.bistRunComplete p found) s (fun t =>
      (rest ≠ [] → t.bst.running.map (fun q => (q.todo, q.job)) = some (rest, r.job)) ∧
      (rest = [] → t.bst.running = none ∧ ∀ j, r.job = some j → (s.jobOf j).isSome → ∃ q, Recorded j q t ∧ q.status = 0))) ∧
    (bit s.lcs.rights 3 = true → s.time.genRunning = true →
      (s.bst.running.isSome = true → Yields .bstDapStart s (fun t => t.bst.dapRefused = true ∧ t.bst.waiting = s.bst.waiting)) ∧
      (s.bst.running = none → s.bst.waiting = [] → 1 ≤ s.bst.dapScope → s.bst.dapScope ≤ 3 → mapParts s.bst.dapMap ≠ [] →
        Yields .bstDapStart s (fun t => ∃ r, t.bst.waiting = [r] ∧ r.scope = s.bst.dapScope ∧ r.todo = mapParts s.bst.dapMap ∧ r.job = none))) ∧
    (bit s.lcs.rights 3 = false → Does .bstDapStart s s)

/-- KEY_BANK_ERASED erases the bank of the group that is not active, and the destroyed key's command ends (R211, R222); APPLET_STORE_WRITTEN stores a loading world's image, or stops the world and
ends its job where the slot does not read back (R381). -/
def Sys2Proof.Claims.BanksAndStoresAreWritten : Prop :=
  ∀ (s : State),
    (∀ g j x b h, s.key.eraseDue = [(j, g)] → s.jobOf j = some x → x.result = some { status := 0, effects := [.destroyKey h] } → x.burst = some b →
      b.issued = 0 → x.finished = false → x.answer = none → x.desc.opcode = 0x7004 → Yields (.keyBankErased g) s (fun t => t.key.eraseDue = [] ∧ Ended j t ∧
        ∀ a, (groupOf s g).active = some a →
          if a = 0 then (groupOf t g).b1 = none ∧ (groupOf t g).b0 = (groupOf s g).b0 else (groupOf t g).b0 = none ∧ (groupOf t g).b1 = (groupOf s g).b1)) ∧
    (∀ w, (s.world w).st = .loading → (s.world w).stored = false → keeperAbsent s = false →
      Yields (.appletStoreWritten w true) s (fun t => (t.world w).stored = true ∧ Tab.get? t.wld.store w = some (s.world w).image) ∧
      Yields (.appletStoreWritten w false) s (fun t => (t.world w).st = .stopped ∧ ∀ j, (s.world w).loadJob = some j → (s.jobOf j).isSome → Ended j t))

/-! ### What commands leave alone -/

/-- The jobs, the host link, the mesh and the recorder's registers leave the keys, the lifecycle, the engines' stores, the random numbers, power, the meters, the
ledger, tamper, self-test, the worlds and the global state as they are; those that do not work on the mesh leave it too. -/
def Obligations.JobsAndLinksLeaveTheStoresAlone : Prop :=
  ∀ (c : Instr) (s t : State), leavesStores c = true → exec c s = .next t →
    t.glb = s.glb ∧ t.wld = s.wld ∧ t.key = s.key ∧ t.lcs = s.lcs ∧ t.eng = s.eng ∧ t.rng = s.rng ∧ t.pwr = s.pwr ∧ t.mtr = s.mtr ∧ t.ldg = s.ldg ∧
      t.tam = s.tam ∧ t.bst = s.bst ∧ t.bar0 = s.bar0 ∧ t.dap = s.dap ∧ (worksOnMesh c = false → t.msh = s.msh)

/-- Commands of one unit change that unit alone: reading jobs their own record, the lanes' line events the lanes, the monitor's calls the worlds, the recorder the recorder,
1PPS the clock, link training the link; a source's raw bits change the random numbers, the events and the job that reads the source. -/
def Obligations.CommandsOfOneUnitChangeItAlone : Prop :=
  ∀ (c : Instr) (s t : State), exec c s = .next t →
    (∀ j, (c = .nop j ∨ c = .dovetailQuery j ∨ c = .laneStatus j ∨ c = .ledgerRead j ∨ c = .ledgerIdentity j ∨ c = .pageQuery j ∨ c = .eventSnapshot j ∨
      c = .journalRead j) → t = { s with job := t.job } ∧ ∀ k, k ≠ j → t.jobOf k = s.jobOf k) ∧
    (∀ n k bs, (c = .reading n k bs ∨ c = .identity n k bs ∨ c = .laneResponseTimeout n ∨ c = .pulse n ∨ c = .laneJoin n) →
      t = { s with mtr := t.mtr } ∧ ∀ m, m ≠ n → t.lane m = s.lane m) ∧
    (∀ w, (c = .yield w ∨ c = .msgRecv w ∨ c = .msgDone w ∨ c = .lNow w) → t = { s with wld := t.wld } ∧ t.wld.mem = s.wld.mem ∧ ∀ v, v ≠ w → t.world v = s.world v) ∧
    (∀ w ok, (c = .eventIntake ∨ c = .evtAckSeq w ∨ c = .evtSelSeq w ∨ c = .evtJournalAck w ∨ c = .journalProgram ok) → t = { s with evt := t.evt }) ∧
    (∀ stamp cycle, (c = .ppsEdge stamp cycle ∨ c = .ppsIntervalTimeout) → t = { s with time := t.time }) ∧
    (∀ n raw, (c = .sourceWindowClose ⟨n, raw⟩ ∨ c = .rngHealthIntermittent n raw) →
      t = { s with rng := t.rng, evt := t.evt, job := t.job } ∧ ∀ m, m ≠ n → sourceOf t m = sourceOf s m) ∧
    (∀ a b v, c = .linkTraining a b v → t = { s with hlk := t.hlk })

/-- Lane cycles and the ledger's cells leave the other units alone: a request changes its lane and what is sent, a decision also its ledger, the notices and the
events; a carry or a checkpoint changes the ledger and the events, and no counter but its own, a carry also the anchor's where an anchor waits. -/
def Obligations.LaneAndCounterFrames : Prop :=
  ∀ (s t : State) (n : Nat),
    (∀ c, (c = .laneCycleStart n ∨ c = .laneRetry n) → exec c s = .next t → t = { s with out := t.out, mtr := t.mtr } ∧ ∀ m, m ≠ n → t.lane m = s.lane m) ∧
    (exec (.decisionPoint n) s = .next t → t = { s with out := t.out, hlk := t.hlk, evt := t.evt, mtr := t.mtr, ldg := t.ldg } ∧
      (∀ m, m ≠ n → t.lane m = s.lane m ∧ laneLdg t m = laneLdg s m)) ∧
    (∀ k, exec (.carryCompletion n k) s = .next t → t = { s with evt := t.evt, ldg := t.ldg } ∧
      ∀ m, m ≠ n → (m = 2 → s.ldg.anchorWait = none) → counterOf t m = counterOf s m) ∧
    (∀ ok, exec (.laneRecordWrite n ok) s = .next t → t = { s with evt := t.evt, ldg := t.ldg } ∧ ∀ m, m ≠ n → laneLdg t m = laneLdg s m)

/-! ### Shared operations and rules stated whole -/

/-- A job that ends gets exactly one FINAL entry in its ACTIVE completion queue, with its tag, its status, its words and its 32 bytes, and the places still reserved for it are given back (R146, R168, R169, R172);
a job that has ended gets nothing more. -/
def Obligations.JobsEndWithOneFinalEntry : Prop :=
  ∀ (s : State) (j status w0 w1 w2 : Nat) (x : Job), s.jobOf j = some x →
    (x.finished = true → endJob j status w0 w1 w2 s = s) ∧
    (x.finished = false → x.orphan = false → (s.sqOf x.fn x.sq).st ≠ .fault → (s.cqOf x.fn x.cq).st = .active → (s.sqOf x.fn x.sq).cq = x.cq → cqStands s x.fn x.sq = true →
      0 < x.reserve → status ≠ 0x1002 →
      Ended j (endJob j status w0 w1 w2 s) ∧ ((endJob j status w0 w1 w2 s).cqOf x.fn x.cq).written = (s.cqOf x.fn x.cq).written + 1 ∧
      ((endJob j status w0 w1 w2 s).cqOf x.fn x.cq).reserved = (s.cqOf x.fn x.cq).reserved - x.reserve ∧
      ∃ i a e o, (endJob j status w0 w1 w2 s).out = s.out ++ Out.entry x.fn x.cq i a e (completionBytes e) :: o ∧ e.tag = x.desc.tag ∧ e.status = status ∧ e.interim = false ∧
        e.creditless = false ∧ e.sq = x.sq ∧ e.when_ = s.time.L ∧ e.w0 = w0 % 2 ^ 32 ∧ e.w1 = w1 % 2 ^ 32 ∧ e.w2 = w2 % 2 ^ 32)

/-- Read points only move forward (R468): EVT_ACK_SEQ from function 0 sets the recorder's to a later value and ignores an earlier one; EVENT_SNAPSHOT with ACK asks, with its commit phase, for
its W1, which is the sequence after the last record it wrote or FROM; JOURNAL_READ with ACK does the same with the journal's. -/
def Obligations.ReadPointsOnlyMoveForward : Prop :=
  (∀ (s : State) (w : Word), s.hlk.up = true →
    Yields (.evtAckSeq w) s (fun t => t.evt.ack = (if 0 < diff32 w s.evt.ack then w else s.evt.ack))) ∧
  (∀ (s : State) (j k : Nat) (x : Job) (w : Word), (runnable s j 0xC001 = some x ∨ runnable s j 0xC002 = some x) → bit (x.desc.par 44 1) 0 = true →
    (x.desc.opcode = 0xC001 → Yields (.eventSnapshot j) s (fun t => ∃ (r : Result) (recs : List Record) (v : Word), Recorded j r t ∧ r.output = recs.flatMap recordBytes ∧ r.w1 = v.toNat ∧
      v = (match recs.getLast? with | some q => q.seq + 1 | none => BitVec.ofNat 32 (x.desc.par 40 4)) ∧ r.effects = [.ackRing v])) ∧
    (x.desc.opcode = 0xC002 → Yields (.journalRead j) s (fun t => ∃ (r : Result) (recs : List Record) (v : Word), Recorded j r t ∧ r.output = recs.flatMap recordBytes ∧ r.w1 = v.toNat ∧
      v = (match recs.getLast? with | some q => q.seq + 1 | none => BitVec.ofNat 32 (x.desc.par 40 4)) ∧ r.effects = [.ackJournal v])) ∧
    (applyEffect k true (.ackRing w) s).evt.ack = (if 0 < diff32 w s.evt.ack then w else s.evt.ack) ∧
    (applyEffect k true (.ackJournal w) s).evt.jAck = (if 0 < diff32 w s.evt.jAck then w else s.evt.jAck))

/-- A LIVE member unheard for 1,024 transits becomes LOST (R410): its keys are discarded, MESH_MEMBER_LOST goes to function 0 with its path and the L it was last heard, the
loss is logged and its HELLOs resume. -/
def Obligations.SilentMembersAreLost : Prop :=
  ∀ (s : State) (m : Nat) (x : Member), s.memberOf m = some x → meshUp s = true → x.st = .live →
    (x.heardL + 1024 ≤ s.time.L →
      Yields (.memberLost m) s (fun t => (∃ y, t.memberOf m = some y ∧ y.st = .lost ∧ y.link = none ∧ y.old = none ∧ y.helloAt.isSome = true) ∧
        ((s.fnOf 0).held.length < 256 → ∃ n ∈ (t.fnOf 0).held, n.type = 0x000A ∧ n.subject = m ∧ n.p0 = pathOf s m % 2 ^ 32 ∧ n.p1 = x.heardL % 2 ^ 32 ∧
          n.p2 = x.heardL / 2 ^ 32 % 2 ^ 32) ∧
        (s.evt.queue.length < 1024 → ∃ e ∈ t.evt.queue, e.code = 0xE012 ∧ e.p1 = m % 2 ^ 32))) ∧
    (s.time.L < x.heardL + 1024 → Does (.memberLost m) s s)

/-- What the host reads right after reset: the reset values the register tables give (HLINK, JOBS, TIME, RANDOM, MESH, TAMPER, GLOBAL). -/
def Obligations.RegistersAtReset : Prop :=
  State.reset.glb.phase = .off ∧ State.reset.pending = [] ∧ State.reset.hlk.up = false ∧ State.reset.time.L = 0 ∧ State.reset.wld.mem = [] ∧
    ∀ e ∈ resetWords, readWord State.reset 0 e.1 = e.2

/-- The frames that may come on port `p`, of every type, with the rejected ones. -/
def Sys2Proof.Claims.framesOn (p rx : Nat) (b : List Byte) : List Instr :=
  [.hello p b, .keyInit p b, .keyReply p b, .keyConfirm p b, .heartbeat p rx b, .credit p b, .sharePut p b, .shareAck p b, .shareCommit p b,
    .shareRequest p b, .shareRelease p b, .shareRefuse p b, .shareProbe p b, .shareDrop p b, .aggOffer p b, .aggShare p b, .aggPartial p b,
    .aggCipher p b, .meshFrameRejected p true b, .meshFrameRejected p false b]

/-- Where the active image has no MESH section, and in NIGHT, in UMBRA and under the bare carcass, no frame is heard on any port and no timer of the
mesh sends one or changes anything; a frame on a port that no MESH_MEMBER record names is ignored in every state (R398). That these commands then change nothing is the model's choice (log 4). -/
def Obligations.AQuietMeshHearsAndSendsNothing : Prop :=
  ∀ (s : State) (p rx : Nat) (b : List Byte),
    ((s.car.active.meshSelf = none ∨ s.car.active.bare = true ∨ devState s = .night ∨ devState s = .umbra) →
      (∀ c ∈ Sys2Proof.Claims.framesOn p rx b, Does c s s) ∧ Does (.heartbeatSend [(p, rx)]) s s ∧ Does (.helloTimer p) s s ∧ Does (.rekey p) s s ∧
        Does (.creditReturn p) s s ∧ Does (.messageResend p) s s ∧ Does (.memberLost p) s s) ∧
    ((∀ r ∈ s.car.active.members, r.path ≠ p) → ∀ c ∈ Sys2Proof.Claims.framesOn p rx b, Does c s s)

/-- In UMBRA, in NIGHT and while power fails no lane is polled: no request starts or is sent again, no lane joins and no pulse is counted (R350). That these commands then change nothing is the model's choice (log 4). -/
def Obligations.NoLaneIsPolledInTheDark : Prop :=
  ∀ (s : State) (n : Nat), (s.glb.umbra = true ∨ s.glb.phase = .night ∨ s.glb.phase = .pwrfail) →
    Does (.laneCycleStart n) s s ∧ Does (.laneRetry n) s s ∧ Does (.laneJoin n) s s ∧ Does (.pulse n) s s

/-! ### Statements that join several of the above -/

/-- A step takes the command at the front of the queue and is that command run on the state with the queue's rest; on an empty queue the block idles,
which is the model's choice (log 5). -/
def Obligations.AStepRunsTheFrontCommand : Prop :=
  Sys2Proof.Claims.StepRunsTheFrontCommand ∧ Sys2Proof.Claims.StepIdlesOnAnEmptyQueue

/-- TRANSIT_BOUNDARY begins the next transit (R33, R38), METER_FRAME_BOUNDARY copies L (R34) and ORBIT_BOUNDARY starts the orbit's counts again. -/
def Obligations.BoundariesOfTransitsFramesAndOrbits : Prop :=
  Sys2Proof.Claims.TransitBoundaryBeginsTheNextTransit ∧ Sys2Proof.Claims.FrameAndOrbitBoundaries

/-- The phases of a transit: PLANNING_TAIL (R62, R303), OPERAND_STAGED (R61, R64, R216) and COMMIT_PHASE (R75, R169). -/
def Obligations.JobsArePlannedStagedAndCommitted : Prop :=
  Sys2Proof.Claims.PlanningAndStaging ∧ Sys2Proof.Claims.CommitPhaseEndsTheJob

/-- Counters rise by one (R355), and CARRY_COMPLETION and LANE_RECORD_WRITE do their part of the cells' work (R355, R360). -/
def Obligations.CountersAndLaneRecords : Prop :=
  Sys2Proof.Claims.CountersIncrementByOne ∧ Sys2Proof.Claims.CarriesCompleteAndLaneRecordsAreWritten

/-- SQ_DOORBELL and CQ_DOORBELL (R141, R142, R155). -/
def Obligations.DoorbellsOfBothRings : Prop :=
  Sys2Proof.Claims.SubmissionDoorbells ∧ Sys2Proof.Claims.CompletionDoorbells

/-- SQ_ENABLE, CQ_ENABLE, SQ_DISABLE and CQ_DISABLE (R139 to R141). -/
def Obligations.RingsGoOnAndOff : Prop :=
  Sys2Proof.Claims.RingsAreEnabled ∧ Sys2Proof.Claims.RingsAreDisabled

/-- FLR, BUS_MASTER_ENABLE_CLEARED, D3HOT_ENTRY, D3HOT_TO_D0, LINK_DOWN, HOT_RESET, VF_ENABLE_CLEARED and LINK_TRAINING (R157, R158, R484). -/
def Obligations.FunctionResetsAndTheLink : Prop :=
  Sys2Proof.Claims.FunctionResetsTurnRingsOff ∧ Sys2Proof.Claims.TheLinkGoesDownAndUp

/-- STATUS_BLOCK_ENABLE, FN_ATTN_CLEAR, BOOT_MAP, BAD_ACCESS, REGISTER_WRITE and LATCHING_READ (R8, R136, R152, R486, R536, R538). -/
def Obligations.RegistersOfFunctionsAndPaths : Prop :=
  Sys2Proof.Claims.FunctionRegistersOfTheirOwn ∧ Sys2Proof.Claims.RegisterAccesses

/-- The cipher lanes' routines (R233 to R241). -/
def Obligations.CipherJobs : Prop :=
  Sys2Proof.Claims.CipherMessages ∧ Sys2Proof.Claims.AuthenticatedOpening ∧ Sys2Proof.Claims.ContextRecordsAndReencryption

/-- The digest engines' routines (R253 to R260). -/
def Obligations.DigestJobs : Prop :=
  Sys2Proof.Claims.DigestMessages ∧ Sys2Proof.Claims.Sha3IsTheDigest ∧ Sys2Proof.Claims.DigestRecordsAndSlots

/-- Signing, encrypting and verifying (R266, R269, R271, R288). -/
def Obligations.SignaturesAreMadeAndVerified : Prop :=
  Sys2Proof.Claims.BignumSigning ∧ Sys2Proof.Claims.SignatureVerdicts

/-- Agreed secrets, RSA decryption and modular arithmetic (R268, R269, R276). -/
def Obligations.SecretsAreAgreedAndComputed : Prop :=
  Sys2Proof.Claims.SecretAgreement ∧ Sys2Proof.Claims.ModularArithmetic

/-- Ephemeral pairs and the lattice routines (R206, R268, R285 to R288). -/
def Obligations.PairsAndLatticeKeys : Prop :=
  Sys2Proof.Claims.EphemeralPairs ∧ Sys2Proof.Claims.LatticeKeysAndSignatures

/-- The homomorphic commands and the handles they make, read and free (R291 to R302). -/
def Obligations.HomomorphicJobs : Prop :=
  Sys2Proof.Claims.HomomorphicCommandsMakeHandles ∧ Sys2Proof.Claims.HandlesAreAdoptedReadAndFreed

/-- The page commands and the timers of jobs parked on a page (R185 to R197). -/
def Obligations.PagesAreMappedAndParkedOn : Prop :=
  Sys2Proof.Claims.PageCommands ∧ Sys2Proof.Claims.ParkedPagesRepeatAndEnd

/-- Sources, the DRBG and RNG_READ, with a tile's parity error (R250, R312 to R322). -/
def Obligations.RandomNumbers : Prop :=
  Sys2Proof.Claims.TilesAndSourcesFail ∧ Sys2Proof.Claims.TheDrbgIsSeededAndBlocked ∧ Sys2Proof.Claims.RandomBytesAreRead

/-- A governed command opens its request (R224, R225), and an approved one has its effect (R201, R205, R219 to R222). -/
def Obligations.GovernedCommandsAskAndRun : Prop :=
  Sys2Proof.Claims.GovernedCommandsOpenTheirRequest ∧ Sys2Proof.Claims.ApprovedKeyCommandsRun

/-- DOVETAIL_APPROVE, DOVETAIL_QUERY and DOVETAIL_LAPSE (R227 to R230). -/
def Obligations.RequestsAreApprovedReadAndLapse : Prop :=
  Sys2Proof.Claims.ApprovalsAreChecked ∧ Sys2Proof.Claims.RequestsAreReadAndLapse

/-- LCS_TRANSITION and the debug grants (R447, R451, R452, R457, R458). -/
def Obligations.LifecycleAndDebug : Prop :=
  Sys2Proof.Claims.LifecycleTransitions ∧ Sys2Proof.Claims.DebugAuthorizations

/-- The recorder's intake, registers, journal and jobs (R465 to R477). -/
def Obligations.RecordsAndJournal : Prop :=
  Sys2Proof.Claims.EventsAreNumberedAndRead ∧ Sys2Proof.Claims.RecordsAreRead

/-- SELFTEST, POWER_POLICY, NIGHT_ENTER, BIST_RUN_COMPLETE and BST_DAP_START (R499 to R519). -/
def Obligations.SelfTestCeilingsAndNight : Prop :=
  Sys2Proof.Claims.TestsCeilingsAndNight ∧ Sys2Proof.Claims.SelfTestsRun

/-- Firmware jobs and resets, operating points, flash copies, key banks and the applet store (R211, R381, R492, R493, R502, R503). -/
def Obligations.FirmwareLimitsAndStores : Prop :=
  Sys2Proof.Claims.FirmwareIsStagedAndCommitted ∧ Sys2Proof.Claims.LimitsCeilingsAndFlash ∧ Sys2Proof.Claims.BanksAndStoresAreWritten

/-- A lane's cycle, its responses, its decision point, its join and its freezing (R334 to R349). -/
def Obligations.MeterLanes : Prop :=
  Sys2Proof.Claims.LaneCyclesRun ∧ Sys2Proof.Claims.LanesReportAndCount ∧ Sys2Proof.Claims.LanesAreDecidedJoinedAndFrozen

/-- The monitor's calls and what a call or an access outside their rules does (R375, R384 to R386). -/
def Obligations.WorldsCallTheMonitor : Prop :=
  Sys2Proof.Claims.MonitorCalls ∧ Sys2Proof.Claims.MessagesAreAnswered ∧ Sys2Proof.Claims.WorldViolationsFreeze

/-- Worlds start, stop and take messages (R381 to R386). -/
def Obligations.WorldsAndApplets : Prop :=
  Sys2Proof.Claims.WorldsRunAndStop ∧ Sys2Proof.Claims.AppletJobs

/-- The tunnel jobs and the aggregation of values over the mesh (R413, R420 to R422). -/
def Obligations.AggregationAndTunnels : Prop :=
  Sys2Proof.Claims.TunnelsAndAggregation ∧ Sys2Proof.Claims.AggregationMessages

/-- Custody messages and boundaries (R414 to R418). -/
def Obligations.CustodyOverTheMesh : Prop :=
  Sys2Proof.Claims.CustodyMessages ∧ Sys2Proof.Claims.CustodyBoundaries

/-- The tamper monitor's ticks, its supplies and zeroization (R425 to R438, R497). -/
def Obligations.TamperMonitorAndSupplies : Prop :=
  Sys2Proof.Claims.SuppliesAndZeroization ∧ Sys2Proof.Claims.TamperSamples

/-- How a run ends and a Dawn begins, ends or fails (R478 to R501). -/
def Obligations.RunsEndAndBegin : Prop :=
  Sys2Proof.Claims.RunsEnd ∧ Sys2Proof.Claims.DawnFailureAndWake
end

