-- ==== Sys2Proof/Laws/Clock.lean ====
section
/-! SUPPORT. The transit number L (R33, R34) moves only where a transit begins and at Dawn: every other routine keeps it, one
lemma per routine. -/
set_option linter.unusedTactic false
set_option linter.unreachableTactic false
namespace Sys2Proof.Machine

@[simp] theorem trimUpdate_L (m : Bool) (t : TimeState) : (trimUpdate m t).L = t.L := by
  unfold trimUpdate; dsimp only; repeat' split
  all_goals rfl
@[simp] theorem advanceLedger_L (t : TimeState) : (advanceLedger t).L = t.L := by
  unfold advanceLedger; dsimp only; repeat' split
  all_goals rfl
@[simp] theorem ppsMiss_L (t : TimeState) : (ppsMiss t).L = t.L := by
  unfold ppsMiss; dsimp only; repeat' split
  all_goals rfl
@[simp] theorem phaseMeasured_L (e : Int) (t : TimeState) : (phaseMeasured e t).L = t.L := by
  unfold phaseMeasured; dsimp only; repeat' split
  all_goals rfl


theorem foldl_clk {α : Type} (f : State → α → State) (h : ∀ s a, (f s a).time.L = s.time.L) (l : List α) (s : State) :
    (l.foldl f s).time.L = s.time.L := by
  induction l generalizing s with
  | nil => rfl
  | cons a l ih => simp [List.foldl, ih, h]
@[simp] theorem forEach_clk {α : Type} (f : α → State → State) (h : ∀ a s, (f a s).time.L = s.time.L) (l : List α) (s : State) :
    (forEach l f s).time.L = s.time.L :=
  foldl_clk _ (fun s a => h a s) l s
theorem ite_clk (c : Prop) [Decidable c] (a b : State) : (if c then a else b).time.L = if c then a.time.L else b.time.L :=
  apply_ite (fun s : State => s.time.L) c a b
@[simp] theorem ppsReject_L (t : TimeState) : (ppsReject t).L = t.L := by
  unfold ppsReject; split <;> simp
@[simp] theorem drawFree_clk (n : Nat) (s : State) : (drawFree n s).time.L = s.time.L := by
  simp [drawFree]
@[simp] theorem emit_clk (o : Out) (s : State) : (emit o s).time.L = s.time.L := by
  simp [emit]
@[simp] theorem countLost_clk (code : Nat) (s : State) : (countLost code s).time.L = s.time.L := by
  simp [countLost]
@[simp] theorem raiseFrom_clk (src code sev p1 p2 p3 : Nat) (s : State) : (raiseFrom src code sev p1 p2 p3 s).time.L = s.time.L := by
  rw [raiseFrom]; repeat' split
  all_goals simp
@[simp] theorem raiseEv_clk (code sev p1 p2 p3 : Nat) (s : State) : (raiseEv code sev p1 p2 p3 s).time.L = s.time.L := by
  simp [raiseEv]
@[simp] theorem setFn_clk (f : Nat) (x : Fn) (s : State) : (setFn f x s).time.L = s.time.L := by
  simp [setFn]
@[simp] theorem modFn_clk (f : Nat) (g : Fn → Fn) (s : State) : (modFn f g s).time.L = s.time.L := by
  simp [modFn]
@[simp] theorem modSq_clk (f n : Nat) (g : Sq → Sq) (s : State) : (modSq f n g s).time.L = s.time.L := by
  simp [modSq]
@[simp] theorem modCq_clk (f n : Nat) (g : Cq → Cq) (s : State) : (modCq f n g s).time.L = s.time.L := by
  simp [modCq]
@[simp] theorem signal_clk (f v : Nat) (s : State) : (signal f v s).time.L = s.time.L := by
  rw [signal]; repeat' split
  all_goals simp
@[simp] theorem setAttn_clk (b f : Nat) (s : State) : (setAttn b f s).time.L = s.time.L := by
  (first | rw [setAttn] | unfold setAttn); (try dsimp only); repeat' split
  all_goals first | (simp; done) | (repeat' (first | (intro _) | split | (with_reducible refine (forEach_clk _ ?_ _ _).trans ?_) | (with_reducible refine (foldl_clk _ ?_ _ _).trans ?_) | simp))
@[simp] theorem attnAll_clk (b : Nat) (s : State) : (attnAll b s).time.L = s.time.L := by
  simp [attnAll]
@[simp] theorem watched_clk (g : State → State) (h : ∀ s, (g s).time.L = s.time.L) (s : State) : (watched g s).time.L = s.time.L := by
  unfold watched; dsimp only; simp only [ite_clk, attnAll_clk, h, ite_self]
@[simp] theorem holdNotice_clk (f : Nat) (n : Notice) (s : State) : (holdNotice f n s).time.L = s.time.L := by
  rw [holdNotice]; repeat' split
  all_goals simp
@[simp] theorem notify_clk (type subject p0 p1 p2 p3 : Nat) (f : Nat) (s : State) : (notify type subject p0 p1 p2 p3 f s).time.L = s.time.L := by
  simp [notify]
@[simp] theorem notifyCab_clk (type subject p0 p1 p2 p3 : Nat) (c : Nat) (s : State) : (notifyCab type subject p0 p1 p2 p3 c s).time.L = s.time.L := by
  simp [notifyCab]
@[simp] theorem notifyZeroAndCab_clk (type subject p0 p1 p2 p3 : Nat) (c : Nat) (s : State) : (notifyZeroAndCab type subject p0 p1 p2 p3 c s).time.L = s.time.L := by
  simp [notifyZeroAndCab]
@[simp] theorem entryWritten_clk (f n : Nat) (s : State) : (entryWritten f n s).time.L = s.time.L := by
  rw [entryWritten]; repeat' split
  all_goals simp
@[simp] theorem writeEntry_clk (f n : Nat) (e : Bool → Completion) (s : State) : (writeEntry f n e s).time.L = s.time.L := by
  rw [writeEntry]; repeat' split
  all_goals simp
@[simp] theorem giveBack_clk (f n k : Nat) (s : State) : (giveBack f n k s).time.L = s.time.L := by
  (first | rw [giveBack] | unfold giveBack); (try dsimp only); repeat' split
  all_goals first | (simp; done) | (repeat' (first | (intro _) | split | (with_reducible refine (forEach_clk _ ?_ _ _).trans ?_) | (with_reducible refine (foldl_clk _ ?_ _ _).trans ?_) | simp))
@[simp] theorem modTile_clk (t : Nat) (g : Tile → Tile) (s : State) : (modTile t g s).time.L = s.time.L := by
  simp [modTile]
@[simp] theorem modSource_clk (n : Nat) (g : Source → Source) (s : State) : (modSource n g s).time.L = s.time.L := by
  simp [modSource]
@[simp] theorem modJob_clk (j : Nat) (g : Job → Job) (s : State) : (modJob j g s).time.L = s.time.L := by
  simp [modJob]
@[simp] theorem jobEntry_clk (j : Nat) (x : Job) (e : Bool → Completion) (s : State) : (jobEntry j x e s).time.L = s.time.L := by
  (first | rw [jobEntry] | unfold jobEntry); (try dsimp only); repeat' split
  all_goals first | (simp; done) | (repeat' (first | (intro _) | split | (with_reducible refine (forEach_clk _ ?_ _ _).trans ?_) | (with_reducible refine (foldl_clk _ ?_ _ _).trans ?_) | simp))
@[simp] theorem setCharge_clk (a : Account) (bulk : Bool) (v : Nat) (s : State) : (setCharge a bulk v s).time.L = s.time.L := by
  simp [setCharge]
@[simp] theorem dropHolds_clk (j : Nat) (s : State) : (dropHolds j s).time.L = s.time.L := by
  simp [dropHolds]
@[simp] theorem markFinished_clk (j : Nat) (s : State) : (markFinished j s).time.L = s.time.L := by
  simp [markFinished]
@[simp] theorem releaseReserve_clk (j : Nat) (s : State) : (releaseReserve j s).time.L = s.time.L := by
  (first | rw [releaseReserve] | unfold releaseReserve); (try dsimp only); repeat' split
  all_goals first | (simp; done) | (repeat' (first | (intro _) | split | (with_reducible refine (forEach_clk _ ?_ _ _).trans ?_) | (with_reducible refine (foldl_clk _ ?_ _ _).trans ?_) | simp))
@[simp] theorem endJob_clk (j status w0 w1 w2 : Nat) (s : State) : (endJob j status w0 w1 w2 s).time.L = s.time.L := by
  rw [endJob]; repeat' split
  all_goals simp
@[simp] theorem dropJob_clk (j : Nat) (s : State) : (dropJob j s).time.L = s.time.L := by
  simp [dropJob]
@[simp] theorem ringFaultEvent_clk (f ring error : Nat) (s : State) : (ringFaultEvent f ring error s).time.L = s.time.L := by
  simp [ringFaultEvent]
@[simp] theorem dropSqJobs_clk (f n : Nat) (s : State) : (dropSqJobs f n s).time.L = s.time.L := by
  simp [dropSqJobs]
@[simp] theorem faultSq_clk (f n error : Nat) (s : State) : (faultSq f n error s).time.L = s.time.L := by
  simp [faultSq]
@[simp] theorem faultCq_clk (f n error : Nat) (s : State) : (faultCq f n error s).time.L = s.time.L := by
  simp [faultCq]
@[simp] theorem sqEnable_clk (f n : Nat) (w : Nat) (s : State) : (sqEnable f n w s).time.L = s.time.L := by
  (first | rw [sqEnable] | unfold sqEnable); (try dsimp only); repeat' split
  all_goals first | (simp; done) | (repeat' (first | (intro _) | split | (with_reducible refine (forEach_clk _ ?_ _ _).trans ?_) | (with_reducible refine (foldl_clk _ ?_ _ _).trans ?_) | simp))
@[simp] theorem cqEnable_clk (f n : Nat) (w : Nat) (s : State) : (cqEnable f n w s).time.L = s.time.L := by
  (first | rw [cqEnable] | unfold cqEnable); (try dsimp only); repeat' split
  all_goals first | (simp; done) | (repeat' (first | (intro _) | split | (with_reducible refine (forEach_clk _ ?_ _ _).trans ?_) | (with_reducible refine (foldl_clk _ ?_ _ _).trans ?_) | simp))
@[simp] theorem releaseCredits_clk (f n : Nat) (s : State) : (releaseCredits f n s).time.L = s.time.L := by
  simp [releaseCredits]
@[simp] theorem orphanJobs_clk (gone : Job → Bool) (s : State) : (orphanJobs gone s).time.L = s.time.L := by
  (first | rw [orphanJobs] | unfold orphanJobs); (try dsimp only); repeat' split
  all_goals first | (simp; done) | (repeat' (first | (intro _) | split | (with_reducible refine (forEach_clk _ ?_ _ _).trans ?_) | (with_reducible refine (foldl_clk _ ?_ _ _).trans ?_) | simp))
@[simp] theorem sqOff_clk (f n : Nat) (s : State) : (sqOff f n s).time.L = s.time.L := by
  (first | rw [sqOff] | unfold sqOff); (try dsimp only); repeat' split
  all_goals first | (simp; done) | (repeat' (first | (intro _) | split | (with_reducible refine (forEach_clk _ ?_ _ _).trans ?_) | (with_reducible refine (foldl_clk _ ?_ _ _).trans ?_) | simp))
@[simp] theorem settleSq_clk (f n : Nat) (s : State) : (settleSq f n s).time.L = s.time.L := by
  rw [settleSq]; repeat' split
  all_goals simp
@[simp] theorem settleAll_clk (s : State) : (settleAll s).time.L = s.time.L := by
  simp [settleAll]
@[simp] theorem sqDisable_clk (f n : Nat) (w : Nat) (s : State) : (sqDisable f n w s).time.L = s.time.L := by
  rw [sqDisable]; repeat' split
  all_goals simp
@[simp] theorem cqDisable_clk (f n : Nat) (w : Nat) (s : State) : (cqDisable f n w s).time.L = s.time.L := by
  rw [cqDisable]; repeat' split
  all_goals simp
@[simp] theorem logIgnored_clk (f ring st : Nat) (logged : Bool) (s : State) : (logIgnored f ring st logged s).time.L = s.time.L := by
  rw [logIgnored]; repeat' split
  all_goals simp
@[simp] theorem sqDoorbell_clk (f n : Nat) (count : Word) (cycle : Nat) (s : State) : (sqDoorbell f n count cycle s).time.L = s.time.L := by
  rw [sqDoorbell]; repeat' split
  all_goals simp
@[simp] theorem cqDoorbell_clk (f n : Nat) (count : Word) (s : State) : (cqDoorbell f n count s).time.L = s.time.L := by
  rw [cqDoorbell]; repeat' split
  all_goals simp
@[simp] theorem passTurn_clk (f n : Nat) (s : State) : (passTurn f n s).time.L = s.time.L := by
  (first | rw [passTurn] | unfold passTurn); (try dsimp only); repeat' split
  all_goals first | (simp; done) | (repeat' (first | (intro _) | split | (with_reducible refine (forEach_clk _ ?_ _ _).trans ?_) | (with_reducible refine (foldl_clk _ ?_ _ _).trans ?_) | simp))
@[simp] theorem creditlessAnswer_clk (f n : Nat) (bs : List Byte) (s : State) : (creditlessAnswer f n bs s).time.L = s.time.L := by
  rw [creditlessAnswer]; repeat' split
  all_goals simp
@[simp] theorem grantLoop_clk (f n k : Nat) (s : State) : (grantLoop f n k s).time.L = s.time.L := by
  induction k generalizing s with
  | zero => rfl
  | succ k ih => simp only [grantLoop]; split; swap; · rfl
                 rw [ih]; split <;> simp
@[simp] theorem grantFn_clk (f : Nat) (s : State) : (grantFn f s).time.L = s.time.L := by
  have e : (forEach (grantRings (s.fnOf f)) (fun n s => grantLoop f n (s.sqOf f n).withheld s) s).time.L = s.time.L := by
    refine forEach_clk _ ?_ _ _; intro n s; exact grantLoop_clk ..
  rw [grantFn]; split <;> simp [e]
@[simp] theorem creditJob_clk (e : Nat × Job) (s : State) : (creditJob e s).time.L = s.time.L := by
  (first | rw [creditJob] | unfold creditJob); (try dsimp only); repeat' split
  all_goals first | (simp; done) | (repeat' (first | (intro _) | split | (with_reducible refine (forEach_clk _ ?_ _ _).trans ?_) | (with_reducible refine (foldl_clk _ ?_ _ _).trans ?_) | simp))
@[simp] theorem creditBatch_clk (s : State) : (creditBatch s).time.L = s.time.L := by
  rw [creditBatch]; repeat' split
  all_goals simp
@[simp] theorem signalCredits_clk (old s : State) : (signalCredits old s).time.L = s.time.L := by
  (first | rw [signalCredits] | unfold signalCredits); (try dsimp only); repeat' split
  all_goals first | (simp; done) | (repeat' (first | (intro _) | split | (with_reducible refine (forEach_clk _ ?_ _ _).trans ?_) | (with_reducible refine (foldl_clk _ ?_ _ _).trans ?_) | simp))
@[simp] theorem writeStatusBlock_clk (f : Nat) (s : State) : (writeStatusBlock f s).time.L = s.time.L := by
  simp [writeStatusBlock]
@[simp] theorem statusBlocks_clk (s : State) : (statusBlocks s).time.L = s.time.L := by
  (first | rw [statusBlocks] | unfold statusBlocks); (try dsimp only); repeat' split
  all_goals first | (simp; done) | (repeat' (first | (intro _) | split | (with_reducible refine (forEach_clk _ ?_ _ _).trans ?_) | (with_reducible refine (foldl_clk _ ?_ _ _).trans ?_) | simp))
@[simp] theorem statusBlockEnable_clk (f w : Nat) (s : State) : (statusBlockEnable f w s).time.L = s.time.L := by
  simp [statusBlockEnable]
@[simp] theorem fnAttnClear_clk (f w : Nat) (s : State) : (fnAttnClear f w s).time.L = s.time.L := by
  simp [fnAttnClear]
@[simp] theorem writeNotice_clk (f : Nat) (s : State) : (writeNotice f s).time.L = s.time.L := by
  (first | rw [writeNotice] | unfold writeNotice); (try dsimp only); repeat' split
  all_goals first | (simp; done) | (repeat' (first | (intro _) | split | (with_reducible refine (forEach_clk _ ?_ _ _).trans ?_) | (with_reducible refine (foldl_clk _ ?_ _ _).trans ?_) | simp))
@[simp] theorem writeNotices_clk (s : State) : (writeNotices s).time.L = s.time.L := by
  (first | rw [writeNotices] | unfold writeNotices); (try dsimp only); repeat' split
  all_goals first | (simp; done) | (repeat' (first | (intro _) | split | (with_reducible refine (forEach_clk _ ?_ _ _).trans ?_) | (with_reducible refine (foldl_clk _ ?_ _ _).trans ?_) | simp))
@[simp] theorem noticeWrite_clk (f : Nat) (s : State) : (noticeWrite f s).time.L = s.time.L := by
  rw [noticeWrite]; repeat' split
  all_goals simp
@[simp] theorem badAccess_clk (f offset size : Nat) (write : Bool) (s : State) : (badAccess f offset size write s).time.L = s.time.L := by
  rw [badAccess]; repeat' split
  all_goals simp
@[simp] theorem flushPending_clk (f : Nat) (s : State) : (flushPending f s).time.L = s.time.L := by
  (first | rw [flushPending] | unfold flushPending); (try dsimp only); repeat' split
  all_goals first | (simp; done) | (repeat' (first | (intro _) | split | (with_reducible refine (forEach_clk _ ?_ _ _).trans ?_) | (with_reducible refine (foldl_clk _ ?_ _ _).trans ?_) | simp))
@[simp] theorem writeHost_clk (addr : Nat) (bs : List Byte) (s : State) : (writeHost addr bs s).time.L = s.time.L := by
  simp [writeHost]
@[simp] theorem freezeMaster_clk (kind number cause addr : Nat) (tag : Word) (offender : Option Nat) (s : State) : (freezeMaster kind number cause addr tag offender s).time.L = s.time.L := by
  rw [freezeMaster]; repeat' split
  all_goals simp
@[simp] theorem thawMaster_clk (kind number cab : Nat) (s : State) : (thawMaster kind number cab s).time.L = s.time.L := by
  rw [thawMaster]; repeat' split
  all_goals simp
@[simp] theorem pageWanted_clk (f page : Nat) (tag : Word) (s : State) : (pageWanted f page tag s).time.L = s.time.L := by
  simp [pageWanted]
@[simp] theorem parkJob_clk (j page right ran : Nat) (s : State) : (parkJob j page right ran s).time.L = s.time.L := by
  (first | rw [parkJob] | unfold parkJob); (try dsimp only); repeat' split
  all_goals first | (simp; done) | (repeat' (first | (intro _) | split | (with_reducible refine (forEach_clk _ ?_ _ _).trans ?_) | (with_reducible refine (foldl_clk _ ?_ _ _).trans ?_) | simp))
@[simp] theorem pruneWanted_clk (s : State) : (pruneWanted s).time.L = s.time.L := by
  simp [pruneWanted]
@[simp] theorem abandonJob_clk (j page : Nat) (s : State) : (abandonJob j page s).time.L = s.time.L := by
  rw [abandonJob]; repeat' split
  all_goals simp
@[simp] theorem releaseJob_clk (j : Nat) (s : State) : (releaseJob j s).time.L = s.time.L := by
  rw [releaseJob]; repeat' split
  all_goals simp
@[simp] theorem releaseCounted_clk (pages : List Nat) (s : State) : (releaseCounted pages s).1.time.L = s.time.L := by
  have key : ∀ (l : List (Nat × Job)) (a : State × Nat),
      (l.foldl (fun (a : State × Nat) e => if leavesPark a.1 e.1 then (releaseJob e.1 a.1, a.2 + 1) else a) a).1.time.L = a.1.time.L := by
    intro l; induction l with
    | nil => intro a; rfl
    | cons e l ih => intro a; rw [List.foldl_cons, ih]; split <;> simp
  exact key _ _
@[simp] theorem releasePages_clk (pages : List Nat) (s : State) : (releasePages pages s).time.L = s.time.L := by
  simp [releasePages]
theorem writeBacking_clk (j : Nat) (x : Job) (addr : Nat) (bs : List Byte) (k : State → State) (h : ∀ s, (k s).time.L = s.time.L)
    (s : State) : (writeBacking j x addr bs k s).time.L = s.time.L := by
  unfold writeBacking; dsimp only; repeat' split
  all_goals simp [h]
@[simp] theorem dmaRequest_clk (r : DmaReq) (s : State) : (dmaRequest r s).time.L = s.time.L := by
  rw [dmaRequest]; repeat' split
  all_goals simp
@[simp] theorem releaseFinished_clk (s : State) : (releaseFinished s).time.L = s.time.L := by
  (first | rw [releaseFinished] | unfold releaseFinished); (try dsimp only); repeat' split
  all_goals first | (simp; done) | (repeat' (first | (intro _) | split | (with_reducible refine (forEach_clk _ ?_ _ _).trans ?_) | (with_reducible refine (foldl_clk _ ?_ _ _).trans ?_) | simp))
@[simp] theorem setResult_clk (j : Nat) (r : Result) (s : State) : (setResult j r s).time.L = s.time.L := by
  simp [setResult]
@[simp] theorem failJob_clk (j status w0 w1 w2 : Nat) (s : State) : (failJob j status w0 w1 w2 s).time.L = s.time.L := by
  simp [failJob]
@[simp] theorem potChange_clk (page : Nat) (e : Option PageEntry) (s : State) : (potChange page e s).time.L = s.time.L := by
  simp [potChange]
@[simp] theorem pageCommand_clk (j op : Nat) (s : State) : (pageCommand j op s).time.L = s.time.L := by
  (first | rw [pageCommand] | unfold pageCommand); (try dsimp only); repeat' split
  all_goals first | (simp; done) | (repeat' (first | (intro _) | split | (with_reducible refine (forEach_clk _ ?_ _ _).trans ?_) | (with_reducible refine (foldl_clk _ ?_ _ _).trans ?_) | simp))
@[simp] theorem nopJob_clk (j : Nat) (s : State) : (nopJob j s).time.L = s.time.L := by
  rw [nopJob]; repeat' split
  all_goals simp
@[simp] theorem pageQuery_clk (j : Nat) (s : State) : (pageQuery j s).time.L = s.time.L := by
  rw [pageQuery]; repeat' split
  all_goals simp
@[simp] theorem pageWantedRepeat_clk (f page : Nat) (s : State) : (pageWantedRepeat f page s).time.L = s.time.L := by
  rw [pageWantedRepeat]; repeat' split
  all_goals simp
@[simp] theorem pageAbandonTimeout_clk (j : Nat) (s : State) : (pageAbandonTimeout j s).time.L = s.time.L := by
  rw [pageAbandonTimeout]; repeat' split
  all_goals simp
@[simp] theorem latchCapacity_clk (s : State) : (latchCapacity s).time.L = s.time.L := by
  (first | rw [latchCapacity] | unfold latchCapacity); (try dsimp only); repeat' split
  all_goals first | (simp; done) | (repeat' (first | (intro _) | split | (with_reducible refine (forEach_clk _ ?_ _ _).trans ?_) | (with_reducible refine (foldl_clk _ ?_ _ _).trans ?_) | simp))
@[simp] theorem refuseBudget_clk (j : Nat) (x : Job) (maskOnly : Bool) (s : State) : (refuseBudget j x maskOnly s).time.L = s.time.L := by
  (first | rw [refuseBudget] | unfold refuseBudget); (try dsimp only); repeat' split
  all_goals first | (simp; done) | (repeat' (first | (intro _) | split | (with_reducible refine (forEach_clk _ ?_ _ _).trans ?_) | (with_reducible refine (foldl_clk _ ?_ _ _).trans ?_) | simp))
@[simp] theorem claiming_clk (g : Nat → State → State) (h : ∀ j s, (g j s).time.L = s.time.L) (j : Nat) (s : State) : (claiming g j s).time.L = s.time.L := by
  unfold claiming; dsimp only; repeat' split
  all_goals simp [h]
@[simp] theorem planPrompt_clk (j : Nat) (s : State) : (planPrompt j s).time.L = s.time.L := by
  rw [planPrompt]; repeat' split
  all_goals simp
@[simp] theorem reserveDrawer_clk (j n : Nat) (s : State) : (reserveDrawer j n s).time.L = s.time.L := by
  simp [reserveDrawer]
@[simp] theorem admitWith_clk (j : Nat) (a : Account) (plan : List Booking) (s : State) : (admitWith j a plan s).time.L = s.time.L := by
  (first | rw [admitWith] | unfold admitWith); (try dsimp only); repeat' split
  all_goals first | (simp; done) | (repeat' (first | (intro _) | split | (with_reducible refine (forEach_clk _ ?_ _ _).trans ?_) | (with_reducible refine (foldl_clk _ ?_ _ _).trans ?_) | simp))
@[simp] theorem planTimely_clk (j : Nat) (s : State) : (planTimely j s).time.L = s.time.L := by
  (first | rw [planTimely] | unfold planTimely); (try dsimp only); repeat' split
  all_goals first | (simp; done) | (repeat' (first | (intro _) | split | (with_reducible refine (forEach_clk _ ?_ _ _).trans ?_) | (with_reducible refine (foldl_clk _ ?_ _ _).trans ?_) | simp))
@[simp] theorem replanTimely_clk (j : Nat) (s : State) : (replanTimely j s).time.L = s.time.L := by
  unfold replanTimely; dsimp only; repeat' split
  all_goals first | (simp; done) | (split <;> simp)
@[simp] theorem useIdle_clk (j : Nat) (s : State) : (useIdle j s).time.L = s.time.L := by
  rw [useIdle]; repeat' split
  all_goals simp
@[simp] theorem countService_clk (cab cls cycles : Nat) (s : State) : (countService cab cls cycles s).time.L = s.time.L := by
  simp [countService]
@[simp] theorem bookBulk_clk (j : Nat) (x : Job) (a : Account) (b : Booking) (s : State) : (bookBulk j x a b s).time.L = s.time.L := by
  unfold bookBulk; dsimp only; split
  · simp
  · cases a <;> split <;> simp
@[simp] theorem admitBulk_clk (j : Nat) (x : Job) (a : Account) (b : Option Booking) (s : State) : (admitBulk j x a b s).time.L = s.time.L := by
  unfold admitBulk; extract_lets plan g home tile whole s1 s2
  have e : s1.time.L = s.time.L := by
    simp only [s1]; split <;> simp
  split
  · simp
  · rw [modJob_clk]; simp only [s2]; rw [setCharge_clk, reserveDrawer_clk, e]
@[simp] theorem planBulkJob_clk (j : Nat) (s : State) : (planBulkJob j s).time.L = s.time.L := by
  (first | rw [planBulkJob] | unfold planBulkJob); (try dsimp only); repeat' split
  all_goals first | (simp; done) | (repeat' (first | (intro _) | split | (with_reducible refine (forEach_clk _ ?_ _ _).trans ?_) | (with_reducible refine (foldl_clk _ ?_ _ _).trans ?_) | simp))
@[simp] theorem planBulk_clk (n : Nat) (l : List Nat) (s : State) : (planBulk n l s).time.L = s.time.L := by
  induction n generalizing l s with
  | zero => rfl
  | succ n ih => unfold planBulk; split <;> simp [ih]
@[simp] theorem planManagement_clk (j : Nat) (s : State) : (planManagement j s).time.L = s.time.L := by
  simp [planManagement]
@[simp] theorem planCommit_clk (j : Nat) (s : State) : (planCommit j s).time.L = s.time.L := by
  (first | rw [planCommit] | unfold planCommit); (try dsimp only); repeat' split
  all_goals first | (simp; done) | (repeat' (first | (intro _) | split | (with_reducible refine (forEach_clk _ ?_ _ _).trans ?_) | (with_reducible refine (foldl_clk _ ?_ _ _).trans ?_) | simp))
@[simp] theorem planConditioned_clk (j : Nat) (x : Job) (s : State) : (planConditioned j x s).time.L = s.time.L := by
  rw [planConditioned]; repeat' split
  all_goals simp
@[simp] theorem planTap_clk (j : Nat) (x : Job) (s : State) : (planTap j x s).time.L = s.time.L := by
  (first | rw [planTap] | unfold planTap); (try dsimp only); repeat' split
  all_goals first | (simp; done) | (repeat' (first | (intro _) | split | (with_reducible refine (forEach_clk _ ?_ _ _).trans ?_) | (with_reducible refine (foldl_clk _ ?_ _ _).trans ?_) | simp))
@[simp] theorem planPortJob_clk (j : Nat) (s : State) : (planPortJob j s).time.L = s.time.L := by
  (first | rw [planPortJob] | unfold planPortJob); (try dsimp only); repeat' split
  all_goals first | (simp; done) | (repeat' (first | (intro _) | split | (with_reducible refine (forEach_clk _ ?_ _ _).trans ?_) | (with_reducible refine (foldl_clk _ ?_ _ _).trans ?_) | simp))
@[simp] theorem planPort_clk (s : State) : (planPort s).time.L = s.time.L := by
  simp [planPort]
theorem withNextPoints_clk (ts : List Nat) (f : State → State) (h : ∀ s, (f s).time.L = s.time.L) (s : State) :
    (withNextPoints ts f s).time.L = s.time.L := by
  simp [withNextPoints, h]
@[simp] theorem planAll_clk (s : State) : (planAll s).time.L = s.time.L := by
  (first | rw [planAll] | unfold planAll); (try dsimp only); repeat' split
  all_goals first | (simp; done) | (repeat' (first | (intro _) | split | (with_reducible refine (forEach_clk _ ?_ _ _).trans ?_) | (with_reducible refine (foldl_clk _ ?_ _ _).trans ?_) | simp))
@[simp] theorem planBooks_clk (s : State) : (planBooks s).time.L = s.time.L := by
  (first | rw [planBooks] | unfold planBooks); (try dsimp only); repeat' split
  all_goals first | (simp; done) | (repeat' (first | (intro _) | split | (with_reducible refine (forEach_clk _ ?_ _ _).trans ?_) | (with_reducible refine (foldl_clk _ ?_ _ _).trans ?_) | simp))
@[simp] theorem reportMask_clk (s : State) : (reportMask s).time.L = s.time.L := by
  (first | rw [reportMask] | unfold reportMask); (try dsimp only); repeat' split
  all_goals first | (simp; done) | (repeat' (first | (intro _) | split | (with_reducible refine (forEach_clk _ ?_ _ _).trans ?_) | (with_reducible refine (foldl_clk _ ?_ _ _).trans ?_) | simp))
@[simp] theorem endSlices_clk (s : State) : (endSlices s).time.L = s.time.L := by
  (first | rw [endSlices] | unfold endSlices); (try dsimp only); repeat' split
  all_goals first | (simp; done) | (repeat' (first | (intro _) | split | (with_reducible refine (forEach_clk _ ?_ _ _).trans ?_) | (with_reducible refine (foldl_clk _ ?_ _ _).trans ?_) | simp))
@[simp] theorem planTail_clk (s : State) : (planTail s).time.L = s.time.L := by
  simp [planTail, withNextPoints_clk]
@[simp] theorem abandonTimely_clk (s : State) : (abandonTimely s).time.L = s.time.L := by
  (first | rw [abandonTimely] | unfold abandonTimely); (try dsimp only); repeat' split
  all_goals first | (simp; done) | (repeat' (first | (intro _) | split | (with_reducible refine (forEach_clk _ ?_ _ _).trans ?_) | (with_reducible refine (foldl_clk _ ?_ _ _).trans ?_) | simp))
@[simp] theorem writeAnswers_clk (s : State) : (writeAnswers s).time.L = s.time.L := by
  (first | rw [writeAnswers] | unfold writeAnswers); (try dsimp only); repeat' split
  all_goals first | (simp; done) | (repeat' (first | (intro _) | split | (with_reducible refine (forEach_clk _ ?_ _ _).trans ?_) | (with_reducible refine (foldl_clk _ ?_ _ _).trans ?_) | simp))
@[simp] theorem startSlices_clk (s : State) : (startSlices s).time.L = s.time.L := by
  simp [startSlices]
@[simp] theorem changePoints_clk (s : State) : (changePoints s).time.L = s.time.L := by
  unfold changePoints; apply forEach_clk; intro t s; dsimp only; split <;> simp
@[simp] theorem unplan_clk (j : Nat) (s : State) : (unplan j s).time.L = s.time.L := by
  (first | rw [unplan] | unfold unplan); (try dsimp only); repeat' split
  all_goals first | (simp; done) | (repeat' (first | (intro _) | split | (with_reducible refine (forEach_clk _ ?_ _ _).trans ?_) | (with_reducible refine (foldl_clk _ ?_ _ _).trans ?_) | simp))
theorem placeNow_clk {s t : State} {j : Nat} {x : Job} (h : placeNow s j x = some t) : t.time.L = s.time.L := by
  have map : ∀ {α : Type} {o : Option α} {f : α → Job → Job}, o.map (fun a => modJob j (f a) s) = some t → t.time.L = s.time.L := by
    intro α o f h; obtain ⟨a, -, rfl⟩ := Option.map_eq_some_iff.1 h; simp
  unfold placeNow at h; dsimp only at h; (repeat' split at h)
  all_goals first | (exact map h) | (simp at h; done) | (injection h with h; subst h; simp)
@[simp] theorem loseSlice_clk (j : Nat) (x : Job) (s : State) : (loseSlice j x s).time.L = s.time.L := by
  (first | rw [loseSlice] | unfold loseSlice); (try dsimp only); repeat' split
  all_goals first | (simp; done) | (repeat' (first | (intro _) | split | (with_reducible refine (forEach_clk _ ?_ _ _).trans ?_) | (with_reducible refine (foldl_clk _ ?_ _ _).trans ?_) | simp))
@[simp] theorem resettle_clk (n : Nat) (l : List (Nat × Nat)) (s : State) : (resettle n l s).time.L = s.time.L := by
  induction n generalizing l s with
  | zero => simp [resettle]
  | succ n ih =>
    cases l with
    | nil => simp [resettle]
    | cons a l =>
      obtain ⟨r, j⟩ := a
      unfold resettle; split
      · exact ih ..
      · split
        · rename_i h; rw [ih]; exact placeNow_clk h
        · split <;> simp [ih]
@[simp] theorem revisePlans_clk (s : State) : (revisePlans s).time.L = s.time.L := by
  simp [revisePlans]
@[simp] theorem holdClipped_clk (cabs : Nat) (s : State) : (holdClipped cabs s).time.L = s.time.L := by
  simp [holdClipped]
@[simp] theorem announceClipped_clk (cabs classes : Nat) (s : State) : (announceClipped cabs classes s).time.L = s.time.L := by
  simp [announceClipped]
@[simp] theorem reportClipped_clk (s : State) : (reportClipped s).time.L = s.time.L := by
  rw [reportClipped]; repeat' split
  all_goals simp
@[simp] theorem operandStaged_clk (j : Nat) (input aux extra : List Byte) (s : State) : (operandStaged j input aux extra s).time.L = s.time.L := by
  rw [operandStaged]; repeat' split
  all_goals simp
@[simp] theorem countOver_clk (code sev : Nat) (s : State) : (countOver code sev s).time.L = s.time.L := by
  simp [countOver]
@[simp] theorem journalQueue_clk (r : Record) (s : State) : (journalQueue r s).time.L = s.time.L := by
  rw [journalQueue]; repeat' split
  all_goals simp
@[simp] theorem place_clk (r : Record) (s : State) : (place r s).time.L = s.time.L := by
  rw [place]; repeat' split
  all_goals simp
@[simp] theorem eventIntake_clk (s : State) : (eventIntake s).time.L = s.time.L := by
  rw [eventIntake]; repeat' split
  all_goals simp
@[simp] theorem ackRing_clk (w : Word) (s : State) : (ackRing w s).time.L = s.time.L := by
  rw [ackRing]; repeat' split
  all_goals simp
@[simp] theorem ackJournal_clk (w : Word) (s : State) : (ackJournal w s).time.L = s.time.L := by
  rw [ackJournal]; repeat' split
  all_goals simp
@[simp] theorem selectRecord_clk (w : Word) (s : State) : (selectRecord w s).time.L = s.time.L := by
  rw [selectRecord]; repeat' split
  all_goals simp
theorem inOneCycle_clk (f : State → State) (h : ∀ s, (f s).time.L = s.time.L) (s : State) : (inOneCycle f s).time.L = s.time.L := by
  simp [inOneCycle, h]
@[simp] theorem eventSnapshot_clk (j : Nat) (s : State) : (eventSnapshot j s).time.L = s.time.L := by
  rw [eventSnapshot]; repeat' split
  all_goals simp
@[simp] theorem journalRead_clk (j : Nat) (s : State) : (journalRead j s).time.L = s.time.L := by
  rw [journalRead]; repeat' split
  all_goals simp
@[simp] theorem openBlock_clk (first : Word) (s : State) : (openBlock first s).time.L = s.time.L := by
  (first | rw [openBlock] | unfold openBlock); (try dsimp only); repeat' split
  all_goals first | (simp; done) | (repeat' (first | (intro _) | split | (with_reducible refine (forEach_clk _ ?_ _ _).trans ?_) | (with_reducible refine (foldl_clk _ ?_ _ _).trans ?_) | simp))
@[simp] theorem appendJournal_clk (r : Record) (s : State) : (appendJournal r s).time.L = s.time.L := by
  rw [appendJournal]; repeat' split
  all_goals simp
@[simp] theorem journalProgram_clk (ok : Bool) (s : State) : (journalProgram ok s).time.L = s.time.L := by
  (first | rw [journalProgram] | unfold journalProgram); (try dsimp only); repeat' split
  all_goals first | (simp; done) | (repeat' (first | (intro _) | split | (with_reducible refine (forEach_clk _ ?_ _ _).trans ?_) | (with_reducible refine (foldl_clk _ ?_ _ _).trans ?_) | simp))
@[simp] theorem ringPressure_clk (s : State) : (ringPressure s).time.L = s.time.L := by
  rw [ringPressure]; repeat' split
  all_goals simp
@[simp] theorem recordsLost_clk (s : State) : (recordsLost s).time.L = s.time.L := by
  rw [recordsLost]; repeat' split
  all_goals simp
@[simp] theorem timeAnchor_clk (s : State) : (timeAnchor s).time.L = s.time.L := by
  rw [timeAnchor]; repeat' split
  all_goals simp
@[simp] theorem ppsEdge_clk (instant inTransit : Nat) (s : State) : (ppsEdge instant inTransit s).time.L = s.time.L := by
  (first | rw [ppsEdge] | unfold ppsEdge); (try dsimp only); repeat' split
  all_goals first | (simp; done) | (repeat' (first | (intro _) | split | (with_reducible refine (forEach_clk _ ?_ _ _).trans ?_) | (with_reducible refine (foldl_clk _ ?_ _ _).trans ?_) | simp))
@[simp] theorem ppsIntervalTimeout_clk (s : State) : (ppsIntervalTimeout s).time.L = s.time.L := by
  rw [ppsIntervalTimeout]; repeat' split
  all_goals simp
@[simp] theorem loadBanks_clk (s : State) : (loadBanks s).time.L = s.time.L := by
  (first | rw [loadBanks] | unfold loadBanks); (try dsimp only); repeat' split
  all_goals first | (simp; done) | (repeat' (first | (intro _) | split | (with_reducible refine (forEach_clk _ ?_ _ _).trans ?_) | (with_reducible refine (foldl_clk _ ?_ _ _).trans ?_) | simp))
@[simp] theorem advanceGens_clk (slots : List Nat) (s : State) : (advanceGens slots s).time.L = s.time.L := by
  (first | rw [advanceGens] | unfold advanceGens); (try dsimp only); repeat' split
  all_goals first | (simp; done) | (repeat' (first | (intro _) | split | (with_reducible refine (forEach_clk _ ?_ _ _).trans ?_) | (with_reducible refine (foldl_clk _ ?_ _ _).trans ?_) | simp))
@[simp] theorem removeKey_clk (slot : Nat) (s : State) : (removeKey slot s).time.L = s.time.L := by
  rw [removeKey]; repeat' split
  all_goals simp
@[simp] theorem modGroup_clk (g : Nat) (f : TwoBank (List BankEntry) → TwoBank (List BankEntry)) (s : State) : (modGroup g f s).time.L = s.time.L := by
  (first | rw [modGroup] | unfold modGroup); (try dsimp only); repeat' split
  all_goals first | (simp; done) | (repeat' (first | (intro _) | split | (with_reducible refine (forEach_clk _ ?_ _ _).trans ?_) | (with_reducible refine (foldl_clk _ ?_ _ _).trans ?_) | simp))
@[simp] theorem prepareUpdate_clk (j : Nat) (s : State) : (prepareUpdate j s).time.L = s.time.L := by
  (first | rw [prepareUpdate] | unfold prepareUpdate); (try dsimp only); repeat' split
  all_goals first | (simp; done) | (repeat' (first | (intro _) | split | (with_reducible refine (forEach_clk _ ?_ _ _).trans ?_) | (with_reducible refine (foldl_clk _ ?_ _ _).trans ?_) | simp))
@[simp] theorem setKeyResult_clk (j : Nat) (r : Result) (s : State) : (setKeyResult j r s).time.L = s.time.L := by
  (first | rw [setKeyResult] | unfold setKeyResult); (try dsimp only); repeat' split
  all_goals first | (simp; done) | (repeat' (first | (intro _) | split | (with_reducible refine (forEach_clk _ ?_ _ _).trans ?_) | (with_reducible refine (foldl_clk _ ?_ _ _).trans ?_) | simp))
@[simp] theorem commitGroup_clk (j g : Nat) (s : State) : (commitGroup j g s).time.L = s.time.L := by
  (first | rw [commitGroup] | unfold commitGroup); (try dsimp only); repeat' split
  all_goals first | (simp; done) | (repeat' (first | (intro _) | split | (with_reducible refine (forEach_clk _ ?_ _ _).trans ?_) | (with_reducible refine (foldl_clk _ ?_ _ _).trans ?_) | simp))
@[simp] theorem stampEntries_clk (g handle L : Nat) (s : State) : (stampEntries g handle L s).time.L = s.time.L := by
  (first | rw [stampEntries] | unfold stampEntries); (try dsimp only); repeat' split
  all_goals first | (simp; done) | (repeat' (first | (intro _) | split | (with_reducible refine (forEach_clk _ ?_ _ _).trans ?_) | (with_reducible refine (foldl_clk _ ?_ _ _).trans ?_) | simp))
@[simp] theorem eraseInactive_clk (g : Nat) (s : State) : (eraseInactive g s).time.L = s.time.L := by
  simp [eraseInactive]
@[simp] theorem keepEntries_clk (g : Nat) (keep : BankEntry → Bool) (s : State) : (keepEntries g keep s).time.L = s.time.L := by
  (first | rw [keepEntries] | unfold keepEntries); (try dsimp only); repeat' split
  all_goals first | (simp; done) | (repeat' (first | (intro _) | split | (with_reducible refine (forEach_clk _ ?_ _ _).trans ?_) | (with_reducible refine (foldl_clk _ ?_ _ _).trans ?_) | simp))
@[simp] theorem placeKey_clk (j slot : Nat) (rec : KeyRec) (material : List Byte) (s : State) : (placeKey j slot rec material s).time.L = s.time.L := by
  (first | rw [placeKey] | unfold placeKey); (try dsimp only); repeat' split
  all_goals first | (simp; done) | (repeat' (first | (intro _) | split | (with_reducible refine (forEach_clk _ ?_ _ _).trans ?_) | (with_reducible refine (foldl_clk _ ?_ _ _).trans ?_) | simp))
@[simp] theorem reflagKey_clk (j slot flags : Nat) (s : State) : (reflagKey j slot flags s).time.L = s.time.L := by
  (first | rw [reflagKey] | unfold reflagKey); (try dsimp only); repeat' split
  all_goals first | (simp; done) | (repeat' (first | (intro _) | split | (with_reducible refine (forEach_clk _ ?_ _ _).trans ?_) | (with_reducible refine (foldl_clk _ ?_ _ _).trans ?_) | simp))
@[simp] theorem dropKey_clk (j h : Nat) (s : State) : (dropKey j h s).time.L = s.time.L := by
  (first | rw [dropKey] | unfold dropKey); (try dsimp only); repeat' split
  all_goals first | (simp; done) | (repeat' (first | (intro _) | split | (with_reducible refine (forEach_clk _ ?_ _ _).trans ?_) | (with_reducible refine (foldl_clk _ ?_ _ _).trans ?_) | simp))
@[simp] theorem withdrawNaming_clk (h : Nat) (except_ : Nat) (s : State) : (withdrawNaming h except_ s).time.L = s.time.L := by
  simp [withdrawNaming]
@[simp] theorem eraseKey_clk (slot : Nat) (s : State) : (eraseKey slot s).time.L = s.time.L := by
  rw [eraseKey]; repeat' split
  all_goals simp
@[simp] theorem createCsk_clk (cab : Nat) (s : State) : (createCsk cab s).time.L = s.time.L := by
  simp [createCsk]
@[simp] theorem eraseCsk_clk (cab : Nat) (s : State) : (eraseCsk cab s).time.L = s.time.L := by
  simp [eraseCsk]
@[simp] theorem createKey_clk (j : Nat) (x : Job) (cab cls : Nat) (flags : Nat) (material : List Byte) (s : State) : (createKey j x cab cls flags material s).time.L = s.time.L := by
  (first | rw [createKey] | unfold createKey); (try dsimp only); repeat' split
  all_goals first | (simp; done) | (repeat' (first | (intro _) | split | (with_reducible refine (forEach_clk _ ?_ _ _).trans ?_) | (with_reducible refine (foldl_clk _ ?_ _ _).trans ?_) | simp))
@[simp] theorem runKeyImport_clk (j : Nat) (x : Job) (s : State) : (runKeyImport j x s).time.L = s.time.L := by
  rw [runKeyImport]; repeat' split
  all_goals simp
@[simp] theorem runKeyExport_clk (serial j : Nat) (x : Job) (s : State) : (runKeyExport serial j x s).time.L = s.time.L := by
  rw [runKeyExport]; repeat' split
  all_goals simp
@[simp] theorem runKeyDestroy_clk (j : Nat) (x : Job) (s : State) : (runKeyDestroy j x s).time.L = s.time.L := by
  rw [runKeyDestroy]; repeat' split
  all_goals simp
@[simp] theorem keyBankErased_clk (g : Nat) (s : State) : (keyBankErased g s).time.L = s.time.L := by
  rw [keyBankErased]; repeat' split
  all_goals simp
@[simp] theorem takeOperands_clk (j : Nat) (input aux extra : List Byte) (s : State) : (takeOperands j input aux extra s).time.L = s.time.L := by
  unfold takeOperands; dsimp only; repeat' split
  all_goals simp
@[simp] theorem keyLoadFerried_clk (j : Nat) (s : State) : (keyLoadFerried j s).time.L = s.time.L := by
  (first | rw [keyLoadFerried] | unfold keyLoadFerried); (try dsimp only); repeat' split
  all_goals first | (simp; done) | (repeat' (first | (intro _) | split | (with_reducible refine (forEach_clk _ ?_ _ _).trans ?_) | (with_reducible refine (foldl_clk _ ?_ _ _).trans ?_) | simp))
@[simp] theorem keyLoadPublic_clk (j : Nat) (s : State) : (keyLoadPublic j s).time.L = s.time.L := by
  (first | rw [keyLoadPublic] | unfold keyLoadPublic); (try dsimp only); repeat' split
  all_goals first | (simp; done) | (repeat' (first | (intro _) | split | (with_reducible refine (forEach_clk _ ?_ _ _).trans ?_) | (with_reducible refine (foldl_clk _ ?_ _ _).trans ?_) | simp))
@[simp] theorem keyInfo_clk (j : Nat) (s : State) : (keyInfo j s).time.L = s.time.L := by
  (first | rw [keyInfo] | unfold keyInfo); (try dsimp only); repeat' split
  all_goals first | (simp; done) | (repeat' (first | (intro _) | split | (with_reducible refine (forEach_clk _ ?_ _ _).trans ?_) | (with_reducible refine (foldl_clk _ ?_ _ _).trans ?_) | simp))
@[simp] theorem keyEphemeralFree_clk (j : Nat) (s : State) : (keyEphemeralFree j s).time.L = s.time.L := by
  (first | rw [keyEphemeralFree] | unfold keyEphemeralFree); (try dsimp only); repeat' split
  all_goals first | (simp; done) | (repeat' (first | (intro _) | split | (with_reducible refine (forEach_clk _ ?_ _ _).trans ?_) | (with_reducible refine (foldl_clk _ ?_ _ _).trans ?_) | simp))
@[simp] theorem openRequest_clk (j : Nat) (x : Job) (rosters : List Roster) (dig : Digest) (s : State) : (openRequest j x rosters dig s).time.L = s.time.L := by
  rw [openRequest]; repeat' split
  all_goals simp
@[simp] theorem openOwn_clk (j : Nat) (x : Job) (right : Nat) (s : State) : (openOwn j x right s).time.L = s.time.L := by
  simp [openOwn]
@[simp] theorem cancelRequest_clk (n : Nat) (s : State) : (cancelRequest n s).time.L = s.time.L := by
  rw [cancelRequest]; repeat' split
  all_goals simp
@[simp] theorem cancelWhere_clk (p : Request → Bool) (s : State) : (cancelWhere p s).time.L = s.time.L := by
  simp [cancelWhere]
@[simp] theorem approve_clk (j : Nat) (s : State) : (approve j s).1.time.L = s.time.L := by
  (first | rw [approve] | unfold approve); (try dsimp only); repeat' split
  all_goals simp
@[simp] theorem dovetailQuery_clk (j : Nat) (s : State) : (dovetailQuery j s).time.L = s.time.L := by
  rw [dovetailQuery]; repeat' split
  all_goals simp
@[simp] theorem dovetailLapse_clk (n : Nat) (s : State) : (dovetailLapse n s).time.L = s.time.L := by
  rw [dovetailLapse]; repeat' split
  all_goals simp
@[simp] theorem keyImport_clk (j : Nat) (s : State) : (keyImport j s).time.L = s.time.L := by
  rw [keyImport]; repeat' split
  all_goals simp
@[simp] theorem keyExport_clk (j : Nat) (s : State) : (keyExport j s).time.L = s.time.L := by
  rw [keyExport]; repeat' split
  all_goals simp
@[simp] theorem keyDestroy_clk (j : Nat) (s : State) : (keyDestroy j s).time.L = s.time.L := by
  rw [keyDestroy]; repeat' split
  all_goals simp
@[simp] theorem thaw_clk (j : Nat) (s : State) : (thaw j s).time.L = s.time.L := by
  rw [thaw]; repeat' split
  all_goals simp
@[simp] theorem runThaw_clk (j : Nat) (x : Job) (s : State) : (runThaw j x s).time.L = s.time.L := by
  rw [runThaw]; repeat' split
  all_goals simp
@[simp] theorem modMember_clk (m : Nat) (g : Member → Member) (s : State) : (modMember m g s).time.L = s.time.L := by
  simp [modMember]
@[simp] theorem putFrame_clk (m : Nat) (bytes : List Byte) (s : State) : (putFrame m bytes s).time.L = s.time.L := by
  rw [putFrame]; repeat' split
  all_goals simp
@[simp] theorem frameOut_clk (m type frag flags epoch : Nat) (payload : List Byte) (s : State) : (frameOut m type frag flags epoch payload s).time.L = s.time.L := by
  rw [frameOut]; repeat' split
  all_goals simp
@[simp] theorem sendFlagged_clk (m flags type frag epoch : Nat) (payload : List Byte) (s : State) : (sendFlagged m flags type frag epoch payload s).time.L = s.time.L := by
  (first | rw [sendFlagged] | unfold sendFlagged); (try dsimp only); repeat' split
  all_goals first | (simp; done) | (repeat' (first | (intro _) | split | (with_reducible refine (forEach_clk _ ?_ _ _).trans ?_) | (with_reducible refine (foldl_clk _ ?_ _ _).trans ?_) | simp))
@[simp] theorem sendFrame_clk (m type frag epoch : Nat) (payload : List Byte) (s : State) : (sendFrame m type frag epoch payload s).time.L = s.time.L := by
  rw [sendFrame]; repeat' split
  all_goals simp
@[simp] theorem flushQueue_clk (m k : Nat) (s : State) : (flushQueue m k s).time.L = s.time.L := by
  induction k generalizing s with
  | zero => rfl
  | succ k ih => unfold flushQueue; repeat' split
                 all_goals simp [ih]
@[simp] theorem sendMsg_clk (m type : Nat) (payload : List Byte) (s : State) : (sendMsg m type payload s).time.L = s.time.L := by
  (first | rw [sendMsg] | unfold sendMsg); (try dsimp only); repeat' split
  all_goals first | (simp; done) | (repeat' (first | (intro _) | split | (with_reducible refine (forEach_clk _ ?_ _ _).trans ?_) | (with_reducible refine (foldl_clk _ ?_ _ _).trans ?_) | (with_reducible refine (checked_clk _ _ _ _ ?_ _).trans ?_) | simp))
@[simp] theorem dropPlaces_clk (m : Nat) (s : State) : (dropPlaces m s).time.L = s.time.L := by
  simp [dropPlaces]
@[simp] theorem closeLink_clk (m : Nat) (st : MemberState) (s : State) : (closeLink m st s).time.L = s.time.L := by
  simp [closeLink]
@[simp] theorem dropTunnel_clk (m : Nat) (s : State) : (dropTunnel m s).time.L = s.time.L := by
  (first | rw [dropTunnel] | unfold dropTunnel); (try dsimp only); repeat' split
  all_goals first | (simp; done) | (repeat' (first | (intro _) | split | (with_reducible refine (forEach_clk _ ?_ _ _).trans ?_) | (with_reducible refine (foldl_clk _ ?_ _ _).trans ?_) | simp))
@[simp] theorem scheduleHello_clk (h0 m : Nat) (s : State) : (scheduleHello h0 m s).time.L = s.time.L := by
  rw [scheduleHello]; repeat' split
  all_goals simp
@[simp] theorem resetLink_clk (m : Nat) (s : State) : (resetLink m s).time.L = s.time.L := by
  simp [resetLink]
@[simp] theorem sendHello_clk (m : Nat) (s : State) : (sendHello m s).time.L = s.time.L := by
  simp [sendHello]
@[simp] theorem helloTimer_clk (m : Nat) (s : State) : (helloTimer m s).time.L = s.time.L := by
  rw [helloTimer]; repeat' split
  all_goals simp
@[simp] theorem updateRef_clk (s : State) : (updateRef s).time.L = s.time.L := by
  rw [updateRef]; repeat' split
  all_goals simp
@[simp] theorem freezePeer_clk (m cause : Nat) (s : State) : (freezePeer m cause s).time.L = s.time.L := by
  rw [freezePeer]; repeat' split
  all_goals simp
@[simp] theorem thawPeer_clk (m : Nat) (s : State) : (thawPeer m s).time.L = s.time.L := by
  rw [thawPeer]; repeat' split
  all_goals simp
@[simp] theorem keyingFailed_clk (m step : Nat) (s : State) : (keyingFailed m step s).time.L = s.time.L := by
  simp [keyingFailed]
@[simp] theorem sendKeyInit_clk (m : Nat) (s : State) : (sendKeyInit m s).time.L = s.time.L := by
  rw [sendKeyInit]; repeat' split
  all_goals simp
@[simp] theorem linkKeyed_clk (m epoch : Nat) (tx rx : List Byte) (s : State) : (linkKeyed m epoch tx rx s).time.L = s.time.L := by
  simp [linkKeyed]
@[simp] theorem onHello_clk (m : Nat) (p : List Byte) (s : State) : (onHello m p s).time.L = s.time.L := by
  unfold onHello; dsimp only; split
  · split
    · split <;> simp
    · simp
  · simp
@[simp] theorem onKeyInit_clk (m epoch : Nat) (p : List Byte) (s : State) : (onKeyInit m epoch p s).time.L = s.time.L := by
  (first | rw [onKeyInit] | unfold onKeyInit); (try dsimp only); repeat' split
  all_goals first | (simp; done) | (repeat' (first | (intro _) | split | (with_reducible refine (forEach_clk _ ?_ _ _).trans ?_) | (with_reducible refine (foldl_clk _ ?_ _ _).trans ?_) | (with_reducible refine (checked_clk _ _ _ _ ?_ _).trans ?_) | simp))
@[simp] theorem onKeyReply_clk (m epoch : Nat) (p : List Byte) (s : State) : (onKeyReply m epoch p s).1.time.L = s.time.L := by
  (first | rw [onKeyReply] | unfold onKeyReply); (try dsimp only); repeat' split
  all_goals simp
@[simp] theorem onKeyConfirm_clk (m epoch : Nat) (p : List Byte) (s : State) : (onKeyConfirm m epoch p s).1.time.L = s.time.L := by
  (first | rw [onKeyConfirm] | unfold onKeyConfirm); (try dsimp only); repeat' split
  all_goals simp
@[simp] theorem rekey_clk (m : Nat) (s : State) : (rekey m s).time.L = s.time.L := by
  rw [rekey]; repeat' split
  all_goals simp
@[simp] theorem heartbeatSend_clk (phases : List (Nat × Nat)) (s : State) : (heartbeatSend phases s).time.L = s.time.L := by
  (first | rw [heartbeatSend] | unfold heartbeatSend); (try dsimp only); repeat' split
  all_goals first | (simp; done) | (repeat' (first | (intro _) | split | (with_reducible refine (forEach_clk _ ?_ _ _).trans ?_) | (with_reducible refine (foldl_clk _ ?_ _ _).trans ?_) | (with_reducible refine (checked_clk _ _ _ _ ?_ _).trans ?_) | simp))
@[simp] theorem onHeartbeat_clk (m rx : Nat) (p : List Byte) (s : State) : (onHeartbeat m rx p s).time.L = s.time.L := by
  (first | rw [onHeartbeat] | unfold onHeartbeat); (try dsimp only); repeat' split
  all_goals first | (simp; done) | (repeat' (first | (intro _) | split | (with_reducible refine (forEach_clk _ ?_ _ _).trans ?_) | (with_reducible refine (foldl_clk _ ?_ _ _).trans ?_) | (with_reducible refine (checked_clk _ _ _ _ ?_ _).trans ?_) | simp))
@[simp] theorem memberLost_clk (m : Nat) (s : State) : (memberLost m s).time.L = s.time.L := by
  rw [memberLost]; repeat' split
  all_goals simp
@[simp] theorem creditReturn_clk (m : Nat) (s : State) : (creditReturn m s).time.L = s.time.L := by
  rw [creditReturn]; repeat' split
  all_goals simp
@[simp] theorem messageResend_clk (m : Nat) (s : State) : (messageResend m s).time.L = s.time.L := by
  rw [messageResend]; repeat' split
  all_goals simp
@[simp] theorem countPort_clk (p cls : Nat) (s : State) : (countPort p cls s).time.L = s.time.L := by
  rw [countPort]; repeat' split
  all_goals simp
@[simp] theorem portLockChange_clk (p : Nat) (pcs fec : Bool) (s : State) : (portLockChange p pcs fec s).time.L = s.time.L := by
  rw [portLockChange]; repeat' split
  all_goals simp
@[simp] theorem runPart_clk (j : Nat) (x : Job) (s : State) : (runPart j x s).time.L = s.time.L := by
  (first | rw [runPart] | unfold runPart); (try dsimp only); repeat' split
  all_goals first | (simp; done) | (repeat' (first | (intro _) | split | (with_reducible refine (forEach_clk _ ?_ _ _).trans ?_) | (with_reducible refine (foldl_clk _ ?_ _ _).trans ?_) | simp))
@[simp] theorem symEncrypt_clk (j : Nat) (s : State) : (symEncrypt j s).time.L = s.time.L := by
  rw [symEncrypt]; repeat' split
  all_goals simp
@[simp] theorem symDecrypt_clk (j : Nat) (s : State) : (symDecrypt j s).time.L = s.time.L := by
  rw [symDecrypt]; repeat' split
  all_goals simp
@[simp] theorem symAeadEncrypt_clk (j : Nat) (s : State) : (symAeadEncrypt j s).time.L = s.time.L := by
  rw [symAeadEncrypt]; repeat' split
  all_goals simp
@[simp] theorem symAeadDecrypt_clk (j : Nat) (s : State) : (symAeadDecrypt j s).time.L = s.time.L := by
  (first | rw [symAeadDecrypt] | unfold symAeadDecrypt); (try dsimp only); repeat' split
  all_goals first | (simp; done) | (repeat' (first | (intro _) | split | (with_reducible refine (forEach_clk _ ?_ _ _).trans ?_) | (with_reducible refine (foldl_clk _ ?_ _ _).trans ?_) | simp))
@[simp] theorem symCmac_clk (j : Nat) (s : State) : (symCmac j s).time.L = s.time.L := by
  rw [symCmac]; repeat' split
  all_goals simp
@[simp] theorem symKeyWrap_clk (j : Nat) (s : State) : (symKeyWrap j s).time.L = s.time.L := by
  rw [symKeyWrap]; repeat' split
  all_goals simp
@[simp] theorem symKeyUnwrap_clk (j : Nat) (s : State) : (symKeyUnwrap j s).time.L = s.time.L := by
  rw [symKeyUnwrap]; repeat' split
  all_goals simp
@[simp] theorem convertRecord_clk (j : Nat) (x : Job) (fromForm : Nat) (s : State) : (convertRecord j x fromForm s).time.L = s.time.L := by
  (first | rw [convertRecord] | unfold convertRecord); (try dsimp only); repeat' split
  all_goals first | (simp; done) | (repeat' (first | (intro _) | split | (with_reducible refine (forEach_clk _ ?_ _ _).trans ?_) | (with_reducible refine (foldl_clk _ ?_ _ _).trans ?_) | simp))
@[simp] theorem symContextSave_clk (j : Nat) (s : State) : (symContextSave j s).time.L = s.time.L := by
  rw [symContextSave]; repeat' split
  all_goals simp
@[simp] theorem symContextRestore_clk (j : Nat) (s : State) : (symContextRestore j s).time.L = s.time.L := by
  rw [symContextRestore]; repeat' split
  all_goals simp
@[simp] theorem symReencrypt_clk (j : Nat) (s : State) : (symReencrypt j s).time.L = s.time.L := by
  (first | rw [symReencrypt] | unfold symReencrypt); (try dsimp only); repeat' split
  all_goals first | (simp; done) | (repeat' (first | (intro _) | split | (with_reducible refine (forEach_clk _ ?_ _ _).trans ?_) | (with_reducible refine (foldl_clk _ ?_ _ _).trans ?_) | simp))
@[simp] theorem tileParityError_clk (t bank : Nat) (s : State) : (tileParityError t bank s).time.L = s.time.L := by
  rw [tileParityError]; repeat' split
  all_goals simp
@[simp] theorem gDeliver_clk (j : Nat) (x : Job) (r : List Byte) (s : State) : (gDeliver j x r s).time.L = s.time.L := by
  rw [gDeliver]; repeat' split
  all_goals simp
@[simp] theorem digestPart_clk (j : Nat) (x : Job) (s : State) : (digestPart j x s).time.L = s.time.L := by
  (first | rw [digestPart] | unfold digestPart); (try dsimp only); repeat' split
  all_goals first | (simp; done) | (repeat' (first | (intro _) | split | (with_reducible refine (forEach_clk _ ?_ _ _).trans ?_) | (with_reducible refine (foldl_clk _ ?_ _ _).trans ?_) | simp))
@[simp] theorem digHash_clk (j : Nat) (s : State) : (digHash j s).time.L = s.time.L := by
  rw [digHash]; repeat' split
  all_goals simp
@[simp] theorem digHmac_clk (j : Nat) (s : State) : (digHmac j s).time.L = s.time.L := by
  rw [digHmac]; repeat' split
  all_goals simp
@[simp] theorem digKmac_clk (j : Nat) (s : State) : (digKmac j s).time.L = s.time.L := by
  rw [digKmac]; repeat' split
  all_goals simp
@[simp] theorem digXof_clk (j : Nat) (s : State) : (digXof j s).time.L = s.time.L := by
  rw [digXof]; repeat' split
  all_goals simp
@[simp] theorem gConvert_clk (j : Nat) (x : Job) (fromForm : Nat) (s : State) : (gConvert j x fromForm s).time.L = s.time.L := by
  rw [gConvert]; repeat' split
  all_goals simp
@[simp] theorem digContextSave_clk (j : Nat) (s : State) : (digContextSave j s).time.L = s.time.L := by
  rw [digContextSave]; repeat' split
  all_goals simp
@[simp] theorem digContextRestore_clk (j : Nat) (s : State) : (digContextRestore j s).time.L = s.time.L := by
  rw [digContextRestore]; repeat' split
  all_goals simp
@[simp] theorem digResultRelease_clk (j : Nat) (s : State) : (digResultRelease j s).time.L = s.time.L := by
  (first | rw [digResultRelease] | unfold digResultRelease); (try dsimp only); repeat' split
  all_goals first | (simp; done) | (repeat' (first | (intro _) | split | (with_reducible refine (forEach_clk _ ?_ _ _).trans ?_) | (with_reducible refine (foldl_clk _ ?_ _ _).trans ?_) | simp))
@[simp] theorem refuseLong_clk (j : Nat) (s : State) : (refuseLong j s).time.L = s.time.L := by
  (first | rw [refuseLong] | unfold refuseLong); (try dsimp only); repeat' split
  all_goals first | (simp; done) | (repeat' (first | (intro _) | split | (with_reducible refine (forEach_clk _ ?_ _ _).trans ?_) | (with_reducible refine (foldl_clk _ ?_ _ _).trans ?_) | simp))
@[simp] theorem stageJob_clk (j : Nat) (input aux extra : List Byte) (s : State) : (stageJob j input aux extra s).time.L = s.time.L := by
  (first | rw [stageJob] | unfold stageJob); (try dsimp only); repeat' split
  all_goals first | (simp; done) | (repeat' (first | (intro _) | split | (with_reducible refine (forEach_clk _ ?_ _ _).trans ?_) | (with_reducible refine (foldl_clk _ ?_ _ _).trans ?_) | simp))
@[simp] theorem verifyFailed_clk (j t op : Nat) (tag : Word) (s : State) : (verifyFailed j t op tag s).time.L = s.time.L := by
  rw [verifyFailed]; repeat' split
  all_goals simp
@[simp] theorem checked_clk (ok : Bool) (j : Nat) (x : Job) (g : State → State) (h : ∀ s, (g s).time.L = s.time.L) (s : State) : (checked ok j x g s).time.L = s.time.L := by
  unfold checked; split <;> simp [h]
@[simp] theorem bigRsaSign_clk (j : Nat) (ok : Bool) (s : State) : (bigRsaSign j ok s).time.L = s.time.L := by
  rw [bigRsaSign]; repeat' split
  all_goals simp
@[simp] theorem verdict_clk (j : Nat) (ok : Bool) (s : State) : (verdict j ok s).time.L = s.time.L := by
  rw [verdict]; repeat' split
  all_goals simp
@[simp] theorem bigRsaVerify_clk (j : Nat) (s : State) : (bigRsaVerify j s).time.L = s.time.L := by
  rw [bigRsaVerify]; repeat' split
  all_goals simp
@[simp] theorem bigRsaEncrypt_clk (j : Nat) (s : State) : (bigRsaEncrypt j s).time.L = s.time.L := by
  rw [bigRsaEncrypt]; repeat' split
  all_goals simp
@[simp] theorem bDeliver_clk (j : Nat) (x : Job) (r : List Byte) (s : State) : (bDeliver j x r s).time.L = s.time.L := by
  rw [bDeliver]; repeat' split
  all_goals simp
@[simp] theorem bigRsaDecrypt_clk (j : Nat) (ok : Bool) (s : State) : (bigRsaDecrypt j ok s).time.L = s.time.L := by
  (first | rw [bigRsaDecrypt] | unfold bigRsaDecrypt); (try dsimp only); repeat' split
  all_goals first | (simp; done) | (repeat' (first | (intro _) | split | (with_reducible refine (forEach_clk _ ?_ _ _).trans ?_) | (with_reducible refine (foldl_clk _ ?_ _ _).trans ?_) | (with_reducible refine (checked_clk _ _ _ _ ?_ _).trans ?_) | simp))
@[simp] theorem bigEcdsaSign_clk (j : Nat) (ok : Bool) (s : State) : (bigEcdsaSign j ok s).time.L = s.time.L := by
  rw [bigEcdsaSign]; repeat' split
  all_goals simp
@[simp] theorem bigEcdsaVerify_clk (j : Nat) (s : State) : (bigEcdsaVerify j s).time.L = s.time.L := by
  rw [bigEcdsaVerify]; repeat' split
  all_goals simp
@[simp] theorem bigEcdh_clk (j : Nat) (ok : Bool) (s : State) : (bigEcdh j ok s).time.L = s.time.L := by
  rw [bigEcdh]; repeat' split
  all_goals simp
@[simp] theorem bigEcEphemeral_clk (j : Nat) (ok : Bool) (s : State) : (bigEcEphemeral j ok s).time.L = s.time.L := by
  (first | rw [bigEcEphemeral] | unfold bigEcEphemeral); (try dsimp only); repeat' split
  all_goals first | (simp; done) | (repeat' (first | (intro _) | split | (with_reducible refine (forEach_clk _ ?_ _ _).trans ?_) | (with_reducible refine (foldl_clk _ ?_ _ _).trans ?_) | (with_reducible refine (checked_clk _ _ _ _ ?_ _).trans ?_) | simp))
@[simp] theorem bigEddsaSign_clk (j : Nat) (ok : Bool) (s : State) : (bigEddsaSign j ok s).time.L = s.time.L := by
  rw [bigEddsaSign]; repeat' split
  all_goals simp
@[simp] theorem bigEddsaVerify_clk (j : Nat) (s : State) : (bigEddsaVerify j s).time.L = s.time.L := by
  rw [bigEddsaVerify]; repeat' split
  all_goals simp
@[simp] theorem bigXdh_clk (j : Nat) (ok : Bool) (s : State) : (bigXdh j ok s).time.L = s.time.L := by
  (first | rw [bigXdh] | unfold bigXdh); (try dsimp only); repeat' split
  all_goals first | (simp; done) | (repeat' (first | (intro _) | split | (with_reducible refine (forEach_clk _ ?_ _ _).trans ?_) | (with_reducible refine (foldl_clk _ ?_ _ _).trans ?_) | (with_reducible refine (checked_clk _ _ _ _ ?_ _).trans ?_) | simp))
@[simp] theorem bigModarith_clk (j : Nat) (s : State) : (bigModarith j s).time.L = s.time.L := by
  (first | rw [bigModarith] | unfold bigModarith); (try dsimp only); repeat' split
  all_goals first | (simp; done) | (repeat' (first | (intro _) | split | (with_reducible refine (forEach_clk _ ?_ _ _).trans ?_) | (with_reducible refine (foldl_clk _ ?_ _ _).trans ?_) | (with_reducible refine (checked_clk _ _ _ _ ?_ _).trans ?_) | simp))
@[simp] theorem modCustody_clk (cab : Nat) (g : CabCustody → CabCustody) (s : State) : (modCustody cab g s).time.L = s.time.L := by
  simp [modCustody]
@[simp] theorem eraseShares_clk (p : Share → Bool) (s : State) : (eraseShares p s).time.L = s.time.L := by
  simp [eraseShares]
@[simp] theorem storeShare_clk (e : Share) (s : State) : (storeShare e s).1.time.L = s.time.L := by
  (first | rw [storeShare] | unfold storeShare); (try dsimp only); repeat' split
  all_goals simp
@[simp] theorem startRotation_clk (cab : Nat) (s : State) : (startRotation cab s).time.L = s.time.L := by
  (first | rw [startRotation] | unfold startRotation); (try dsimp only); repeat' split
  all_goals first | (simp; done) | (repeat' (first | (intro _) | split | (with_reducible refine (forEach_clk _ ?_ _ _).trans ?_) | (with_reducible refine (foldl_clk _ ?_ _ _).trans ?_) | (with_reducible refine (checked_clk _ _ _ _ ?_ _).trans ?_) | simp))
@[simp] theorem startRotations_clk (s : State) : (startRotations s).time.L = s.time.L := by
  (first | rw [startRotations] | unfold startRotations); (try dsimp only); repeat' split
  all_goals first | (simp; done) | (repeat' (first | (intro _) | split | (with_reducible refine (forEach_clk _ ?_ _ _).trans ?_) | (with_reducible refine (foldl_clk _ ?_ _ _).trans ?_) | (with_reducible refine (checked_clk _ _ _ _ ?_ _).trans ?_) | simp))
@[simp] theorem askRotation_clk (cab : Nat) (job : Option Nat) (s : State) : (askRotation cab job s).time.L = s.time.L := by
  simp [askRotation]
@[simp] theorem shareSetCommit_clk (cab : Nat) (s : State) : (shareSetCommit cab s).time.L = s.time.L := by
  (first | rw [shareSetCommit] | unfold shareSetCommit); (try dsimp only); repeat' split
  all_goals first | (simp; done) | (repeat' (first | (intro _) | split | (with_reducible refine (forEach_clk _ ?_ _ _).trans ?_) | (with_reducible refine (foldl_clk _ ?_ _ _).trans ?_) | (with_reducible refine (checked_clk _ _ _ _ ?_ _).trans ?_) | simp))
@[simp] theorem dropRotation_clk (cab : Nat) (s : State) : (dropRotation cab s).time.L = s.time.L := by
  rw [dropRotation]; repeat' split
  all_goals simp
@[simp] theorem rotationTimeout_clk (cab : Nat) (s : State) : (rotationTimeout cab s).time.L = s.time.L := by
  rw [rotationTimeout]; repeat' split
  all_goals simp
@[simp] theorem shareSetErase_clk (s : State) : (shareSetErase s).time.L = s.time.L := by
  simp [shareSetErase]
@[simp] theorem probeHolder_clk (m : Nat) (s : State) : (probeHolder m s).time.L = s.time.L := by
  (first | rw [probeHolder] | unfold probeHolder); (try dsimp only); repeat' split
  all_goals first | (simp; done) | (repeat' (first | (intro _) | split | (with_reducible refine (forEach_clk _ ?_ _ _).trans ?_) | (with_reducible refine (foldl_clk _ ?_ _ _).trans ?_) | (with_reducible refine (checked_clk _ _ _ _ ?_ _).trans ?_) | simp))
@[simp] theorem onSharePut_clk (m : Nat) (p : List Byte) (s : State) : (onSharePut m p s).time.L = s.time.L := by
  unfold onSharePut; dsimp only; split; · rfl
  split <;> simp
@[simp] theorem onShareCommit_clk (m : Nat) (p : List Byte) (s : State) : (onShareCommit m p s).time.L = s.time.L := by
  simp [onShareCommit]
@[simp] theorem onShareProbe_clk (m : Nat) (p : List Byte) (s : State) : (onShareProbe m p s).time.L = s.time.L := by
  rw [onShareProbe]; repeat' split
  all_goals simp
@[simp] theorem onShareDrop_clk (m : Nat) (p : List Byte) (s : State) : (onShareDrop m p s).time.L = s.time.L := by
  simp [onShareDrop]
@[simp] theorem onShareRequest_clk (m : Nat) (p : List Byte) (s : State) : (onShareRequest m p s).time.L = s.time.L := by
  (first | rw [onShareRequest] | unfold onShareRequest); (try dsimp only); repeat' split
  all_goals first | (simp; done) | (repeat' (first | (intro _) | split | (with_reducible refine (forEach_clk _ ?_ _ _).trans ?_) | (with_reducible refine (foldl_clk _ ?_ _ _).trans ?_) | (with_reducible refine (checked_clk _ _ _ _ ?_ _).trans ?_) | simp))
@[simp] theorem onShareAck_clk (m : Nat) (p : List Byte) (s : State) : (onShareAck m p s).time.L = s.time.L := by
  rw [onShareAck]; repeat' split
  all_goals simp
@[simp] theorem dropRestore_clk (j : Nat) (s : State) : (dropRestore j s).time.L = s.time.L := by
  simp [dropRestore]
@[simp] theorem restoreFails_clk (r : Restore) (s : State) : (restoreFails r s).time.L = s.time.L := by
  simp [restoreFails]
@[simp] theorem tryRestore_clk (r : Restore) (s : State) : (tryRestore r s).time.L = s.time.L := by
  (first | rw [tryRestore] | unfold tryRestore); (try dsimp only); repeat' split
  all_goals first | (simp; done) | (repeat' (first | (intro _) | split | (with_reducible refine (forEach_clk _ ?_ _ _).trans ?_) | (with_reducible refine (foldl_clk _ ?_ _ _).trans ?_) | (with_reducible refine (checked_clk _ _ _ _ ?_ _).trans ?_) | simp))
@[simp] theorem onShareRelease_clk (m : Nat) (p : List Byte) (s : State) : (onShareRelease m p s).time.L = s.time.L := by
  rw [onShareRelease]; repeat' split
  all_goals simp
@[simp] theorem onShareRefuse_clk (m : Nat) (p : List Byte) (s : State) : (onShareRefuse m p s).time.L = s.time.L := by
  (first | rw [onShareRefuse] | unfold onShareRefuse); (try dsimp only); repeat' split
  all_goals first | (simp; done) | (repeat' (first | (intro _) | split | (with_reducible refine (forEach_clk _ ?_ _ _).trans ?_) | (with_reducible refine (foldl_clk _ ?_ _ _).trans ?_) | (with_reducible refine (checked_clk _ _ _ _ ?_ _).trans ?_) | simp))
@[simp] theorem restoreTimeout_clk (j : Nat) (s : State) : (restoreTimeout j s).time.L = s.time.L := by
  rw [restoreTimeout]; repeat' split
  all_goals simp
@[simp] theorem custodyRotate_clk (j : Nat) (s : State) : (custodyRotate j s).time.L = s.time.L := by
  rw [custodyRotate]; repeat' split
  all_goals simp
@[simp] theorem runCustodyRotate_clk (j : Nat) (x : Job) (s : State) : (runCustodyRotate j x s).time.L = s.time.L := by
  simp [runCustodyRotate]
@[simp] theorem custodyRestore_clk (j : Nat) (s : State) : (custodyRestore j s).time.L = s.time.L := by
  rw [custodyRestore]; repeat' split
  all_goals simp
@[simp] theorem runCustodyRestore_clk (j : Nat) (x : Job) (approvals : List (List Byte)) (s : State) : (runCustodyRestore j x approvals s).time.L = s.time.L := by
  (first | rw [runCustodyRestore] | unfold runCustodyRestore); (try dsimp only); repeat' split
  all_goals first | (simp; done) | (repeat' (first | (intro _) | split | (with_reducible refine (forEach_clk _ ?_ _ _).trans ?_) | (with_reducible refine (foldl_clk _ ?_ _ _).trans ?_) | (with_reducible refine (checked_clk _ _ _ _ ?_ _).trans ?_) | simp))
@[simp] theorem pqChecked_clk (ok : Nat) (j : Nat) (x : Job) (g : State → State) (h : ∀ s, (g s).time.L = s.time.L) (s : State) : (pqChecked ok j x g s).time.L = s.time.L := by
  unfold pqChecked; split; · simp [h]
  split <;> simp
@[simp] theorem polMlkemKeypair_clk (j check : Nat) (s : State) : (polMlkemKeypair j check s).time.L = s.time.L := by
  (first | rw [polMlkemKeypair] | unfold polMlkemKeypair); (try dsimp only); repeat' split
  all_goals first | (simp; done) | (repeat' (first | (intro _) | split | (with_reducible refine (forEach_clk _ ?_ _ _).trans ?_) | (with_reducible refine (foldl_clk _ ?_ _ _).trans ?_) | (with_reducible refine (checked_clk _ _ _ _ ?_ _).trans ?_) | (with_reducible refine (pqChecked_clk _ _ _ _ ?_ _).trans ?_) | simp))
@[simp] theorem kemDeliver_clk (j : Nat) (x : Job) (ct k : List Byte) (s : State) : (kemDeliver j x ct k s).time.L = s.time.L := by
  rw [kemDeliver]; repeat' split
  all_goals simp
@[simp] theorem polMlkemEncaps_clk (j check : Nat) (s : State) : (polMlkemEncaps j check s).time.L = s.time.L := by
  rw [polMlkemEncaps]; repeat' split
  all_goals simp
@[simp] theorem polMlkemDecaps_clk (j check : Nat) (s : State) : (polMlkemDecaps j check s).time.L = s.time.L := by
  rw [polMlkemDecaps]; repeat' split
  all_goals simp
@[simp] theorem polMldsaSign_clk (j check : Nat) (s : State) : (polMldsaSign j check s).time.L = s.time.L := by
  rw [polMldsaSign]; repeat' split
  all_goals simp
@[simp] theorem polMldsaVerify_clk (j check : Nat) (s : State) : (polMldsaVerify j check s).time.L = s.time.L := by
  rw [polMldsaVerify]; repeat' split
  all_goals simp
@[simp] theorem heRefuse_clk (j : Nat) (x : Job) (e : Nat × Nat × Nat × Nat) (s : State) : (heRefuse j x e s).time.L = s.time.L := by
  rw [heRefuse]; repeat' split
  all_goals simp
@[simp] theorem heMake_clk (j : Nat) (x : Job) (o : HeOut) (bytes : List Byte) (s : State) : (heMake j x o bytes s).time.L = s.time.L := by
  rw [heMake]; repeat' split
  all_goals simp
@[simp] theorem heRun_clk (j op : Nat) (back : List (List Byte)) (s : State) : (heRun j op back s).time.L = s.time.L := by
  unfold heRun; dsimp only; repeat' split
  all_goals first | (simp; done) | (refine (writeBacking_clk _ _ _ _ _ ?_ _).trans ?_ <;> simp)
@[simp] theorem polHeEncrypt_clk (j : Nat) (back : List (List Byte)) (s : State) : (polHeEncrypt j back s).time.L = s.time.L := by
  simp [polHeEncrypt]
@[simp] theorem polHeAdd_clk (j : Nat) (back : List (List Byte)) (s : State) : (polHeAdd j back s).time.L = s.time.L := by
  simp [polHeAdd]
@[simp] theorem polHeMultiply_clk (j : Nat) (back : List (List Byte)) (s : State) : (polHeMultiply j back s).time.L = s.time.L := by
  simp [polHeMultiply]
@[simp] theorem polHeRotate_clk (j : Nat) (back : List (List Byte)) (s : State) : (polHeRotate j back s).time.L = s.time.L := by
  simp [polHeRotate]
@[simp] theorem polHeKeyswitch_clk (j : Nat) (back : List (List Byte)) (s : State) : (polHeKeyswitch j back s).time.L = s.time.L := by
  simp [polHeKeyswitch]
@[simp] theorem polHeRescale_clk (j : Nat) (back : List (List Byte)) (s : State) : (polHeRescale j back s).time.L = s.time.L := by
  simp [polHeRescale]
@[simp] theorem polHeRefresh_clk (j : Nat) (back : List (List Byte)) (s : State) : (polHeRefresh j back s).time.L = s.time.L := by
  simp [polHeRefresh]
@[simp] theorem adopt_clk (j : Nat) (bytes : List Byte) (s : State) : (adopt j bytes s).time.L = s.time.L := by
  rw [adopt]; repeat' split
  all_goals simp
@[simp] theorem polHeDecrypt_clk (j : Nat) (back : List (List Byte)) (s : State) : (polHeDecrypt j back s).time.L = s.time.L := by
  rw [polHeDecrypt]; repeat' split
  all_goals simp
@[simp] theorem freeRecord_clk (i : Nat) (s : State) : (freeRecord i s).time.L = s.time.L := by
  simp [freeRecord]
@[simp] theorem polHandleFree_clk (j : Nat) (s : State) : (polHandleFree j s).time.L = s.time.L := by
  rw [polHandleFree]; repeat' split
  all_goals simp
@[simp] theorem modRound_clk (id : Nat) (g : Round → Round) (s : State) : (modRound id g s).time.L = s.time.L := by
  simp [modRound]
@[simp] theorem dropRound_clk (id : Nat) (s : State) : (dropRound id s).time.L = s.time.L := by
  simp [dropRound]
@[simp] theorem collect_clk (j : Nat) (x : Job) (r : Round) (s : State) : (collect j x r s).time.L = s.time.L := by
  unfold collect; dsimp only; repeat' split
  all_goals first | (simp; done) | (refine (writeBacking_clk _ _ _ _ _ ?_ _).trans ?_ <;> simp)
@[simp] theorem roundGoes_clk (id : Nat) (s : State) : (roundGoes id s).time.L = s.time.L := by
  (first | rw [roundGoes] | unfold roundGoes); (try dsimp only); repeat' split
  all_goals first | (simp; done) | (repeat' (first | (intro _) | split | (with_reducible refine (forEach_clk _ ?_ _ _).trans ?_) | (with_reducible refine (foldl_clk _ ?_ _ _).trans ?_) | (with_reducible refine (checked_clk _ _ _ _ ?_ _).trans ?_) | (with_reducible refine (pqChecked_clk _ _ _ _ ?_ _).trans ?_) | simp))
@[simp] theorem meshAggregate_clk (j : Nat) (back : List Byte) (s : State) : (meshAggregate j back s).time.L = s.time.L := by
  (first | rw [meshAggregate] | unfold meshAggregate); (try dsimp only); repeat' split
  all_goals first | (simp; done) | (repeat' (first | (intro _) | split | (with_reducible refine (forEach_clk _ ?_ _ _).trans ?_) | (with_reducible refine (foldl_clk _ ?_ _ _).trans ?_) | (with_reducible refine (checked_clk _ _ _ _ ?_ _).trans ?_) | (with_reducible refine (pqChecked_clk _ _ _ _ ?_ _).trans ?_) | simp))
@[simp] theorem onAggOffer_clk (m : Nat) (p : List Byte) (s : State) : (onAggOffer m p s).time.L = s.time.L := by
  rw [onAggOffer]; repeat' split
  all_goals simp
@[simp] theorem onAggShare_clk (m : Nat) (p : List Byte) (s : State) : (onAggShare m p s).time.L = s.time.L := by
  simp [onAggShare]
@[simp] theorem onAggPartial_clk (m : Nat) (p : List Byte) (s : State) : (onAggPartial m p s).time.L = s.time.L := by
  simp [onAggPartial]
@[simp] theorem onAggCipher_clk (m : Nat) (p : List Byte) (s : State) : (onAggCipher m p s).time.L = s.time.L := by
  simp [onAggCipher]
@[simp] theorem aggRoundTimeout_clk (id : Nat) (s : State) : (aggRoundTimeout id s).time.L = s.time.L := by
  unfold aggRoundTimeout; dsimp only; repeat' split
  all_goals simp
@[simp] theorem pruneMesh_clk (s : State) : (pruneMesh s).time.L = s.time.L := by
  simp [pruneMesh]
theorem whenCustody_clk (f : State → State) (h : ∀ s, (f s).time.L = s.time.L) (s : State) : (whenCustody f s).time.L = s.time.L := by
  unfold whenCustody; split <;> simp [h]
@[simp] theorem onMessage_clk (m rx : Nat) (h : FrameHdr) (p : List Byte) (s : State) : (onMessage m rx h p s).time.L = s.time.L := by
  unfold onMessage; dsimp only; split
  all_goals first | (simp; done) | (split <;> simp; done) | (refine whenCustody_clk _ ?_ _; intro s; simp)
theorem gather_clk (m type frag : Nat) (p : List Byte) (s : State) :
    match gather m type frag p s with
    | .part t => t.time.L = s.time.L
    | .wrong => True
    | .whole _ t => t.time.L = s.time.L := by
  unfold gather; dsimp only
  cases s.msh.places.find? (fun q => q.member == m) <;> split_ifs <;> (try simp) <;> split_ifs <;> simp
theorem gather_part_clk {m type frag : Nat} {p : List Byte} {s t : State} (h : gather m type frag p s = .part t) : t.time.L = s.time.L := by
  have e := gather_clk m type frag p s
  rw [h] at e; exact e
theorem gather_whole_clk {m type frag : Nat} {p q : List Byte} {s t : State} (h : gather m type frag p s = .whole q t) : t.time.L = s.time.L := by
  have e := gather_clk m type frag p s
  rw [h] at e; exact e
@[simp] theorem tagFailed_clk (m path : Nat) (s : State) : (tagFailed m path s).time.L = s.time.L := by
  (first | rw [tagFailed] | unfold tagFailed); (try dsimp only); repeat' split
  all_goals first | (simp; done) | (repeat' (first | (intro _) | split | (with_reducible refine (forEach_clk _ ?_ _ _).trans ?_) | (with_reducible refine (foldl_clk _ ?_ _ _).trans ?_) | (with_reducible refine (checked_clk _ _ _ _ ?_ _).trans ?_) | (with_reducible refine (pqChecked_clk _ _ _ _ ?_ _).trans ?_) | simp))
@[simp] theorem takeCredit_clk (m credit : Nat) (s : State) : (takeCredit m credit s).time.L = s.time.L := by
  simp [takeCredit]
@[simp] theorem malformed_clk (m path flags : Nat) (s : State) : (malformed m path flags s).time.L = s.time.L := by
  rw [malformed]; repeat' split
  all_goals simp
@[simp] theorem frameBody_clk (m path rx : Nat) (h : FrameHdr) (p : List Byte) (s : State) :
    (frameBody m path rx h p s).1.time.L = s.time.L := by
  unfold frameBody; split
  · rename_i t e; have e := gather_part_clk e; simp [e]
  · simp
  · rename_i q t e; have e := gather_whole_clk e; split <;> simp [e]
@[simp] theorem frameIn_clk (m path rx : Nat) (b : List Byte) (s : State) : (frameIn m path rx b s).1.time.L = s.time.L := by
  rw [frameIn]
  repeat' split
  all_goals first | (simp; done) | ((try dsimp only); (repeat' split) <;> simp)
@[simp] theorem receive_clk (m path rx : Nat) (b : List Byte) (s : State) : (receive m path rx b s).1.time.L = s.time.L := by
  (first | rw [receive] | unfold receive); (try dsimp only); repeat' split
  all_goals simp
@[simp] theorem portFrame_clk (type : Option Nat) (p rx : Nat) (b : List Byte) (s : State) : (portFrame type p rx b s).1.time.L = s.time.L := by
  (first | rw [portFrame] | unfold portFrame); (try dsimp only); repeat' split
  all_goals simp
@[simp] theorem meshFrame_clk (type p : Nat) (b : List Byte) (s : State) : (meshFrame type p b s).time.L = s.time.L := by
  simp [meshFrame]
@[simp] theorem meshHeartbeat_clk (p rx : Nat) (b : List Byte) (s : State) : (meshHeartbeat p rx b s).time.L = s.time.L := by
  simp [meshHeartbeat]
@[simp] theorem meshFrameRejected_clk (p : Nat) (fec : Bool) (b : List Byte) (s : State) : (meshFrameRejected p fec b s).time.L = s.time.L := by
  unfold meshFrameRejected; dsimp only; repeat' split
  all_goals simp
@[simp] theorem meshTunnelIn_clk (j : Nat) (s : State) : (meshTunnelIn j s).time.L = s.time.L := by
  have key : ∀ (l : List (Option Nat × List Byte)) (one : State × Nat × Nat → Option Nat × List Byte → State × Nat × Nat) (a : State × Nat × Nat),
      (∀ a f, (one a f).1.time.L = a.1.time.L) → (l.foldl one a).1.time.L = a.1.time.L := by
    intro l one a h
    induction l generalizing a with
    | nil => rfl
    | cons b l ih => rw [List.foldl_cons, ih, h]
  unfold meshTunnelIn; split
  · rfl
  · extract_lets one r; split
    · simp
    · rw [setResult_clk]; refine key _ one _ ?_; intro a f
      simp only [one]; split
      · rfl
      · split
        · split <;> simp
        · rfl
@[simp] theorem meshTunnelOut_clk (j : Nat) (s : State) : (meshTunnelOut j s).time.L = s.time.L := by
  rw [meshTunnelOut]; repeat' split
  all_goals simp
@[simp] theorem meshVault_clk (bad : List Nat) (s : State) : (meshVault bad s).time.L = s.time.L := by
  (first | rw [meshVault] | unfold meshVault); (try dsimp only); repeat' split
  all_goals first | (simp; done) | (repeat' (first | (intro _) | split | (with_reducible refine (forEach_clk _ ?_ _ _).trans ?_) | (with_reducible refine (foldl_clk _ ?_ _ _).trans ?_) | (with_reducible refine (checked_clk _ _ _ _ ?_ _).trans ?_) | (with_reducible refine (pqChecked_clk _ _ _ _ ?_ _).trans ?_) | simp))
@[simp] theorem makeIdentity_clk (s : State) : (makeIdentity s).time.L = s.time.L := by
  rw [makeIdentity]; repeat' split
  all_goals simp
@[simp] theorem meshReset_clk (s : State) : (meshReset s).time.L = s.time.L := by
  (first | rw [meshReset] | unfold meshReset); (try dsimp only); repeat' split
  all_goals first | (simp; done) | (repeat' (first | (intro _) | split | (with_reducible refine (forEach_clk _ ?_ _ _).trans ?_) | (with_reducible refine (foldl_clk _ ?_ _ _).trans ?_) | (with_reducible refine (checked_clk _ _ _ _ ?_ _).trans ?_) | (with_reducible refine (pqChecked_clk _ _ _ _ ?_ _).trans ?_) | simp))
@[simp] theorem meshStart_clk (h0 : Nat) (s : State) : (meshStart h0 s).time.L = s.time.L := by
  rw [meshStart]; repeat' split
  all_goals simp
@[simp] theorem eraseMeshVault_clk (s : State) : (eraseMeshVault s).time.L = s.time.L := by
  simp [eraseMeshVault]
@[simp] theorem dropBackup_clk (holders : List Nat) (cab : Nat) (s : State) : (dropBackup holders cab s).time.L = s.time.L := by
  rw [dropBackup]; repeat' split
  all_goals simp
@[simp] theorem shareCommit_clk (old : Carcass) (s : State) : (shareCommit old s).time.L = s.time.L := by
  (first | rw [shareCommit] | unfold shareCommit); (try dsimp only); repeat' split
  all_goals first | (simp; done) | (repeat' (first | (intro _) | split | (with_reducible refine (forEach_clk _ ?_ _ _).trans ?_) | (with_reducible refine (foldl_clk _ ?_ _ _).trans ?_) | (with_reducible refine (checked_clk _ _ _ _ ?_ _).trans ?_) | (with_reducible refine (pqChecked_clk _ _ _ _ ?_ _).trans ?_) | simp))
@[simp] theorem meshCommit_clk (old : Carcass) (s : State) : (meshCommit old s).time.L = s.time.L := by
  (first | rw [meshCommit] | unfold meshCommit); (try dsimp only); repeat' split
  all_goals first | (simp; done) | (repeat' (first | (intro _) | split | (with_reducible refine (forEach_clk _ ?_ _ _).trans ?_) | (with_reducible refine (foldl_clk _ ?_ _ _).trans ?_) | (with_reducible refine (checked_clk _ _ _ _ ?_ _).trans ?_) | (with_reducible refine (pqChecked_clk _ _ _ _ ?_ _).trans ?_) | simp))
@[simp] theorem setRow_clk (r : Nat) (bs : List Byte) (s : State) : (setRow r bs s).time.L = s.time.L := by
  (first | rw [setRow] | unfold setRow); (try dsimp only); repeat' split
  all_goals first | (simp; done) | (repeat' (first | (intro _) | split | (with_reducible refine (forEach_clk _ ?_ _ _).trans ?_) | (with_reducible refine (foldl_clk _ ?_ _ _).trans ?_) | (with_reducible refine (checked_clk _ _ _ _ ?_ _).trans ?_) | (with_reducible refine (pqChecked_clk _ _ _ _ ?_ _).trans ?_) | simp))
@[simp] theorem programRow_clk (r : Nat) (bs : List Byte) (s : State) : (programRow r bs s).time.L = s.time.L := by
  (first | rw [programRow] | unfold programRow); (try dsimp only); repeat' split
  all_goals first | (simp; done) | (repeat' (first | (intro _) | split | (with_reducible refine (forEach_clk _ ?_ _ _).trans ?_) | (with_reducible refine (foldl_clk _ ?_ _ _).trans ?_) | (with_reducible refine (checked_clk _ _ _ _ ?_ _).trans ?_) | (with_reducible refine (pqChecked_clk _ _ _ _ ?_ _).trans ?_) | simp))
@[simp] theorem setRows_clk (r : Nat) (bs : List Byte) (s : State) : (setRows r bs s).time.L = s.time.L := by
  (first | rw [setRows] | unfold setRows); (try dsimp only); repeat' split
  all_goals first | (simp; done) | (repeat' (first | (intro _) | split | (with_reducible refine (forEach_clk _ ?_ _ _).trans ?_) | (with_reducible refine (foldl_clk _ ?_ _ _).trans ?_) | (with_reducible refine (checked_clk _ _ _ _ ?_ _).trans ?_) | (with_reducible refine (pqChecked_clk _ _ _ _ ?_ _).trans ?_) | simp))
@[simp] theorem readyRow_clk (r : Nat) (s : State) : (readyRow r s).time.L = s.time.L := by
  (first | rw [readyRow] | unfold readyRow); (try dsimp only); repeat' split
  all_goals first | (simp; done) | (repeat' (first | (intro _) | split | (with_reducible refine (forEach_clk _ ?_ _ _).trans ?_) | (with_reducible refine (foldl_clk _ ?_ _ _).trans ?_) | (with_reducible refine (checked_clk _ _ _ _ ?_ _).trans ?_) | (with_reducible refine (pqChecked_clk _ _ _ _ ?_ _).trans ?_) | simp))
@[simp] theorem programBit_clk (r n : Nat) (s : State) : (programBit r n s).time.L = s.time.L := by
  (first | rw [programBit] | unfold programBit); (try dsimp only); repeat' split
  all_goals first | (simp; done) | (repeat' (first | (intro _) | split | (with_reducible refine (forEach_clk _ ?_ _ _).trans ?_) | (with_reducible refine (foldl_clk _ ?_ _ _).trans ?_) | (with_reducible refine (checked_clk _ _ _ _ ?_ _).trans ?_) | (with_reducible refine (pqChecked_clk _ _ _ _ ?_ _).trans ?_) | simp))
@[simp] theorem writeIntent_clk (id b k : Nat) (s : State) : (writeIntent id b k s).time.L = s.time.L := by
  (first | rw [writeIntent] | unfold writeIntent); (try dsimp only); repeat' split
  all_goals first | (simp; done) | (repeat' (first | (intro _) | split | (with_reducible refine (forEach_clk _ ?_ _ _).trans ?_) | (with_reducible refine (foldl_clk _ ?_ _ _).trans ?_) | (with_reducible refine (checked_clk _ _ _ _ ?_ _).trans ?_) | (with_reducible refine (pqChecked_clk _ _ _ _ ?_ _).trans ?_) | simp))
@[simp] theorem markDone_clk (j : Nat) (s : State) : (markDone j s).time.L = s.time.L := by
  (first | rw [markDone] | unfold markDone); (try dsimp only); repeat' split
  all_goals first | (simp; done) | (repeat' (first | (intro _) | split | (with_reducible refine (forEach_clk _ ?_ _ _).trans ?_) | (with_reducible refine (foldl_clk _ ?_ _ _).trans ?_) | (with_reducible refine (checked_clk _ _ _ _ ?_ _).trans ?_) | (with_reducible refine (pqChecked_clk _ _ _ _ ?_ _).trans ?_) | simp))
@[simp] theorem writeRecord_clk (id mark : Nat) (bs : List Byte) (s : State) : (writeRecord id mark bs s).time.L = s.time.L := by
  (first | rw [writeRecord] | unfold writeRecord); (try dsimp only); repeat' split
  all_goals first | (simp; done) | (repeat' (first | (intro _) | split | (with_reducible refine (forEach_clk _ ?_ _ _).trans ?_) | (with_reducible refine (foldl_clk _ ?_ _ _).trans ?_) | (with_reducible refine (checked_clk _ _ _ _ ?_ _).trans ?_) | (with_reducible refine (pqChecked_clk _ _ _ _ ?_ _).trans ?_) | simp))
@[simp] theorem programReleased_clk (id mark : Nat) (s : State) : (programReleased id mark s).time.L = s.time.L := by
  (first | rw [programReleased] | unfold programReleased); (try dsimp only); repeat' split
  all_goals first | (simp; done) | (repeat' (first | (intro _) | split | (with_reducible refine (forEach_clk _ ?_ _ _).trans ?_) | (with_reducible refine (foldl_clk _ ?_ _ _).trans ?_) | (with_reducible refine (checked_clk _ _ _ _ ?_ _).trans ?_) | (with_reducible refine (pqChecked_clk _ _ _ _ ?_ _).trans ?_) | simp))
@[simp] theorem closeIntentCell_clk (abandoned : Bool) (s : State) : (closeIntentCell abandoned s).time.L = s.time.L := by
  (first | rw [closeIntentCell] | unfold closeIntentCell); (try dsimp only); repeat' split
  all_goals first | (simp; done) | (repeat' (first | (intro _) | split | (with_reducible refine (forEach_clk _ ?_ _ _).trans ?_) | (with_reducible refine (foldl_clk _ ?_ _ _).trans ?_) | (with_reducible refine (checked_clk _ _ _ _ ?_ _).trans ?_) | (with_reducible refine (pqChecked_clk _ _ _ _ ?_ _).trans ?_) | simp))
@[simp] theorem writeCopy_clk (k : Nat) (bs : List Byte) (s : State) : (writeCopy k bs s).time.L = s.time.L := by
  rw [writeCopy]; repeat' split
  all_goals simp
@[simp] theorem setCopyActive_clk (k : Nat) (b : Bool) (s : State) : (setCopyActive k b s).time.L = s.time.L := by
  rw [setCopyActive]; repeat' split
  all_goals simp
@[simp] theorem setCopyReason_clk (k : Nat) (r : Bad) (s : State) : (setCopyReason k r s).time.L = s.time.L := by
  rw [setCopyReason]; repeat' split
  all_goals simp
@[simp] theorem openIntent_clk (g : Staged) (s : State) : (openIntent g s).time.L = s.time.L := by
  simp [openIntent]
@[simp] theorem discardStaged_clk (s : State) : (discardStaged s).time.L = s.time.L := by
  rw [discardStaged]; repeat' split
  all_goals simp
@[simp] theorem carcassStage_clk (j : Nat) (s : State) : (carcassStage j s).time.L = s.time.L := by
  (first | rw [carcassStage] | unfold carcassStage); (try dsimp only); repeat' split
  all_goals first | (simp; done) | (repeat' (first | (intro _) | split | (with_reducible refine (forEach_clk _ ?_ _ _).trans ?_) | (with_reducible refine (foldl_clk _ ?_ _ _).trans ?_) | (with_reducible refine (checked_clk _ _ _ _ ?_ _).trans ?_) | (with_reducible refine (pqChecked_clk _ _ _ _ ?_ _).trans ?_) | simp))
@[simp] theorem carcassUnstage_clk (j : Nat) (s : State) : (carcassUnstage j s).time.L = s.time.L := by
  rw [carcassUnstage]; repeat' split
  all_goals simp
@[simp] theorem carcassRead_clk (j : Nat) (s : State) : (carcassRead j s).time.L = s.time.L := by
  (first | rw [carcassRead] | unfold carcassRead); (try dsimp only); repeat' split
  all_goals first | (simp; done) | (repeat' (first | (intro _) | split | (with_reducible refine (forEach_clk _ ?_ _ _).trans ?_) | (with_reducible refine (foldl_clk _ ?_ _ _).trans ?_) | (with_reducible refine (checked_clk _ _ _ _ ?_ _).trans ?_) | (with_reducible refine (pqChecked_clk _ _ _ _ ?_ _).trans ?_) | simp))
@[simp] theorem runCarcassStage_clk (j : Nat) (s : State) : (runCarcassStage j s).time.L = s.time.L := by
  rw [runCarcassStage]; repeat' split
  all_goals simp
@[simp] theorem abandonIntent_clk (cause : Nat) (s : State) : (abandonIntent cause s).time.L = s.time.L := by
  rw [abandonIntent]; repeat' split
  all_goals simp
@[simp] theorem carcassCopyWritten_clk (found : List Byte) (s : State) : (carcassCopyWritten found s).time.L = s.time.L := by
  unfold carcassCopyWritten; dsimp only; repeat' split
  all_goals simp
@[simp] theorem carcassIntentTimeout_clk (s : State) : (carcassIntentTimeout s).time.L = s.time.L := by
  rw [carcassIntentTimeout]; repeat' split
  all_goals simp
@[simp] theorem copyRepair_clk (found : List Byte) (s : State) : (copyRepair found s).time.L = s.time.L := by
  (first | rw [copyRepair] | unfold copyRepair); (try dsimp only); repeat' split
  all_goals first | (simp; done) | (repeat' (first | (intro _) | split | (with_reducible refine (forEach_clk _ ?_ _ _).trans ?_) | (with_reducible refine (foldl_clk _ ?_ _ _).trans ?_) | (with_reducible refine (checked_clk _ _ _ _ ?_ _).trans ?_) | (with_reducible refine (pqChecked_clk _ _ _ _ ?_ _).trans ?_) | simp))
@[simp] theorem completeCommit_clk (c : Carcass) (i : CommitIntent) (s : State) : (completeCommit c i s).time.L = s.time.L := by
  simp [completeCommit]
@[simp] theorem runBare_clk (reason : Nat) (s : State) : (runBare reason s).time.L = s.time.L := by
  simp [runBare]
@[simp] theorem logCopy_clk (k : Nat) (r : Except Bad Carcass) (s : State) : (logCopy k r s).time.L = s.time.L := by
  (first | rw [logCopy] | unfold logCopy); (try dsimp only); repeat' split
  all_goals first | (simp; done) | (repeat' (first | (intro _) | split | (with_reducible refine (forEach_clk _ ?_ _ _).trans ?_) | (with_reducible refine (foldl_clk _ ?_ _ _).trans ?_) | (with_reducible refine (checked_clk _ _ _ _ ?_ _).trans ?_) | (with_reducible refine (pqChecked_clk _ _ _ _ ?_ _).trans ?_) | simp))
@[simp] theorem runCopy_clk (k : Nat) (c : Carcass) (same : Bool) (s : State) : (runCopy k c same s).time.L = s.time.L := by
  rw [runCopy]; repeat' split
  all_goals simp
@[simp] theorem selectCarcass_clk (s : State) : (selectCarcass s).time.L = s.time.L := by
  (first | rw [selectCarcass] | unfold selectCarcass); (try dsimp only); repeat' split
  all_goals first | (simp; done) | (repeat' (first | (intro _) | split | (with_reducible refine (forEach_clk _ ?_ _ _).trans ?_) | (with_reducible refine (foldl_clk _ ?_ _ _).trans ?_) | (with_reducible refine (checked_clk _ _ _ _ ?_ _).trans ?_) | (with_reducible refine (pqChecked_clk _ _ _ _ ?_ _).trans ?_) | simp))
@[simp] theorem splitNotice_clk (s : State) : (splitNotice s).time.L = s.time.L := by
  rw [splitNotice]; repeat' split
  all_goals simp
@[simp] theorem failSource_clk (n test : Nat) (s : State) : (failSource n test s).time.L = s.time.L := by
  rw [failSource]; repeat' split
  all_goals simp
@[simp] theorem healthIntermittent_clk (n test : Nat) (s : State) : (healthIntermittent n test s).time.L = s.time.L := by
  (first | rw [healthIntermittent] | unfold healthIntermittent); (try dsimp only); repeat' split
  all_goals first | (simp; done) | (repeat' (first | (intro _) | split | (with_reducible refine (forEach_clk _ ?_ _ _).trans ?_) | (with_reducible refine (foldl_clk _ ?_ _ _).trans ?_) | (with_reducible refine (checked_clk _ _ _ _ ?_ _).trans ?_) | (with_reducible refine (pqChecked_clk _ _ _ _ ?_ _).trans ?_) | simp))
@[simp] theorem windowClose_clk (n : Nat) (s : State) : (windowClose n s).time.L = s.time.L := by
  (first | rw [windowClose] | unfold windowClose); (try dsimp only); repeat' split
  all_goals first | (simp; done) | (repeat' (first | (intro _) | split | (with_reducible refine (forEach_clk _ ?_ _ _).trans ?_) | (with_reducible refine (foldl_clk _ ?_ _ _).trans ?_) | (with_reducible refine (checked_clk _ _ _ _ ?_ _).trans ?_) | (with_reducible refine (pqChecked_clk _ _ _ _ ?_ _).trans ?_) | simp))
@[simp] theorem tapSample_clk (n : Nat) (b : Bool) (s : State) : (tapSample n b s).time.L = s.time.L := by
  (first | rw [tapSample] | unfold tapSample); (try dsimp only); repeat' split
  all_goals first | (simp; done) | (repeat' (first | (intro _) | split | (with_reducible refine (forEach_clk _ ?_ _ _).trans ?_) | (with_reducible refine (foldl_clk _ ?_ _ _).trans ?_) | (with_reducible refine (checked_clk _ _ _ _ ?_ _).trans ?_) | (with_reducible refine (pqChecked_clk _ _ _ _ ?_ _).trans ?_) | simp))
@[simp] theorem takeSample_clk (n : Nat) (b : Bool) (s : State) : (takeSample n b s).time.L = s.time.L := by
  (first | rw [takeSample] | unfold takeSample); (try dsimp only); repeat' split
  all_goals first | (simp; done) | (repeat' (first | (intro _) | split | (with_reducible refine (forEach_clk _ ?_ _ _).trans ?_) | (with_reducible refine (foldl_clk _ ?_ _ _).trans ?_) | (with_reducible refine (checked_clk _ _ _ _ ?_ _).trans ?_) | (with_reducible refine (pqChecked_clk _ _ _ _ ?_ _).trans ?_) | simp))
@[simp] theorem rawBit_clk (n : Nat) (b : Bool) (s : State) : (rawBit n b s).time.L = s.time.L := by
  (first | rw [rawBit] | unfold rawBit); (try dsimp only); repeat' split
  all_goals first | (simp; done) | (repeat' (first | (intro _) | split | (with_reducible refine (forEach_clk _ ?_ _ _).trans ?_) | (with_reducible refine (foldl_clk _ ?_ _ _).trans ?_) | (with_reducible refine (checked_clk _ _ _ _ ?_ _).trans ?_) | (with_reducible refine (pqChecked_clk _ _ _ _ ?_ _).trans ?_) | simp))
@[simp] theorem takeRaw_clk (n : Nat) (bits : List Bool) (s : State) : (takeRaw n bits s).time.L = s.time.L := by
  (first | rw [takeRaw] | unfold takeRaw); (try dsimp only); repeat' split
  all_goals first | (simp; done) | (repeat' (first | (intro _) | split | (with_reducible refine (forEach_clk _ ?_ _ _).trans ?_) | (with_reducible refine (foldl_clk _ ?_ _ _).trans ?_) | (with_reducible refine (checked_clk _ _ _ _ ?_ _).trans ?_) | (with_reducible refine (pqChecked_clk _ _ _ _ ?_ _).trans ?_) | simp))
@[simp] theorem pairSample_clk (n ca cb : Nat) (bits : List Bool) (s : State) : (pairSample n ca cb bits s).time.L = s.time.L := by
  (first | rw [pairSample] | unfold pairSample); (try dsimp only); repeat' split
  all_goals first | (simp; done) | (repeat' (first | (intro _) | split | (with_reducible refine (forEach_clk _ ?_ _ _).trans ?_) | (with_reducible refine (foldl_clk _ ?_ _ _).trans ?_) | (with_reducible refine (checked_clk _ _ _ _ ?_ _).trans ?_) | (with_reducible refine (pqChecked_clk _ _ _ _ ?_ _).trans ?_) | simp))
@[simp] theorem channelSample_clk (n : Nat) (bits : List Bool) (s : State) : (channelSample n bits s).time.L = s.time.L := by
  (first | rw [channelSample] | unfold channelSample); (try dsimp only); repeat' split
  all_goals first | (simp; done) | (repeat' (first | (intro _) | split | (with_reducible refine (forEach_clk _ ?_ _ _).trans ?_) | (with_reducible refine (foldl_clk _ ?_ _ _).trans ?_) | (with_reducible refine (checked_clk _ _ _ _ ?_ _).trans ?_) | (with_reducible refine (pqChecked_clk _ _ _ _ ?_ _).trans ?_) | simp))
@[simp] theorem orbitSources_clk (s : State) : (orbitSources s).time.L = s.time.L := by
  simp [orbitSources]
@[simp] theorem booksBoundary_clk (s : State) : (booksBoundary s).time.L = s.time.L := by
  simp [booksBoundary]
@[simp] theorem takeSeed_clk (s : State) : (takeSeed s).time.L = s.time.L := by
  simp [takeSeed]
@[simp] theorem resume_clk (s : State) : (resume s).time.L = s.time.L := by
  rw [resume]; repeat' split
  all_goals simp
@[simp] theorem drawsLost_clk (s : State) : (drawsLost s).time.L = s.time.L := by
  (first | rw [drawsLost] | unfold drawsLost); (try dsimp only); repeat' split
  all_goals first | (simp; done) | (repeat' (first | (intro _) | split | (with_reducible refine (forEach_clk _ ?_ _ _).trans ?_) | (with_reducible refine (foldl_clk _ ?_ _ _).trans ?_) | (with_reducible refine (checked_clk _ _ _ _ ?_ _).trans ?_) | (with_reducible refine (pqChecked_clk _ _ _ _ ?_ _).trans ?_) | simp))
@[simp] theorem block_clk (s : State) : (block s).time.L = s.time.L := by
  simp [block]
@[simp] theorem drbgInstantiate_clk (s : State) : (drbgInstantiate s).time.L = s.time.L := by
  rw [drbgInstantiate]; repeat' split
  all_goals simp
@[simp] theorem drbgReseed_clk (s : State) : (drbgReseed s).time.L = s.time.L := by
  rw [drbgReseed]; repeat' split
  all_goals simp
@[simp] theorem drbgBlocked_clk (s : State) : (drbgBlocked s).time.L = s.time.L := by
  rw [drbgBlocked]; repeat' split
  all_goals simp
@[simp] theorem drbgKatFailed_clk (cause : Nat) (s : State) : (drbgKatFailed cause s).time.L = s.time.L := by
  rw [drbgKatFailed]; repeat' split
  all_goals simp
@[simp] theorem drbgLate_clk (s : State) : (drbgLate s).time.L = s.time.L := by
  rw [drbgLate]; repeat' split
  all_goals simp
@[simp] theorem rngClear_clk (s : State) : (rngClear s).time.L = s.time.L := by
  simp [rngClear]
@[simp] theorem rngDawn_clk (s : State) : (rngDawn s).time.L = s.time.L := by
  simp [rngDawn]
@[simp] theorem rngRead_clk (j : Nat) (s : State) : (rngRead j s).time.L = s.time.L := by
  (first | rw [rngRead] | unfold rngRead); (try dsimp only); repeat' split
  all_goals first | (simp; done) | (repeat' (first | (intro _) | split | (with_reducible refine (forEach_clk _ ?_ _ _).trans ?_) | (with_reducible refine (foldl_clk _ ?_ _ _).trans ?_) | (with_reducible refine (checked_clk _ _ _ _ ?_ _).trans ?_) | (with_reducible refine (pqChecked_clk _ _ _ _ ?_ _).trans ?_) | simp))
@[simp] theorem modCounter_clk (id : Nat) (g : Counter → Counter) (s : State) : (modCounter id g s).time.L = s.time.L := by
  simp [modCounter]
@[simp] theorem openCarry_clk (id b k : Nat) (s : State) : (openCarry id b k s).time.L = s.time.L := by
  (first | rw [openCarry] | unfold openCarry); (try dsimp only); repeat' split
  all_goals first | (simp; done) | (repeat' (first | (intro _) | split | (with_reducible refine (forEach_clk _ ?_ _ _).trans ?_) | (with_reducible refine (foldl_clk _ ?_ _ _).trans ?_) | (with_reducible refine (checked_clk _ _ _ _ ?_ _).trans ?_) | (with_reducible refine (pqChecked_clk _ _ _ _ ?_ _).trans ?_) | simp))
@[simp] theorem carry_clk (id : Nat) (s : State) : (carry id s).time.L = s.time.L := by
  simp [carry]
@[simp] theorem increment_clk (id : Nat) (bitOk : Bool) (s : State) : (increment id bitOk s).time.L = s.time.L := by
  rw [increment]; repeat' split
  all_goals simp
@[simp] theorem wear_clk (id : Nat) (s : State) : (wear id s).time.L = s.time.L := by
  unfold wear; dsimp only; split <;> simp
@[simp] theorem publishAnchor_clk (bitOk : Bool) (s : State) : (publishAnchor bitOk s).time.L = s.time.L := by
  rw [publishAnchor]; repeat' split
  all_goals simp
@[simp] theorem closeCarry_clk (id : Nat) (s : State) : (closeCarry id s).time.L = s.time.L := by
  (first | rw [closeCarry] | unfold closeCarry); (try dsimp only); repeat' split
  all_goals first | (simp; done) | (repeat' (first | (intro _) | split | (with_reducible refine (forEach_clk _ ?_ _ _).trans ?_) | (with_reducible refine (foldl_clk _ ?_ _ _).trans ?_) | (with_reducible refine (checked_clk _ _ _ _ ?_ _).trans ?_) | (with_reducible refine (pqChecked_clk _ _ _ _ ?_ _).trans ?_) | simp))
@[simp] theorem carryCompletion_clk (id fail : Nat) (s : State) : (carryCompletion id fail s).time.L = s.time.L := by
  (first | rw [carryCompletion] | unfold carryCompletion); (try dsimp only); repeat' split
  all_goals first | (simp; done) | (repeat' (first | (intro _) | split | (with_reducible refine (forEach_clk _ ?_ _ _).trans ?_) | (with_reducible refine (foldl_clk _ ?_ _ _).trans ?_) | (with_reducible refine (checked_clk _ _ _ _ ?_ _).trans ?_) | (with_reducible refine (pqChecked_clk _ _ _ _ ?_ _).trans ?_) | simp))
@[simp] theorem modLaneLdg_clk (n : Nat) (g : LaneLedger → LaneLedger) (s : State) : (modLaneLdg n g s).time.L = s.time.L := by
  simp [modLaneLdg]
@[simp] theorem checkpoint_clk (n kind : Nat) (s : State) : (checkpoint n kind s).time.L = s.time.L := by
  simp [checkpoint]
@[simp] theorem prepareLane_clk (n : Nat) (r : LaneRecord) (s : State) : (prepareLane n r s).time.L = s.time.L := by
  (first | rw [prepareLane] | unfold prepareLane); (try dsimp only); repeat' split
  all_goals first | (simp; done) | (repeat' (first | (intro _) | split | (with_reducible refine (forEach_clk _ ?_ _ _).trans ?_) | (with_reducible refine (foldl_clk _ ?_ _ _).trans ?_) | (with_reducible refine (checked_clk _ _ _ _ ?_ _).trans ?_) | (with_reducible refine (pqChecked_clk _ _ _ _ ?_ _).trans ?_) | simp))
@[simp] theorem releaseRecord_clk (n : Nat) (s : State) : (releaseRecord n s).time.L = s.time.L := by
  (first | rw [releaseRecord] | unfold releaseRecord); (try dsimp only); repeat' split
  all_goals first | (simp; done) | (repeat' (first | (intro _) | split | (with_reducible refine (forEach_clk _ ?_ _ _).trans ?_) | (with_reducible refine (foldl_clk _ ?_ _ _).trans ?_) | (with_reducible refine (checked_clk _ _ _ _ ?_ _).trans ?_) | (with_reducible refine (pqChecked_clk _ _ _ _ ?_ _).trans ?_) | simp))
@[simp] theorem publishLane_clk (n : Nat) (r : LaneRecord) (bitOk : Bool) (s : State) : (publishLane n r bitOk s).time.L = s.time.L := by
  simp [publishLane]
@[simp] theorem laneRecordWrite_clk (n : Nat) (bitOk : Bool) (s : State) : (laneRecordWrite n bitOk s).time.L = s.time.L := by
  rw [laneRecordWrite]; repeat' split
  all_goals simp
@[simp] theorem writeAnchor_clk (bitOk : Bool) (s : State) : (writeAnchor bitOk s).time.L = s.time.L := by
  rw [writeAnchor]; repeat' split
  all_goals simp
@[simp] theorem closeTo_clk (c : Nat) (s : State) : (closeTo c s).time.L = s.time.L := by
  simp [closeTo]
@[simp] theorem periodClose_clk (bitOk : Bool) (s : State) : (periodClose bitOk s).time.L = s.time.L := by
  rw [periodClose]; repeat' split
  all_goals simp
@[simp] theorem closePeriod_clk (n kind cause : Nat) (s : State) : (closePeriod n kind cause s).time.L = s.time.L := by
  simp [closePeriod]
@[simp] theorem closeAtDecision_clk (n : Nat) (s : State) : (closeAtDecision n s).time.L = s.time.L := by
  rw [closeAtDecision]; repeat' split
  all_goals simp
@[simp] theorem seqSkip_clk (n cause : Nat) (s : State) : (seqSkip n cause s).time.L = s.time.L := by
  rw [seqSkip]; repeat' split
  all_goals simp
@[simp] theorem skipRemoved_clk (s : State) : (skipRemoved s).time.L = s.time.L := by
  rw [skipRemoved]; split <;> simp
@[simp] theorem takeSnapshots_clk (s : State) : (takeSnapshots s).time.L = s.time.L := by
  simp [takeSnapshots]
@[simp] theorem sealRequest_clk (j : Nat) (ok : Bool) (s : State) : (sealRequest j ok s).time.L = s.time.L := by
  (first | rw [sealRequest] | unfold sealRequest); (try dsimp only); repeat' split
  all_goals first | (simp; done) | (repeat' (first | (intro _) | split | (with_reducible refine (forEach_clk _ ?_ _ _).trans ?_) | (with_reducible refine (foldl_clk _ ?_ _ _).trans ?_) | (with_reducible refine (checked_clk _ _ _ _ ?_ _).trans ?_) | (with_reducible refine (pqChecked_clk _ _ _ _ ?_ _).trans ?_) | simp))
@[simp] theorem commitSeal_clk (j n seq : Nat) (bitOk : Bool) (s : State) : (commitSeal j n seq bitOk s).time.L = s.time.L := by
  rw [commitSeal]; repeat' split
  all_goals simp
@[simp] theorem releaseSeal_clk (n : Nat) (s : State) : (releaseSeal n s).time.L = s.time.L := by
  simp [releaseSeal]
@[simp] theorem raiseFloor_clk (bitOk : Bool) (s : State) : (raiseFloor bitOk s).time.L = s.time.L := by
  (first | rw [raiseFloor] | unfold raiseFloor); (try dsimp only); repeat' split
  all_goals first | (simp; done) | (repeat' (first | (intro _) | split | (with_reducible refine (forEach_clk _ ?_ _ _).trans ?_) | (with_reducible refine (foldl_clk _ ?_ _ _).trans ?_) | (with_reducible refine (checked_clk _ _ _ _ ?_ _).trans ?_) | (with_reducible refine (pqChecked_clk _ _ _ _ ?_ _).trans ?_) | simp))
@[simp] theorem ledgerRead_clk (j : Nat) (s : State) : (ledgerRead j s).time.L = s.time.L := by
  rw [ledgerRead]; repeat' split
  all_goals simp
@[simp] theorem ledgerIdentity_clk (j : Nat) (s : State) : (ledgerIdentity j s).time.L = s.time.L := by
  rw [ledgerIdentity]; repeat' split
  all_goals simp
@[simp] theorem modLane_clk (n : Nat) (g : Lane → Lane) (s : State) : (modLane n g s).time.L = s.time.L := by
  simp [modLane]
@[simp] theorem sendRequest_clk (n : Nat) (identify : Bool) (s : State) : (sendRequest n identify s).time.L = s.time.L := by
  simp [sendRequest]
@[simp] theorem laneCycleStart_clk (n : Nat) (s : State) : (laneCycleStart n s).time.L = s.time.L := by
  rw [laneCycleStart]; repeat' split
  all_goals simp
@[simp] theorem laneRetry_clk (n : Nat) (s : State) : (laneRetry n s).time.L = s.time.L := by
  rw [laneRetry]; repeat' split
  all_goals simp
@[simp] theorem laneResponseTimeout_clk (n : Nat) (s : State) : (laneResponseTimeout n s).time.L = s.time.L := by
  rw [laneResponseTimeout]; repeat' split
  all_goals simp
@[simp] theorem laneResponse_clk (n : Nat) (clean : Bool) (bs : List Byte) (s : State) : (laneResponse n clean bs s).time.L = s.time.L := by
  rw [laneResponse]; repeat' split
  all_goals simp
@[simp] theorem reading_clk (n : Nat) (clean : Bool) (bs : List Byte) (s : State) : (reading n clean bs s).time.L = s.time.L := by
  simp [reading]
@[simp] theorem identity_clk (n : Nat) (clean : Bool) (bs : List Byte) (s : State) : (identity n clean bs s).time.L = s.time.L := by
  simp [identity]
@[simp] theorem pulse_clk (n : Nat) (s : State) : (pulse n s).time.L = s.time.L := by
  rw [pulse]; repeat' split
  all_goals simp
@[simp] theorem laneNotice_clk (n cause p1 p2 : Nat) (s : State) : (laneNotice n cause p1 p2 s).time.L = s.time.L := by
  simp [laneNotice]
@[simp] theorem taint_clk (n : Nat) (s : State) : (taint n s).time.L = s.time.L := by
  rw [taint]; repeat' split
  all_goals simp
@[simp] theorem enterSuspect_clk (n cause p1 p2 : Nat) (s : State) : (enterSuspect n cause p1 p2 s).time.L = s.time.L := by
  rw [enterSuspect]; repeat' split
  all_goals simp
@[simp] theorem handOver_clk (n imp exp : Nat) (c : Cycle) (s : State) : (handOver n imp exp c s).time.L = s.time.L := by
  rw [handOver]; repeat' split
  all_goals simp
@[simp] theorem crossCheck_clk (n imp : Nat) (c : Cycle) (s : State) : (crossCheck n imp c s).time.L = s.time.L := by
  (first | rw [crossCheck] | unfold crossCheck); (try dsimp only); repeat' split
  all_goals first | (simp; done) | (repeat' (first | (intro _) | split | (with_reducible refine (forEach_clk _ ?_ _ _).trans ?_) | (with_reducible refine (foldl_clk _ ?_ _ _).trans ?_) | (with_reducible refine (checked_clk _ _ _ _ ?_ _).trans ?_) | (with_reducible refine (pqChecked_clk _ _ _ _ ?_ _).trans ?_) | simp))
@[simp] theorem newBaseline_clk (n imp exp : Nat) (c : Cycle) (s : State) : (newBaseline n imp exp c s).time.L = s.time.L := by
  simp [newBaseline]
@[simp] theorem endJoin_clk (n imp exp : Nat) (c : Cycle) (s : State) : (endJoin n imp exp c s).time.L = s.time.L := by
  (first | rw [endJoin] | unfold endJoin); (try dsimp only); repeat' split
  all_goals first | (simp; done) | (repeat' (first | (intro _) | split | (with_reducible refine (forEach_clk _ ?_ _ _).trans ?_) | (with_reducible refine (foldl_clk _ ?_ _ _).trans ?_) | (with_reducible refine (checked_clk _ _ _ _ ?_ _).trans ?_) | (with_reducible refine (pqChecked_clk _ _ _ _ ?_ _).trans ?_) | simp))
@[simp] theorem acceptReading_clk (n imp exp : Nat) (c : Cycle) (s : State) : (acceptReading n imp exp c s).time.L = s.time.L := by
  rw [acceptReading]; repeat' split
  all_goals simp
@[simp] theorem decideReading_clk (n : Nat) (c : Cycle) (p : List Byte) (s : State) : (decideReading n c p s).time.L = s.time.L := by
  (first | rw [decideReading] | unfold decideReading); (try dsimp only); repeat' split
  all_goals first | (simp; done) | (repeat' (first | (intro _) | split | (with_reducible refine (forEach_clk _ ?_ _ _).trans ?_) | (with_reducible refine (foldl_clk _ ?_ _ _).trans ?_) | (with_reducible refine (checked_clk _ _ _ _ ?_ _).trans ?_) | (with_reducible refine (pqChecked_clk _ _ _ _ ?_ _).trans ?_) | simp))
@[simp] theorem decideIdentity_clk (n : Nat) (s : State) : (decideIdentity n s).time.L = s.time.L := by
  rw [decideIdentity]; repeat' split
  all_goals simp
@[simp] theorem decideMissed_clk (n : Nat) (c : Cycle) (s : State) : (decideMissed n c s).time.L = s.time.L := by
  (first | rw [decideMissed] | unfold decideMissed); (try dsimp only); repeat' split
  all_goals first | (simp; done) | (repeat' (first | (intro _) | split | (with_reducible refine (forEach_clk _ ?_ _ _).trans ?_) | (with_reducible refine (foldl_clk _ ?_ _ _).trans ?_) | (with_reducible refine (checked_clk _ _ _ _ ?_ _).trans ?_) | (with_reducible refine (pqChecked_clk _ _ _ _ ?_ _).trans ?_) | simp))
@[simp] theorem decisionPoint_clk (n : Nat) (s : State) : (decisionPoint n s).time.L = s.time.L := by
  rw [decisionPoint]; repeat' split
  all_goals simp
@[simp] theorem laneBabbling_clk (n : Nat) (s : State) : (laneBabbling n s).time.L = s.time.L := by
  rw [laneBabbling]; repeat' split
  all_goals simp
@[simp] theorem joinLaneFrom_clk (n frame : Nat) (s : State) : (joinLaneFrom n frame s).time.L = s.time.L := by
  simp [joinLaneFrom]
@[simp] theorem thawLane_clk (n : Nat) (s : State) : (thawLane n s).time.L = s.time.L := by
  simp [thawLane]
@[simp] theorem rejoinThawed_clk (s : State) : (rejoinThawed s).time.L = s.time.L := by
  (first | rw [rejoinThawed] | unfold rejoinThawed); (try dsimp only); repeat' split
  all_goals first | (simp; done) | (repeat' (first | (intro _) | split | (with_reducible refine (forEach_clk _ ?_ _ _).trans ?_) | (with_reducible refine (foldl_clk _ ?_ _ _).trans ?_) | (with_reducible refine (checked_clk _ _ _ _ ?_ _).trans ?_) | (with_reducible refine (pqChecked_clk _ _ _ _ ?_ _).trans ?_) | simp))
@[simp] theorem laneJoin_clk (n : Nat) (s : State) : (laneJoin n s).time.L = s.time.L := by
  rw [laneJoin]; repeat' split
  all_goals simp
@[simp] theorem dawnLanes_clk (firstFrame : Nat) (s : State) : (dawnLanes firstFrame s).time.L = s.time.L := by
  simp [dawnLanes]
@[simp] theorem laneStatus_clk (j : Nat) (s : State) : (laneStatus j s).time.L = s.time.L := by
  rw [laneStatus]; repeat' split
  all_goals simp
@[simp] theorem timeNonce_clk (j : Nat) (s : State) : (timeNonce j s).time.L = s.time.L := by
  rw [timeNonce]; repeat' split
  all_goals simp
@[simp] theorem acceptStmt_clk (j : Nat) (t : TimeState) (s : State) (h : t.L = s.time.L) : (acceptStmt j t s).time.L = s.time.L := by
  unfold acceptStmt; simp [h]
@[simp] theorem openStep_clk (j : Nat) (x : Job) (target : Int) (s : State) : (openStep j x target s).time.L = s.time.L := by
  rw [openStep]; repeat' split
  all_goals simp
@[simp] theorem decideStmt_clk (j : Nat) (x : Job) (st : Stmt) (issue : Nat) (s : State) : (decideStmt j x st issue s).time.L = s.time.L := by
  rw [decideStmt]; repeat' split
  all_goals simp
@[simp] theorem timeStatement_clk (j : Nat) (s : State) : (timeStatement j s).time.L = s.time.L := by
  (first | rw [timeStatement] | unfold timeStatement); (try dsimp only); repeat' split
  all_goals first | (simp; done) | (repeat' (first | (intro _) | split | (with_reducible refine (forEach_clk _ ?_ _ _).trans ?_) | (with_reducible refine (foldl_clk _ ?_ _ _).trans ?_) | (with_reducible refine (checked_clk _ _ _ _ ?_ _).trans ?_) | (with_reducible refine (pqChecked_clk _ _ _ _ ?_ _).trans ?_) | simp))
@[simp] theorem approveStep_clk (j : Nat) (s : State) : (approveStep j s).time.L = s.time.L := by
  unfold approveStep; repeat' split
  all_goals rfl
@[simp] theorem timeStepApply_clk (s : State) : (timeStepApply s).time.L = s.time.L := by
  unfold timeStepApply; split
  · rfl
  · dsimp only; split <;> simp
@[simp] theorem keepResult_clk (src : Nat) (e : BistEntry) (s : State) : (keepResult src e s).time.L = s.time.L := by
  simp [keepResult]
@[simp] theorem underTest_clk (p : Nat) (from_ : Option Nat) (s : State) : (underTest p from_ s).time.L = s.time.L := by
  simp [underTest]
@[simp] theorem bistTail_clk (s : State) : (bistTail s).time.L = s.time.L := by
  rw [bistTail]; repeat' split
  all_goals simp
@[simp] theorem tileReturns_clk (t : Nat) (s : State) : (tileReturns t s).time.L = s.time.L := by
  rw [tileReturns]; repeat' split
  all_goals simp
@[simp] theorem bistFinish_clk (r : BistRun) (s : State) : (bistFinish r s).time.L = s.time.L := by
  rw [bistFinish]; repeat' split
  all_goals simp
@[simp] theorem bistRunComplete_clk (p : Nat) (found : List BistFound) (s : State) : (bistRunComplete p found s).time.L = s.time.L := by
  (first | rw [bistRunComplete] | unfold bistRunComplete); (try dsimp only); repeat' split
  all_goals first | (simp; done) | (repeat' (first | (intro _) | split | (with_reducible refine (forEach_clk _ ?_ _ _).trans ?_) | (with_reducible refine (foldl_clk _ ?_ _ _).trans ?_) | (with_reducible refine (checked_clk _ _ _ _ ?_ _).trans ?_) | (with_reducible refine (pqChecked_clk _ _ _ _ ?_ _).trans ?_) | simp))
@[simp] theorem dropWaiting_clk (s : State) : (dropWaiting s).time.L = s.time.L := by
  simp [dropWaiting]
@[simp] theorem abortBist_clk (cause : Nat) (s : State) : (abortBist cause s).time.L = s.time.L := by
  rw [abortBist]; repeat' split
  all_goals simp
@[simp] theorem pruneBist_clk (s : State) : (pruneBist s).time.L = s.time.L := by
  rw [pruneBist]; repeat' split
  all_goals simp
@[simp] theorem selftest_clk (j : Nat) (s : State) : (selftest j s).time.L = s.time.L := by
  (first | rw [selftest] | unfold selftest); (try dsimp only); repeat' split
  all_goals first | (simp; done) | (repeat' (first | (intro _) | split | (with_reducible refine (forEach_clk _ ?_ _ _).trans ?_) | (with_reducible refine (foldl_clk _ ?_ _ _).trans ?_) | (with_reducible refine (checked_clk _ _ _ _ ?_ _).trans ?_) | (with_reducible refine (pqChecked_clk _ _ _ _ ?_ _).trans ?_) | simp))
@[simp] theorem bstDapStart_clk (s : State) : (bstDapStart s).time.L = s.time.L := by
  rw [bstDapStart]; repeat' split
  all_goals simp
@[simp] theorem modWorld_clk (w : Nat) (g : World → World) (s : State) : (modWorld w g s).time.L = s.time.L := by
  simp [modWorld]
@[simp] theorem worldWrite_clk (w vaddr : Nat) (bs : List Byte) (s : State) : (worldWrite w vaddr bs s).time.L = s.time.L := by
  simp [worldWrite]
@[simp] theorem clearPages_clk (ps : List Nat) (s : State) : (clearPages ps s).time.L = s.time.L := by
  simp [clearPages]
@[simp] theorem endMessages_clk (w : Nat) (s : State) : (endMessages w s).time.L = s.time.L := by
  simp [endMessages]
@[simp] theorem returnPages_clk (w : Nat) (s : State) : (returnPages w s).time.L = s.time.L := by
  simp [returnPages]
@[simp] theorem offPair_clk (w : Nat) (s : State) : (offPair w s).time.L = s.time.L := by
  rw [offPair]; repeat' split
  all_goals simp
@[simp] theorem loadWorld_clk (w : Nat) (img : List Byte) (job : Option Nat) (stored : Bool) (s : State) : (loadWorld w img job stored s).time.L = s.time.L := by
  simp [loadWorld]
@[simp] theorem appletLoad_clk (j : Nat) (s : State) : (appletLoad j s).time.L = s.time.L := by
  rw [appletLoad]; repeat' split
  all_goals simp
@[simp] theorem runAppletLoad_clk (j : Nat) (x : Job) (s : State) : (runAppletLoad j x s).time.L = s.time.L := by
  unfold runAppletLoad; split <;> simp
@[simp] theorem appletStoreWritten_clk (w : Nat) (ok : Bool) (s : State) : (appletStoreWritten w ok s).time.L = s.time.L := by
  rw [appletStoreWritten]; repeat' split
  all_goals simp
@[simp] theorem appletRun_clk (w : Nat) (s : State) : (appletRun w s).time.L = s.time.L := by
  rw [appletRun]; repeat' split
  all_goals simp
@[simp] theorem stopWorld_clk (w cause : Nat) (s : State) : (stopWorld w cause s).time.L = s.time.L := by
  simp [stopWorld]
@[simp] theorem appletStop_clk (j : Nat) (s : State) : (appletStop j s).time.L = s.time.L := by
  rw [appletStop]; repeat' split
  all_goals simp
@[simp] theorem worldStop_clk (w : Nat) (s : State) : (worldStop w s).time.L = s.time.L := by
  rw [worldStop]; repeat' split
  all_goals simp
@[simp] theorem dawnWorlds_clk (s : State) : (dawnWorlds s).time.L = s.time.L := by
  (first | rw [dawnWorlds] | unfold dawnWorlds); (try dsimp only); repeat' split
  all_goals first | (simp; done) | (repeat' (first | (intro _) | split | (with_reducible refine (forEach_clk _ ?_ _ _).trans ?_) | (with_reducible refine (foldl_clk _ ?_ _ _).trans ?_) | (with_reducible refine (checked_clk _ _ _ _ ?_ _).trans ?_) | (with_reducible refine (pqChecked_clk _ _ _ _ ?_ _).trans ?_) | simp))
@[simp] theorem worldSwitch_clk (q : Nat) (s : State) : (worldSwitch q s).time.L = s.time.L := by
  rw [worldSwitch]; repeat' split
  all_goals simp
@[simp] theorem retStatus_clk (w v : Nat) (s : State) : (retStatus w v s).time.L = s.time.L := by
  simp [retStatus]
@[simp] theorem freezeWorld_clk (w cause addr : Nat) (s : State) : (freezeWorld w cause addr s).time.L = s.time.L := by
  simp [freezeWorld]
@[simp] theorem yield_clk (w : Nat) (s : State) : (yield w s).time.L = s.time.L := by
  rw [yield]; repeat' split
  all_goals simp
@[simp] theorem msgRecv_clk (w : Nat) (s : State) : (msgRecv w s).time.L = s.time.L := by
  rw [msgRecv]; repeat' split
  all_goals simp
@[simp] theorem msgDone_clk (w : Nat) (s : State) : (msgDone w s).time.L = s.time.L := by
  rw [msgDone]; repeat' split
  all_goals simp
@[simp] theorem msgSend_clk (w len : Nat) (out : List Byte) (s : State) : (msgSend w len out s).time.L = s.time.L := by
  (first | rw [msgSend] | unfold msgSend); (try dsimp only); repeat' split
  all_goals first | (simp; done) | (repeat' (first | (intro _) | split | (with_reducible refine (forEach_clk _ ?_ _ _).trans ?_) | (with_reducible refine (foldl_clk _ ?_ _ _).trans ?_) | (with_reducible refine (checked_clk _ _ _ _ ?_ _).trans ?_) | (with_reducible refine (pqChecked_clk _ _ _ _ ?_ _).trans ?_) | simp))
@[simp] theorem ledgerViewCall_clk (w lane buf : Nat) (s : State) : (ledgerViewCall w lane buf s).time.L = s.time.L := by
  rw [ledgerViewCall]; repeat' split
  all_goals simp
@[simp] theorem timeCall_clk (w buf : Nat) (s : State) : (timeCall w buf s).time.L = s.time.L := by
  rw [timeCall]; repeat' split
  all_goals simp
@[simp] theorem lNow_clk (w : Nat) (s : State) : (lNow w s).time.L = s.time.L := by
  rw [lNow]; repeat' split
  all_goals simp
@[simp] theorem badCall_clk (w number addr : Nat) (s : State) : (badCall w number addr s).time.L = s.time.L := by
  rw [badCall]; repeat' split
  all_goals simp
@[simp] theorem worldViolation_clk (w : Nat) (kind : Option Access) (vaddr : Nat) (s : State) : (worldViolation w kind vaddr s).time.L = s.time.L := by
  (first | rw [worldViolation] | unfold worldViolation); (try dsimp only); repeat' split
  all_goals first | (simp; done) | (repeat' (first | (intro _) | split | (with_reducible refine (forEach_clk _ ?_ _ _).trans ?_) | (with_reducible refine (foldl_clk _ ?_ _ _).trans ?_) | (with_reducible refine (checked_clk _ _ _ _ ?_ _).trans ?_) | (with_reducible refine (pqChecked_clk _ _ _ _ ?_ _).trans ?_) | simp))
@[simp] theorem restartWorld_clk (w : Nat) (s : State) : (restartWorld w s).time.L = s.time.L := by
  simp [restartWorld]
@[simp] theorem appletMessage_clk (j : Nat) (s : State) : (appletMessage j s).time.L = s.time.L := by
  (first | rw [appletMessage] | unfold appletMessage); (try dsimp only); repeat' split
  all_goals first | (simp; done) | (repeat' (first | (intro _) | split | (with_reducible refine (forEach_clk _ ?_ _ _).trans ?_) | (with_reducible refine (foldl_clk _ ?_ _ _).trans ?_) | (with_reducible refine (checked_clk _ _ _ _ ?_ _).trans ?_) | (with_reducible refine (pqChecked_clk _ _ _ _ ?_ _).trans ?_) | simp))
@[simp] theorem messageDelivery_clk (w : Nat) (s : State) : (messageDelivery w s).time.L = s.time.L := by
  rw [messageDelivery]; repeat' split
  all_goals simp
@[simp] theorem messageTimeout_clk (w : Nat) (s : State) : (messageTimeout w s).time.L = s.time.L := by
  simp [messageTimeout]
@[simp] theorem modPair_clk (p : Nat) (g : Pair → Pair) (s : State) : (modPair p g s).time.L = s.time.L := by
  rw [modPair]; repeat' split
  all_goals simp
@[simp] theorem dropLoads_clk (s : State) : (dropLoads s).time.L = s.time.L := by
  (first | rw [dropLoads] | unfold dropLoads); (try dsimp only); repeat' split
  all_goals first | (simp; done) | (repeat' (first | (intro _) | split | (with_reducible refine (forEach_clk _ ?_ _ _).trans ?_) | (with_reducible refine (foldl_clk _ ?_ _ _).trans ?_) | (with_reducible refine (checked_clk _ _ _ _ ?_ _).trans ?_) | (with_reducible refine (pqChecked_clk _ _ _ _ ?_ _).trans ?_) | simp))
@[simp] theorem keeperLost_clk (s : State) : (keeperLost s).time.L = s.time.L := by
  simp [keeperLost]
@[simp] theorem attemptFailed_clk (p outcome : Nat) (s : State) : (attemptFailed p outcome s).time.L = s.time.L := by
  simp [attemptFailed]
@[simp] theorem lockstepMismatch_clk (p cause : Nat) (s : State) : (lockstepMismatch p cause s).time.L = s.time.L := by
  rw [lockstepMismatch]; repeat' split
  all_goals simp
@[simp] theorem comparatorDead_clk (p cause : Nat) (s : State) : (comparatorDead p cause s).time.L = s.time.L := by
  rw [comparatorDead]; repeat' split
  all_goals simp
@[simp] theorem comparatorProbe_clk (p rail cycles : Nat) (s : State) : (comparatorProbe p rail cycles s).time.L = s.time.L := by
  rw [comparatorProbe]; repeat' split
  all_goals simp
@[simp] theorem pairRestart_clk (p : Nat) (s : State) : (pairRestart p s).time.L = s.time.L := by
  rw [pairRestart]; repeat' split
  all_goals simp
@[simp] theorem resolveIntent_clk (s : State) : (resolveIntent s).time.L = s.time.L := by
  (first | rw [resolveIntent] | unfold resolveIntent); (try dsimp only); repeat' split
  all_goals first | (simp; done) | (repeat' (first | (intro _) | split | (with_reducible refine (forEach_clk _ ?_ _ _).trans ?_) | (with_reducible refine (foldl_clk _ ?_ _ _).trans ?_) | (with_reducible refine (checked_clk _ _ _ _ ?_ _).trans ?_) | (with_reducible refine (pqChecked_clk _ _ _ _ ?_ _).trans ?_) | simp))
@[simp] theorem pairRestartComplete_clk (p : Nat) (bad : List Nat) (s : State) : (pairRestartComplete p bad s).time.L = s.time.L := by
  (first | rw [pairRestartComplete] | unfold pairRestartComplete); (try dsimp only); repeat' split
  all_goals first | (simp; done) | (repeat' (first | (intro _) | split | (with_reducible refine (forEach_clk _ ?_ _ _).trans ?_) | (with_reducible refine (foldl_clk _ ?_ _ _).trans ?_) | (with_reducible refine (checked_clk _ _ _ _ ?_ _).trans ?_) | (with_reducible refine (pqChecked_clk _ _ _ _ ?_ _).trans ?_) | simp))
@[simp] theorem pairRestartTimeout_clk (p : Nat) (s : State) : (pairRestartTimeout p s).time.L = s.time.L := by
  rw [pairRestartTimeout]; repeat' split
  all_goals simp
@[simp] theorem keeperAbsentClose_clk (s : State) : (keeperAbsentClose s).time.L = s.time.L := by
  rw [keeperAbsentClose]; repeat' split
  all_goals simp
@[simp] theorem admissionReopen_clk (s : State) : (admissionReopen s).time.L = s.time.L := by
  rw [admissionReopen]; repeat' split
  all_goals simp
@[simp] theorem debugPairHalt_clk (p : Nat) (s : State) : (debugPairHalt p s).time.L = s.time.L := by
  rw [debugPairHalt]; repeat' split
  all_goals simp
@[simp] theorem debugPairResume_clk (p : Nat) (s : State) : (debugPairResume p s).time.L = s.time.L := by
  rw [debugPairResume]; repeat' split
  all_goals simp
@[simp] theorem modTin_clk (n : Nat) (g : TamInput → TamInput) (s : State) : (modTin n g s).time.L = s.time.L := by
  simp [modTin]
@[simp] theorem loadTamper_clk (recs : List TamperRec) (cover : Bool) (s : State) : (loadTamper recs cover s).time.L = s.time.L := by
  (first | rw [loadTamper] | unfold loadTamper); (try dsimp only); repeat' split
  all_goals first | (simp; done) | (repeat' (first | (intro _) | split | (with_reducible refine (forEach_clk _ ?_ _ _).trans ?_) | (with_reducible refine (foldl_clk _ ?_ _ _).trans ?_) | (with_reducible refine (checked_clk _ _ _ _ ?_ _).trans ?_) | (with_reducible refine (pqChecked_clk _ _ _ _ ?_ _).trans ?_) | simp))
@[simp] theorem tamperSample_clk (a b : Nat) (lid board : Bool × Bool) (temp : Int) (mv present : Nat) (s : State) : (tamperSample a b lid board temp mv present s).time.L = s.time.L := by
  rw [tamperSample]; repeat' split
  all_goals simp
@[simp] theorem reportBrief_clk (n : Nat) (e : Nat × Nat) (s : State) : (reportBrief n e s).time.L = s.time.L := by
  rw [reportBrief]; repeat' split
  all_goals simp
@[simp] theorem discrepancyBrief_clk (n : Nat) (s : State) : (discrepancyBrief n s).time.L = s.time.L := by
  rw [discrepancyBrief]; repeat' split
  all_goals simp
@[simp] theorem logNight_clk (s : State) : (logNight s).time.L = s.time.L := by
  unfold logNight; apply forEach_clk; intro n s
  dsimp only; apply (forEach_clk _ (by simp) _ _).trans; split <;> simp
@[simp] theorem eraseVault_clk (s : State) : (eraseVault s).time.L = s.time.L := by
  simp [eraseVault]
@[simp] theorem eraseSecrets_clk (s : State) : (eraseSecrets s).time.L = s.time.L := by
  simp [eraseSecrets]
@[simp] theorem clearBanks_clk (s : State) : (clearBanks s).time.L = s.time.L := by
  (first | rw [clearBanks] | unfold clearBanks); (try dsimp only); repeat' split
  all_goals first | (simp; done) | (repeat' (first | (intro _) | split | (with_reducible refine (forEach_clk _ ?_ _ _).trans ?_) | (with_reducible refine (foldl_clk _ ?_ _ _).trans ?_) | (with_reducible refine (checked_clk _ _ _ _ ?_ _).trans ?_) | (with_reducible refine (pqChecked_clk _ _ _ _ ?_ _).trans ?_) | simp))
@[simp] theorem clearDrawers_clk (s : State) : (clearDrawers s).time.L = s.time.L := by
  (first | rw [clearDrawers] | unfold clearDrawers); (try dsimp only); repeat' split
  all_goals first | (simp; done) | (repeat' (first | (intro _) | split | (with_reducible refine (forEach_clk _ ?_ _ _).trans ?_) | (with_reducible refine (foldl_clk _ ?_ _ _).trans ?_) | (with_reducible refine (checked_clk _ _ _ _ ?_ _).trans ?_) | (with_reducible refine (pqChecked_clk _ _ _ _ ?_ _).trans ?_) | simp))
@[simp] theorem umbraLine_clk (s : State) : (umbraLine s).time.L = s.time.L := by
  simp [umbraLine]
@[simp] theorem clearHandles_clk (p : HeRec → Bool) (s : State) : (clearHandles p s).time.L = s.time.L := by
  simp [clearHandles]
@[simp] theorem clearKeyStore_clk (s : State) : (clearKeyStore s).time.L = s.time.L := by
  simp [clearKeyStore]
@[simp] theorem clearSram_clk (s : State) : (clearSram s).time.L = s.time.L := by
  simp [clearSram]
@[simp] theorem breakJobs_clk (s : State) : (breakJobs s).time.L = s.time.L := by
  (first | rw [breakJobs] | unfold breakJobs); (try dsimp only); repeat' split
  all_goals first | (simp; done) | (repeat' (first | (intro _) | split | (with_reducible refine (forEach_clk _ ?_ _ _).trans ?_) | (with_reducible refine (foldl_clk _ ?_ _ _).trans ?_) | (with_reducible refine (checked_clk _ _ _ _ ?_ _).trans ?_) | (with_reducible refine (pqChecked_clk _ _ _ _ ?_ _).trans ?_) | simp))
@[simp] theorem pairsDown_clk (s : State) : (pairsDown s).time.L = s.time.L := by
  simp [pairsDown]
@[simp] theorem latchAlarm_clk (cls src : Nat) (s : State) : (latchAlarm cls src s).time.L = s.time.L := by
  unfold latchAlarm; dsimp only; repeat' split
  all_goals simp
@[simp] theorem closeInvasive_clk (s : State) : (closeInvasive s).time.L = s.time.L := by
  simp [closeInvasive]
@[simp] theorem alarmNotice_clk (cls src L : Nat) (s : State) : (alarmNotice cls src L s).time.L = s.time.L := by
  rw [alarmNotice]; repeat' split
  all_goals simp
@[simp] theorem alarm_clk (cls src : Nat) (s : State) : (alarm cls src s).time.L = s.time.L := by
  rw [alarm]; repeat' split
  all_goals simp
@[simp] theorem inputTripped_clk (n : Nat) (s : State) : (inputTripped n s).time.L = s.time.L := by
  rw [inputTripped]; repeat' split
  all_goals simp
@[simp] theorem inputDiscrepancy_clk (n : Nat) (s : State) : (inputDiscrepancy n s).time.L = s.time.L := by
  rw [inputDiscrepancy]; repeat' split
  all_goals simp
@[simp] theorem escutcheon_clk (m : Nat) (s : State) : (escutcheon m s).time.L = s.time.L := by
  rw [escutcheon]; repeat' split
  all_goals simp
@[simp] theorem sensorAlarm_clk (cls src : Nat) (s : State) : (sensorAlarm cls src s).time.L = s.time.L := by
  rw [sensorAlarm]; repeat' split
  all_goals simp
@[simp] theorem logAlarm_clk (p3 : Nat) (s : State) : (logAlarm p3 s).time.L = s.time.L := by
  (first | rw [logAlarm] | unfold logAlarm); (try dsimp only); repeat' split
  all_goals first | (simp; done) | (repeat' (first | (intro _) | split | (with_reducible refine (forEach_clk _ ?_ _ _).trans ?_) | (with_reducible refine (foldl_clk _ ?_ _ _).trans ?_) | (with_reducible refine (checked_clk _ _ _ _ ?_ _).trans ?_) | (with_reducible refine (pqChecked_clk _ _ _ _ ?_ _).trans ?_) | simp))
@[simp] theorem revokeRings_clk (s : State) : (revokeRings s).time.L = s.time.L := by
  (first | rw [revokeRings] | unfold revokeRings); (try dsimp only); repeat' split
  all_goals first | (simp; done) | (repeat' (first | (intro _) | split | (with_reducible refine (forEach_clk _ ?_ _ _).trans ?_) | (with_reducible refine (foldl_clk _ ?_ _ _).trans ?_) | (with_reducible refine (checked_clk _ _ _ _ ?_ _).trans ?_) | (with_reducible refine (pqChecked_clk _ _ _ _ ?_ _).trans ?_) | simp))
@[simp] theorem zeroizeComplete_clk (vaultOk sramOk : Bool) (s : State) : (zeroizeComplete vaultOk sramOk s).time.L = s.time.L := by
  rw [zeroizeComplete]; repeat' split
  all_goals simp
@[simp] theorem alarmAtDawn_clk (s : State) : (alarmAtDawn s).time.L = s.time.L := by
  rw [alarmAtDawn]; repeat' split
  all_goals simp
@[simp] theorem lowBattery_clk (mv : Nat) (s : State) : (lowBattery mv s).time.L = s.time.L := by
  (first | rw [lowBattery] | unfold lowBattery); (try dsimp only); repeat' split
  all_goals first | (simp; done) | (repeat' (first | (intro _) | split | (with_reducible refine (forEach_clk _ ?_ _ _).trans ?_) | (with_reducible refine (foldl_clk _ ?_ _ _).trans ?_) | (with_reducible refine (checked_clk _ _ _ _ ?_ _).trans ?_) | (with_reducible refine (pqChecked_clk _ _ _ _ ?_ _).trans ?_) | simp))
@[simp] theorem aonPowerLoss_clk (s : State) : (aonPowerLoss s).time.L = s.time.L := by
  simp [aonPowerLoss]
@[simp] theorem alwaysOnPowerUp_clk (s : State) : (alwaysOnPowerUp s).time.L = s.time.L := by
  rw [alwaysOnPowerUp]; repeat' split
  all_goals simp
@[simp] theorem sensorDisarm_clk (s : State) : (sensorDisarm s).time.L = s.time.L := by
  rw [sensorDisarm]; repeat' split
  all_goals simp
@[simp] theorem keyGenShort_clk (j : Nat) (x : Job) (s : State) : (keyGenShort j x s).time.L = s.time.L := by
  (first | rw [keyGenShort] | unfold keyGenShort); (try dsimp only); repeat' split
  all_goals first | (simp; done) | (repeat' (first | (intro _) | split | (with_reducible refine (forEach_clk _ ?_ _ _).trans ?_) | (with_reducible refine (foldl_clk _ ?_ _ _).trans ?_) | (with_reducible refine (checked_clk _ _ _ _ ?_ _).trans ?_) | (with_reducible refine (pqChecked_clk _ _ _ _ ?_ _).trans ?_) | simp))
@[simp] theorem runKeyGenerate_clk (j : Nat) (x : Job) (s : State) : (runKeyGenerate j x s).time.L = s.time.L := by
  rw [runKeyGenerate]; repeat' split
  all_goals simp
@[simp] theorem generate_clk (j tile outcome : Nat) (x : Job) (s : State) : (generate j tile outcome x s).time.L = s.time.L := by
  rw [generate]; repeat' split
  all_goals simp
@[simp] theorem keyGenerate_clk (j tile outcome : Nat) (s : State) : (keyGenerate j tile outcome s).time.L = s.time.L := by
  rw [keyGenerate]; repeat' split
  all_goals simp
@[simp] theorem copyTime_clk (s : State) : (copyTime s).time.L = s.time.L := by
  rw [copyTime]; repeat' split
  all_goals simp
@[simp] theorem wake_clk (cause secs : Nat) (s : State) : (wake cause secs s).time.L = s.time.L := by
  rw [wake]; repeat' split
  all_goals simp
@[simp] theorem powerFail_clk (s : State) : (powerFail s).time.L = s.time.L := by
  rw [powerFail]; repeat' split
  all_goals simp
@[simp] theorem setPlace_clk (k : Nat) (bs : List Byte) (s : State) : (setPlace k bs s).time.L = s.time.L := by
  rw [setPlace]; repeat' split
  all_goals simp
@[simp] theorem beginWrite_clk (j place : Nat) (img : List Byte) (s : State) : (beginWrite j place img s).time.L = s.time.L := by
  simp [beginWrite]
@[simp] theorem firmwareStage_clk (j : Nat) (s : State) : (firmwareStage j s).time.L = s.time.L := by
  rw [firmwareStage]; repeat' split
  all_goals simp
@[simp] theorem runFirmwareCommit_clk (j : Nat) (s : State) : (runFirmwareCommit j s).time.L = s.time.L := by
  rw [runFirmwareCommit]; repeat' split
  all_goals simp
@[simp] theorem firmwareCommit_clk (j : Nat) (s : State) : (firmwareCommit j s).time.L = s.time.L := by
  rw [firmwareCommit]; repeat' split
  all_goals simp
@[simp] theorem firmwareCopyWritten_clk (found : List Byte) (s : State) : (firmwareCopyWritten found s).time.L = s.time.L := by
  (first | rw [firmwareCopyWritten] | unfold firmwareCopyWritten); (try dsimp only); repeat' split
  all_goals first | (simp; done) | (repeat' (first | (intro _) | split | (with_reducible refine (forEach_clk _ ?_ _ _).trans ?_) | (with_reducible refine (foldl_clk _ ?_ _ _).trans ?_) | (with_reducible refine (checked_clk _ _ _ _ ?_ _).trans ?_) | (with_reducible refine (pqChecked_clk _ _ _ _ ?_ _).trans ?_) | simp))
@[simp] theorem setCeiling_clk (i2c : Bool) (p : Nat) (s : State) : (setCeiling i2c p s).time.L = s.time.L := by
  simp [setCeiling]
@[simp] theorem powerPolicy_clk (j : Nat) (s : State) : (powerPolicy j s).time.L = s.time.L := by
  rw [powerPolicy]; repeat' split
  all_goals simp
@[simp] theorem i2cCeiling_clk (bs : List Byte) (s : State) : (i2cCeiling bs s).time.L = s.time.L := by
  rw [i2cCeiling]; repeat' split
  all_goals simp
@[simp] theorem lowerLimit_clk (t cause : Nat) (s : State) : (lowerLimit t cause s).time.L = s.time.L := by
  rw [lowerLimit]; repeat' split
  all_goals simp
@[simp] theorem tileLimitChange_clk (t : Nat) (s : State) : (tileLimitChange t s).time.L = s.time.L := by
  rw [tileLimitChange]; repeat' split
  all_goals simp
@[simp] theorem haltWorlds_clk (s : State) : (haltWorlds s).time.L = s.time.L := by
  simp [haltWorlds]
@[simp] theorem nightEnter_clk (j : Nat) (s : State) : (nightEnter j s).time.L = s.time.L := by
  (first | rw [nightEnter] | unfold nightEnter); (try dsimp only); repeat' split
  all_goals first | (simp; done) | (repeat' (first | (intro _) | split | (with_reducible refine (forEach_clk _ ?_ _ _).trans ?_) | (with_reducible refine (foldl_clk _ ?_ _ _).trans ?_) | (with_reducible refine (checked_clk _ _ _ _ ?_ _).trans ?_) | (with_reducible refine (pqChecked_clk _ _ _ _ ?_ _).trans ?_) | simp))
@[simp] theorem bootMap_clk (f w : Nat) (s : State) : (bootMap f w s).time.L = s.time.L := by
  (first | rw [bootMap] | unfold bootMap); (try dsimp only); repeat' split
  all_goals first | (simp; done) | (repeat' (first | (intro _) | split | (with_reducible refine (forEach_clk _ ?_ _ _).trans ?_) | (with_reducible refine (foldl_clk _ ?_ _ _).trans ?_) | (with_reducible refine (checked_clk _ _ _ _ ?_ _).trans ?_) | (with_reducible refine (pqChecked_clk _ _ _ _ ?_ _).trans ?_) | simp))
@[simp] theorem withdrawAll_clk (but : Option Nat) (s : State) : (withdrawAll but s).time.L = s.time.L := by
  simp [withdrawAll]
@[simp] theorem eraseFor_clk (from_ to_ : Nat) (s : State) : (eraseFor from_ to_ s).time.L = s.time.L := by
  rw [eraseFor]; repeat' split
  all_goals simp
@[simp] theorem runTransition_clk (but : Option Nat) (to_ bits : Nat) (s : State) : (runTransition but to_ bits s).time.L = s.time.L := by
  rw [runTransition]; repeat' split
  all_goals simp
@[simp] theorem tokenBad_clk (to_ f : Nat) (s : State) : (tokenBad to_ f s).time.L = s.time.L := by
  simp [tokenBad]
@[simp] theorem transitionDone_clk (from_ to_ : Nat) (s : State) : (transitionDone from_ to_ s).time.L = s.time.L := by
  simp [transitionDone]
@[simp] theorem lcsTransition_clk (j bits : Nat) (s : State) : (lcsTransition j bits s).time.L = s.time.L := by
  (first | rw [lcsTransition] | unfold lcsTransition); (try dsimp only); repeat' split
  all_goals first | (simp; done) | (repeat' (first | (intro _) | split | (with_reducible refine (forEach_clk _ ?_ _ _).trans ?_) | (with_reducible refine (foldl_clk _ ?_ _ _).trans ?_) | (with_reducible refine (checked_clk _ _ _ _ ?_ _).trans ?_) | (with_reducible refine (pqChecked_clk _ _ _ _ ?_ _).trans ?_) | simp))
@[simp] theorem zeroizeForDebug_clk (j rights : Nat) (s : State) : (zeroizeForDebug j rights s).time.L = s.time.L := by
  simp [zeroizeForDebug]
@[simp] theorem dueRights_clk (rights source : Nat) (s : State) : (dueRights rights source s).time.L = s.time.L := by
  (first | rw [dueRights] | unfold dueRights); (try dsimp only); repeat' split
  all_goals first | (simp; done) | (repeat' (first | (intro _) | split | (with_reducible refine (forEach_clk _ ?_ _ _).trans ?_) | (with_reducible refine (foldl_clk _ ?_ _ _).trans ?_) | (with_reducible refine (checked_clk _ _ _ _ ?_ _).trans ?_) | (with_reducible refine (pqChecked_clk _ _ _ _ ?_ _).trans ?_) | simp))
@[simp] theorem grant_clk (j rights source : Nat) (zeroize : Bool) (s : State) : (grant j rights source zeroize s).time.L = s.time.L := by
  (first | rw [grant] | unfold grant); (try dsimp only); repeat' split
  all_goals first | (simp; done) | (repeat' (first | (intro _) | split | (with_reducible refine (forEach_clk _ ?_ _ _).trans ?_) | (with_reducible refine (foldl_clk _ ?_ _ _).trans ?_) | (with_reducible refine (checked_clk _ _ _ _ ?_ _).trans ?_) | (with_reducible refine (pqChecked_clk _ _ _ _ ?_ _).trans ?_) | simp))
@[simp] theorem authorize_clk (j : Nat) (x : Job) (rights reach : Nat) (ack : Bool) (source : Nat) (s : State) : (authorize j x rights reach ack source s).time.L = s.time.L := by
  rw [authorize]; repeat' split
  all_goals simp
@[simp] theorem debugCert_clk (j : Nat) (s : State) : (debugCert j s).time.L = s.time.L := by
  (first | rw [debugCert] | unfold debugCert); (try dsimp only); repeat' split
  all_goals first | (simp; done) | (repeat' (first | (intro _) | split | (with_reducible refine (forEach_clk _ ?_ _ _).trans ?_) | (with_reducible refine (foldl_clk _ ?_ _ _).trans ?_) | (with_reducible refine (checked_clk _ _ _ _ ?_ _).trans ?_) | (with_reducible refine (pqChecked_clk _ _ _ _ ?_ _).trans ?_) | simp))
@[simp] theorem debugChallenge_clk (j : Nat) (s : State) : (debugChallenge j s).time.L = s.time.L := by
  rw [debugChallenge]; repeat' split
  all_goals simp
@[simp] theorem debugResponse_clk (j : Nat) (s : State) : (debugResponse j s).time.L = s.time.L := by
  (first | rw [debugResponse] | unfold debugResponse); (try dsimp only); repeat' split
  all_goals first | (simp; done) | (repeat' (first | (intro _) | split | (with_reducible refine (forEach_clk _ ?_ _ _).trans ?_) | (with_reducible refine (foldl_clk _ ?_ _ _).trans ?_) | (with_reducible refine (checked_clk _ _ _ _ ?_ _).trans ?_) | (with_reducible refine (pqChecked_clk _ _ _ _ ?_ _).trans ?_) | simp))
@[simp] theorem runDebugGrant_clk (j : Nat) (x : Job) (s : State) : (runDebugGrant j x s).time.L = s.time.L := by
  simp [runDebugGrant]
@[simp] theorem openRights_clk (s : State) : (openRights s).time.L = s.time.L := by
  rw [openRights]; repeat' split
  all_goals simp
@[simp] theorem cabinetZeroize_clk (j : Nat) (s : State) : (cabinetZeroize j s).time.L = s.time.L := by
  rw [cabinetZeroize]; repeat' split
  all_goals simp
@[simp] theorem eraseCabinet_clk (cab : Nat) (s : State) : (eraseCabinet cab s).time.L = s.time.L := by
  simp [eraseCabinet]
@[simp] theorem zeroizeCabinet_clk (j cab : Nat) (keep : Bool) (s : State) : (zeroizeCabinet j cab keep s).time.L = s.time.L := by
  (first | rw [zeroizeCabinet] | unfold zeroizeCabinet); (try dsimp only); repeat' split
  all_goals first | (simp; done) | (repeat' (first | (intro _) | split | (with_reducible refine (forEach_clk _ ?_ _ _).trans ?_) | (with_reducible refine (foldl_clk _ ?_ _ _).trans ?_) | (with_reducible refine (checked_clk _ _ _ _ ?_ _).trans ?_) | (with_reducible refine (pqChecked_clk _ _ _ _ ?_ _).trans ?_) | simp))
@[simp] theorem runCabinetZeroize_clk (j : Nat) (x : Job) (s : State) : (runCabinetZeroize j x s).time.L = s.time.L := by
  rw [runCabinetZeroize]; repeat' split
  all_goals simp
@[simp] theorem mailboxEntry_clk (d : Desc) (e : Nat × Nat × Nat) (s : State) : (mailboxEntry d e s).time.L = s.time.L := by
  simp [mailboxEntry]
@[simp] theorem lcsDapDoorbell_clk (bits : Nat) (s : State) : (lcsDapDoorbell bits s).time.L = s.time.L := by
  rw [lcsDapDoorbell]; repeat' split
  all_goals simp
@[simp] theorem tapLog_clk (c : Nat) (s : State) : (tapLog c s).time.L = s.time.L := by
  rw [tapLog]; repeat' split
  all_goals simp
@[simp] theorem endReset_clk (r : ResetDue) (s : State) : (endReset r s).time.L = s.time.L := by
  (first | rw [endReset] | unfold endReset); (try dsimp only); repeat' split
  all_goals first | (simp; done) | (repeat' (first | (intro _) | split | (with_reducible refine (forEach_clk _ ?_ _ _).trans ?_) | (with_reducible refine (foldl_clk _ ?_ _ _).trans ?_) | (with_reducible refine (checked_clk _ _ _ _ ?_ _).trans ?_) | (with_reducible refine (pqChecked_clk _ _ _ _ ?_ _).trans ?_) | simp))
@[simp] theorem fnReset_clk (f cause : Nat) (s : State) : (fnReset f cause s).time.L = s.time.L := by
  unfold fnReset; dsimp only; split <;> simp
@[simp] theorem settleResets_clk (s : State) : (settleResets s).time.L = s.time.L := by
  (first | rw [settleResets] | unfold settleResets); (try dsimp only); repeat' split
  all_goals first | (simp; done) | (repeat' (first | (intro _) | split | (with_reducible refine (forEach_clk _ ?_ _ _).trans ?_) | (with_reducible refine (foldl_clk _ ?_ _ _).trans ?_) | (with_reducible refine (checked_clk _ _ _ _ ?_ _).trans ?_) | (with_reducible refine (pqChecked_clk _ _ _ _ ?_ _).trans ?_) | simp))
@[simp] theorem clearVfEnable_clk (cause : Nat) (s : State) : (clearVfEnable cause s).time.L = s.time.L := by
  rw [clearVfEnable]; repeat' split
  all_goals simp
@[simp] theorem fnResetEvent_clk (f cause : Nat) (s : State) : (fnResetEvent f cause s).time.L = s.time.L := by
  rw [fnResetEvent]; repeat' split
  all_goals simp
@[simp] theorem flr_clk (f : Nat) (s : State) : (flr f s).time.L = s.time.L := by
  simp [flr]
@[simp] theorem busMasterCleared_clk (f : Nat) (s : State) : (busMasterCleared f s).time.L = s.time.L := by
  simp [busMasterCleared]
@[simp] theorem d3hotEntry_clk (f : Nat) (s : State) : (d3hotEntry f s).time.L = s.time.L := by
  rw [d3hotEntry]; repeat' split
  all_goals simp
@[simp] theorem d3hotToD0_clk (f : Nat) (s : State) : (d3hotToD0 f s).time.L = s.time.L := by
  rw [d3hotToD0]; repeat' split
  all_goals simp
@[simp] theorem resetLinkFns_clk (s : State) : (resetLinkFns s).time.L = s.time.L := by
  simp [resetLinkFns]
@[simp] theorem hotReset_clk (s : State) : (hotReset s).time.L = s.time.L := by
  rw [hotReset]; repeat' split
  all_goals simp
@[simp] theorem linkDown_clk (s : State) : (linkDown s).time.L = s.time.L := by
  rw [linkDown]; repeat' split
  all_goals simp
@[simp] theorem vfEnableCleared_clk (s : State) : (vfEnableCleared s).time.L = s.time.L := by
  simp [vfEnableCleared]
@[simp] theorem modCfg_clk (f : Nat) (g : FnConfig → FnConfig) (s : State) : (modCfg f g s).time.L = s.time.L := by
  (first | rw [modCfg] | unfold modCfg); (try dsimp only); repeat' split
  all_goals first | (simp; done) | (repeat' (first | (intro _) | split | (with_reducible refine (forEach_clk _ ?_ _ _).trans ?_) | (with_reducible refine (foldl_clk _ ?_ _ _).trans ?_) | (with_reducible refine (checked_clk _ _ _ _ ?_ _).trans ?_) | (with_reducible refine (pqChecked_clk _ _ _ _ ?_ _).trans ?_) | simp))
@[simp] theorem configWrite_clk (f off w : Nat) (s : State) : (configWrite f off w s).time.L = s.time.L := by
  unfold configWrite; dsimp only; split
  all_goals first | (simp; done) | ((repeat' split) <;> simp)
@[simp] theorem emitPieces_clk (ps : List (Nat × List Byte)) (s : State) : (emitPieces ps s).time.L = s.time.L := by
  simp [emitPieces]
@[simp] theorem applyEffect_clk (j : Nat) (bitOk : Bool) (e : Effect) (s : State) : (applyEffect j bitOk e s).time.L = s.time.L := by
  (first | rw [applyEffect] | unfold applyEffect); (try dsimp only); repeat' split
  all_goals first | (simp; done) | (repeat' (first | (intro _) | split | (with_reducible refine (forEach_clk _ ?_ _ _).trans ?_) | (with_reducible refine (foldl_clk _ ?_ _ _).trans ?_) | (with_reducible refine (checked_clk _ _ _ _ ?_ _).trans ?_) | (with_reducible refine (pqChecked_clk _ _ _ _ ?_ _).trans ?_) | simp))
@[simp] theorem finishCommit_clk (j : Nat) (x : Job) (r : Result) (s : State) : (finishCommit j x r s).time.L = s.time.L := by
  (first | rw [finishCommit] | unfold finishCommit); (try dsimp only); repeat' split
  all_goals first | (simp; done) | (repeat' (first | (intro _) | split | (with_reducible refine (forEach_clk _ ?_ _ _).trans ?_) | (with_reducible refine (foldl_clk _ ?_ _ _).trans ?_) | (with_reducible refine (checked_clk _ _ _ _ ?_ _).trans ?_) | (with_reducible refine (pqChecked_clk _ _ _ _ ?_ _).trans ?_) | simp))
@[simp] theorem advanceBurst_clk (j n : Nat) (x : Job) (r : Result) (b : Burst) (s : State) : (advanceBurst j n x r b s).time.L = s.time.L := by
  (first | rw [advanceBurst] | unfold advanceBurst); (try dsimp only); repeat' split
  all_goals first | (simp; done) | (repeat' (first | (intro _) | split | (with_reducible refine (forEach_clk _ ?_ _ _).trans ?_) | (with_reducible refine (foldl_clk _ ?_ _ _).trans ?_) | (with_reducible refine (checked_clk _ _ _ _ ?_ _).trans ?_) | (with_reducible refine (pqChecked_clk _ _ _ _ ?_ _).trans ?_) | simp))
@[simp] theorem beginCommit_clk (j n : Nat) (bitOk : Bool) (x : Job) (r : Result) (s : State) : (beginCommit j n bitOk x r s).time.L = s.time.L := by
  (first | rw [beginCommit] | unfold beginCommit); (try dsimp only); repeat' split
  all_goals first | (simp; done) | (repeat' (first | (intro _) | split | (with_reducible refine (forEach_clk _ ?_ _ _).trans ?_) | (with_reducible refine (foldl_clk _ ?_ _ _).trans ?_) | (with_reducible refine (checked_clk _ _ _ _ ?_ _).trans ?_) | (with_reducible refine (pqChecked_clk _ _ _ _ ?_ _).trans ?_) | simp))
@[simp] theorem commitPhase_clk (j n : Nat) (bitOk : Bool) (s : State) : (commitPhase j n bitOk s).time.L = s.time.L := by
  rw [commitPhase]; repeat' split
  all_goals first | (simp; done) | (dsimp only; (repeat' split) <;> simp)
@[simp] theorem bankErased_clk (g : Nat) (s : State) : (bankErased g s).time.L = s.time.L := by
  (first | rw [bankErased] | unfold bankErased); (try dsimp only); repeat' split
  all_goals first | (simp; done) | (repeat' (first | (intro _) | split | (with_reducible refine (forEach_clk _ ?_ _ _).trans ?_) | (with_reducible refine (foldl_clk _ ?_ _ _).trans ?_) | (with_reducible refine (checked_clk _ _ _ _ ?_ _).trans ?_) | (with_reducible refine (pqChecked_clk _ _ _ _ ?_ _).trans ?_) | simp))
@[simp] theorem endBursts_clk (s : State) : (endBursts s).time.L = s.time.L := by
  (first | rw [endBursts] | unfold endBursts); (try dsimp only); repeat' split
  all_goals first | (simp; done) | (repeat' (first | (intro _) | split | (with_reducible refine (forEach_clk _ ?_ _ _).trans ?_) | (with_reducible refine (foldl_clk _ ?_ _ _).trans ?_) | (with_reducible refine (checked_clk _ _ _ _ ?_ _).trans ?_) | (with_reducible refine (pqChecked_clk _ _ _ _ ?_ _).trans ?_) | simp))
@[simp] theorem runApproved_clk (r : Request) (s : State) : (runApproved r s).time.L = s.time.L := by
  rw [runApproved]; repeat' split
  all_goals simp
@[simp] theorem dovetailApprove_clk (j : Nat) (s : State) : (dovetailApprove j s).time.L = s.time.L := by
  unfold dovetailApprove; have h := approve_clk j s; split <;> simp_all
@[simp] theorem makeDraw_clk (d : Draw) (s : State) : (makeDraw d s).time.L = s.time.L := by
  (first | rw [makeDraw] | unfold makeDraw); (try dsimp only); repeat' split
  all_goals first | (simp; done) | (repeat' (first | (intro _) | split | (with_reducible refine (forEach_clk _ ?_ _ _).trans ?_) | (with_reducible refine (foldl_clk _ ?_ _ _).trans ?_) | (with_reducible refine (checked_clk _ _ _ _ ?_ _).trans ?_) | (with_reducible refine (pqChecked_clk _ _ _ _ ?_ _).trans ?_) | simp))
@[simp] theorem serveDraw_clk (d : Draw) (s : State) : (serveDraw d s).time.L = s.time.L := by
  rw [serveDraw]; repeat' split
  all_goals simp
@[simp] theorem serveDraws_clk (s : State) : (serveDraws s).time.L = s.time.L := by
  (first | rw [serveDraws] | unfold serveDraws); (try dsimp only); repeat' split
  all_goals first | (simp; done) | (repeat' (first | (intro _) | split | (with_reducible refine (forEach_clk _ ?_ _ _).trans ?_) | (with_reducible refine (foldl_clk _ ?_ _ _).trans ?_) | (with_reducible refine (checked_clk _ _ _ _ ?_ _).trans ?_) | (with_reducible refine (pqChecked_clk _ _ _ _ ?_ _).trans ?_) | simp))
@[simp] theorem askDraws_clk (ds : List Draw) (s : State) : (askDraws ds s).time.L = s.time.L := by
  simp [askDraws]
@[simp] theorem removeCabinet_clk (cab : Nat) (s : State) : (removeCabinet cab s).time.L = s.time.L := by
  simp [removeCabinet]
@[simp] theorem eraseLeaving_clk (new : Carcass) (s : State) : (eraseLeaving new s).time.L = s.time.L := by
  simp [eraseLeaving]
@[simp] theorem dropEntries_clk (new : Carcass) (s : State) : (dropEntries new s).time.L = s.time.L := by
  (first | rw [dropEntries] | unfold dropEntries); (try dsimp only); repeat' split
  all_goals first | (simp; done) | (repeat' (first | (intro _) | split | (with_reducible refine (forEach_clk _ ?_ _ _).trans ?_) | (with_reducible refine (foldl_clk _ ?_ _ _).trans ?_) | (with_reducible refine (checked_clk _ _ _ _ ?_ _).trans ?_) | (with_reducible refine (pqChecked_clk _ _ _ _ ?_ _).trans ?_) | simp))
@[simp] theorem closeMoved_clk (old new : Carcass) (s : State) : (closeMoved old new s).time.L = s.time.L := by
  simp [closeMoved]
@[simp] theorem rejoinLanes_clk (old new : Carcass) (s : State) : (rejoinLanes old new s).time.L = s.time.L := by
  simp [rejoinLanes]
@[simp] theorem freeMovedLanes_clk (old new : Carcass) (s : State) : (freeMovedLanes old new s).time.L = s.time.L := by
  simp [freeMovedLanes]
@[simp] theorem stopChanged_clk (old new : Carcass) (s : State) : (stopChanged old new s).time.L = s.time.L := by
  (first | rw [stopChanged] | unfold stopChanged); (try dsimp only); repeat' split
  all_goals first | (simp; done) | (repeat' (first | (intro _) | split | (with_reducible refine (forEach_clk _ ?_ _ _).trans ?_) | (with_reducible refine (foldl_clk _ ?_ _ _).trans ?_) | (with_reducible refine (checked_clk _ _ _ _ ?_ _).trans ?_) | (with_reducible refine (pqChecked_clk _ _ _ _ ?_ _).trans ?_) | simp))
@[simp] theorem commitTamper_clk (new : Carcass) (s : State) : (commitTamper new s).time.L = s.time.L := by
  unfold commitTamper; dsimp only; apply (forEach_clk _ _ _ _).trans
  · simp
  · intro n s; split <;> simp
@[simp] theorem applyStructure_clk (old new : Carcass) (s : State) : (applyStructure old new s).time.L = s.time.L := by
  simp [applyStructure]
@[simp] theorem carcassCommit_clk (bitOk : Bool) (s : State) : (carcassCommit bitOk s).time.L = s.time.L := by
  rw [carcassCommit]; repeat' split
  all_goals simp
@[simp] theorem dawnFlash_clk (e : Nat × List Byte) (s : State) : (dawnFlash e s).time.L = s.time.L := by
  rw [dawnFlash]; repeat' split
  all_goals simp
@[simp] theorem factoryWords_clk (ws : List (Nat × Nat)) (s : State) : (factoryWords ws s).time.L = s.time.L := by
  rw [factoryWords]; repeat' split
  all_goals simp
@[simp] theorem otpStep_clk (agree : Bool) (s : State) : (otpStep agree s).time.L = s.time.L := by
  rw [otpStep]; repeat' split
  all_goals simp
@[simp] theorem alwaysOnCheck_clk (a : Option (Nat × Nat)) (s : State) : (alwaysOnCheck a s).time.L = s.time.L := by
  (first | rw [alwaysOnCheck] | unfold alwaysOnCheck); (try dsimp only); repeat' split
  all_goals first | (simp; done) | (repeat' (first | (intro _) | split | (with_reducible refine (forEach_clk _ ?_ _ _).trans ?_) | (with_reducible refine (foldl_clk _ ?_ _ _).trans ?_) | (with_reducible refine (checked_clk _ _ _ _ ?_ _).trans ?_) | (with_reducible refine (pqChecked_clk _ _ _ _ ?_ _).trans ?_) | simp))
@[simp] theorem logAlwaysOn_clk (s : State) : (logAlwaysOn s).time.L = s.time.L := by
  rw [logAlwaysOn]; repeat' split
  all_goals simp
@[simp] theorem checkFirmware_clk (s : State) : (checkFirmware s).time.L = s.time.L := by
  (first | rw [checkFirmware] | unfold checkFirmware); (try dsimp only); repeat' split
  all_goals first | (simp; done) | (repeat' (first | (intro _) | split | (with_reducible refine (forEach_clk _ ?_ _ _).trans ?_) | (with_reducible refine (foldl_clk _ ?_ _ _).trans ?_) | (with_reducible refine (checked_clk _ _ _ _ ?_ _).trans ?_) | (with_reducible refine (pqChecked_clk _ _ _ _ ?_ _).trans ?_) | simp))
@[simp] theorem applyPick_clk (best : Option (Nat × Nat)) (s : State) : (applyPick best s).time.L = s.time.L := by
  (first | rw [applyPick] | unfold applyPick); (try dsimp only); repeat' split
  all_goals first | (simp; done) | (repeat' (first | (intro _) | split | (with_reducible refine (forEach_clk _ ?_ _ _).trans ?_) | (with_reducible refine (foldl_clk _ ?_ _ _).trans ?_) | (with_reducible refine (checked_clk _ _ _ _ ?_ _).trans ?_) | (with_reducible refine (pqChecked_clk _ _ _ _ ?_ _).trans ?_) | simp))
@[simp] theorem clearExcluded_clk (s : State) : (clearExcluded s).time.L = s.time.L := by
  simp [clearExcluded]
@[simp] theorem selectPair_clk (s : State) : (selectPair s).time.L = s.time.L := by
  rw [selectPair]; repeat' split
  all_goals simp
@[simp] theorem drainRecorder_clk (s : State) : (drainRecorder s).time.L = s.time.L := by
  simp [drainRecorder]
@[simp] theorem eventStep_clk (kept : Bool) (s : State) : (eventStep kept s).time.L = s.time.L := by
  simp [eventStep]
@[simp] theorem endCarry_clk (id : Nat) (fails : List Nat) (s : State) : (endCarry id fails s).time.L = s.time.L := by
  (first | rw [endCarry] | unfold endCarry); (try dsimp only); repeat' split
  all_goals first | (simp; done) | (repeat' (first | (intro _) | split | (with_reducible refine (forEach_clk _ ?_ _ _).trans ?_) | (with_reducible refine (foldl_clk _ ?_ _ _).trans ?_) | (with_reducible refine (checked_clk _ _ _ _ ?_ _).trans ?_) | (with_reducible refine (pqChecked_clk _ _ _ _ ?_ _).trans ?_) | simp))
@[simp] theorem readCounter_clk (id : Nat) (s : State) : (readCounter id s).time.L = s.time.L := by
  (first | rw [readCounter] | unfold readCounter); (try dsimp only); repeat' split
  all_goals first | (simp; done) | (repeat' (first | (intro _) | split | (with_reducible refine (forEach_clk _ ?_ _ _).trans ?_) | (with_reducible refine (foldl_clk _ ?_ _ _).trans ?_) | (with_reducible refine (checked_clk _ _ _ _ ?_ _).trans ?_) | (with_reducible refine (pqChecked_clk _ _ _ _ ?_ _).trans ?_) | simp))
@[simp] theorem recoverCounter_clk (inp : DawnInput) (id : Nat) (s : State) : (recoverCounter inp id s).time.L = s.time.L := by
  (first | rw [recoverCounter] | unfold recoverCounter); (try dsimp only); repeat' split
  all_goals first | (simp; done) | (repeat' (first | (intro _) | split | (with_reducible refine (forEach_clk _ ?_ _ _).trans ?_) | (with_reducible refine (foldl_clk _ ?_ _ _).trans ?_) | (with_reducible refine (checked_clk _ _ _ _ ?_ _).trans ?_) | (with_reducible refine (pqChecked_clk _ _ _ _ ?_ _).trans ?_) | simp))
@[simp] theorem recordGone_clk (id : Nat) (s : State) : (recordGone id s).time.L = s.time.L := by
  rw [recordGone]; repeat' split
  all_goals simp
@[simp] theorem recoverRecord_clk (id : Nat) (s : State) : (recoverRecord id s).time.L = s.time.L := by
  (first | rw [recoverRecord] | unfold recoverRecord); (try dsimp only); repeat' split
  all_goals first | (simp; done) | (repeat' (first | (intro _) | split | (with_reducible refine (forEach_clk _ ?_ _ _).trans ?_) | (with_reducible refine (foldl_clk _ ?_ _ _).trans ?_) | (with_reducible refine (checked_clk _ _ _ _ ?_ _).trans ?_) | (with_reducible refine (pqChecked_clk _ _ _ _ ?_ _).trans ?_) | simp))
@[simp] theorem bump_clk (inp : DawnInput) (id k : Nat) (s : State) : (bump inp id k s).time.L = s.time.L := by
  (first | rw [bump] | unfold bump); (try dsimp only); repeat' split
  all_goals first | (simp; done) | (repeat' (first | (intro _) | split | (with_reducible refine (forEach_clk _ ?_ _ _).trans ?_) | (with_reducible refine (foldl_clk _ ?_ _ _).trans ?_) | (with_reducible refine (checked_clk _ _ _ _ ?_ _).trans ?_) | (with_reducible refine (pqChecked_clk _ _ _ _ ?_ _).trans ?_) | simp))
@[simp] theorem setIdentity_clk (s : State) : (setIdentity s).time.L = s.time.L := by
  rw [setIdentity]; repeat' split
  all_goals simp
@[simp] theorem ledgerRecovery_clk (inp : DawnInput) (s : State) : (ledgerRecovery inp s).time.L = s.time.L := by
  simp [ledgerRecovery]
@[simp] theorem countAttempts_clk (inp : DawnInput) (s : State) : (countAttempts inp s).time.L = s.time.L := by
  (first | rw [countAttempts] | unfold countAttempts); (try dsimp only); repeat' split
  all_goals first | (simp; done) | (repeat' (first | (intro _) | split | (with_reducible refine (forEach_clk _ ?_ _ _).trans ?_) | (with_reducible refine (foldl_clk _ ?_ _ _).trans ?_) | (with_reducible refine (checked_clk _ _ _ _ ?_ _).trans ?_) | (with_reducible refine (pqChecked_clk _ _ _ _ ?_ _).trans ?_) | simp))
@[simp] theorem dropIntent_clk (s : State) : (dropIntent s).time.L = s.time.L := by
  (first | rw [dropIntent] | unfold dropIntent); (try dsimp only); repeat' split
  all_goals first | (simp; done) | (repeat' (first | (intro _) | split | (with_reducible refine (forEach_clk _ ?_ _ _).trans ?_) | (with_reducible refine (foldl_clk _ ?_ _ _).trans ?_) | (with_reducible refine (checked_clk _ _ _ _ ?_ _).trans ?_) | (with_reducible refine (pqChecked_clk _ _ _ _ ?_ _).trans ?_) | simp))
@[simp] theorem carriedChanges_clk (old new : Carcass) (s : State) : (carriedChanges old new s).time.L = s.time.L := by
  (first | rw [carriedChanges] | unfold carriedChanges); (try dsimp only); repeat' split
  all_goals first | (simp; done) | (repeat' (first | (intro _) | split | (with_reducible refine (forEach_clk _ ?_ _ _).trans ?_) | (with_reducible refine (foldl_clk _ ?_ _ _).trans ?_) | (with_reducible refine (checked_clk _ _ _ _ ?_ _).trans ?_) | (with_reducible refine (pqChecked_clk _ _ _ _ ?_ _).trans ?_) | simp))
@[simp] theorem floorBump_clk (inp : DawnInput) (s : State) : (floorBump inp s).time.L = s.time.L := by
  (first | rw [floorBump] | unfold floorBump); (try dsimp only); repeat' split
  all_goals first | (simp; done) | (repeat' (first | (intro _) | split | (with_reducible refine (forEach_clk _ ?_ _ _).trans ?_) | (with_reducible refine (foldl_clk _ ?_ _ _).trans ?_) | (with_reducible refine (checked_clk _ _ _ _ ?_ _).trans ?_) | (with_reducible refine (pqChecked_clk _ _ _ _ ?_ _).trans ?_) | simp))
@[simp] theorem selectStep_clk (inp : DawnInput) (s : State) : (selectStep inp s).time.L = s.time.L := by
  (first | rw [selectStep] | unfold selectStep); (try dsimp only); repeat' split
  all_goals first | (simp; done) | (repeat' (first | (intro _) | split | (with_reducible refine (forEach_clk _ ?_ _ _).trans ?_) | (with_reducible refine (foldl_clk _ ?_ _ _).trans ?_) | (with_reducible refine (checked_clk _ _ _ _ ?_ _).trans ?_) | (with_reducible refine (pqChecked_clk _ _ _ _ ?_ _).trans ?_) | simp))
@[simp] theorem startGenerator_clk (inp : DawnInput) (was : Bool) (s : State) : (startGenerator inp was s).time.L = s.time.L := by
  (first | rw [startGenerator] | unfold startGenerator); (try dsimp only); repeat' split
  all_goals first | (simp; done) | (repeat' (first | (intro _) | split | (with_reducible refine (forEach_clk _ ?_ _ _).trans ?_) | (with_reducible refine (foldl_clk _ ?_ _ _).trans ?_) | (with_reducible refine (checked_clk _ _ _ _ ?_ _).trans ?_) | (with_reducible refine (pqChecked_clk _ _ _ _ ?_ _).trans ?_) | simp))
@[simp] theorem stampEvents_clk (s : State) : (stampEvents s).time.L = s.time.L := by
  (first | rw [stampEvents] | unfold stampEvents); (try dsimp only); repeat' split
  all_goals first | (simp; done) | (repeat' (first | (intro _) | split | (with_reducible refine (forEach_clk _ ?_ _ _).trans ?_) | (with_reducible refine (foldl_clk _ ?_ _ _).trans ?_) | (with_reducible refine (checked_clk _ _ _ _ ?_ _).trans ?_) | (with_reducible refine (pqChecked_clk _ _ _ _ ?_ _).trans ?_) | simp))
@[simp] theorem bistStep_clk (full : Bool) (inp : DawnInput) (s : State) : (bistStep full inp s).time.L = s.time.L := by
  unfold bistStep; extract_lets es s1 failed s2 map pass
  have e1 : s1.time.L = s.time.L := by simp [s1]
  have e2 : s2.time.L = s1.time.L := by
    simp only [s2]; refine forEach_clk _ ?_ _ _; intro n s; split <;> simp
  simp [e2, e1]
@[simp] theorem spoilBanks_clk (inp : DawnInput) (s : State) : (spoilBanks inp s).time.L = s.time.L := by
  simp [spoilBanks]
@[simp] theorem dropBank_clk (g k : Nat) (b : Option (RecBank (List BankEntry))) (s : State) : (dropBank g k b s).time.L = s.time.L := by
  (first | rw [dropBank] | unfold dropBank); (try dsimp only); repeat' split
  all_goals first | (simp; done) | (repeat' (first | (intro _) | split | (with_reducible refine (forEach_clk _ ?_ _ _).trans ?_) | (with_reducible refine (foldl_clk _ ?_ _ _).trans ?_) | (with_reducible refine (checked_clk _ _ _ _ ?_ _).trans ?_) | (with_reducible refine (pqChecked_clk _ _ _ _ ?_ _).trans ?_) | simp))
@[simp] theorem loadEntry_clk (e : BankEntry) (s : State) : (loadEntry e s).time.L = s.time.L := by
  (first | rw [loadEntry] | unfold loadEntry); (try dsimp only); repeat' split
  all_goals first | (simp; done) | (repeat' (first | (intro _) | split | (with_reducible refine (forEach_clk _ ?_ _ _).trans ?_) | (with_reducible refine (foldl_clk _ ?_ _ _).trans ?_) | (with_reducible refine (checked_clk _ _ _ _ ?_ _).trans ?_) | (with_reducible refine (pqChecked_clk _ _ _ _ ?_ _).trans ?_) | simp))
@[simp] theorem loadGroup_clk (a : State × Emptied) (g : Nat) : (loadGroup a g).1.time.L = a.1.time.L := by
  have key : ∀ (l : List BankEntry) (one : State × Emptied → BankEntry → State × Emptied) (a : State × Emptied),
      (∀ a e, (one a e).1.time.L = a.1.time.L) → (l.foldl one a).1.time.L = a.1.time.L := by
    intro l one a h; induction l generalizing a with
    | nil => rfl
    | cons e l ih => rw [List.foldl_cons, ih, h]
  unfold loadGroup; dsimp only; split
  · simp
  · refine (key _ _ _ ?_).trans ?_
    · intro a e; split <;> simp
    · simp
@[simp] theorem loadGroups_clk (gs : List Nat) (s : State) : (loadGroups gs s).1.time.L = s.time.L := by
  have key : ∀ (l : List Nat) (a : State × Emptied), (l.foldl loadGroup a).1.time.L = a.1.time.L := by
    intro l; induction l with
    | nil => intro a; rfl
    | cons e l ih => intro a; rw [List.foldl_cons, ih, loadGroup_clk]
  exact key gs (s, {})
@[simp] theorem storeReady_clk (empty : Bool) (r : State × Emptied) : (storeReady empty r).time.L = r.1.time.L := by
  rfl
@[simp] theorem keyStoreStep_clk (inp : DawnInput) (s : State) : (keyStoreStep inp s).time.L = s.time.L := by
  unfold keyStoreStep
  exact (storeReady_clk ..).trans ((loadGroups_clk ..).trans (spoilBanks_clk inp s))
@[simp] theorem carcassStep_clk (inp : DawnInput) (s : State) : (carcassStep inp s).time.L = s.time.L := by
  unfold carcassStep; extract_lets dark s1 s2 s3 s4 s5 x s6 s7
  have e3 : s3.time.L = s.time.L := by
    simp only [s3]; split
    · split <;> simp [s2, s1]
    · simp [s2, s1]
  have e4 : s4.time.L = s.time.L := (keyStoreStep_clk inp s3).trans e3
  clear_value s4
  have e5 : s5.time.L = s.time.L := by simp only [s5]; split <;> simp [e4]
  have e7 : s7.time.L = s.time.L := by simp only [s7]; split <;> simp [s6, e5]
  split <;> simp [e7]
@[simp] theorem admissionOpen_clk (ms : Nat) (s : State) : (admissionOpen ms s).time.L = s.time.L := by
  (first | rw [admissionOpen] | unfold admissionOpen); (try dsimp only); repeat' split
  all_goals first | (simp; done) | (repeat' (first | (intro _) | split | (with_reducible refine (forEach_clk _ ?_ _ _).trans ?_) | (with_reducible refine (foldl_clk _ ?_ _ _).trans ?_) | (with_reducible refine (checked_clk _ _ _ _ ?_ _).trans ?_) | (with_reducible refine (pqChecked_clk _ _ _ _ ?_ _).trans ?_) | simp))
@[simp] theorem linkTraining_clk (lanes gts : Nat) (vf : Bool) (s : State) : (linkTraining lanes gts vf s).time.L = s.time.L := by
  rw [linkTraining]; repeat' split
  all_goals simp
@[simp] theorem stoppedAnswer_clk (f n : Nat) (d : Desc) (s : State) : (stoppedAnswer f n d s).time.L = s.time.L := by
  simp [stoppedAnswer]
@[simp] theorem descriptorFetch_clk (f n : Nat) (bs : List Byte) (s : State) : (descriptorFetch f n bs s).time.L = s.time.L := by
  (first | rw [descriptorFetch] | unfold descriptorFetch); (try dsimp only); repeat' split
  all_goals first | (simp; done) | (repeat' (first | (intro _) | split | (with_reducible refine (forEach_clk _ ?_ _ _).trans ?_) | (with_reducible refine (foldl_clk _ ?_ _ _).trans ?_) | (with_reducible refine (checked_clk _ _ _ _ ?_ _).trans ?_) | (with_reducible refine (pqChecked_clk _ _ _ _ ?_ _).trans ?_) | simp))
@[simp] theorem reportAer_clk (f cause : Nat) (s : State) : (reportAer f cause s).time.L = s.time.L := by
  (first | rw [reportAer] | unfold reportAer); (try dsimp only); repeat' split
  all_goals first | (simp; done) | (repeat' (first | (intro _) | split | (with_reducible refine (forEach_clk _ ?_ _ _).trans ?_) | (with_reducible refine (foldl_clk _ ?_ _ _).trans ?_) | (with_reducible refine (checked_clk _ _ _ _ ?_ _).trans ?_) | (with_reducible refine (pqChecked_clk _ _ _ _ ?_ _).trans ?_) | simp))
@[simp] theorem hostReadFailure_clk (job : Option Nat) (f n addr cause : Nat) (s : State) : (hostReadFailure job f n addr cause s).time.L = s.time.L := by
  (first | rw [hostReadFailure] | unfold hostReadFailure); (try dsimp only); repeat' split
  all_goals first | (simp; done) | (repeat' (first | (intro _) | split | (with_reducible refine (forEach_clk _ ?_ _ _).trans ?_) | (with_reducible refine (foldl_clk _ ?_ _ _).trans ?_) | (with_reducible refine (checked_clk _ _ _ _ ?_ _).trans ?_) | (with_reducible refine (pqChecked_clk _ _ _ _ ?_ _).trans ?_) | simp))
@[simp] theorem transitEnd_clk (inp : TransitInput) (s : State) : (transitEnd inp s).time.L = s.time.L := by
  (first | rw [transitEnd] | unfold transitEnd); (try dsimp only); repeat' split
  all_goals first | (simp; done) | (repeat' (first | (intro _) | split | (with_reducible refine (forEach_clk _ ?_ _ _).trans ?_) | (with_reducible refine (foldl_clk _ ?_ _ _).trans ?_) | (with_reducible refine (checked_clk _ _ _ _ ?_ _).trans ?_) | (with_reducible refine (pqChecked_clk _ _ _ _ ?_ _).trans ?_) | simp))
@[simp] theorem noiseSamples_clk (inp : TransitInput) (s : State) : (noiseSamples inp s).time.L = s.time.L := by
  simp [noiseSamples]
@[simp] theorem tileReading_clk (r : TileReading) (s : State) : (tileReading r s).time.L = s.time.L := by
  rw [tileReading]; repeat' split
  all_goals simp
@[simp] theorem applyThaws_clk (s : State) : (applyThaws s).time.L = s.time.L := by
  (first | rw [applyThaws] | unfold applyThaws); (try dsimp only); repeat' split
  all_goals first | (simp; done) | (repeat' (first | (intro _) | split | (with_reducible refine (forEach_clk _ ?_ _ _).trans ?_) | (with_reducible refine (foldl_clk _ ?_ _ _).trans ?_) | (with_reducible refine (checked_clk _ _ _ _ ?_ _).trans ?_) | (with_reducible refine (pqChecked_clk _ _ _ _ ?_ _).trans ?_) | simp))
@[simp] theorem wornCloses_clk (s : State) : (wornCloses s).time.L = s.time.L := by
  rw [wornCloses]; repeat' split
  all_goals simp
@[simp] theorem boundaryDraws_clk (s : State) : (boundaryDraws s).time.L = s.time.L := by
  simp [boundaryDraws]
/-- A boundary begins the next transit (R33). -/
@[simp] theorem beginL_L (s : State) : (beginL s).time.L = s.time.L + 1 := by
  simp [beginL]
@[simp] theorem fillBooks_clk (s : State) : (fillBooks s).time.L = s.time.L := by
  simp [fillBooks]
@[simp] theorem stepVid_clk (s : State) : (stepVid s).time.L = s.time.L := by
  simp [stepVid]
@[simp] theorem openDueRights_clk (s : State) : (openDueRights s).time.L = s.time.L := by
  (first | rw [openDueRights] | unfold openDueRights); (try dsimp only); repeat' split
  all_goals first | (simp; done) | (repeat' (first | (intro _) | split | (with_reducible refine (forEach_clk _ ?_ _ _).trans ?_) | (with_reducible refine (foldl_clk _ ?_ _ _).trans ?_) | (with_reducible refine (checked_clk _ _ _ _ ?_ _).trans ?_) | (with_reducible refine (pqChecked_clk _ _ _ _ ?_ _).trans ?_) | simp))
/-- The work of a boundary moves L by one (R33). -/
theorem boundaryWork_L (s : State) : (boundaryWork s).time.L = s.time.L + 1 := by
  simp [boundaryWork]
@[simp] theorem stopGenerator_clk (s : State) : (stopGenerator s).time.L = s.time.L := by
  simp [stopGenerator]
@[simp] theorem frameWork_clk (bitOk : Bool) (s : State) : (frameWork bitOk s).time.L = s.time.L := by
  (first | rw [frameWork] | unfold frameWork); (try dsimp only); repeat' split
  all_goals first | (simp; done) | (repeat' (first | (intro _) | split | (with_reducible refine (forEach_clk _ ?_ _ _).trans ?_) | (with_reducible refine (foldl_clk _ ?_ _ _).trans ?_) | (with_reducible refine (checked_clk _ _ _ _ ?_ _).trans ?_) | (with_reducible refine (pqChecked_clk _ _ _ _ ?_ _).trans ?_) | simp))
@[simp] theorem meterFrameBoundary_clk (bitOk : Bool) (s : State) : (meterFrameBoundary bitOk s).time.L = s.time.L := by
  unfold meterFrameBoundary; split
  · exact inOneCycle_clk _ (fun s => by simp) s
  · rfl
@[simp] theorem untestedNotice_clk (s : State) : (untestedNotice s).time.L = s.time.L := by
  rw [untestedNotice]; repeat' split
  all_goals simp
@[simp] theorem orbitBoundary_clk (s : State) : (orbitBoundary s).time.L = s.time.L := by
  rw [orbitBoundary]; repeat' split
  all_goals simp
theorem underStructure_clk (c : Carcass) (f : State → State) (h : ∀ s, (f s).time.L = s.time.L) (s : State) :
    (underStructure c f s).time.L = s.time.L := by
  simp [underStructure, h]
@[simp] theorem openTail_clk (s : State) : (openTail s).time.L = s.time.L := by
  (first | rw [openTail] | unfold openTail); (try dsimp only); repeat' split
  all_goals first | (simp; done) | (repeat' (first | (intro _) | split | (with_reducible refine (forEach_clk _ ?_ _ _).trans ?_) | (with_reducible refine (foldl_clk _ ?_ _ _).trans ?_) | (with_reducible refine (checked_clk _ _ _ _ ?_ _).trans ?_) | (with_reducible refine (pqChecked_clk _ _ _ _ ?_ _).trans ?_) | simp))
@[simp] theorem planningTail_clk (s : State) : (planningTail s).time.L = s.time.L := by
  rw [planningTail]; repeat' split
  all_goals simp [underStructure_clk]
@[simp] theorem holdEntry_clk (s : State) : (holdEntry s).time.L = s.time.L := by
  rw [holdEntry]; repeat' split
  all_goals simp
@[simp] theorem onHost_clk (f : Nat) (g : State → State) (h : ∀ s, (g s).time.L = s.time.L) (s : State) : (onHost f g s).time.L = s.time.L := by
  unfold onHost; split <;> simp [h]
@[simp] theorem whenAwake_clk (g : State → State) (h : ∀ s, (g s).time.L = s.time.L) (s : State) : (whenAwake g s).time.L = s.time.L := by
  unfold whenAwake; split <;> simp [h]
@[simp] theorem modPath_clk (path : Nat) (g : ReadPath → ReadPath) (s : State) : (modPath path g s).time.L = s.time.L := by
  rw [modPath]; repeat' split
  all_goals simp
@[simp] theorem latchingRead_clk (path a : Nat) (s : State) : (latchingRead path a s).time.L = s.time.L := by
  rw [latchingRead]; repeat' split
  all_goals simp
@[simp] theorem noteReserved_clk (f a w mask : Nat) (s : State) : (noteReserved f a w mask s).time.L = s.time.L := by
  rw [noteReserved]; repeat' split
  all_goals simp
@[simp] theorem fnWrite_clk (f off v : Nat) (s : State) : (fnWrite f off v s).time.L = s.time.L := by
  unfold fnWrite; repeat' split
  all_goals simp
@[simp] theorem takeValue_clk (f a v : Nat) (s : State) : (takeValue f a v s).time.L = s.time.L := by
  rw [takeValue]; repeat' split
  all_goals simp
@[simp] theorem putDapDesc_clk (off w : Nat) (s : State) : (putDapDesc off w s).time.L = s.time.L := by
  simp [putDapDesc]
@[simp] theorem putDapToken_clk (off w : Nat) (s : State) : (putDapToken off w s).time.L = s.time.L := by
  simp [putDapToken]
@[simp] theorem dapWrite_clk (a w : Nat) (s : State) : (dapWrite a w s).time.L = s.time.L := by
  simp only [dapWrite]; split
  · split <;> simp
  · simp [ite_clk]
@[simp] theorem registerWrite_clk (path a w : Nat) (s : State) : (registerWrite path a w s).time.L = s.time.L := by
  rw [registerWrite]; repeat' split
  all_goals simp
end Sys2Proof.Machine
end

