-- ==== Sys2Proof/Laws/Mesh.lean ====
section
/-! SUPPORT. The routines that leave the mesh's state alone, one lemma per routine. -/
set_option linter.unusedTactic false
set_option linter.unreachableTactic false
namespace Sys2Proof.Machine

theorem foldl_msh {α : Type} (f : State → α → State) (h : ∀ s a, (f s a).msh = s.msh) (l : List α) (s : State) :
    (l.foldl f s).msh = s.msh := by
  induction l generalizing s with
  | nil => rfl
  | cons a l ih => simp [List.foldl, ih, h]
@[simp] theorem forEach_msh {α : Type} (f : α → State → State) (h : ∀ a s, (f a s).msh = s.msh) (l : List α) (s : State) :
    (forEach l f s).msh = s.msh :=
  foldl_msh _ (fun s a => h a s) l s
theorem ite_msh (c : Prop) [Decidable c] (a b : State) : (if c then a else b).msh = if c then a.msh else b.msh :=
  apply_ite (fun s : State => s.msh) c a b
@[simp] theorem drawFree_msh (n : Nat) (s : State) : (drawFree n s).msh = s.msh := by
  simp [drawFree]
@[simp] theorem emit_msh (o : Out) (s : State) : (emit o s).msh = s.msh := by
  simp [emit]
@[simp] theorem countLost_msh (code : Nat) (s : State) : (countLost code s).msh = s.msh := by
  simp [countLost]
@[simp] theorem raiseFrom_msh (src code sev p1 p2 p3 : Nat) (s : State) : (raiseFrom src code sev p1 p2 p3 s).msh = s.msh := by
  rw [raiseFrom]; repeat' split
  all_goals simp
@[simp] theorem raiseEv_msh (code sev p1 p2 p3 : Nat) (s : State) : (raiseEv code sev p1 p2 p3 s).msh = s.msh := by
  simp [raiseEv]
@[simp] theorem setFn_msh (f : Nat) (x : Fn) (s : State) : (setFn f x s).msh = s.msh := by
  simp [setFn]
@[simp] theorem modFn_msh (f : Nat) (g : Fn → Fn) (s : State) : (modFn f g s).msh = s.msh := by
  simp [modFn]
@[simp] theorem modSq_msh (f n : Nat) (g : Sq → Sq) (s : State) : (modSq f n g s).msh = s.msh := by
  simp [modSq]
@[simp] theorem modCq_msh (f n : Nat) (g : Cq → Cq) (s : State) : (modCq f n g s).msh = s.msh := by
  simp [modCq]
@[simp] theorem signal_msh (f v : Nat) (s : State) : (signal f v s).msh = s.msh := by
  rw [signal]; repeat' split
  all_goals simp
@[simp] theorem setAttn_msh (b f : Nat) (s : State) : (setAttn b f s).msh = s.msh := by
  (first | rw [setAttn] | unfold setAttn); (try dsimp only); repeat' split
  all_goals first | (simp; done) | (repeat' (first | (intro _) | split | (with_reducible refine (forEach_msh _ ?_ _ _).trans ?_) | (with_reducible refine (foldl_msh _ ?_ _ _).trans ?_) | simp))
@[simp] theorem holdNotice_msh (f : Nat) (n : Notice) (s : State) : (holdNotice f n s).msh = s.msh := by
  rw [holdNotice]; repeat' split
  all_goals simp
@[simp] theorem notify_msh (type subject p0 p1 p2 p3 : Nat) (f : Nat) (s : State) : (notify type subject p0 p1 p2 p3 f s).msh = s.msh := by
  simp [notify]
@[simp] theorem notifyCab_msh (type subject p0 p1 p2 p3 : Nat) (c : Nat) (s : State) : (notifyCab type subject p0 p1 p2 p3 c s).msh = s.msh := by
  simp [notifyCab]
@[simp] theorem notifyZeroAndCab_msh (type subject p0 p1 p2 p3 : Nat) (c : Nat) (s : State) : (notifyZeroAndCab type subject p0 p1 p2 p3 c s).msh = s.msh := by
  simp [notifyZeroAndCab]
@[simp] theorem entryWritten_msh (f n : Nat) (s : State) : (entryWritten f n s).msh = s.msh := by
  rw [entryWritten]; repeat' split
  all_goals simp
@[simp] theorem writeEntry_msh (f n : Nat) (e : Bool → Completion) (s : State) : (writeEntry f n e s).msh = s.msh := by
  rw [writeEntry]; repeat' split
  all_goals simp
@[simp] theorem giveBack_msh (f n k : Nat) (s : State) : (giveBack f n k s).msh = s.msh := by
  (first | rw [giveBack] | unfold giveBack); (try dsimp only); repeat' split
  all_goals first | (simp; done) | (repeat' (first | (intro _) | split | (with_reducible refine (forEach_msh _ ?_ _ _).trans ?_) | (with_reducible refine (foldl_msh _ ?_ _ _).trans ?_) | simp))
@[simp] theorem modTile_msh (t : Nat) (g : Tile → Tile) (s : State) : (modTile t g s).msh = s.msh := by
  simp [modTile]
@[simp] theorem modJob_msh (j : Nat) (g : Job → Job) (s : State) : (modJob j g s).msh = s.msh := by
  simp [modJob]
@[simp] theorem jobEntry_msh (j : Nat) (x : Job) (e : Bool → Completion) (s : State) : (jobEntry j x e s).msh = s.msh := by
  (first | rw [jobEntry] | unfold jobEntry); (try dsimp only); repeat' split
  all_goals first | (simp; done) | (repeat' (first | (intro _) | split | (with_reducible refine (forEach_msh _ ?_ _ _).trans ?_) | (with_reducible refine (foldl_msh _ ?_ _ _).trans ?_) | simp))
@[simp] theorem dropHolds_msh (j : Nat) (s : State) : (dropHolds j s).msh = s.msh := by
  simp [dropHolds]
@[simp] theorem markFinished_msh (j : Nat) (s : State) : (markFinished j s).msh = s.msh := by
  simp [markFinished]
@[simp] theorem releaseReserve_msh (j : Nat) (s : State) : (releaseReserve j s).msh = s.msh := by
  (first | rw [releaseReserve] | unfold releaseReserve); (try dsimp only); repeat' split
  all_goals first | (simp; done) | (repeat' (first | (intro _) | split | (with_reducible refine (forEach_msh _ ?_ _ _).trans ?_) | (with_reducible refine (foldl_msh _ ?_ _ _).trans ?_) | simp))
@[simp] theorem endJob_msh (j status w0 w1 w2 : Nat) (s : State) : (endJob j status w0 w1 w2 s).msh = s.msh := by
  rw [endJob]; repeat' split
  all_goals simp
@[simp] theorem dropJob_msh (j : Nat) (s : State) : (dropJob j s).msh = s.msh := by
  simp [dropJob]
@[simp] theorem ringFaultEvent_msh (f ring error : Nat) (s : State) : (ringFaultEvent f ring error s).msh = s.msh := by
  simp [ringFaultEvent]
@[simp] theorem dropSqJobs_msh (f n : Nat) (s : State) : (dropSqJobs f n s).msh = s.msh := by
  simp [dropSqJobs]
@[simp] theorem faultSq_msh (f n error : Nat) (s : State) : (faultSq f n error s).msh = s.msh := by
  simp [faultSq]
@[simp] theorem faultCq_msh (f n error : Nat) (s : State) : (faultCq f n error s).msh = s.msh := by
  simp [faultCq]
@[simp] theorem sqEnable_msh (f n : Nat) (w : Nat) (s : State) : (sqEnable f n w s).msh = s.msh := by
  (first | rw [sqEnable] | unfold sqEnable); (try dsimp only); repeat' split
  all_goals first | (simp; done) | (repeat' (first | (intro _) | split | (with_reducible refine (forEach_msh _ ?_ _ _).trans ?_) | (with_reducible refine (foldl_msh _ ?_ _ _).trans ?_) | simp))
@[simp] theorem cqEnable_msh (f n : Nat) (w : Nat) (s : State) : (cqEnable f n w s).msh = s.msh := by
  (first | rw [cqEnable] | unfold cqEnable); (try dsimp only); repeat' split
  all_goals first | (simp; done) | (repeat' (first | (intro _) | split | (with_reducible refine (forEach_msh _ ?_ _ _).trans ?_) | (with_reducible refine (foldl_msh _ ?_ _ _).trans ?_) | simp))
@[simp] theorem releaseCredits_msh (f n : Nat) (s : State) : (releaseCredits f n s).msh = s.msh := by
  simp [releaseCredits]
@[simp] theorem orphanJobs_msh (gone : Job → Bool) (s : State) : (orphanJobs gone s).msh = s.msh := by
  (first | rw [orphanJobs] | unfold orphanJobs); (try dsimp only); repeat' split
  all_goals first | (simp; done) | (repeat' (first | (intro _) | split | (with_reducible refine (forEach_msh _ ?_ _ _).trans ?_) | (with_reducible refine (foldl_msh _ ?_ _ _).trans ?_) | simp))
@[simp] theorem sqOff_msh (f n : Nat) (s : State) : (sqOff f n s).msh = s.msh := by
  (first | rw [sqOff] | unfold sqOff); (try dsimp only); repeat' split
  all_goals first | (simp; done) | (repeat' (first | (intro _) | split | (with_reducible refine (forEach_msh _ ?_ _ _).trans ?_) | (with_reducible refine (foldl_msh _ ?_ _ _).trans ?_) | simp))
@[simp] theorem settleSq_msh (f n : Nat) (s : State) : (settleSq f n s).msh = s.msh := by
  rw [settleSq]; repeat' split
  all_goals simp
@[simp] theorem sqDisable_msh (f n : Nat) (w : Nat) (s : State) : (sqDisable f n w s).msh = s.msh := by
  rw [sqDisable]; repeat' split
  all_goals simp
@[simp] theorem cqDisable_msh (f n : Nat) (w : Nat) (s : State) : (cqDisable f n w s).msh = s.msh := by
  rw [cqDisable]; repeat' split
  all_goals simp
@[simp] theorem logIgnored_msh (f ring st : Nat) (logged : Bool) (s : State) : (logIgnored f ring st logged s).msh = s.msh := by
  rw [logIgnored]; repeat' split
  all_goals simp
@[simp] theorem sqDoorbell_msh (f n : Nat) (count : Word) (cycle : Nat) (s : State) : (sqDoorbell f n count cycle s).msh = s.msh := by
  rw [sqDoorbell]; repeat' split
  all_goals simp
@[simp] theorem cqDoorbell_msh (f n : Nat) (count : Word) (s : State) : (cqDoorbell f n count s).msh = s.msh := by
  rw [cqDoorbell]; repeat' split
  all_goals simp
@[simp] theorem passTurn_msh (f n : Nat) (s : State) : (passTurn f n s).msh = s.msh := by
  (first | rw [passTurn] | unfold passTurn); (try dsimp only); repeat' split
  all_goals first | (simp; done) | (repeat' (first | (intro _) | split | (with_reducible refine (forEach_msh _ ?_ _ _).trans ?_) | (with_reducible refine (foldl_msh _ ?_ _ _).trans ?_) | simp))
@[simp] theorem creditlessAnswer_msh (f n : Nat) (bs : List Byte) (s : State) : (creditlessAnswer f n bs s).msh = s.msh := by
  rw [creditlessAnswer]; repeat' split
  all_goals simp
@[simp] theorem statusBlockEnable_msh (f w : Nat) (s : State) : (statusBlockEnable f w s).msh = s.msh := by
  simp [statusBlockEnable]
@[simp] theorem fnAttnClear_msh (f w : Nat) (s : State) : (fnAttnClear f w s).msh = s.msh := by
  simp [fnAttnClear]
@[simp] theorem writeNotice_msh (f : Nat) (s : State) : (writeNotice f s).msh = s.msh := by
  (first | rw [writeNotice] | unfold writeNotice); (try dsimp only); repeat' split
  all_goals first | (simp; done) | (repeat' (first | (intro _) | split | (with_reducible refine (forEach_msh _ ?_ _ _).trans ?_) | (with_reducible refine (foldl_msh _ ?_ _ _).trans ?_) | simp))
@[simp] theorem noticeWrite_msh (f : Nat) (s : State) : (noticeWrite f s).msh = s.msh := by
  rw [noticeWrite]; repeat' split
  all_goals simp
@[simp] theorem badAccess_msh (f offset size : Nat) (write : Bool) (s : State) : (badAccess f offset size write s).msh = s.msh := by
  rw [badAccess]; repeat' split
  all_goals simp
@[simp] theorem writeHost_msh (addr : Nat) (bs : List Byte) (s : State) : (writeHost addr bs s).msh = s.msh := by
  simp [writeHost]
@[simp] theorem freezeMaster_msh (kind number cause addr : Nat) (tag : Word) (offender : Option Nat) (s : State) : (freezeMaster kind number cause addr tag offender s).msh = s.msh := by
  rw [freezeMaster]; repeat' split
  all_goals simp
@[simp] theorem pageWanted_msh (f page : Nat) (tag : Word) (s : State) : (pageWanted f page tag s).msh = s.msh := by
  simp [pageWanted]
@[simp] theorem parkJob_msh (j page right ran : Nat) (s : State) : (parkJob j page right ran s).msh = s.msh := by
  (first | rw [parkJob] | unfold parkJob); (try dsimp only); repeat' split
  all_goals first | (simp; done) | (repeat' (first | (intro _) | split | (with_reducible refine (forEach_msh _ ?_ _ _).trans ?_) | (with_reducible refine (foldl_msh _ ?_ _ _).trans ?_) | simp))
@[simp] theorem pruneWanted_msh (s : State) : (pruneWanted s).msh = s.msh := by
  simp [pruneWanted]
@[simp] theorem abandonJob_msh (j page : Nat) (s : State) : (abandonJob j page s).msh = s.msh := by
  rw [abandonJob]; repeat' split
  all_goals simp
@[simp] theorem releaseJob_msh (j : Nat) (s : State) : (releaseJob j s).msh = s.msh := by
  rw [releaseJob]; repeat' split
  all_goals simp
@[simp] theorem releaseCounted_msh (pages : List Nat) (s : State) : (releaseCounted pages s).1.msh = s.msh := by
  have key : ∀ (l : List (Nat × Job)) (a : State × Nat),
      (l.foldl (fun (a : State × Nat) e => if leavesPark a.1 e.1 then (releaseJob e.1 a.1, a.2 + 1) else a) a).1.msh = a.1.msh := by
    intro l; induction l with
    | nil => intro a; rfl
    | cons e l ih => intro a; rw [List.foldl_cons, ih]; split <;> simp
  exact key _ _
@[simp] theorem releasePages_msh (pages : List Nat) (s : State) : (releasePages pages s).msh = s.msh := by
  simp [releasePages]
theorem writeBacking_msh (j : Nat) (x : Job) (addr : Nat) (bs : List Byte) (k : State → State) (h : ∀ s, (k s).msh = s.msh)
    (s : State) : (writeBacking j x addr bs k s).msh = s.msh := by
  unfold writeBacking; dsimp only; repeat' split
  all_goals simp [h]
@[simp] theorem setResult_msh (j : Nat) (r : Result) (s : State) : (setResult j r s).msh = s.msh := by
  simp [setResult]
@[simp] theorem failJob_msh (j status w0 w1 w2 : Nat) (s : State) : (failJob j status w0 w1 w2 s).msh = s.msh := by
  simp [failJob]
@[simp] theorem potChange_msh (page : Nat) (e : Option PageEntry) (s : State) : (potChange page e s).msh = s.msh := by
  simp [potChange]
@[simp] theorem pageCommand_msh (j op : Nat) (s : State) : (pageCommand j op s).msh = s.msh := by
  (first | rw [pageCommand] | unfold pageCommand); (try dsimp only); repeat' split
  all_goals first | (simp; done) | (repeat' (first | (intro _) | split | (with_reducible refine (forEach_msh _ ?_ _ _).trans ?_) | (with_reducible refine (foldl_msh _ ?_ _ _).trans ?_) | simp))
@[simp] theorem nopJob_msh (j : Nat) (s : State) : (nopJob j s).msh = s.msh := by
  rw [nopJob]; repeat' split
  all_goals simp
@[simp] theorem pageQuery_msh (j : Nat) (s : State) : (pageQuery j s).msh = s.msh := by
  rw [pageQuery]; repeat' split
  all_goals simp
@[simp] theorem pageWantedRepeat_msh (f page : Nat) (s : State) : (pageWantedRepeat f page s).msh = s.msh := by
  rw [pageWantedRepeat]; repeat' split
  all_goals simp
@[simp] theorem pageAbandonTimeout_msh (j : Nat) (s : State) : (pageAbandonTimeout j s).msh = s.msh := by
  rw [pageAbandonTimeout]; repeat' split
  all_goals simp
@[simp] theorem operandStaged_msh (j : Nat) (input aux extra : List Byte) (s : State) : (operandStaged j input aux extra s).msh = s.msh := by
  rw [operandStaged]; repeat' split
  all_goals simp
@[simp] theorem countOver_msh (code sev : Nat) (s : State) : (countOver code sev s).msh = s.msh := by
  simp [countOver]
@[simp] theorem journalQueue_msh (r : Record) (s : State) : (journalQueue r s).msh = s.msh := by
  rw [journalQueue]; repeat' split
  all_goals simp
@[simp] theorem place_msh (r : Record) (s : State) : (place r s).msh = s.msh := by
  rw [place]; repeat' split
  all_goals simp
@[simp] theorem eventIntake_msh (s : State) : (eventIntake s).msh = s.msh := by
  rw [eventIntake]; repeat' split
  all_goals simp
@[simp] theorem ackRing_msh (w : Word) (s : State) : (ackRing w s).msh = s.msh := by
  rw [ackRing]; repeat' split
  all_goals simp
@[simp] theorem ackJournal_msh (w : Word) (s : State) : (ackJournal w s).msh = s.msh := by
  rw [ackJournal]; repeat' split
  all_goals simp
@[simp] theorem selectRecord_msh (w : Word) (s : State) : (selectRecord w s).msh = s.msh := by
  rw [selectRecord]; repeat' split
  all_goals simp
@[simp] theorem eventSnapshot_msh (j : Nat) (s : State) : (eventSnapshot j s).msh = s.msh := by
  rw [eventSnapshot]; repeat' split
  all_goals simp
@[simp] theorem journalRead_msh (j : Nat) (s : State) : (journalRead j s).msh = s.msh := by
  rw [journalRead]; repeat' split
  all_goals simp
@[simp] theorem openBlock_msh (first : Word) (s : State) : (openBlock first s).msh = s.msh := by
  (first | rw [openBlock] | unfold openBlock); (try dsimp only); repeat' split
  all_goals first | (simp; done) | (repeat' (first | (intro _) | split | (with_reducible refine (forEach_msh _ ?_ _ _).trans ?_) | (with_reducible refine (foldl_msh _ ?_ _ _).trans ?_) | simp))
@[simp] theorem appendJournal_msh (r : Record) (s : State) : (appendJournal r s).msh = s.msh := by
  rw [appendJournal]; repeat' split
  all_goals simp
@[simp] theorem journalProgram_msh (ok : Bool) (s : State) : (journalProgram ok s).msh = s.msh := by
  (first | rw [journalProgram] | unfold journalProgram); (try dsimp only); repeat' split
  all_goals first | (simp; done) | (repeat' (first | (intro _) | split | (with_reducible refine (forEach_msh _ ?_ _ _).trans ?_) | (with_reducible refine (foldl_msh _ ?_ _ _).trans ?_) | simp))
@[simp] theorem timeAnchor_msh (s : State) : (timeAnchor s).msh = s.msh := by
  rw [timeAnchor]; repeat' split
  all_goals simp
@[simp] theorem ppsEdge_msh (instant inTransit : Nat) (s : State) : (ppsEdge instant inTransit s).msh = s.msh := by
  (first | rw [ppsEdge] | unfold ppsEdge); (try dsimp only); repeat' split
  all_goals first | (simp; done) | (repeat' (first | (intro _) | split | (with_reducible refine (forEach_msh _ ?_ _ _).trans ?_) | (with_reducible refine (foldl_msh _ ?_ _ _).trans ?_) | simp))
@[simp] theorem ppsIntervalTimeout_msh (s : State) : (ppsIntervalTimeout s).msh = s.msh := by
  rw [ppsIntervalTimeout]; repeat' split
  all_goals simp
@[simp] theorem takeOperands_msh (j : Nat) (input aux extra : List Byte) (s : State) : (takeOperands j input aux extra s).msh = s.msh := by
  unfold takeOperands; dsimp only; repeat' split
  all_goals simp
@[simp] theorem keyLoadFerried_msh (j : Nat) (s : State) : (keyLoadFerried j s).msh = s.msh := by
  (first | rw [keyLoadFerried] | unfold keyLoadFerried); (try dsimp only); repeat' split
  all_goals first | (simp; done) | (repeat' (first | (intro _) | split | (with_reducible refine (forEach_msh _ ?_ _ _).trans ?_) | (with_reducible refine (foldl_msh _ ?_ _ _).trans ?_) | simp))
@[simp] theorem keyLoadPublic_msh (j : Nat) (s : State) : (keyLoadPublic j s).msh = s.msh := by
  (first | rw [keyLoadPublic] | unfold keyLoadPublic); (try dsimp only); repeat' split
  all_goals first | (simp; done) | (repeat' (first | (intro _) | split | (with_reducible refine (forEach_msh _ ?_ _ _).trans ?_) | (with_reducible refine (foldl_msh _ ?_ _ _).trans ?_) | simp))
@[simp] theorem keyInfo_msh (j : Nat) (s : State) : (keyInfo j s).msh = s.msh := by
  (first | rw [keyInfo] | unfold keyInfo); (try dsimp only); repeat' split
  all_goals first | (simp; done) | (repeat' (first | (intro _) | split | (with_reducible refine (forEach_msh _ ?_ _ _).trans ?_) | (with_reducible refine (foldl_msh _ ?_ _ _).trans ?_) | simp))
@[simp] theorem openRequest_msh (j : Nat) (x : Job) (rosters : List Roster) (dig : Digest) (s : State) : (openRequest j x rosters dig s).msh = s.msh := by
  rw [openRequest]; repeat' split
  all_goals simp
@[simp] theorem openOwn_msh (j : Nat) (x : Job) (right : Nat) (s : State) : (openOwn j x right s).msh = s.msh := by
  simp [openOwn]
@[simp] theorem cancelRequest_msh (n : Nat) (s : State) : (cancelRequest n s).msh = s.msh := by
  rw [cancelRequest]; repeat' split
  all_goals simp
@[simp] theorem dovetailQuery_msh (j : Nat) (s : State) : (dovetailQuery j s).msh = s.msh := by
  rw [dovetailQuery]; repeat' split
  all_goals simp
@[simp] theorem dovetailLapse_msh (n : Nat) (s : State) : (dovetailLapse n s).msh = s.msh := by
  rw [dovetailLapse]; repeat' split
  all_goals simp
@[simp] theorem keyImport_msh (j : Nat) (s : State) : (keyImport j s).msh = s.msh := by
  rw [keyImport]; repeat' split
  all_goals simp
@[simp] theorem keyExport_msh (j : Nat) (s : State) : (keyExport j s).msh = s.msh := by
  rw [keyExport]; repeat' split
  all_goals simp
@[simp] theorem keyDestroy_msh (j : Nat) (s : State) : (keyDestroy j s).msh = s.msh := by
  rw [keyDestroy]; repeat' split
  all_goals simp
@[simp] theorem thaw_msh (j : Nat) (s : State) : (thaw j s).msh = s.msh := by
  rw [thaw]; repeat' split
  all_goals simp
@[simp] theorem runPart_msh (j : Nat) (x : Job) (s : State) : (runPart j x s).msh = s.msh := by
  (first | rw [runPart] | unfold runPart); (try dsimp only); repeat' split
  all_goals first | (simp; done) | (repeat' (first | (intro _) | split | (with_reducible refine (forEach_msh _ ?_ _ _).trans ?_) | (with_reducible refine (foldl_msh _ ?_ _ _).trans ?_) | simp))
@[simp] theorem symEncrypt_msh (j : Nat) (s : State) : (symEncrypt j s).msh = s.msh := by
  rw [symEncrypt]; repeat' split
  all_goals simp
@[simp] theorem symDecrypt_msh (j : Nat) (s : State) : (symDecrypt j s).msh = s.msh := by
  rw [symDecrypt]; repeat' split
  all_goals simp
@[simp] theorem symAeadEncrypt_msh (j : Nat) (s : State) : (symAeadEncrypt j s).msh = s.msh := by
  rw [symAeadEncrypt]; repeat' split
  all_goals simp
@[simp] theorem symAeadDecrypt_msh (j : Nat) (s : State) : (symAeadDecrypt j s).msh = s.msh := by
  (first | rw [symAeadDecrypt] | unfold symAeadDecrypt); (try dsimp only); repeat' split
  all_goals first | (simp; done) | (repeat' (first | (intro _) | split | (with_reducible refine (forEach_msh _ ?_ _ _).trans ?_) | (with_reducible refine (foldl_msh _ ?_ _ _).trans ?_) | simp))
@[simp] theorem symCmac_msh (j : Nat) (s : State) : (symCmac j s).msh = s.msh := by
  rw [symCmac]; repeat' split
  all_goals simp
@[simp] theorem symKeyWrap_msh (j : Nat) (s : State) : (symKeyWrap j s).msh = s.msh := by
  rw [symKeyWrap]; repeat' split
  all_goals simp
@[simp] theorem symKeyUnwrap_msh (j : Nat) (s : State) : (symKeyUnwrap j s).msh = s.msh := by
  rw [symKeyUnwrap]; repeat' split
  all_goals simp
@[simp] theorem convertRecord_msh (j : Nat) (x : Job) (fromForm : Nat) (s : State) : (convertRecord j x fromForm s).msh = s.msh := by
  (first | rw [convertRecord] | unfold convertRecord); (try dsimp only); repeat' split
  all_goals first | (simp; done) | (repeat' (first | (intro _) | split | (with_reducible refine (forEach_msh _ ?_ _ _).trans ?_) | (with_reducible refine (foldl_msh _ ?_ _ _).trans ?_) | simp))
@[simp] theorem symContextSave_msh (j : Nat) (s : State) : (symContextSave j s).msh = s.msh := by
  rw [symContextSave]; repeat' split
  all_goals simp
@[simp] theorem symContextRestore_msh (j : Nat) (s : State) : (symContextRestore j s).msh = s.msh := by
  rw [symContextRestore]; repeat' split
  all_goals simp
@[simp] theorem symReencrypt_msh (j : Nat) (s : State) : (symReencrypt j s).msh = s.msh := by
  (first | rw [symReencrypt] | unfold symReencrypt); (try dsimp only); repeat' split
  all_goals first | (simp; done) | (repeat' (first | (intro _) | split | (with_reducible refine (forEach_msh _ ?_ _ _).trans ?_) | (with_reducible refine (foldl_msh _ ?_ _ _).trans ?_) | simp))
@[simp] theorem tileParityError_msh (t bank : Nat) (s : State) : (tileParityError t bank s).msh = s.msh := by
  rw [tileParityError]; repeat' split
  all_goals simp
@[simp] theorem gDeliver_msh (j : Nat) (x : Job) (r : List Byte) (s : State) : (gDeliver j x r s).msh = s.msh := by
  rw [gDeliver]; repeat' split
  all_goals simp
@[simp] theorem digestPart_msh (j : Nat) (x : Job) (s : State) : (digestPart j x s).msh = s.msh := by
  (first | rw [digestPart] | unfold digestPart); (try dsimp only); repeat' split
  all_goals first | (simp; done) | (repeat' (first | (intro _) | split | (with_reducible refine (forEach_msh _ ?_ _ _).trans ?_) | (with_reducible refine (foldl_msh _ ?_ _ _).trans ?_) | simp))
@[simp] theorem digHash_msh (j : Nat) (s : State) : (digHash j s).msh = s.msh := by
  rw [digHash]; repeat' split
  all_goals simp
@[simp] theorem digHmac_msh (j : Nat) (s : State) : (digHmac j s).msh = s.msh := by
  rw [digHmac]; repeat' split
  all_goals simp
@[simp] theorem digKmac_msh (j : Nat) (s : State) : (digKmac j s).msh = s.msh := by
  rw [digKmac]; repeat' split
  all_goals simp
@[simp] theorem digXof_msh (j : Nat) (s : State) : (digXof j s).msh = s.msh := by
  rw [digXof]; repeat' split
  all_goals simp
@[simp] theorem gConvert_msh (j : Nat) (x : Job) (fromForm : Nat) (s : State) : (gConvert j x fromForm s).msh = s.msh := by
  rw [gConvert]; repeat' split
  all_goals simp
@[simp] theorem digContextSave_msh (j : Nat) (s : State) : (digContextSave j s).msh = s.msh := by
  rw [digContextSave]; repeat' split
  all_goals simp
@[simp] theorem digContextRestore_msh (j : Nat) (s : State) : (digContextRestore j s).msh = s.msh := by
  rw [digContextRestore]; repeat' split
  all_goals simp
@[simp] theorem refuseLong_msh (j : Nat) (s : State) : (refuseLong j s).msh = s.msh := by
  (first | rw [refuseLong] | unfold refuseLong); (try dsimp only); repeat' split
  all_goals first | (simp; done) | (repeat' (first | (intro _) | split | (with_reducible refine (forEach_msh _ ?_ _ _).trans ?_) | (with_reducible refine (foldl_msh _ ?_ _ _).trans ?_) | simp))
@[simp] theorem stageJob_msh (j : Nat) (input aux extra : List Byte) (s : State) : (stageJob j input aux extra s).msh = s.msh := by
  (first | rw [stageJob] | unfold stageJob); (try dsimp only); repeat' split
  all_goals first | (simp; done) | (repeat' (first | (intro _) | split | (with_reducible refine (forEach_msh _ ?_ _ _).trans ?_) | (with_reducible refine (foldl_msh _ ?_ _ _).trans ?_) | simp))
@[simp] theorem verifyFailed_msh (j t op : Nat) (tag : Word) (s : State) : (verifyFailed j t op tag s).msh = s.msh := by
  rw [verifyFailed]; repeat' split
  all_goals simp
@[simp] theorem checked_msh (ok : Bool) (j : Nat) (x : Job) (g : State → State) (h : ∀ s, (g s).msh = s.msh) (s : State) : (checked ok j x g s).msh = s.msh := by
  unfold checked; split <;> simp [h]
@[simp] theorem bigRsaSign_msh (j : Nat) (ok : Bool) (s : State) : (bigRsaSign j ok s).msh = s.msh := by
  rw [bigRsaSign]; repeat' split
  all_goals simp
@[simp] theorem verdict_msh (j : Nat) (ok : Bool) (s : State) : (verdict j ok s).msh = s.msh := by
  rw [verdict]; repeat' split
  all_goals simp
@[simp] theorem bigRsaVerify_msh (j : Nat) (s : State) : (bigRsaVerify j s).msh = s.msh := by
  rw [bigRsaVerify]; repeat' split
  all_goals simp
@[simp] theorem bigRsaEncrypt_msh (j : Nat) (s : State) : (bigRsaEncrypt j s).msh = s.msh := by
  rw [bigRsaEncrypt]; repeat' split
  all_goals simp
@[simp] theorem bDeliver_msh (j : Nat) (x : Job) (r : List Byte) (s : State) : (bDeliver j x r s).msh = s.msh := by
  rw [bDeliver]; repeat' split
  all_goals simp
@[simp] theorem bigRsaDecrypt_msh (j : Nat) (ok : Bool) (s : State) : (bigRsaDecrypt j ok s).msh = s.msh := by
  (first | rw [bigRsaDecrypt] | unfold bigRsaDecrypt); (try dsimp only); repeat' split
  all_goals first | (simp; done) | (repeat' (first | (intro _) | split | (with_reducible refine (forEach_msh _ ?_ _ _).trans ?_) | (with_reducible refine (foldl_msh _ ?_ _ _).trans ?_) | (with_reducible refine (checked_msh _ _ _ _ ?_ _).trans ?_) | simp))
@[simp] theorem bigEcdsaSign_msh (j : Nat) (ok : Bool) (s : State) : (bigEcdsaSign j ok s).msh = s.msh := by
  rw [bigEcdsaSign]; repeat' split
  all_goals simp
@[simp] theorem bigEcdsaVerify_msh (j : Nat) (s : State) : (bigEcdsaVerify j s).msh = s.msh := by
  rw [bigEcdsaVerify]; repeat' split
  all_goals simp
@[simp] theorem bigEcdh_msh (j : Nat) (ok : Bool) (s : State) : (bigEcdh j ok s).msh = s.msh := by
  rw [bigEcdh]; repeat' split
  all_goals simp
@[simp] theorem bigEcEphemeral_msh (j : Nat) (ok : Bool) (s : State) : (bigEcEphemeral j ok s).msh = s.msh := by
  (first | rw [bigEcEphemeral] | unfold bigEcEphemeral); (try dsimp only); repeat' split
  all_goals first | (simp; done) | (repeat' (first | (intro _) | split | (with_reducible refine (forEach_msh _ ?_ _ _).trans ?_) | (with_reducible refine (foldl_msh _ ?_ _ _).trans ?_) | (with_reducible refine (checked_msh _ _ _ _ ?_ _).trans ?_) | simp))
@[simp] theorem bigEddsaSign_msh (j : Nat) (ok : Bool) (s : State) : (bigEddsaSign j ok s).msh = s.msh := by
  rw [bigEddsaSign]; repeat' split
  all_goals simp
@[simp] theorem bigEddsaVerify_msh (j : Nat) (s : State) : (bigEddsaVerify j s).msh = s.msh := by
  rw [bigEddsaVerify]; repeat' split
  all_goals simp
@[simp] theorem bigXdh_msh (j : Nat) (ok : Bool) (s : State) : (bigXdh j ok s).msh = s.msh := by
  (first | rw [bigXdh] | unfold bigXdh); (try dsimp only); repeat' split
  all_goals first | (simp; done) | (repeat' (first | (intro _) | split | (with_reducible refine (forEach_msh _ ?_ _ _).trans ?_) | (with_reducible refine (foldl_msh _ ?_ _ _).trans ?_) | (with_reducible refine (checked_msh _ _ _ _ ?_ _).trans ?_) | simp))
@[simp] theorem bigModarith_msh (j : Nat) (s : State) : (bigModarith j s).msh = s.msh := by
  (first | rw [bigModarith] | unfold bigModarith); (try dsimp only); repeat' split
  all_goals first | (simp; done) | (repeat' (first | (intro _) | split | (with_reducible refine (forEach_msh _ ?_ _ _).trans ?_) | (with_reducible refine (foldl_msh _ ?_ _ _).trans ?_) | (with_reducible refine (checked_msh _ _ _ _ ?_ _).trans ?_) | simp))
@[simp] theorem custodyRotate_msh (j : Nat) (s : State) : (custodyRotate j s).msh = s.msh := by
  rw [custodyRotate]; repeat' split
  all_goals simp
@[simp] theorem custodyRestore_msh (j : Nat) (s : State) : (custodyRestore j s).msh = s.msh := by
  rw [custodyRestore]; repeat' split
  all_goals simp
@[simp] theorem pqChecked_msh (ok : Nat) (j : Nat) (x : Job) (g : State → State) (h : ∀ s, (g s).msh = s.msh) (s : State) : (pqChecked ok j x g s).msh = s.msh := by
  unfold pqChecked; split; · simp [h]
  split <;> simp
@[simp] theorem polMlkemKeypair_msh (j check : Nat) (s : State) : (polMlkemKeypair j check s).msh = s.msh := by
  (first | rw [polMlkemKeypair] | unfold polMlkemKeypair); (try dsimp only); repeat' split
  all_goals first | (simp; done) | (repeat' (first | (intro _) | split | (with_reducible refine (forEach_msh _ ?_ _ _).trans ?_) | (with_reducible refine (foldl_msh _ ?_ _ _).trans ?_) | (with_reducible refine (checked_msh _ _ _ _ ?_ _).trans ?_) | (with_reducible refine (pqChecked_msh _ _ _ _ ?_ _).trans ?_) | simp))
@[simp] theorem kemDeliver_msh (j : Nat) (x : Job) (ct k : List Byte) (s : State) : (kemDeliver j x ct k s).msh = s.msh := by
  rw [kemDeliver]; repeat' split
  all_goals simp
@[simp] theorem polMlkemEncaps_msh (j check : Nat) (s : State) : (polMlkemEncaps j check s).msh = s.msh := by
  rw [polMlkemEncaps]; repeat' split
  all_goals simp
@[simp] theorem polMlkemDecaps_msh (j check : Nat) (s : State) : (polMlkemDecaps j check s).msh = s.msh := by
  rw [polMlkemDecaps]; repeat' split
  all_goals simp
@[simp] theorem polMldsaSign_msh (j check : Nat) (s : State) : (polMldsaSign j check s).msh = s.msh := by
  rw [polMldsaSign]; repeat' split
  all_goals simp
@[simp] theorem polMldsaVerify_msh (j check : Nat) (s : State) : (polMldsaVerify j check s).msh = s.msh := by
  rw [polMldsaVerify]; repeat' split
  all_goals simp
@[simp] theorem heRefuse_msh (j : Nat) (x : Job) (e : Nat × Nat × Nat × Nat) (s : State) : (heRefuse j x e s).msh = s.msh := by
  rw [heRefuse]; repeat' split
  all_goals simp
@[simp] theorem heMake_msh (j : Nat) (x : Job) (o : HeOut) (bytes : List Byte) (s : State) : (heMake j x o bytes s).msh = s.msh := by
  rw [heMake]; repeat' split
  all_goals simp
@[simp] theorem heRun_msh (j op : Nat) (back : List (List Byte)) (s : State) : (heRun j op back s).msh = s.msh := by
  unfold heRun; dsimp only; repeat' split
  all_goals first | (simp; done) | (refine (writeBacking_msh _ _ _ _ _ ?_ _).trans ?_ <;> simp)
@[simp] theorem polHeEncrypt_msh (j : Nat) (back : List (List Byte)) (s : State) : (polHeEncrypt j back s).msh = s.msh := by
  simp [polHeEncrypt]
@[simp] theorem polHeAdd_msh (j : Nat) (back : List (List Byte)) (s : State) : (polHeAdd j back s).msh = s.msh := by
  simp [polHeAdd]
@[simp] theorem polHeMultiply_msh (j : Nat) (back : List (List Byte)) (s : State) : (polHeMultiply j back s).msh = s.msh := by
  simp [polHeMultiply]
@[simp] theorem polHeRotate_msh (j : Nat) (back : List (List Byte)) (s : State) : (polHeRotate j back s).msh = s.msh := by
  simp [polHeRotate]
@[simp] theorem polHeKeyswitch_msh (j : Nat) (back : List (List Byte)) (s : State) : (polHeKeyswitch j back s).msh = s.msh := by
  simp [polHeKeyswitch]
@[simp] theorem polHeRescale_msh (j : Nat) (back : List (List Byte)) (s : State) : (polHeRescale j back s).msh = s.msh := by
  simp [polHeRescale]
@[simp] theorem polHeRefresh_msh (j : Nat) (back : List (List Byte)) (s : State) : (polHeRefresh j back s).msh = s.msh := by
  simp [polHeRefresh]
@[simp] theorem adopt_msh (j : Nat) (bytes : List Byte) (s : State) : (adopt j bytes s).msh = s.msh := by
  rw [adopt]; repeat' split
  all_goals simp
@[simp] theorem polHeDecrypt_msh (j : Nat) (back : List (List Byte)) (s : State) : (polHeDecrypt j back s).msh = s.msh := by
  rw [polHeDecrypt]; repeat' split
  all_goals simp
@[simp] theorem writeCopy_msh (k : Nat) (bs : List Byte) (s : State) : (writeCopy k bs s).msh = s.msh := by
  rw [writeCopy]; repeat' split
  all_goals simp
@[simp] theorem setCopyActive_msh (k : Nat) (b : Bool) (s : State) : (setCopyActive k b s).msh = s.msh := by
  rw [setCopyActive]; repeat' split
  all_goals simp
@[simp] theorem setCopyReason_msh (k : Nat) (r : Bad) (s : State) : (setCopyReason k r s).msh = s.msh := by
  rw [setCopyReason]; repeat' split
  all_goals simp
@[simp] theorem discardStaged_msh (s : State) : (discardStaged s).msh = s.msh := by
  rw [discardStaged]; repeat' split
  all_goals simp
@[simp] theorem carcassUnstage_msh (j : Nat) (s : State) : (carcassUnstage j s).msh = s.msh := by
  rw [carcassUnstage]; repeat' split
  all_goals simp
@[simp] theorem carcassRead_msh (j : Nat) (s : State) : (carcassRead j s).msh = s.msh := by
  (first | rw [carcassRead] | unfold carcassRead); (try dsimp only); repeat' split
  all_goals first | (simp; done) | (repeat' (first | (intro _) | split | (with_reducible refine (forEach_msh _ ?_ _ _).trans ?_) | (with_reducible refine (foldl_msh _ ?_ _ _).trans ?_) | (with_reducible refine (checked_msh _ _ _ _ ?_ _).trans ?_) | (with_reducible refine (pqChecked_msh _ _ _ _ ?_ _).trans ?_) | simp))
@[simp] theorem copyRepair_msh (found : List Byte) (s : State) : (copyRepair found s).msh = s.msh := by
  (first | rw [copyRepair] | unfold copyRepair); (try dsimp only); repeat' split
  all_goals first | (simp; done) | (repeat' (first | (intro _) | split | (with_reducible refine (forEach_msh _ ?_ _ _).trans ?_) | (with_reducible refine (foldl_msh _ ?_ _ _).trans ?_) | (with_reducible refine (checked_msh _ _ _ _ ?_ _).trans ?_) | (with_reducible refine (pqChecked_msh _ _ _ _ ?_ _).trans ?_) | simp))
@[simp] theorem ledgerRead_msh (j : Nat) (s : State) : (ledgerRead j s).msh = s.msh := by
  rw [ledgerRead]; repeat' split
  all_goals simp
@[simp] theorem ledgerIdentity_msh (j : Nat) (s : State) : (ledgerIdentity j s).msh = s.msh := by
  rw [ledgerIdentity]; repeat' split
  all_goals simp
@[simp] theorem laneStatus_msh (j : Nat) (s : State) : (laneStatus j s).msh = s.msh := by
  rw [laneStatus]; repeat' split
  all_goals simp
@[simp] theorem timeNonce_msh (j : Nat) (s : State) : (timeNonce j s).msh = s.msh := by
  rw [timeNonce]; repeat' split
  all_goals simp
@[simp] theorem acceptStmt_msh (j : Nat) (t : TimeState) (s : State) : (acceptStmt j t s).msh = s.msh := by
  unfold acceptStmt; simp
@[simp] theorem openStep_msh (j : Nat) (x : Job) (target : Int) (s : State) : (openStep j x target s).msh = s.msh := by
  rw [openStep]; repeat' split
  all_goals simp
@[simp] theorem decideStmt_msh (j : Nat) (x : Job) (st : Stmt) (issue : Nat) (s : State) : (decideStmt j x st issue s).msh = s.msh := by
  unfold decideStmt; dsimp only; repeat' split
  all_goals simp
@[simp] theorem timeStatement_msh (j : Nat) (s : State) : (timeStatement j s).msh = s.msh := by
  (first | rw [timeStatement] | unfold timeStatement); (try dsimp only); repeat' split
  all_goals first | (simp; done) | (repeat' (first | (intro _) | split | (with_reducible refine (forEach_msh _ ?_ _ _).trans ?_) | (with_reducible refine (foldl_msh _ ?_ _ _).trans ?_) | (with_reducible refine (checked_msh _ _ _ _ ?_ _).trans ?_) | (with_reducible refine (pqChecked_msh _ _ _ _ ?_ _).trans ?_) | simp))
@[simp] theorem appletLoad_msh (j : Nat) (s : State) : (appletLoad j s).msh = s.msh := by
  rw [appletLoad]; repeat' split
  all_goals simp
@[simp] theorem setCeiling_msh (i2c : Bool) (p : Nat) (s : State) : (setCeiling i2c p s).msh = s.msh := by
  simp [setCeiling]
@[simp] theorem powerPolicy_msh (j : Nat) (s : State) : (powerPolicy j s).msh = s.msh := by
  rw [powerPolicy]; repeat' split
  all_goals simp
@[simp] theorem i2cCeiling_msh (bs : List Byte) (s : State) : (i2cCeiling bs s).msh = s.msh := by
  rw [i2cCeiling]; repeat' split
  all_goals simp
@[simp] theorem lowerLimit_msh (t cause : Nat) (s : State) : (lowerLimit t cause s).msh = s.msh := by
  rw [lowerLimit]; repeat' split
  all_goals simp
@[simp] theorem tileLimitChange_msh (t : Nat) (s : State) : (tileLimitChange t s).msh = s.msh := by
  rw [tileLimitChange]; repeat' split
  all_goals simp
@[simp] theorem bootMap_msh (f w : Nat) (s : State) : (bootMap f w s).msh = s.msh := by
  (first | rw [bootMap] | unfold bootMap); (try dsimp only); repeat' split
  all_goals first | (simp; done) | (repeat' (first | (intro _) | split | (with_reducible refine (forEach_msh _ ?_ _ _).trans ?_) | (with_reducible refine (foldl_msh _ ?_ _ _).trans ?_) | (with_reducible refine (checked_msh _ _ _ _ ?_ _).trans ?_) | (with_reducible refine (pqChecked_msh _ _ _ _ ?_ _).trans ?_) | simp))
@[simp] theorem cabinetZeroize_msh (j : Nat) (s : State) : (cabinetZeroize j s).msh = s.msh := by
  rw [cabinetZeroize]; repeat' split
  all_goals simp
@[simp] theorem endReset_msh (r : ResetDue) (s : State) : (endReset r s).msh = s.msh := by
  (first | rw [endReset] | unfold endReset); (try dsimp only); repeat' split
  all_goals first | (simp; done) | (repeat' (first | (intro _) | split | (with_reducible refine (forEach_msh _ ?_ _ _).trans ?_) | (with_reducible refine (foldl_msh _ ?_ _ _).trans ?_) | (with_reducible refine (checked_msh _ _ _ _ ?_ _).trans ?_) | (with_reducible refine (pqChecked_msh _ _ _ _ ?_ _).trans ?_) | simp))
@[simp] theorem fnReset_msh (f cause : Nat) (s : State) : (fnReset f cause s).msh = s.msh := by
  unfold fnReset; dsimp only; split <;> simp
@[simp] theorem clearVfEnable_msh (cause : Nat) (s : State) : (clearVfEnable cause s).msh = s.msh := by
  rw [clearVfEnable]; repeat' split
  all_goals simp
@[simp] theorem fnResetEvent_msh (f cause : Nat) (s : State) : (fnResetEvent f cause s).msh = s.msh := by
  rw [fnResetEvent]; repeat' split
  all_goals simp
@[simp] theorem flr_msh (f : Nat) (s : State) : (flr f s).msh = s.msh := by
  simp [flr]
@[simp] theorem busMasterCleared_msh (f : Nat) (s : State) : (busMasterCleared f s).msh = s.msh := by
  simp [busMasterCleared]
@[simp] theorem d3hotEntry_msh (f : Nat) (s : State) : (d3hotEntry f s).msh = s.msh := by
  rw [d3hotEntry]; repeat' split
  all_goals simp
@[simp] theorem d3hotToD0_msh (f : Nat) (s : State) : (d3hotToD0 f s).msh = s.msh := by
  rw [d3hotToD0]; repeat' split
  all_goals simp
@[simp] theorem resetLinkFns_msh (s : State) : (resetLinkFns s).msh = s.msh := by
  simp [resetLinkFns]
@[simp] theorem hotReset_msh (s : State) : (hotReset s).msh = s.msh := by
  rw [hotReset]; repeat' split
  all_goals simp
@[simp] theorem linkDown_msh (s : State) : (linkDown s).msh = s.msh := by
  rw [linkDown]; repeat' split
  all_goals simp
@[simp] theorem vfEnableCleared_msh (s : State) : (vfEnableCleared s).msh = s.msh := by
  simp [vfEnableCleared]
@[simp] theorem linkTraining_msh (lanes gts : Nat) (vf : Bool) (s : State) : (linkTraining lanes gts vf s).msh = s.msh := by
  rw [linkTraining]; repeat' split
  all_goals simp
@[simp] theorem stoppedAnswer_msh (f n : Nat) (d : Desc) (s : State) : (stoppedAnswer f n d s).msh = s.msh := by
  simp [stoppedAnswer]
@[simp] theorem descriptorFetch_msh (f n : Nat) (bs : List Byte) (s : State) : (descriptorFetch f n bs s).msh = s.msh := by
  (first | rw [descriptorFetch] | unfold descriptorFetch); (try dsimp only); repeat' split
  all_goals first | (simp; done) | (repeat' (first | (intro _) | split | (with_reducible refine (forEach_msh _ ?_ _ _).trans ?_) | (with_reducible refine (foldl_msh _ ?_ _ _).trans ?_) | (with_reducible refine (checked_msh _ _ _ _ ?_ _).trans ?_) | (with_reducible refine (pqChecked_msh _ _ _ _ ?_ _).trans ?_) | simp))
@[simp] theorem reportAer_msh (f cause : Nat) (s : State) : (reportAer f cause s).msh = s.msh := by
  (first | rw [reportAer] | unfold reportAer); (try dsimp only); repeat' split
  all_goals first | (simp; done) | (repeat' (first | (intro _) | split | (with_reducible refine (forEach_msh _ ?_ _ _).trans ?_) | (with_reducible refine (foldl_msh _ ?_ _ _).trans ?_) | (with_reducible refine (checked_msh _ _ _ _ ?_ _).trans ?_) | (with_reducible refine (pqChecked_msh _ _ _ _ ?_ _).trans ?_) | simp))
@[simp] theorem hostReadFailure_msh (job : Option Nat) (f n addr cause : Nat) (s : State) : (hostReadFailure job f n addr cause s).msh = s.msh := by
  (first | rw [hostReadFailure] | unfold hostReadFailure); (try dsimp only); repeat' split
  all_goals first | (simp; done) | (repeat' (first | (intro _) | split | (with_reducible refine (forEach_msh _ ?_ _ _).trans ?_) | (with_reducible refine (foldl_msh _ ?_ _ _).trans ?_) | (with_reducible refine (checked_msh _ _ _ _ ?_ _).trans ?_) | (with_reducible refine (pqChecked_msh _ _ _ _ ?_ _).trans ?_) | simp))
@[simp] theorem onHost_msh (f : Nat) (g : State → State) (h : ∀ s, (g s).msh = s.msh) (s : State) : (onHost f g s).msh = s.msh := by
  unfold onHost; split <;> simp [h]
@[simp] theorem whenAwake_msh (g : State → State) (h : ∀ s, (g s).msh = s.msh) (s : State) : (whenAwake g s).msh = s.msh := by
  unfold whenAwake; split <;> simp [h]
@[simp] theorem noteReserved_msh (f a w mask : Nat) (s : State) : (noteReserved f a w mask s).msh = s.msh := by
  rw [noteReserved]; repeat' split
  all_goals simp
end Sys2Proof.Machine
end

