-- ==== Sys2Proof/Laws/Table.lean ====
section
/-! SUPPORT. Laws of sparse tables and of byte memory: a read after a write, the canonical form, and that every operation keeps
it. -/

namespace Sys2Proof.Machine

/-! ### Rising keys -/

theorem risingFrom_mono {α : Type} {lo lo' : Nat} {t : List (Nat × α)} (h : lo' ≤ lo) (r : risingFrom lo t = true) :
    risingFrom lo' t = true := by
  cases t with
  | nil => rfl
  | cons e t =>
    simp only [risingFrom, Bool.and_eq_true, decide_eq_true_eq] at r ⊢
    exact ⟨Nat.le_trans h r.1, r.2⟩

theorem risingFrom_filter {α : Type} (p : Nat × α → Bool) {lo : Nat} {t : List (Nat × α)} (r : risingFrom lo t = true) :
    risingFrom lo (t.filter p) = true := by
  induction t generalizing lo with
  | nil => rfl
  | cons e t ih =>
    simp only [risingFrom, Bool.and_eq_true, decide_eq_true_eq] at r
    simp only [List.filter]
    split
    · simp only [risingFrom, Bool.and_eq_true, decide_eq_true_eq]; exact ⟨r.1, ih r.2⟩
    · exact risingFrom_mono (by omega) (ih r.2)

theorem risingFrom_map {α β : Type} (f : Nat × α → Nat × β) (hf : ∀ e, (f e).1 = e.1) {lo : Nat} {t : List (Nat × α)}
    (r : risingFrom lo t = true) : risingFrom lo (t.map f) = true := by
  induction t generalizing lo with
  | nil => rfl
  | cons e t ih =>
    simp only [risingFrom, Bool.and_eq_true, decide_eq_true_eq] at r
    simp only [List.map, risingFrom, Bool.and_eq_true, decide_eq_true_eq, hf]
    exact ⟨r.1, ih r.2⟩

theorem risingFrom_put {α : Type} (k : Nat) (v : α) {lo : Nat} {t : Tab α} (hk : lo ≤ k) (r : risingFrom lo t = true) :
    risingFrom lo (Tab.put t k v) = true := by
  induction t generalizing lo with
  | nil => simp [Tab.put, risingFrom, hk]
  | cons e t ih =>
    obtain ⟨i, w⟩ := e
    simp only [risingFrom, Bool.and_eq_true, decide_eq_true_eq] at r
    simp only [Tab.put]
    split
    · simp only [risingFrom, Bool.and_eq_true, decide_eq_true_eq]; exact ⟨hk, by omega, r.2⟩
    · split
      · subst_vars; simp only [risingFrom, Bool.and_eq_true, decide_eq_true_eq]; exact ⟨hk, r.2⟩
      · simp only [risingFrom, Bool.and_eq_true, decide_eq_true_eq]; exact ⟨r.1, ih (by omega) r.2⟩

/-! ### Tables: every operation keeps the form -/

theorem Tab.ok_put {α : Type} {t : Tab α} (k : Nat) (v : α) (h : t.ok) : (t.put k v).ok := risingFrom_put k v (Nat.zero_le k) h
theorem Tab.ok_del {α : Type} {t : Tab α} (k : Nat) (h : t.ok) : (t.del k).ok := risingFrom_filter _ h
theorem Tab.ok_keep {α : Type} {t : Tab α} (p : Nat → α → Bool) (h : t.ok) : (t.keep p).ok := risingFrom_filter _ h
theorem Tab.ok_mapAll {α : Type} {t : Tab α} (f : Nat → α → α) (h : t.ok) : (t.mapAll f).ok :=
  risingFrom_map (fun e => (e.1, f e.1 e.2)) (fun _ => rfl) h
theorem Tab.ok_modify {α : Type} {t : Tab α} (k : Nat) (d : α) (f : α → α) (h : t.ok) : (t.modify k d f).ok := Tab.ok_put k _ h
theorem Tab.ok_update {α : Type} {t : Tab α} (k : Nat) (f : α → α) (h : t.ok) : (t.update k f).ok :=
  risingFrom_map _ (fun e => by split <;> rfl) h

/-! ### Tables: reads after writes -/

@[simp] theorem Tab.get?_nil {α : Type} (k : Nat) : Tab.get? ([] : Tab α) k = none := rfl

theorem Tab.get?_cons {α : Type} (i : Nat) (w : α) (t : Tab α) (k : Nat) :
    Tab.get? ((i, w) :: t) k = if k = i then some w else Tab.get? t k := by
  by_cases h : k = i <;> simp [Tab.get?, List.lookup_cons, h, beq_eq_false_iff_ne.mpr]

/-- A write gives its key the value and leaves every other key alone. -/
theorem Tab.get?_put {α : Type} (t : Tab α) (k j : Nat) (v : α) :
    Tab.get? (Tab.put t k v) j = if j = k then some v else Tab.get? t j := by
  induction t with
  | nil => simp [Tab.put, Tab.get?_cons]
  | cons e t ih =>
    obtain ⟨i, w⟩ := e
    simp only [Tab.put]
    split
    · simp [Tab.get?_cons]
    · split
      · subst_vars; simp only [Tab.get?_cons]; split <;> rfl
      · simp only [Tab.get?_cons, ih]
        split
        · rw [if_neg]; omega
        · rfl

@[simp] theorem Tab.getD_modify_self {α : Type} (t : Tab α) (k : Nat) (d : α) (f : α → α) :
    Tab.getD (Tab.modify t k d f) k d = f (Tab.getD t k d) := by
  simp [Tab.getD, Tab.modify, Tab.get?_put]

theorem Tab.getD_modify_ne {α : Type} (t : Tab α) {k j : Nat} (d : α) (f : α → α) (h : j ≠ k) :
    Tab.getD (Tab.modify t k d f) j d = Tab.getD t j d := by
  simp [Tab.getD, Tab.modify, Tab.get?_put, h]

theorem Tab.get?_update {α : Type} (t : Tab α) (k j : Nat) (f : α → α) :
    Tab.get? (Tab.update t k f) j = if j = k then (Tab.get? t j).map f else Tab.get? t j := by
  induction t with
  | nil => simp [Tab.update]
  | cons e t ih =>
    obtain ⟨i, w⟩ := e
    have ih' : Tab.get? (List.map (fun e : Nat × α => if e.1 = k then (e.1, f e.2) else e) t) j
        = if j = k then (Tab.get? t j).map f else Tab.get? t j := ih
    simp only [Tab.update, List.map]
    by_cases hi : i = k
    · subst hi
      simp only [if_true, Tab.get?_cons, ih']
      split <;> rfl
    · simp only [hi, if_false, Tab.get?_cons, ih']
      by_cases hj : j = i
      · subst hj; simp [hi]
      · simp [hj]

/-! ### Byte memory -/

theorem Memory.read_cons (i : Nat) (w : Byte) (m : Memory) (a : Nat) :
    Memory.read ((i, w) :: m) a = if a = i then w else Memory.read m a := by
  by_cases h : a = i <;> simp [Memory.read, List.lookup_cons, h, beq_eq_false_iff_ne.mpr]

/-- Below its first address a rising memory reads as unlisted. -/
theorem Memory.read_below {m : Memory} {lo a : Nat} (r : risingFrom lo m = true) (h : a < lo) : Memory.read m a = Memory.unlisted := by
  induction m generalizing lo with
  | nil => rfl
  | cons e m ih =>
    obtain ⟨i, w⟩ := e
    simp only [risingFrom, Bool.and_eq_true, decide_eq_true_eq] at r
    rw [Memory.read_cons, if_neg (by omega)]
    exact ih r.2 (by omega)

/-- A write gives its address the byte and leaves every other address alone. -/
theorem Memory.read_write {m : Memory} {lo : Nat} (r : risingFrom lo m = true) (a c : Nat) (b : Byte) :
    Memory.read (Memory.write m a b) c = if c = a then b else Memory.read m c := by
  induction m generalizing lo with
  | nil =>
    by_cases hb : b = Memory.unlisted
    · by_cases hc : c = a <;> simp [Memory.write, hb, Memory.read, hc]
    · simp [Memory.write, hb, Memory.read_cons]
  | cons e m ih =>
    obtain ⟨i, w⟩ := e
    simp only [risingFrom, Bool.and_eq_true, decide_eq_true_eq] at r
    simp only [Memory.write]
    split
    · rename_i hai
      by_cases hb : b = Memory.unlisted
      · rw [if_pos hb]
        split
        · subst_vars
          rw [Memory.read_cons, if_neg (by omega)]
          exact Memory.read_below r.2 (by omega)
        · rfl
      · simp [hb, Memory.read_cons]
    · split
      · rename_i hai
        subst hai
        by_cases hb : b = Memory.unlisted
        · rw [if_pos hb]
          split
          · subst_vars; exact Memory.read_below r.2 (by omega)
          · rename_i hc; rw [Memory.read_cons, if_neg hc]
        · rw [if_neg hb, Memory.read_cons, Memory.read_cons]; split <;> rfl
      · rw [Memory.read_cons, ih r.2, Memory.read_cons]
        split
        · rw [if_neg (by omega)]
        · rfl

theorem Memory.rising_write {m : Memory} {lo : Nat} (r : risingFrom lo m = true) {a : Nat} (ha : lo ≤ a) (b : Byte) :
    risingFrom lo (Memory.write m a b) = true := by
  induction m generalizing lo with
  | nil => simp only [Memory.write]; split <;> simp [risingFrom, ha]
  | cons e m ih =>
    obtain ⟨i, w⟩ := e
    have r' := r
    simp only [risingFrom, Bool.and_eq_true, decide_eq_true_eq] at r
    simp only [Memory.write]
    split
    · split
      · exact r'
      · simp only [risingFrom, Bool.and_eq_true, decide_eq_true_eq]; exact ⟨ha, by omega, r.2⟩
    · split
      · split
        · exact risingFrom_mono (by omega) r.2
        · simp only [risingFrom, Bool.and_eq_true, decide_eq_true_eq]; subst_vars; exact ⟨ha, r.2⟩
      · simp only [risingFrom, Bool.and_eq_true, decide_eq_true_eq]; exact ⟨r.1, ih r.2 (by omega)⟩

theorem Memory.listed_write {m : Memory} (h : m.all (fun c => c.2 != Memory.unlisted) = true) (a : Nat) (b : Byte) :
    (Memory.write m a b).all (fun c => c.2 != Memory.unlisted) = true := by
  induction m with
  | nil => simp only [Memory.write]; split <;> simp_all
  | cons e m ih =>
    obtain ⟨i, w⟩ := e
    have h' := h
    simp only [List.all_cons, Bool.and_eq_true] at h'
    obtain ⟨hw, hm⟩ := h'
    have hb : ¬ b = Memory.unlisted → (b != Memory.unlisted) = true := fun hb => bne_iff_ne.mpr hb
    simp only [Memory.write]
    split
    · split
      · exact h
      · rename_i hne; simp only [List.all_cons, Bool.and_eq_true]; exact ⟨hb hne, hw, hm⟩
    · split
      · split
        · exact hm
        · rename_i hne; simp only [List.all_cons, Bool.and_eq_true]; exact ⟨hb hne, hm⟩
      · simp only [List.all_cons, Bool.and_eq_true]; exact ⟨hw, ih hm⟩

/-- A write keeps the canonical form. -/
theorem Memory.wf_write {m : Memory} (h : m.wf) (a : Nat) (b : Byte) : (Memory.write m a b).wf := by
  simp only [Memory.wf, Bool.and_eq_true] at h ⊢
  exact ⟨Memory.rising_write h.1 (Nat.zero_le a) b, Memory.listed_write h.2 a b⟩

/-- A write of a byte string keeps the canonical form. -/
theorem Memory.wf_writeBytes {m : Memory} (h : m.wf) (a : Nat) (bs : List Byte) : (Memory.writeBytes m a bs).wf := by
  induction bs generalizing m a with
  | nil => exact h
  | cons b bs ih => exact ih (Memory.wf_write h a b) (a + 1)

/-- Clearing keeps the canonical form. -/
theorem Memory.wf_clear {m : Memory} (h : m.wf) (p : Nat → Bool) : (Memory.clear m p).wf := by
  simp only [Memory.wf, Bool.and_eq_true] at h ⊢
  refine ⟨risingFrom_filter _ h.1, ?_⟩
  simp only [Memory.clear, List.all_eq_true, List.mem_filter] at h ⊢
  exact fun x hx => h.2 x hx.1

/-- An address a clear covers reads as cleared memory; every other address reads as before. -/
theorem Memory.read_clear (m : Memory) (p : Nat → Bool) (a : Nat) :
    Memory.read (Memory.clear m p) a = if p a then Memory.unlisted else Memory.read m a := by
  induction m with
  | nil => by_cases h : p a <;> simp [Memory.clear, Memory.read]
  | cons e m ih =>
    obtain ⟨i, w⟩ := e
    by_cases hi : p i = true
    · have : Memory.clear ((i, w) :: m) p = Memory.clear m p := by simp [Memory.clear, hi]
      rw [this, ih, Memory.read_cons]
      split
      · rfl
      · rw [if_neg]; intro h; subst h; contradiction
    · have : Memory.clear ((i, w) :: m) p = (i, w) :: Memory.clear m p := by simp [Memory.clear, hi]
      rw [this, Memory.read_cons, Memory.read_cons, ih]
      split
      · subst_vars; rw [if_neg hi]
      · rfl

@[simp] theorem Memory.wf_nil : Memory.wf [] = true := rfl

end Sys2Proof.Machine
end

