-- ==== Sys2Proof/Laws/Ops.lean ====
section
/-! SUPPORT. The shared operations: what each leaves alone, every other group of the state, one lemma per operation. -/
set_option linter.unusedTactic false
set_option linter.unreachableTactic false

namespace Sys2Proof.Machine

theorem foldl_keeps {α β : Type} (p : State → β) (f : State → α → State) (h : ∀ s a, p (f s a) = p s) (l : List α) (s : State) :
    p (l.foldl f s) = p s := by
  induction l generalizing s with
  | nil => rfl
  | cons a l ih => rw [List.foldl_cons, ih, h]

/-- A fold keeps what each of its steps keeps. -/
theorem forEach_keeps {α β : Type} (p : State → β) (l : List α) (f : α → State → State) (h : ∀ a s, p (f a s) = p s) (s : State) :
    p (forEach l f s) = p s :=
  foldl_keeps p _ (fun s a => h a s) l s

@[simp] theorem drawFree_keeps (n : Nat) (s : State) :
    (drawFree n s).pending = s.pending ∧ (drawFree n s).out = s.out ∧ (drawFree n s).glb = s.glb ∧ (drawFree n s).time = s.time ∧ (drawFree n s).orr = s.orr ∧ (drawFree n s).job = s.job ∧ (drawFree n s).car = s.car ∧ (drawFree n s).hlk = s.hlk ∧ (drawFree n s).evt = s.evt ∧ (drawFree n s).wld = s.wld ∧ (drawFree n s).dov = s.dov ∧ (drawFree n s).key = s.key ∧ (drawFree n s).lcs = s.lcs ∧ (drawFree n s).eng = s.eng ∧ (drawFree n s).rng = s.rng ∧ (drawFree n s).pwr = s.pwr ∧ (drawFree n s).mtr = s.mtr ∧ (drawFree n s).ldg = s.ldg ∧ (drawFree n s).msh = s.msh ∧ (drawFree n s).tam = s.tam ∧ (drawFree n s).bst = s.bst ∧ (drawFree n s).bar0 = s.bar0 ∧ (drawFree n s).dap = s.dap := by
  simp [drawFree]
@[simp] theorem emit_keeps (o : Out) (s : State) :
    (emit o s).pending = s.pending ∧ (emit o s).freeCtr = s.freeCtr ∧ (emit o s).glb = s.glb ∧ (emit o s).time = s.time ∧ (emit o s).orr = s.orr ∧ (emit o s).job = s.job ∧ (emit o s).car = s.car ∧ (emit o s).hlk = s.hlk ∧ (emit o s).evt = s.evt ∧ (emit o s).wld = s.wld ∧ (emit o s).dov = s.dov ∧ (emit o s).key = s.key ∧ (emit o s).lcs = s.lcs ∧ (emit o s).eng = s.eng ∧ (emit o s).rng = s.rng ∧ (emit o s).pwr = s.pwr ∧ (emit o s).mtr = s.mtr ∧ (emit o s).ldg = s.ldg ∧ (emit o s).msh = s.msh ∧ (emit o s).tam = s.tam ∧ (emit o s).bst = s.bst ∧ (emit o s).bar0 = s.bar0 ∧ (emit o s).dap = s.dap := by
  simp [emit]
@[simp] theorem countLost_keeps (code : Nat) (s : State) :
    (countLost code s).pending = s.pending ∧ (countLost code s).freeCtr = s.freeCtr ∧ (countLost code s).out = s.out ∧ (countLost code s).glb = s.glb ∧ (countLost code s).time = s.time ∧ (countLost code s).orr = s.orr ∧ (countLost code s).job = s.job ∧ (countLost code s).car = s.car ∧ (countLost code s).hlk = s.hlk ∧ (countLost code s).wld = s.wld ∧ (countLost code s).dov = s.dov ∧ (countLost code s).key = s.key ∧ (countLost code s).lcs = s.lcs ∧ (countLost code s).eng = s.eng ∧ (countLost code s).rng = s.rng ∧ (countLost code s).pwr = s.pwr ∧ (countLost code s).mtr = s.mtr ∧ (countLost code s).ldg = s.ldg ∧ (countLost code s).msh = s.msh ∧ (countLost code s).tam = s.tam ∧ (countLost code s).bst = s.bst ∧ (countLost code s).bar0 = s.bar0 ∧ (countLost code s).dap = s.dap := by
  simp [countLost]
@[simp] theorem raiseFrom_keeps (src code sev p1 p2 p3 : Nat) (s : State) :
    (raiseFrom src code sev p1 p2 p3 s).pending = s.pending ∧ (raiseFrom src code sev p1 p2 p3 s).freeCtr = s.freeCtr ∧ (raiseFrom src code sev p1 p2 p3 s).out = s.out ∧ (raiseFrom src code sev p1 p2 p3 s).glb = s.glb ∧ (raiseFrom src code sev p1 p2 p3 s).time = s.time ∧ (raiseFrom src code sev p1 p2 p3 s).orr = s.orr ∧ (raiseFrom src code sev p1 p2 p3 s).job = s.job ∧ (raiseFrom src code sev p1 p2 p3 s).car = s.car ∧ (raiseFrom src code sev p1 p2 p3 s).hlk = s.hlk ∧ (raiseFrom src code sev p1 p2 p3 s).wld = s.wld ∧ (raiseFrom src code sev p1 p2 p3 s).dov = s.dov ∧ (raiseFrom src code sev p1 p2 p3 s).key = s.key ∧ (raiseFrom src code sev p1 p2 p3 s).lcs = s.lcs ∧ (raiseFrom src code sev p1 p2 p3 s).eng = s.eng ∧ (raiseFrom src code sev p1 p2 p3 s).rng = s.rng ∧ (raiseFrom src code sev p1 p2 p3 s).pwr = s.pwr ∧ (raiseFrom src code sev p1 p2 p3 s).mtr = s.mtr ∧ (raiseFrom src code sev p1 p2 p3 s).ldg = s.ldg ∧ (raiseFrom src code sev p1 p2 p3 s).msh = s.msh ∧ (raiseFrom src code sev p1 p2 p3 s).tam = s.tam ∧ (raiseFrom src code sev p1 p2 p3 s).bst = s.bst ∧ (raiseFrom src code sev p1 p2 p3 s).bar0 = s.bar0 ∧ (raiseFrom src code sev p1 p2 p3 s).dap = s.dap := by
  rw [raiseFrom]; repeat' split
  all_goals simp
@[simp] theorem raiseEv_keeps (code sev p1 p2 p3 : Nat) (s : State) :
    (raiseEv code sev p1 p2 p3 s).pending = s.pending ∧ (raiseEv code sev p1 p2 p3 s).freeCtr = s.freeCtr ∧ (raiseEv code sev p1 p2 p3 s).out = s.out ∧ (raiseEv code sev p1 p2 p3 s).glb = s.glb ∧ (raiseEv code sev p1 p2 p3 s).time = s.time ∧ (raiseEv code sev p1 p2 p3 s).orr = s.orr ∧ (raiseEv code sev p1 p2 p3 s).job = s.job ∧ (raiseEv code sev p1 p2 p3 s).car = s.car ∧ (raiseEv code sev p1 p2 p3 s).hlk = s.hlk ∧ (raiseEv code sev p1 p2 p3 s).wld = s.wld ∧ (raiseEv code sev p1 p2 p3 s).dov = s.dov ∧ (raiseEv code sev p1 p2 p3 s).key = s.key ∧ (raiseEv code sev p1 p2 p3 s).lcs = s.lcs ∧ (raiseEv code sev p1 p2 p3 s).eng = s.eng ∧ (raiseEv code sev p1 p2 p3 s).rng = s.rng ∧ (raiseEv code sev p1 p2 p3 s).pwr = s.pwr ∧ (raiseEv code sev p1 p2 p3 s).mtr = s.mtr ∧ (raiseEv code sev p1 p2 p3 s).ldg = s.ldg ∧ (raiseEv code sev p1 p2 p3 s).msh = s.msh ∧ (raiseEv code sev p1 p2 p3 s).tam = s.tam ∧ (raiseEv code sev p1 p2 p3 s).bst = s.bst ∧ (raiseEv code sev p1 p2 p3 s).bar0 = s.bar0 ∧ (raiseEv code sev p1 p2 p3 s).dap = s.dap := by
  simp [raiseEv]
@[simp] theorem setFn_keeps (f : Nat) (x : Fn) (s : State) :
    (setFn f x s).pending = s.pending ∧ (setFn f x s).freeCtr = s.freeCtr ∧ (setFn f x s).out = s.out ∧ (setFn f x s).glb = s.glb ∧ (setFn f x s).time = s.time ∧ (setFn f x s).orr = s.orr ∧ (setFn f x s).job = s.job ∧ (setFn f x s).car = s.car ∧ (setFn f x s).evt = s.evt ∧ (setFn f x s).wld = s.wld ∧ (setFn f x s).dov = s.dov ∧ (setFn f x s).key = s.key ∧ (setFn f x s).lcs = s.lcs ∧ (setFn f x s).eng = s.eng ∧ (setFn f x s).rng = s.rng ∧ (setFn f x s).pwr = s.pwr ∧ (setFn f x s).mtr = s.mtr ∧ (setFn f x s).ldg = s.ldg ∧ (setFn f x s).msh = s.msh ∧ (setFn f x s).tam = s.tam ∧ (setFn f x s).bst = s.bst ∧ (setFn f x s).bar0 = s.bar0 ∧ (setFn f x s).dap = s.dap := by
  simp [setFn]
@[simp] theorem modFn_keeps (f : Nat) (g : Fn → Fn) (s : State) :
    (modFn f g s).pending = s.pending ∧ (modFn f g s).freeCtr = s.freeCtr ∧ (modFn f g s).out = s.out ∧ (modFn f g s).glb = s.glb ∧ (modFn f g s).time = s.time ∧ (modFn f g s).orr = s.orr ∧ (modFn f g s).job = s.job ∧ (modFn f g s).car = s.car ∧ (modFn f g s).evt = s.evt ∧ (modFn f g s).wld = s.wld ∧ (modFn f g s).dov = s.dov ∧ (modFn f g s).key = s.key ∧ (modFn f g s).lcs = s.lcs ∧ (modFn f g s).eng = s.eng ∧ (modFn f g s).rng = s.rng ∧ (modFn f g s).pwr = s.pwr ∧ (modFn f g s).mtr = s.mtr ∧ (modFn f g s).ldg = s.ldg ∧ (modFn f g s).msh = s.msh ∧ (modFn f g s).tam = s.tam ∧ (modFn f g s).bst = s.bst ∧ (modFn f g s).bar0 = s.bar0 ∧ (modFn f g s).dap = s.dap := by
  simp [modFn]
@[simp] theorem modSq_keeps (f n : Nat) (g : Sq → Sq) (s : State) :
    (modSq f n g s).pending = s.pending ∧ (modSq f n g s).freeCtr = s.freeCtr ∧ (modSq f n g s).out = s.out ∧ (modSq f n g s).glb = s.glb ∧ (modSq f n g s).time = s.time ∧ (modSq f n g s).orr = s.orr ∧ (modSq f n g s).job = s.job ∧ (modSq f n g s).car = s.car ∧ (modSq f n g s).evt = s.evt ∧ (modSq f n g s).wld = s.wld ∧ (modSq f n g s).dov = s.dov ∧ (modSq f n g s).key = s.key ∧ (modSq f n g s).lcs = s.lcs ∧ (modSq f n g s).eng = s.eng ∧ (modSq f n g s).rng = s.rng ∧ (modSq f n g s).pwr = s.pwr ∧ (modSq f n g s).mtr = s.mtr ∧ (modSq f n g s).ldg = s.ldg ∧ (modSq f n g s).msh = s.msh ∧ (modSq f n g s).tam = s.tam ∧ (modSq f n g s).bst = s.bst ∧ (modSq f n g s).bar0 = s.bar0 ∧ (modSq f n g s).dap = s.dap := by
  simp [modSq]
@[simp] theorem modCq_keeps (f n : Nat) (g : Cq → Cq) (s : State) :
    (modCq f n g s).pending = s.pending ∧ (modCq f n g s).freeCtr = s.freeCtr ∧ (modCq f n g s).out = s.out ∧ (modCq f n g s).glb = s.glb ∧ (modCq f n g s).time = s.time ∧ (modCq f n g s).orr = s.orr ∧ (modCq f n g s).job = s.job ∧ (modCq f n g s).car = s.car ∧ (modCq f n g s).evt = s.evt ∧ (modCq f n g s).wld = s.wld ∧ (modCq f n g s).dov = s.dov ∧ (modCq f n g s).key = s.key ∧ (modCq f n g s).lcs = s.lcs ∧ (modCq f n g s).eng = s.eng ∧ (modCq f n g s).rng = s.rng ∧ (modCq f n g s).pwr = s.pwr ∧ (modCq f n g s).mtr = s.mtr ∧ (modCq f n g s).ldg = s.ldg ∧ (modCq f n g s).msh = s.msh ∧ (modCq f n g s).tam = s.tam ∧ (modCq f n g s).bst = s.bst ∧ (modCq f n g s).bar0 = s.bar0 ∧ (modCq f n g s).dap = s.dap := by
  simp [modCq]
@[simp] theorem signal_keeps (f v : Nat) (s : State) :
    (signal f v s).pending = s.pending ∧ (signal f v s).freeCtr = s.freeCtr ∧ (signal f v s).glb = s.glb ∧ (signal f v s).time = s.time ∧ (signal f v s).orr = s.orr ∧ (signal f v s).job = s.job ∧ (signal f v s).car = s.car ∧ (signal f v s).evt = s.evt ∧ (signal f v s).wld = s.wld ∧ (signal f v s).dov = s.dov ∧ (signal f v s).key = s.key ∧ (signal f v s).lcs = s.lcs ∧ (signal f v s).eng = s.eng ∧ (signal f v s).rng = s.rng ∧ (signal f v s).pwr = s.pwr ∧ (signal f v s).mtr = s.mtr ∧ (signal f v s).ldg = s.ldg ∧ (signal f v s).msh = s.msh ∧ (signal f v s).tam = s.tam ∧ (signal f v s).bst = s.bst ∧ (signal f v s).bar0 = s.bar0 ∧ (signal f v s).dap = s.dap := by
  rw [signal]; repeat' split
  all_goals simp
@[simp] theorem setAttn_keeps (b f : Nat) (s : State) :
    (setAttn b f s).pending = s.pending ∧ (setAttn b f s).freeCtr = s.freeCtr ∧ (setAttn b f s).glb = s.glb ∧ (setAttn b f s).time = s.time ∧ (setAttn b f s).orr = s.orr ∧ (setAttn b f s).job = s.job ∧ (setAttn b f s).car = s.car ∧ (setAttn b f s).evt = s.evt ∧ (setAttn b f s).wld = s.wld ∧ (setAttn b f s).dov = s.dov ∧ (setAttn b f s).key = s.key ∧ (setAttn b f s).lcs = s.lcs ∧ (setAttn b f s).eng = s.eng ∧ (setAttn b f s).rng = s.rng ∧ (setAttn b f s).pwr = s.pwr ∧ (setAttn b f s).mtr = s.mtr ∧ (setAttn b f s).ldg = s.ldg ∧ (setAttn b f s).msh = s.msh ∧ (setAttn b f s).tam = s.tam ∧ (setAttn b f s).bst = s.bst ∧ (setAttn b f s).bar0 = s.bar0 ∧ (setAttn b f s).dap = s.dap := by
  rw [setAttn]; repeat' split
  all_goals first | (simp; done) | (dsimp only; split <;> simp)
@[simp] theorem attnAll_keeps (b : Nat) (s : State) :
    (attnAll b s).pending = s.pending ∧ (attnAll b s).freeCtr = s.freeCtr ∧ (attnAll b s).glb = s.glb ∧ (attnAll b s).time = s.time ∧ (attnAll b s).orr = s.orr ∧ (attnAll b s).job = s.job ∧ (attnAll b s).car = s.car ∧ (attnAll b s).evt = s.evt ∧ (attnAll b s).wld = s.wld ∧ (attnAll b s).dov = s.dov ∧ (attnAll b s).key = s.key ∧ (attnAll b s).lcs = s.lcs ∧ (attnAll b s).eng = s.eng ∧ (attnAll b s).rng = s.rng ∧ (attnAll b s).pwr = s.pwr ∧ (attnAll b s).mtr = s.mtr ∧ (attnAll b s).ldg = s.ldg ∧ (attnAll b s).msh = s.msh ∧ (attnAll b s).tam = s.tam ∧ (attnAll b s).bst = s.bst ∧ (attnAll b s).bar0 = s.bar0 ∧ (attnAll b s).dap = s.dap := by
  refine ⟨?_, ?_, ?_, ?_, ?_, ?_, ?_, ?_, ?_, ?_, ?_, ?_, ?_, ?_, ?_, ?_, ?_, ?_, ?_, ?_, ?_, ?_⟩ <;>
    exact forEach_keeps _ _ _ (fun _ _ => by simp) _
@[simp] theorem holdNotice_keeps (f : Nat) (n : Notice) (s : State) :
    (holdNotice f n s).pending = s.pending ∧ (holdNotice f n s).freeCtr = s.freeCtr ∧ (holdNotice f n s).glb = s.glb ∧ (holdNotice f n s).time = s.time ∧ (holdNotice f n s).orr = s.orr ∧ (holdNotice f n s).job = s.job ∧ (holdNotice f n s).car = s.car ∧ (holdNotice f n s).evt = s.evt ∧ (holdNotice f n s).wld = s.wld ∧ (holdNotice f n s).dov = s.dov ∧ (holdNotice f n s).key = s.key ∧ (holdNotice f n s).lcs = s.lcs ∧ (holdNotice f n s).eng = s.eng ∧ (holdNotice f n s).rng = s.rng ∧ (holdNotice f n s).pwr = s.pwr ∧ (holdNotice f n s).mtr = s.mtr ∧ (holdNotice f n s).ldg = s.ldg ∧ (holdNotice f n s).msh = s.msh ∧ (holdNotice f n s).tam = s.tam ∧ (holdNotice f n s).bst = s.bst ∧ (holdNotice f n s).bar0 = s.bar0 ∧ (holdNotice f n s).dap = s.dap := by
  rw [holdNotice]; repeat' split
  all_goals simp
@[simp] theorem notify_keeps (type subject p0 p1 p2 p3 : Nat) (f : Nat) (s : State) :
    (notify type subject p0 p1 p2 p3 f s).pending = s.pending ∧ (notify type subject p0 p1 p2 p3 f s).freeCtr = s.freeCtr ∧ (notify type subject p0 p1 p2 p3 f s).glb = s.glb ∧ (notify type subject p0 p1 p2 p3 f s).time = s.time ∧ (notify type subject p0 p1 p2 p3 f s).orr = s.orr ∧ (notify type subject p0 p1 p2 p3 f s).job = s.job ∧ (notify type subject p0 p1 p2 p3 f s).car = s.car ∧ (notify type subject p0 p1 p2 p3 f s).evt = s.evt ∧ (notify type subject p0 p1 p2 p3 f s).wld = s.wld ∧ (notify type subject p0 p1 p2 p3 f s).dov = s.dov ∧ (notify type subject p0 p1 p2 p3 f s).key = s.key ∧ (notify type subject p0 p1 p2 p3 f s).lcs = s.lcs ∧ (notify type subject p0 p1 p2 p3 f s).eng = s.eng ∧ (notify type subject p0 p1 p2 p3 f s).rng = s.rng ∧ (notify type subject p0 p1 p2 p3 f s).pwr = s.pwr ∧ (notify type subject p0 p1 p2 p3 f s).mtr = s.mtr ∧ (notify type subject p0 p1 p2 p3 f s).ldg = s.ldg ∧ (notify type subject p0 p1 p2 p3 f s).msh = s.msh ∧ (notify type subject p0 p1 p2 p3 f s).tam = s.tam ∧ (notify type subject p0 p1 p2 p3 f s).bst = s.bst ∧ (notify type subject p0 p1 p2 p3 f s).bar0 = s.bar0 ∧ (notify type subject p0 p1 p2 p3 f s).dap = s.dap := by
  simp [notify]
@[simp] theorem notifyCab_keeps (type subject p0 p1 p2 p3 : Nat) (c : Nat) (s : State) :
    (notifyCab type subject p0 p1 p2 p3 c s).pending = s.pending ∧ (notifyCab type subject p0 p1 p2 p3 c s).freeCtr = s.freeCtr ∧ (notifyCab type subject p0 p1 p2 p3 c s).glb = s.glb ∧ (notifyCab type subject p0 p1 p2 p3 c s).time = s.time ∧ (notifyCab type subject p0 p1 p2 p3 c s).orr = s.orr ∧ (notifyCab type subject p0 p1 p2 p3 c s).job = s.job ∧ (notifyCab type subject p0 p1 p2 p3 c s).car = s.car ∧ (notifyCab type subject p0 p1 p2 p3 c s).evt = s.evt ∧ (notifyCab type subject p0 p1 p2 p3 c s).wld = s.wld ∧ (notifyCab type subject p0 p1 p2 p3 c s).dov = s.dov ∧ (notifyCab type subject p0 p1 p2 p3 c s).key = s.key ∧ (notifyCab type subject p0 p1 p2 p3 c s).lcs = s.lcs ∧ (notifyCab type subject p0 p1 p2 p3 c s).eng = s.eng ∧ (notifyCab type subject p0 p1 p2 p3 c s).rng = s.rng ∧ (notifyCab type subject p0 p1 p2 p3 c s).pwr = s.pwr ∧ (notifyCab type subject p0 p1 p2 p3 c s).mtr = s.mtr ∧ (notifyCab type subject p0 p1 p2 p3 c s).ldg = s.ldg ∧ (notifyCab type subject p0 p1 p2 p3 c s).msh = s.msh ∧ (notifyCab type subject p0 p1 p2 p3 c s).tam = s.tam ∧ (notifyCab type subject p0 p1 p2 p3 c s).bst = s.bst ∧ (notifyCab type subject p0 p1 p2 p3 c s).bar0 = s.bar0 ∧ (notifyCab type subject p0 p1 p2 p3 c s).dap = s.dap := by
  refine ⟨?_, ?_, ?_, ?_, ?_, ?_, ?_, ?_, ?_, ?_, ?_, ?_, ?_, ?_, ?_, ?_, ?_, ?_, ?_, ?_, ?_, ?_⟩ <;>
    exact forEach_keeps _ _ _ (fun _ _ => by simp) _
@[simp] theorem notifyZeroAndCab_keeps (type subject p0 p1 p2 p3 : Nat) (c : Nat) (s : State) :
    (notifyZeroAndCab type subject p0 p1 p2 p3 c s).pending = s.pending ∧ (notifyZeroAndCab type subject p0 p1 p2 p3 c s).freeCtr = s.freeCtr ∧ (notifyZeroAndCab type subject p0 p1 p2 p3 c s).glb = s.glb ∧ (notifyZeroAndCab type subject p0 p1 p2 p3 c s).time = s.time ∧ (notifyZeroAndCab type subject p0 p1 p2 p3 c s).orr = s.orr ∧ (notifyZeroAndCab type subject p0 p1 p2 p3 c s).job = s.job ∧ (notifyZeroAndCab type subject p0 p1 p2 p3 c s).car = s.car ∧ (notifyZeroAndCab type subject p0 p1 p2 p3 c s).evt = s.evt ∧ (notifyZeroAndCab type subject p0 p1 p2 p3 c s).wld = s.wld ∧ (notifyZeroAndCab type subject p0 p1 p2 p3 c s).dov = s.dov ∧ (notifyZeroAndCab type subject p0 p1 p2 p3 c s).key = s.key ∧ (notifyZeroAndCab type subject p0 p1 p2 p3 c s).lcs = s.lcs ∧ (notifyZeroAndCab type subject p0 p1 p2 p3 c s).eng = s.eng ∧ (notifyZeroAndCab type subject p0 p1 p2 p3 c s).rng = s.rng ∧ (notifyZeroAndCab type subject p0 p1 p2 p3 c s).pwr = s.pwr ∧ (notifyZeroAndCab type subject p0 p1 p2 p3 c s).mtr = s.mtr ∧ (notifyZeroAndCab type subject p0 p1 p2 p3 c s).ldg = s.ldg ∧ (notifyZeroAndCab type subject p0 p1 p2 p3 c s).msh = s.msh ∧ (notifyZeroAndCab type subject p0 p1 p2 p3 c s).tam = s.tam ∧ (notifyZeroAndCab type subject p0 p1 p2 p3 c s).bst = s.bst ∧ (notifyZeroAndCab type subject p0 p1 p2 p3 c s).bar0 = s.bar0 ∧ (notifyZeroAndCab type subject p0 p1 p2 p3 c s).dap = s.dap := by
  rw [notifyZeroAndCab]; refine ⟨?_, ?_, ?_, ?_, ?_, ?_, ?_, ?_, ?_, ?_, ?_, ?_, ?_, ?_, ?_, ?_, ?_, ?_, ?_, ?_, ?_, ?_⟩ <;>
    simp [forEach_keeps]
@[simp] theorem entryWritten_keeps (f n : Nat) (s : State) :
    (entryWritten f n s).pending = s.pending ∧ (entryWritten f n s).freeCtr = s.freeCtr ∧ (entryWritten f n s).glb = s.glb ∧ (entryWritten f n s).time = s.time ∧ (entryWritten f n s).orr = s.orr ∧ (entryWritten f n s).job = s.job ∧ (entryWritten f n s).car = s.car ∧ (entryWritten f n s).evt = s.evt ∧ (entryWritten f n s).wld = s.wld ∧ (entryWritten f n s).dov = s.dov ∧ (entryWritten f n s).key = s.key ∧ (entryWritten f n s).lcs = s.lcs ∧ (entryWritten f n s).eng = s.eng ∧ (entryWritten f n s).rng = s.rng ∧ (entryWritten f n s).pwr = s.pwr ∧ (entryWritten f n s).mtr = s.mtr ∧ (entryWritten f n s).ldg = s.ldg ∧ (entryWritten f n s).msh = s.msh ∧ (entryWritten f n s).tam = s.tam ∧ (entryWritten f n s).bst = s.bst ∧ (entryWritten f n s).bar0 = s.bar0 ∧ (entryWritten f n s).dap = s.dap := by
  rw [entryWritten]; repeat' split
  all_goals simp
@[simp] theorem writeEntry_keeps (f n : Nat) (e : Bool → Completion) (s : State) :
    (writeEntry f n e s).pending = s.pending ∧ (writeEntry f n e s).freeCtr = s.freeCtr ∧ (writeEntry f n e s).glb = s.glb ∧ (writeEntry f n e s).time = s.time ∧ (writeEntry f n e s).orr = s.orr ∧ (writeEntry f n e s).job = s.job ∧ (writeEntry f n e s).car = s.car ∧ (writeEntry f n e s).evt = s.evt ∧ (writeEntry f n e s).wld = s.wld ∧ (writeEntry f n e s).dov = s.dov ∧ (writeEntry f n e s).key = s.key ∧ (writeEntry f n e s).lcs = s.lcs ∧ (writeEntry f n e s).eng = s.eng ∧ (writeEntry f n e s).rng = s.rng ∧ (writeEntry f n e s).pwr = s.pwr ∧ (writeEntry f n e s).mtr = s.mtr ∧ (writeEntry f n e s).ldg = s.ldg ∧ (writeEntry f n e s).msh = s.msh ∧ (writeEntry f n e s).tam = s.tam ∧ (writeEntry f n e s).bst = s.bst ∧ (writeEntry f n e s).bar0 = s.bar0 ∧ (writeEntry f n e s).dap = s.dap := by
  rw [writeEntry]; repeat' split
  all_goals simp
@[simp] theorem modTile_keeps (t : Nat) (g : Tile → Tile) (s : State) :
    (modTile t g s).pending = s.pending ∧ (modTile t g s).freeCtr = s.freeCtr ∧ (modTile t g s).out = s.out ∧ (modTile t g s).glb = s.glb ∧ (modTile t g s).time = s.time ∧ (modTile t g s).job = s.job ∧ (modTile t g s).car = s.car ∧ (modTile t g s).hlk = s.hlk ∧ (modTile t g s).evt = s.evt ∧ (modTile t g s).wld = s.wld ∧ (modTile t g s).dov = s.dov ∧ (modTile t g s).key = s.key ∧ (modTile t g s).lcs = s.lcs ∧ (modTile t g s).eng = s.eng ∧ (modTile t g s).rng = s.rng ∧ (modTile t g s).pwr = s.pwr ∧ (modTile t g s).mtr = s.mtr ∧ (modTile t g s).ldg = s.ldg ∧ (modTile t g s).msh = s.msh ∧ (modTile t g s).tam = s.tam ∧ (modTile t g s).bst = s.bst ∧ (modTile t g s).bar0 = s.bar0 ∧ (modTile t g s).dap = s.dap := by
  simp [modTile]
@[simp] theorem modJob_keeps (j : Nat) (g : Job → Job) (s : State) :
    (modJob j g s).pending = s.pending ∧ (modJob j g s).freeCtr = s.freeCtr ∧ (modJob j g s).out = s.out ∧ (modJob j g s).glb = s.glb ∧ (modJob j g s).time = s.time ∧ (modJob j g s).orr = s.orr ∧ (modJob j g s).car = s.car ∧ (modJob j g s).hlk = s.hlk ∧ (modJob j g s).evt = s.evt ∧ (modJob j g s).wld = s.wld ∧ (modJob j g s).dov = s.dov ∧ (modJob j g s).key = s.key ∧ (modJob j g s).lcs = s.lcs ∧ (modJob j g s).eng = s.eng ∧ (modJob j g s).rng = s.rng ∧ (modJob j g s).pwr = s.pwr ∧ (modJob j g s).mtr = s.mtr ∧ (modJob j g s).ldg = s.ldg ∧ (modJob j g s).msh = s.msh ∧ (modJob j g s).tam = s.tam ∧ (modJob j g s).bst = s.bst ∧ (modJob j g s).bar0 = s.bar0 ∧ (modJob j g s).dap = s.dap := by
  simp [modJob]
@[simp] theorem setCharge_keeps (a : Account) (bulk : Bool) (v : Nat) (s : State) :
    (setCharge a bulk v s).pending = s.pending ∧ (setCharge a bulk v s).freeCtr = s.freeCtr ∧ (setCharge a bulk v s).out = s.out ∧ (setCharge a bulk v s).glb = s.glb ∧ (setCharge a bulk v s).time = s.time ∧ (setCharge a bulk v s).job = s.job ∧ (setCharge a bulk v s).car = s.car ∧ (setCharge a bulk v s).hlk = s.hlk ∧ (setCharge a bulk v s).evt = s.evt ∧ (setCharge a bulk v s).wld = s.wld ∧ (setCharge a bulk v s).dov = s.dov ∧ (setCharge a bulk v s).key = s.key ∧ (setCharge a bulk v s).lcs = s.lcs ∧ (setCharge a bulk v s).eng = s.eng ∧ (setCharge a bulk v s).rng = s.rng ∧ (setCharge a bulk v s).pwr = s.pwr ∧ (setCharge a bulk v s).mtr = s.mtr ∧ (setCharge a bulk v s).ldg = s.ldg ∧ (setCharge a bulk v s).msh = s.msh ∧ (setCharge a bulk v s).tam = s.tam ∧ (setCharge a bulk v s).bst = s.bst ∧ (setCharge a bulk v s).bar0 = s.bar0 ∧ (setCharge a bulk v s).dap = s.dap := by
  simp [setCharge]
@[simp] theorem dropHolds_keeps (j : Nat) (s : State) :
    (dropHolds j s).pending = s.pending ∧ (dropHolds j s).freeCtr = s.freeCtr ∧ (dropHolds j s).out = s.out ∧ (dropHolds j s).glb = s.glb ∧ (dropHolds j s).orr = s.orr ∧ (dropHolds j s).job = s.job ∧ (dropHolds j s).hlk = s.hlk ∧ (dropHolds j s).evt = s.evt ∧ (dropHolds j s).wld = s.wld ∧ (dropHolds j s).key = s.key ∧ (dropHolds j s).lcs = s.lcs ∧ (dropHolds j s).eng = s.eng ∧ (dropHolds j s).rng = s.rng ∧ (dropHolds j s).pwr = s.pwr ∧ (dropHolds j s).mtr = s.mtr ∧ (dropHolds j s).ldg = s.ldg ∧ (dropHolds j s).msh = s.msh ∧ (dropHolds j s).tam = s.tam ∧ (dropHolds j s).bst = s.bst ∧ (dropHolds j s).bar0 = s.bar0 ∧ (dropHolds j s).dap = s.dap := by
  simp [dropHolds]
@[simp] theorem markFinished_keeps (j : Nat) (s : State) :
    (markFinished j s).pending = s.pending ∧ (markFinished j s).freeCtr = s.freeCtr ∧ (markFinished j s).out = s.out ∧ (markFinished j s).glb = s.glb ∧ (markFinished j s).orr = s.orr ∧ (markFinished j s).hlk = s.hlk ∧ (markFinished j s).evt = s.evt ∧ (markFinished j s).wld = s.wld ∧ (markFinished j s).key = s.key ∧ (markFinished j s).lcs = s.lcs ∧ (markFinished j s).eng = s.eng ∧ (markFinished j s).rng = s.rng ∧ (markFinished j s).pwr = s.pwr ∧ (markFinished j s).mtr = s.mtr ∧ (markFinished j s).ldg = s.ldg ∧ (markFinished j s).msh = s.msh ∧ (markFinished j s).tam = s.tam ∧ (markFinished j s).bst = s.bst ∧ (markFinished j s).bar0 = s.bar0 ∧ (markFinished j s).dap = s.dap := by
  simp [markFinished]
@[simp] theorem giveBack_keeps (f n k : Nat) (s : State) :
    (giveBack f n k s).pending = s.pending ∧ (giveBack f n k s).freeCtr = s.freeCtr ∧ (giveBack f n k s).out = s.out ∧ (giveBack f n k s).glb = s.glb ∧ (giveBack f n k s).time = s.time ∧ (giveBack f n k s).orr = s.orr ∧ (giveBack f n k s).job = s.job ∧ (giveBack f n k s).car = s.car ∧ (giveBack f n k s).evt = s.evt ∧ (giveBack f n k s).wld = s.wld ∧ (giveBack f n k s).dov = s.dov ∧ (giveBack f n k s).key = s.key ∧ (giveBack f n k s).lcs = s.lcs ∧ (giveBack f n k s).eng = s.eng ∧ (giveBack f n k s).rng = s.rng ∧ (giveBack f n k s).pwr = s.pwr ∧ (giveBack f n k s).mtr = s.mtr ∧ (giveBack f n k s).ldg = s.ldg ∧ (giveBack f n k s).msh = s.msh ∧ (giveBack f n k s).tam = s.tam ∧ (giveBack f n k s).bst = s.bst ∧ (giveBack f n k s).bar0 = s.bar0 ∧ (giveBack f n k s).dap = s.dap := by
  rw [giveBack]; repeat' split
  all_goals simp
@[simp] theorem releaseReserve_keeps (j : Nat) (s : State) :
    (releaseReserve j s).pending = s.pending ∧ (releaseReserve j s).freeCtr = s.freeCtr ∧ (releaseReserve j s).out = s.out ∧ (releaseReserve j s).glb = s.glb ∧ (releaseReserve j s).time = s.time ∧ (releaseReserve j s).orr = s.orr ∧ (releaseReserve j s).car = s.car ∧ (releaseReserve j s).evt = s.evt ∧ (releaseReserve j s).wld = s.wld ∧ (releaseReserve j s).dov = s.dov ∧ (releaseReserve j s).key = s.key ∧ (releaseReserve j s).lcs = s.lcs ∧ (releaseReserve j s).eng = s.eng ∧ (releaseReserve j s).rng = s.rng ∧ (releaseReserve j s).pwr = s.pwr ∧ (releaseReserve j s).mtr = s.mtr ∧ (releaseReserve j s).ldg = s.ldg ∧ (releaseReserve j s).msh = s.msh ∧ (releaseReserve j s).tam = s.tam ∧ (releaseReserve j s).bst = s.bst ∧ (releaseReserve j s).bar0 = s.bar0 ∧ (releaseReserve j s).dap = s.dap := by
  rw [releaseReserve]; repeat' split
  all_goals simp
@[simp] theorem jobEntry_keeps (j : Nat) (x : Job) (e : Bool → Completion) (s : State) :
    (jobEntry j x e s).pending = s.pending ∧ (jobEntry j x e s).freeCtr = s.freeCtr ∧ (jobEntry j x e s).glb = s.glb ∧ (jobEntry j x e s).time = s.time ∧ (jobEntry j x e s).orr = s.orr ∧ (jobEntry j x e s).car = s.car ∧ (jobEntry j x e s).evt = s.evt ∧ (jobEntry j x e s).wld = s.wld ∧ (jobEntry j x e s).dov = s.dov ∧ (jobEntry j x e s).key = s.key ∧ (jobEntry j x e s).lcs = s.lcs ∧ (jobEntry j x e s).eng = s.eng ∧ (jobEntry j x e s).rng = s.rng ∧ (jobEntry j x e s).pwr = s.pwr ∧ (jobEntry j x e s).mtr = s.mtr ∧ (jobEntry j x e s).ldg = s.ldg ∧ (jobEntry j x e s).msh = s.msh ∧ (jobEntry j x e s).tam = s.tam ∧ (jobEntry j x e s).bst = s.bst ∧ (jobEntry j x e s).bar0 = s.bar0 ∧ (jobEntry j x e s).dap = s.dap := by
  rw [jobEntry]; repeat' split
  all_goals simp
@[simp] theorem endJob_keeps (j status w0 w1 w2 : Nat) (s : State) :
    (endJob j status w0 w1 w2 s).pending = s.pending ∧ (endJob j status w0 w1 w2 s).freeCtr = s.freeCtr ∧ (endJob j status w0 w1 w2 s).glb = s.glb ∧ (endJob j status w0 w1 w2 s).orr = s.orr ∧ (endJob j status w0 w1 w2 s).evt = s.evt ∧ (endJob j status w0 w1 w2 s).wld = s.wld ∧ (endJob j status w0 w1 w2 s).key = s.key ∧ (endJob j status w0 w1 w2 s).lcs = s.lcs ∧ (endJob j status w0 w1 w2 s).eng = s.eng ∧ (endJob j status w0 w1 w2 s).rng = s.rng ∧ (endJob j status w0 w1 w2 s).pwr = s.pwr ∧ (endJob j status w0 w1 w2 s).mtr = s.mtr ∧ (endJob j status w0 w1 w2 s).ldg = s.ldg ∧ (endJob j status w0 w1 w2 s).msh = s.msh ∧ (endJob j status w0 w1 w2 s).tam = s.tam ∧ (endJob j status w0 w1 w2 s).bst = s.bst ∧ (endJob j status w0 w1 w2 s).bar0 = s.bar0 ∧ (endJob j status w0 w1 w2 s).dap = s.dap := by
  rw [endJob]; repeat' split
  all_goals simp
@[simp] theorem dropJob_keeps (j : Nat) (s : State) :
    (dropJob j s).pending = s.pending ∧ (dropJob j s).freeCtr = s.freeCtr ∧ (dropJob j s).out = s.out ∧ (dropJob j s).glb = s.glb ∧ (dropJob j s).orr = s.orr ∧ (dropJob j s).hlk = s.hlk ∧ (dropJob j s).evt = s.evt ∧ (dropJob j s).wld = s.wld ∧ (dropJob j s).key = s.key ∧ (dropJob j s).lcs = s.lcs ∧ (dropJob j s).eng = s.eng ∧ (dropJob j s).rng = s.rng ∧ (dropJob j s).pwr = s.pwr ∧ (dropJob j s).mtr = s.mtr ∧ (dropJob j s).ldg = s.ldg ∧ (dropJob j s).msh = s.msh ∧ (dropJob j s).tam = s.tam ∧ (dropJob j s).bst = s.bst ∧ (dropJob j s).bar0 = s.bar0 ∧ (dropJob j s).dap = s.dap := by
  simp [dropJob]
@[simp] theorem ringFaultEvent_keeps (f ring error : Nat) (s : State) :
    (ringFaultEvent f ring error s).pending = s.pending ∧ (ringFaultEvent f ring error s).freeCtr = s.freeCtr ∧ (ringFaultEvent f ring error s).glb = s.glb ∧ (ringFaultEvent f ring error s).time = s.time ∧ (ringFaultEvent f ring error s).orr = s.orr ∧ (ringFaultEvent f ring error s).job = s.job ∧ (ringFaultEvent f ring error s).car = s.car ∧ (ringFaultEvent f ring error s).wld = s.wld ∧ (ringFaultEvent f ring error s).dov = s.dov ∧ (ringFaultEvent f ring error s).key = s.key ∧ (ringFaultEvent f ring error s).lcs = s.lcs ∧ (ringFaultEvent f ring error s).eng = s.eng ∧ (ringFaultEvent f ring error s).rng = s.rng ∧ (ringFaultEvent f ring error s).pwr = s.pwr ∧ (ringFaultEvent f ring error s).mtr = s.mtr ∧ (ringFaultEvent f ring error s).ldg = s.ldg ∧ (ringFaultEvent f ring error s).msh = s.msh ∧ (ringFaultEvent f ring error s).tam = s.tam ∧ (ringFaultEvent f ring error s).bst = s.bst ∧ (ringFaultEvent f ring error s).bar0 = s.bar0 ∧ (ringFaultEvent f ring error s).dap = s.dap := by
  simp [ringFaultEvent]
@[simp] theorem dropSqJobs_keeps (f n : Nat) (s : State) :
    (dropSqJobs f n s).pending = s.pending ∧ (dropSqJobs f n s).freeCtr = s.freeCtr ∧ (dropSqJobs f n s).out = s.out ∧ (dropSqJobs f n s).glb = s.glb ∧ (dropSqJobs f n s).orr = s.orr ∧ (dropSqJobs f n s).hlk = s.hlk ∧ (dropSqJobs f n s).evt = s.evt ∧ (dropSqJobs f n s).wld = s.wld ∧ (dropSqJobs f n s).key = s.key ∧ (dropSqJobs f n s).lcs = s.lcs ∧ (dropSqJobs f n s).eng = s.eng ∧ (dropSqJobs f n s).rng = s.rng ∧ (dropSqJobs f n s).pwr = s.pwr ∧ (dropSqJobs f n s).mtr = s.mtr ∧ (dropSqJobs f n s).ldg = s.ldg ∧ (dropSqJobs f n s).msh = s.msh ∧ (dropSqJobs f n s).tam = s.tam ∧ (dropSqJobs f n s).bst = s.bst ∧ (dropSqJobs f n s).bar0 = s.bar0 ∧ (dropSqJobs f n s).dap = s.dap := by
  refine ⟨?_, ?_, ?_, ?_, ?_, ?_, ?_, ?_, ?_, ?_, ?_, ?_, ?_, ?_, ?_, ?_, ?_, ?_, ?_, ?_⟩ <;>
    exact forEach_keeps _ _ _ (fun _ _ => by simp) _
@[simp] theorem faultSq_keeps (f n error : Nat) (s : State) :
    (faultSq f n error s).pending = s.pending ∧ (faultSq f n error s).freeCtr = s.freeCtr ∧ (faultSq f n error s).glb = s.glb ∧ (faultSq f n error s).orr = s.orr ∧ (faultSq f n error s).wld = s.wld ∧ (faultSq f n error s).key = s.key ∧ (faultSq f n error s).lcs = s.lcs ∧ (faultSq f n error s).eng = s.eng ∧ (faultSq f n error s).rng = s.rng ∧ (faultSq f n error s).pwr = s.pwr ∧ (faultSq f n error s).mtr = s.mtr ∧ (faultSq f n error s).ldg = s.ldg ∧ (faultSq f n error s).msh = s.msh ∧ (faultSq f n error s).tam = s.tam ∧ (faultSq f n error s).bst = s.bst ∧ (faultSq f n error s).bar0 = s.bar0 ∧ (faultSq f n error s).dap = s.dap := by
  simp [faultSq]
@[simp] theorem faultCq_keeps (f n error : Nat) (s : State) :
    (faultCq f n error s).pending = s.pending ∧ (faultCq f n error s).freeCtr = s.freeCtr ∧ (faultCq f n error s).glb = s.glb ∧ (faultCq f n error s).orr = s.orr ∧ (faultCq f n error s).wld = s.wld ∧ (faultCq f n error s).key = s.key ∧ (faultCq f n error s).lcs = s.lcs ∧ (faultCq f n error s).eng = s.eng ∧ (faultCq f n error s).rng = s.rng ∧ (faultCq f n error s).pwr = s.pwr ∧ (faultCq f n error s).mtr = s.mtr ∧ (faultCq f n error s).ldg = s.ldg ∧ (faultCq f n error s).msh = s.msh ∧ (faultCq f n error s).tam = s.tam ∧ (faultCq f n error s).bst = s.bst ∧ (faultCq f n error s).bar0 = s.bar0 ∧ (faultCq f n error s).dap = s.dap := by
  rw [faultCq]; refine ⟨?_, ?_, ?_, ?_, ?_, ?_, ?_, ?_, ?_, ?_, ?_, ?_, ?_, ?_, ?_, ?_, ?_⟩ <;>
    simp [forEach_keeps]
@[simp] theorem thawMaster_keeps (kind number cab : Nat) (s : State) :
    (thawMaster kind number cab s).pending = s.pending ∧ (thawMaster kind number cab s).freeCtr = s.freeCtr ∧ (thawMaster kind number cab s).glb = s.glb ∧ (thawMaster kind number cab s).time = s.time ∧ (thawMaster kind number cab s).orr = s.orr ∧ (thawMaster kind number cab s).car = s.car ∧ (thawMaster kind number cab s).wld = s.wld ∧ (thawMaster kind number cab s).dov = s.dov ∧ (thawMaster kind number cab s).key = s.key ∧ (thawMaster kind number cab s).lcs = s.lcs ∧ (thawMaster kind number cab s).eng = s.eng ∧ (thawMaster kind number cab s).rng = s.rng ∧ (thawMaster kind number cab s).pwr = s.pwr ∧ (thawMaster kind number cab s).mtr = s.mtr ∧ (thawMaster kind number cab s).ldg = s.ldg ∧ (thawMaster kind number cab s).msh = s.msh ∧ (thawMaster kind number cab s).tam = s.tam ∧ (thawMaster kind number cab s).bst = s.bst ∧ (thawMaster kind number cab s).bar0 = s.bar0 ∧ (thawMaster kind number cab s).dap = s.dap := by
  rw [thawMaster]; repeat' split
  all_goals simp
@[simp] theorem pageWanted_keeps (f page : Nat) (tag : Word) (s : State) :
    (pageWanted f page tag s).pending = s.pending ∧ (pageWanted f page tag s).freeCtr = s.freeCtr ∧ (pageWanted f page tag s).glb = s.glb ∧ (pageWanted f page tag s).time = s.time ∧ (pageWanted f page tag s).orr = s.orr ∧ (pageWanted f page tag s).job = s.job ∧ (pageWanted f page tag s).car = s.car ∧ (pageWanted f page tag s).evt = s.evt ∧ (pageWanted f page tag s).wld = s.wld ∧ (pageWanted f page tag s).dov = s.dov ∧ (pageWanted f page tag s).key = s.key ∧ (pageWanted f page tag s).lcs = s.lcs ∧ (pageWanted f page tag s).eng = s.eng ∧ (pageWanted f page tag s).rng = s.rng ∧ (pageWanted f page tag s).pwr = s.pwr ∧ (pageWanted f page tag s).mtr = s.mtr ∧ (pageWanted f page tag s).ldg = s.ldg ∧ (pageWanted f page tag s).msh = s.msh ∧ (pageWanted f page tag s).tam = s.tam ∧ (pageWanted f page tag s).bst = s.bst ∧ (pageWanted f page tag s).bar0 = s.bar0 ∧ (pageWanted f page tag s).dap = s.dap := by
  simp [pageWanted]
@[simp] theorem parkJob_keeps (j page right ran : Nat) (s : State) :
    (parkJob j page right ran s).pending = s.pending ∧ (parkJob j page right ran s).freeCtr = s.freeCtr ∧ (parkJob j page right ran s).glb = s.glb ∧ (parkJob j page right ran s).time = s.time ∧ (parkJob j page right ran s).orr = s.orr ∧ (parkJob j page right ran s).car = s.car ∧ (parkJob j page right ran s).evt = s.evt ∧ (parkJob j page right ran s).wld = s.wld ∧ (parkJob j page right ran s).dov = s.dov ∧ (parkJob j page right ran s).key = s.key ∧ (parkJob j page right ran s).lcs = s.lcs ∧ (parkJob j page right ran s).eng = s.eng ∧ (parkJob j page right ran s).rng = s.rng ∧ (parkJob j page right ran s).pwr = s.pwr ∧ (parkJob j page right ran s).mtr = s.mtr ∧ (parkJob j page right ran s).ldg = s.ldg ∧ (parkJob j page right ran s).msh = s.msh ∧ (parkJob j page right ran s).tam = s.tam ∧ (parkJob j page right ran s).bst = s.bst ∧ (parkJob j page right ran s).bar0 = s.bar0 ∧ (parkJob j page right ran s).dap = s.dap := by
  rw [parkJob]; repeat' split
  all_goals first | (simp; done) | (dsimp only; split <;> simp)
@[simp] theorem pruneWanted_keeps (s : State) :
    (pruneWanted s).pending = s.pending ∧ (pruneWanted s).freeCtr = s.freeCtr ∧ (pruneWanted s).out = s.out ∧ (pruneWanted s).glb = s.glb ∧ (pruneWanted s).time = s.time ∧ (pruneWanted s).orr = s.orr ∧ (pruneWanted s).car = s.car ∧ (pruneWanted s).hlk = s.hlk ∧ (pruneWanted s).evt = s.evt ∧ (pruneWanted s).wld = s.wld ∧ (pruneWanted s).dov = s.dov ∧ (pruneWanted s).key = s.key ∧ (pruneWanted s).lcs = s.lcs ∧ (pruneWanted s).eng = s.eng ∧ (pruneWanted s).rng = s.rng ∧ (pruneWanted s).pwr = s.pwr ∧ (pruneWanted s).mtr = s.mtr ∧ (pruneWanted s).ldg = s.ldg ∧ (pruneWanted s).msh = s.msh ∧ (pruneWanted s).tam = s.tam ∧ (pruneWanted s).bst = s.bst ∧ (pruneWanted s).bar0 = s.bar0 ∧ (pruneWanted s).dap = s.dap := by
  simp [pruneWanted]
@[simp] theorem abandonJob_keeps (j page : Nat) (s : State) :
    (abandonJob j page s).pending = s.pending ∧ (abandonJob j page s).freeCtr = s.freeCtr ∧ (abandonJob j page s).glb = s.glb ∧ (abandonJob j page s).orr = s.orr ∧ (abandonJob j page s).wld = s.wld ∧ (abandonJob j page s).key = s.key ∧ (abandonJob j page s).lcs = s.lcs ∧ (abandonJob j page s).eng = s.eng ∧ (abandonJob j page s).rng = s.rng ∧ (abandonJob j page s).pwr = s.pwr ∧ (abandonJob j page s).mtr = s.mtr ∧ (abandonJob j page s).ldg = s.ldg ∧ (abandonJob j page s).msh = s.msh ∧ (abandonJob j page s).tam = s.tam ∧ (abandonJob j page s).bst = s.bst ∧ (abandonJob j page s).bar0 = s.bar0 ∧ (abandonJob j page s).dap = s.dap := by
  rw [abandonJob]; repeat' split
  all_goals first | (simp; done) | (dsimp only; split <;> simp)
@[simp] theorem setResult_keeps (j : Nat) (r : Result) (s : State) :
    (setResult j r s).pending = s.pending ∧ (setResult j r s).freeCtr = s.freeCtr ∧ (setResult j r s).out = s.out ∧ (setResult j r s).glb = s.glb ∧ (setResult j r s).time = s.time ∧ (setResult j r s).orr = s.orr ∧ (setResult j r s).car = s.car ∧ (setResult j r s).hlk = s.hlk ∧ (setResult j r s).evt = s.evt ∧ (setResult j r s).wld = s.wld ∧ (setResult j r s).dov = s.dov ∧ (setResult j r s).key = s.key ∧ (setResult j r s).lcs = s.lcs ∧ (setResult j r s).eng = s.eng ∧ (setResult j r s).rng = s.rng ∧ (setResult j r s).pwr = s.pwr ∧ (setResult j r s).mtr = s.mtr ∧ (setResult j r s).ldg = s.ldg ∧ (setResult j r s).msh = s.msh ∧ (setResult j r s).tam = s.tam ∧ (setResult j r s).bst = s.bst ∧ (setResult j r s).bar0 = s.bar0 ∧ (setResult j r s).dap = s.dap := by
  simp [setResult]
@[simp] theorem failJob_keeps (j status w0 w1 w2 : Nat) (s : State) :
    (failJob j status w0 w1 w2 s).pending = s.pending ∧ (failJob j status w0 w1 w2 s).freeCtr = s.freeCtr ∧ (failJob j status w0 w1 w2 s).glb = s.glb ∧ (failJob j status w0 w1 w2 s).orr = s.orr ∧ (failJob j status w0 w1 w2 s).evt = s.evt ∧ (failJob j status w0 w1 w2 s).wld = s.wld ∧ (failJob j status w0 w1 w2 s).key = s.key ∧ (failJob j status w0 w1 w2 s).lcs = s.lcs ∧ (failJob j status w0 w1 w2 s).eng = s.eng ∧ (failJob j status w0 w1 w2 s).rng = s.rng ∧ (failJob j status w0 w1 w2 s).pwr = s.pwr ∧ (failJob j status w0 w1 w2 s).mtr = s.mtr ∧ (failJob j status w0 w1 w2 s).ldg = s.ldg ∧ (failJob j status w0 w1 w2 s).msh = s.msh ∧ (failJob j status w0 w1 w2 s).tam = s.tam ∧ (failJob j status w0 w1 w2 s).bst = s.bst ∧ (failJob j status w0 w1 w2 s).bar0 = s.bar0 ∧ (failJob j status w0 w1 w2 s).dap = s.dap := by
  simp [failJob]
@[simp] theorem potChange_keeps (page : Nat) (e : Option PageEntry) (s : State) :
    (potChange page e s).pending = s.pending ∧ (potChange page e s).freeCtr = s.freeCtr ∧ (potChange page e s).out = s.out ∧ (potChange page e s).glb = s.glb ∧ (potChange page e s).time = s.time ∧ (potChange page e s).orr = s.orr ∧ (potChange page e s).car = s.car ∧ (potChange page e s).hlk = s.hlk ∧ (potChange page e s).evt = s.evt ∧ (potChange page e s).wld = s.wld ∧ (potChange page e s).dov = s.dov ∧ (potChange page e s).key = s.key ∧ (potChange page e s).lcs = s.lcs ∧ (potChange page e s).eng = s.eng ∧ (potChange page e s).rng = s.rng ∧ (potChange page e s).pwr = s.pwr ∧ (potChange page e s).mtr = s.mtr ∧ (potChange page e s).ldg = s.ldg ∧ (potChange page e s).msh = s.msh ∧ (potChange page e s).tam = s.tam ∧ (potChange page e s).bst = s.bst ∧ (potChange page e s).bar0 = s.bar0 ∧ (potChange page e s).dap = s.dap := by
  simp [potChange]
@[simp] theorem timeAnchor_keeps (s : State) :
    (timeAnchor s).pending = s.pending ∧ (timeAnchor s).freeCtr = s.freeCtr ∧ (timeAnchor s).out = s.out ∧ (timeAnchor s).glb = s.glb ∧ (timeAnchor s).time = s.time ∧ (timeAnchor s).orr = s.orr ∧ (timeAnchor s).job = s.job ∧ (timeAnchor s).car = s.car ∧ (timeAnchor s).hlk = s.hlk ∧ (timeAnchor s).wld = s.wld ∧ (timeAnchor s).dov = s.dov ∧ (timeAnchor s).key = s.key ∧ (timeAnchor s).lcs = s.lcs ∧ (timeAnchor s).eng = s.eng ∧ (timeAnchor s).rng = s.rng ∧ (timeAnchor s).pwr = s.pwr ∧ (timeAnchor s).mtr = s.mtr ∧ (timeAnchor s).ldg = s.ldg ∧ (timeAnchor s).msh = s.msh ∧ (timeAnchor s).tam = s.tam ∧ (timeAnchor s).bst = s.bst ∧ (timeAnchor s).bar0 = s.bar0 ∧ (timeAnchor s).dap = s.dap := by
  rw [timeAnchor]; repeat' split
  all_goals simp
@[simp] theorem verifyFailed_keeps (j t op : Nat) (tag : Word) (s : State) :
    (verifyFailed j t op tag s).pending = s.pending ∧ (verifyFailed j t op tag s).freeCtr = s.freeCtr ∧ (verifyFailed j t op tag s).glb = s.glb ∧ (verifyFailed j t op tag s).wld = s.wld ∧ (verifyFailed j t op tag s).key = s.key ∧ (verifyFailed j t op tag s).lcs = s.lcs ∧ (verifyFailed j t op tag s).eng = s.eng ∧ (verifyFailed j t op tag s).rng = s.rng ∧ (verifyFailed j t op tag s).pwr = s.pwr ∧ (verifyFailed j t op tag s).mtr = s.mtr ∧ (verifyFailed j t op tag s).ldg = s.ldg ∧ (verifyFailed j t op tag s).msh = s.msh ∧ (verifyFailed j t op tag s).tam = s.tam ∧ (verifyFailed j t op tag s).bst = s.bst ∧ (verifyFailed j t op tag s).bar0 = s.bar0 ∧ (verifyFailed j t op tag s).dap = s.dap := by
  rw [verifyFailed]; repeat' split
  all_goals simp
@[simp] theorem verdict_keeps (j : Nat) (ok : Bool) (s : State) :
    (verdict j ok s).pending = s.pending ∧ (verdict j ok s).freeCtr = s.freeCtr ∧ (verdict j ok s).glb = s.glb ∧ (verdict j ok s).orr = s.orr ∧ (verdict j ok s).evt = s.evt ∧ (verdict j ok s).wld = s.wld ∧ (verdict j ok s).key = s.key ∧ (verdict j ok s).lcs = s.lcs ∧ (verdict j ok s).eng = s.eng ∧ (verdict j ok s).rng = s.rng ∧ (verdict j ok s).pwr = s.pwr ∧ (verdict j ok s).mtr = s.mtr ∧ (verdict j ok s).ldg = s.ldg ∧ (verdict j ok s).msh = s.msh ∧ (verdict j ok s).tam = s.tam ∧ (verdict j ok s).bst = s.bst ∧ (verdict j ok s).bar0 = s.bar0 ∧ (verdict j ok s).dap = s.dap := by
  rw [verdict]; repeat' split
  all_goals simp
@[simp] theorem modMember_keeps (m : Nat) (g : Member → Member) (s : State) :
    (modMember m g s).pending = s.pending ∧ (modMember m g s).freeCtr = s.freeCtr ∧ (modMember m g s).out = s.out ∧ (modMember m g s).glb = s.glb ∧ (modMember m g s).time = s.time ∧ (modMember m g s).orr = s.orr ∧ (modMember m g s).job = s.job ∧ (modMember m g s).car = s.car ∧ (modMember m g s).hlk = s.hlk ∧ (modMember m g s).evt = s.evt ∧ (modMember m g s).wld = s.wld ∧ (modMember m g s).dov = s.dov ∧ (modMember m g s).key = s.key ∧ (modMember m g s).lcs = s.lcs ∧ (modMember m g s).eng = s.eng ∧ (modMember m g s).rng = s.rng ∧ (modMember m g s).pwr = s.pwr ∧ (modMember m g s).mtr = s.mtr ∧ (modMember m g s).ldg = s.ldg ∧ (modMember m g s).tam = s.tam ∧ (modMember m g s).bst = s.bst ∧ (modMember m g s).bar0 = s.bar0 ∧ (modMember m g s).dap = s.dap := by
  simp [modMember]
@[simp] theorem countPort_keeps (p cls : Nat) (s : State) :
    (countPort p cls s).pending = s.pending ∧ (countPort p cls s).freeCtr = s.freeCtr ∧ (countPort p cls s).out = s.out ∧ (countPort p cls s).glb = s.glb ∧ (countPort p cls s).time = s.time ∧ (countPort p cls s).orr = s.orr ∧ (countPort p cls s).job = s.job ∧ (countPort p cls s).car = s.car ∧ (countPort p cls s).hlk = s.hlk ∧ (countPort p cls s).evt = s.evt ∧ (countPort p cls s).wld = s.wld ∧ (countPort p cls s).dov = s.dov ∧ (countPort p cls s).key = s.key ∧ (countPort p cls s).lcs = s.lcs ∧ (countPort p cls s).eng = s.eng ∧ (countPort p cls s).rng = s.rng ∧ (countPort p cls s).pwr = s.pwr ∧ (countPort p cls s).mtr = s.mtr ∧ (countPort p cls s).ldg = s.ldg ∧ (countPort p cls s).tam = s.tam ∧ (countPort p cls s).bst = s.bst ∧ (countPort p cls s).bar0 = s.bar0 ∧ (countPort p cls s).dap = s.dap := by
  rw [countPort]; repeat' split
  all_goals simp
@[simp] theorem modCustody_keeps (cab : Nat) (g : CabCustody → CabCustody) (s : State) :
    (modCustody cab g s).pending = s.pending ∧ (modCustody cab g s).freeCtr = s.freeCtr ∧ (modCustody cab g s).out = s.out ∧ (modCustody cab g s).glb = s.glb ∧ (modCustody cab g s).time = s.time ∧ (modCustody cab g s).orr = s.orr ∧ (modCustody cab g s).job = s.job ∧ (modCustody cab g s).car = s.car ∧ (modCustody cab g s).hlk = s.hlk ∧ (modCustody cab g s).evt = s.evt ∧ (modCustody cab g s).wld = s.wld ∧ (modCustody cab g s).dov = s.dov ∧ (modCustody cab g s).key = s.key ∧ (modCustody cab g s).lcs = s.lcs ∧ (modCustody cab g s).eng = s.eng ∧ (modCustody cab g s).rng = s.rng ∧ (modCustody cab g s).pwr = s.pwr ∧ (modCustody cab g s).mtr = s.mtr ∧ (modCustody cab g s).ldg = s.ldg ∧ (modCustody cab g s).tam = s.tam ∧ (modCustody cab g s).bst = s.bst ∧ (modCustody cab g s).bar0 = s.bar0 ∧ (modCustody cab g s).dap = s.dap := by
  simp [modCustody]
@[simp] theorem modRound_keeps (id : Nat) (g : Round → Round) (s : State) :
    (modRound id g s).pending = s.pending ∧ (modRound id g s).freeCtr = s.freeCtr ∧ (modRound id g s).out = s.out ∧ (modRound id g s).glb = s.glb ∧ (modRound id g s).time = s.time ∧ (modRound id g s).orr = s.orr ∧ (modRound id g s).job = s.job ∧ (modRound id g s).car = s.car ∧ (modRound id g s).hlk = s.hlk ∧ (modRound id g s).evt = s.evt ∧ (modRound id g s).wld = s.wld ∧ (modRound id g s).dov = s.dov ∧ (modRound id g s).key = s.key ∧ (modRound id g s).lcs = s.lcs ∧ (modRound id g s).eng = s.eng ∧ (modRound id g s).rng = s.rng ∧ (modRound id g s).pwr = s.pwr ∧ (modRound id g s).mtr = s.mtr ∧ (modRound id g s).ldg = s.ldg ∧ (modRound id g s).tam = s.tam ∧ (modRound id g s).bst = s.bst ∧ (modRound id g s).bar0 = s.bar0 ∧ (modRound id g s).dap = s.dap := by
  simp [modRound]
@[simp] theorem modSource_keeps (n : Nat) (g : Source → Source) (s : State) :
    (modSource n g s).pending = s.pending ∧ (modSource n g s).freeCtr = s.freeCtr ∧ (modSource n g s).out = s.out ∧ (modSource n g s).glb = s.glb ∧ (modSource n g s).time = s.time ∧ (modSource n g s).orr = s.orr ∧ (modSource n g s).job = s.job ∧ (modSource n g s).car = s.car ∧ (modSource n g s).hlk = s.hlk ∧ (modSource n g s).evt = s.evt ∧ (modSource n g s).wld = s.wld ∧ (modSource n g s).dov = s.dov ∧ (modSource n g s).key = s.key ∧ (modSource n g s).lcs = s.lcs ∧ (modSource n g s).eng = s.eng ∧ (modSource n g s).pwr = s.pwr ∧ (modSource n g s).mtr = s.mtr ∧ (modSource n g s).ldg = s.ldg ∧ (modSource n g s).msh = s.msh ∧ (modSource n g s).tam = s.tam ∧ (modSource n g s).bst = s.bst ∧ (modSource n g s).bar0 = s.bar0 ∧ (modSource n g s).dap = s.dap := by
  simp [modSource]
@[simp] theorem modCounter_keeps (id : Nat) (g : Counter → Counter) (s : State) :
    (modCounter id g s).pending = s.pending ∧ (modCounter id g s).freeCtr = s.freeCtr ∧ (modCounter id g s).out = s.out ∧ (modCounter id g s).glb = s.glb ∧ (modCounter id g s).time = s.time ∧ (modCounter id g s).orr = s.orr ∧ (modCounter id g s).job = s.job ∧ (modCounter id g s).car = s.car ∧ (modCounter id g s).hlk = s.hlk ∧ (modCounter id g s).evt = s.evt ∧ (modCounter id g s).wld = s.wld ∧ (modCounter id g s).dov = s.dov ∧ (modCounter id g s).key = s.key ∧ (modCounter id g s).lcs = s.lcs ∧ (modCounter id g s).eng = s.eng ∧ (modCounter id g s).rng = s.rng ∧ (modCounter id g s).pwr = s.pwr ∧ (modCounter id g s).mtr = s.mtr ∧ (modCounter id g s).msh = s.msh ∧ (modCounter id g s).tam = s.tam ∧ (modCounter id g s).bst = s.bst ∧ (modCounter id g s).bar0 = s.bar0 ∧ (modCounter id g s).dap = s.dap := by
  simp [modCounter]
@[simp] theorem setRow_keeps (r : Nat) (bs : List Byte) (s : State) :
    (setRow r bs s).pending = s.pending ∧ (setRow r bs s).freeCtr = s.freeCtr ∧ (setRow r bs s).out = s.out ∧ (setRow r bs s).glb = s.glb ∧ (setRow r bs s).time = s.time ∧ (setRow r bs s).orr = s.orr ∧ (setRow r bs s).job = s.job ∧ (setRow r bs s).car = s.car ∧ (setRow r bs s).hlk = s.hlk ∧ (setRow r bs s).evt = s.evt ∧ (setRow r bs s).wld = s.wld ∧ (setRow r bs s).dov = s.dov ∧ (setRow r bs s).key = s.key ∧ (setRow r bs s).lcs = s.lcs ∧ (setRow r bs s).eng = s.eng ∧ (setRow r bs s).rng = s.rng ∧ (setRow r bs s).pwr = s.pwr ∧ (setRow r bs s).mtr = s.mtr ∧ (setRow r bs s).msh = s.msh ∧ (setRow r bs s).tam = s.tam ∧ (setRow r bs s).bst = s.bst ∧ (setRow r bs s).bar0 = s.bar0 ∧ (setRow r bs s).dap = s.dap := by
  simp [setRow]
@[simp] theorem programRow_keeps (r : Nat) (bs : List Byte) (s : State) :
    (programRow r bs s).pending = s.pending ∧ (programRow r bs s).freeCtr = s.freeCtr ∧ (programRow r bs s).out = s.out ∧ (programRow r bs s).glb = s.glb ∧ (programRow r bs s).time = s.time ∧ (programRow r bs s).orr = s.orr ∧ (programRow r bs s).job = s.job ∧ (programRow r bs s).car = s.car ∧ (programRow r bs s).hlk = s.hlk ∧ (programRow r bs s).evt = s.evt ∧ (programRow r bs s).wld = s.wld ∧ (programRow r bs s).dov = s.dov ∧ (programRow r bs s).key = s.key ∧ (programRow r bs s).lcs = s.lcs ∧ (programRow r bs s).eng = s.eng ∧ (programRow r bs s).rng = s.rng ∧ (programRow r bs s).pwr = s.pwr ∧ (programRow r bs s).mtr = s.mtr ∧ (programRow r bs s).msh = s.msh ∧ (programRow r bs s).tam = s.tam ∧ (programRow r bs s).bst = s.bst ∧ (programRow r bs s).bar0 = s.bar0 ∧ (programRow r bs s).dap = s.dap := by
  simp [programRow]
@[simp] theorem setRows_keeps (r : Nat) (bs : List Byte) (s : State) :
    (setRows r bs s).pending = s.pending ∧ (setRows r bs s).freeCtr = s.freeCtr ∧ (setRows r bs s).out = s.out ∧ (setRows r bs s).glb = s.glb ∧ (setRows r bs s).time = s.time ∧ (setRows r bs s).orr = s.orr ∧ (setRows r bs s).job = s.job ∧ (setRows r bs s).car = s.car ∧ (setRows r bs s).hlk = s.hlk ∧ (setRows r bs s).evt = s.evt ∧ (setRows r bs s).wld = s.wld ∧ (setRows r bs s).dov = s.dov ∧ (setRows r bs s).key = s.key ∧ (setRows r bs s).lcs = s.lcs ∧ (setRows r bs s).eng = s.eng ∧ (setRows r bs s).rng = s.rng ∧ (setRows r bs s).pwr = s.pwr ∧ (setRows r bs s).mtr = s.mtr ∧ (setRows r bs s).msh = s.msh ∧ (setRows r bs s).tam = s.tam ∧ (setRows r bs s).bst = s.bst ∧ (setRows r bs s).bar0 = s.bar0 ∧ (setRows r bs s).dap = s.dap := by
  refine ⟨?_, ?_, ?_, ?_, ?_, ?_, ?_, ?_, ?_, ?_, ?_, ?_, ?_, ?_, ?_, ?_, ?_, ?_, ?_, ?_, ?_, ?_, ?_⟩ <;>
    exact forEach_keeps _ _ _ (fun _ _ => by simp) _
@[simp] theorem readyRow_keeps (r : Nat) (s : State) :
    (readyRow r s).pending = s.pending ∧ (readyRow r s).freeCtr = s.freeCtr ∧ (readyRow r s).out = s.out ∧ (readyRow r s).glb = s.glb ∧ (readyRow r s).time = s.time ∧ (readyRow r s).orr = s.orr ∧ (readyRow r s).job = s.job ∧ (readyRow r s).car = s.car ∧ (readyRow r s).hlk = s.hlk ∧ (readyRow r s).evt = s.evt ∧ (readyRow r s).wld = s.wld ∧ (readyRow r s).dov = s.dov ∧ (readyRow r s).key = s.key ∧ (readyRow r s).lcs = s.lcs ∧ (readyRow r s).eng = s.eng ∧ (readyRow r s).rng = s.rng ∧ (readyRow r s).pwr = s.pwr ∧ (readyRow r s).mtr = s.mtr ∧ (readyRow r s).msh = s.msh ∧ (readyRow r s).tam = s.tam ∧ (readyRow r s).bst = s.bst ∧ (readyRow r s).bar0 = s.bar0 ∧ (readyRow r s).dap = s.dap := by
  rw [readyRow]; repeat' split
  all_goals simp
@[simp] theorem programBit_keeps (r n : Nat) (s : State) :
    (programBit r n s).pending = s.pending ∧ (programBit r n s).freeCtr = s.freeCtr ∧ (programBit r n s).out = s.out ∧ (programBit r n s).glb = s.glb ∧ (programBit r n s).time = s.time ∧ (programBit r n s).orr = s.orr ∧ (programBit r n s).job = s.job ∧ (programBit r n s).car = s.car ∧ (programBit r n s).hlk = s.hlk ∧ (programBit r n s).evt = s.evt ∧ (programBit r n s).wld = s.wld ∧ (programBit r n s).dov = s.dov ∧ (programBit r n s).key = s.key ∧ (programBit r n s).lcs = s.lcs ∧ (programBit r n s).eng = s.eng ∧ (programBit r n s).rng = s.rng ∧ (programBit r n s).pwr = s.pwr ∧ (programBit r n s).mtr = s.mtr ∧ (programBit r n s).msh = s.msh ∧ (programBit r n s).tam = s.tam ∧ (programBit r n s).bst = s.bst ∧ (programBit r n s).bar0 = s.bar0 ∧ (programBit r n s).dap = s.dap := by
  simp [programBit]
@[simp] theorem writeIntent_keeps (id b k : Nat) (s : State) :
    (writeIntent id b k s).pending = s.pending ∧ (writeIntent id b k s).freeCtr = s.freeCtr ∧ (writeIntent id b k s).out = s.out ∧ (writeIntent id b k s).glb = s.glb ∧ (writeIntent id b k s).time = s.time ∧ (writeIntent id b k s).orr = s.orr ∧ (writeIntent id b k s).job = s.job ∧ (writeIntent id b k s).car = s.car ∧ (writeIntent id b k s).hlk = s.hlk ∧ (writeIntent id b k s).evt = s.evt ∧ (writeIntent id b k s).wld = s.wld ∧ (writeIntent id b k s).dov = s.dov ∧ (writeIntent id b k s).key = s.key ∧ (writeIntent id b k s).lcs = s.lcs ∧ (writeIntent id b k s).eng = s.eng ∧ (writeIntent id b k s).rng = s.rng ∧ (writeIntent id b k s).pwr = s.pwr ∧ (writeIntent id b k s).mtr = s.mtr ∧ (writeIntent id b k s).msh = s.msh ∧ (writeIntent id b k s).tam = s.tam ∧ (writeIntent id b k s).bst = s.bst ∧ (writeIntent id b k s).bar0 = s.bar0 ∧ (writeIntent id b k s).dap = s.dap := by
  simp [writeIntent]
@[simp] theorem markDone_keeps (j : Nat) (s : State) :
    (markDone j s).pending = s.pending ∧ (markDone j s).freeCtr = s.freeCtr ∧ (markDone j s).out = s.out ∧ (markDone j s).glb = s.glb ∧ (markDone j s).time = s.time ∧ (markDone j s).orr = s.orr ∧ (markDone j s).job = s.job ∧ (markDone j s).car = s.car ∧ (markDone j s).hlk = s.hlk ∧ (markDone j s).evt = s.evt ∧ (markDone j s).wld = s.wld ∧ (markDone j s).dov = s.dov ∧ (markDone j s).key = s.key ∧ (markDone j s).lcs = s.lcs ∧ (markDone j s).eng = s.eng ∧ (markDone j s).rng = s.rng ∧ (markDone j s).pwr = s.pwr ∧ (markDone j s).mtr = s.mtr ∧ (markDone j s).msh = s.msh ∧ (markDone j s).tam = s.tam ∧ (markDone j s).bst = s.bst ∧ (markDone j s).bar0 = s.bar0 ∧ (markDone j s).dap = s.dap := by
  simp [markDone]
@[simp] theorem writeRecord_keeps (id mark : Nat) (bs : List Byte) (s : State) :
    (writeRecord id mark bs s).pending = s.pending ∧ (writeRecord id mark bs s).freeCtr = s.freeCtr ∧ (writeRecord id mark bs s).out = s.out ∧ (writeRecord id mark bs s).glb = s.glb ∧ (writeRecord id mark bs s).time = s.time ∧ (writeRecord id mark bs s).orr = s.orr ∧ (writeRecord id mark bs s).job = s.job ∧ (writeRecord id mark bs s).car = s.car ∧ (writeRecord id mark bs s).hlk = s.hlk ∧ (writeRecord id mark bs s).evt = s.evt ∧ (writeRecord id mark bs s).wld = s.wld ∧ (writeRecord id mark bs s).dov = s.dov ∧ (writeRecord id mark bs s).key = s.key ∧ (writeRecord id mark bs s).lcs = s.lcs ∧ (writeRecord id mark bs s).eng = s.eng ∧ (writeRecord id mark bs s).rng = s.rng ∧ (writeRecord id mark bs s).pwr = s.pwr ∧ (writeRecord id mark bs s).mtr = s.mtr ∧ (writeRecord id mark bs s).msh = s.msh ∧ (writeRecord id mark bs s).tam = s.tam ∧ (writeRecord id mark bs s).bst = s.bst ∧ (writeRecord id mark bs s).bar0 = s.bar0 ∧ (writeRecord id mark bs s).dap = s.dap := by
  simp [writeRecord]
@[simp] theorem programReleased_keeps (id mark : Nat) (s : State) :
    (programReleased id mark s).pending = s.pending ∧ (programReleased id mark s).freeCtr = s.freeCtr ∧ (programReleased id mark s).out = s.out ∧ (programReleased id mark s).glb = s.glb ∧ (programReleased id mark s).time = s.time ∧ (programReleased id mark s).orr = s.orr ∧ (programReleased id mark s).job = s.job ∧ (programReleased id mark s).car = s.car ∧ (programReleased id mark s).hlk = s.hlk ∧ (programReleased id mark s).evt = s.evt ∧ (programReleased id mark s).wld = s.wld ∧ (programReleased id mark s).dov = s.dov ∧ (programReleased id mark s).key = s.key ∧ (programReleased id mark s).lcs = s.lcs ∧ (programReleased id mark s).eng = s.eng ∧ (programReleased id mark s).rng = s.rng ∧ (programReleased id mark s).pwr = s.pwr ∧ (programReleased id mark s).mtr = s.mtr ∧ (programReleased id mark s).msh = s.msh ∧ (programReleased id mark s).tam = s.tam ∧ (programReleased id mark s).bst = s.bst ∧ (programReleased id mark s).bar0 = s.bar0 ∧ (programReleased id mark s).dap = s.dap := by
  refine ⟨?_, ?_, ?_, ?_, ?_, ?_, ?_, ?_, ?_, ?_, ?_, ?_, ?_, ?_, ?_, ?_, ?_, ?_, ?_, ?_, ?_, ?_, ?_⟩ <;>
    exact forEach_keeps _ _ _ (fun _ _ => by simp) _
@[simp] theorem closeIntentCell_keeps (abandoned : Bool) (s : State) :
    (closeIntentCell abandoned s).pending = s.pending ∧ (closeIntentCell abandoned s).freeCtr = s.freeCtr ∧ (closeIntentCell abandoned s).out = s.out ∧ (closeIntentCell abandoned s).glb = s.glb ∧ (closeIntentCell abandoned s).time = s.time ∧ (closeIntentCell abandoned s).orr = s.orr ∧ (closeIntentCell abandoned s).job = s.job ∧ (closeIntentCell abandoned s).car = s.car ∧ (closeIntentCell abandoned s).hlk = s.hlk ∧ (closeIntentCell abandoned s).evt = s.evt ∧ (closeIntentCell abandoned s).wld = s.wld ∧ (closeIntentCell abandoned s).dov = s.dov ∧ (closeIntentCell abandoned s).key = s.key ∧ (closeIntentCell abandoned s).lcs = s.lcs ∧ (closeIntentCell abandoned s).eng = s.eng ∧ (closeIntentCell abandoned s).rng = s.rng ∧ (closeIntentCell abandoned s).pwr = s.pwr ∧ (closeIntentCell abandoned s).mtr = s.mtr ∧ (closeIntentCell abandoned s).msh = s.msh ∧ (closeIntentCell abandoned s).tam = s.tam ∧ (closeIntentCell abandoned s).bst = s.bst ∧ (closeIntentCell abandoned s).bar0 = s.bar0 ∧ (closeIntentCell abandoned s).dap = s.dap := by
  simp [closeIntentCell]
@[simp] theorem openCarry_keeps (id b k : Nat) (s : State) :
    (openCarry id b k s).pending = s.pending ∧ (openCarry id b k s).freeCtr = s.freeCtr ∧ (openCarry id b k s).out = s.out ∧ (openCarry id b k s).glb = s.glb ∧ (openCarry id b k s).time = s.time ∧ (openCarry id b k s).orr = s.orr ∧ (openCarry id b k s).job = s.job ∧ (openCarry id b k s).car = s.car ∧ (openCarry id b k s).hlk = s.hlk ∧ (openCarry id b k s).evt = s.evt ∧ (openCarry id b k s).wld = s.wld ∧ (openCarry id b k s).dov = s.dov ∧ (openCarry id b k s).key = s.key ∧ (openCarry id b k s).lcs = s.lcs ∧ (openCarry id b k s).eng = s.eng ∧ (openCarry id b k s).rng = s.rng ∧ (openCarry id b k s).pwr = s.pwr ∧ (openCarry id b k s).mtr = s.mtr ∧ (openCarry id b k s).msh = s.msh ∧ (openCarry id b k s).tam = s.tam ∧ (openCarry id b k s).bst = s.bst ∧ (openCarry id b k s).bar0 = s.bar0 ∧ (openCarry id b k s).dap = s.dap := by
  simp [openCarry]
@[simp] theorem closeCarry_keeps (id : Nat) (s : State) :
    (closeCarry id s).pending = s.pending ∧ (closeCarry id s).freeCtr = s.freeCtr ∧ (closeCarry id s).out = s.out ∧ (closeCarry id s).glb = s.glb ∧ (closeCarry id s).time = s.time ∧ (closeCarry id s).orr = s.orr ∧ (closeCarry id s).job = s.job ∧ (closeCarry id s).car = s.car ∧ (closeCarry id s).hlk = s.hlk ∧ (closeCarry id s).evt = s.evt ∧ (closeCarry id s).wld = s.wld ∧ (closeCarry id s).dov = s.dov ∧ (closeCarry id s).key = s.key ∧ (closeCarry id s).lcs = s.lcs ∧ (closeCarry id s).eng = s.eng ∧ (closeCarry id s).rng = s.rng ∧ (closeCarry id s).pwr = s.pwr ∧ (closeCarry id s).mtr = s.mtr ∧ (closeCarry id s).msh = s.msh ∧ (closeCarry id s).tam = s.tam ∧ (closeCarry id s).bst = s.bst ∧ (closeCarry id s).bar0 = s.bar0 ∧ (closeCarry id s).dap = s.dap := by
  simp [closeCarry]
@[simp] theorem carry_keeps (id : Nat) (s : State) :
    (carry id s).pending = s.pending ∧ (carry id s).freeCtr = s.freeCtr ∧ (carry id s).out = s.out ∧ (carry id s).glb = s.glb ∧ (carry id s).time = s.time ∧ (carry id s).orr = s.orr ∧ (carry id s).job = s.job ∧ (carry id s).car = s.car ∧ (carry id s).hlk = s.hlk ∧ (carry id s).wld = s.wld ∧ (carry id s).dov = s.dov ∧ (carry id s).key = s.key ∧ (carry id s).lcs = s.lcs ∧ (carry id s).eng = s.eng ∧ (carry id s).rng = s.rng ∧ (carry id s).pwr = s.pwr ∧ (carry id s).mtr = s.mtr ∧ (carry id s).msh = s.msh ∧ (carry id s).tam = s.tam ∧ (carry id s).bst = s.bst ∧ (carry id s).bar0 = s.bar0 ∧ (carry id s).dap = s.dap := by
  simp [carry]
@[simp] theorem increment_keeps (id : Nat) (bitOk : Bool) (s : State) :
    (increment id bitOk s).pending = s.pending ∧ (increment id bitOk s).freeCtr = s.freeCtr ∧ (increment id bitOk s).out = s.out ∧ (increment id bitOk s).glb = s.glb ∧ (increment id bitOk s).time = s.time ∧ (increment id bitOk s).orr = s.orr ∧ (increment id bitOk s).job = s.job ∧ (increment id bitOk s).car = s.car ∧ (increment id bitOk s).hlk = s.hlk ∧ (increment id bitOk s).wld = s.wld ∧ (increment id bitOk s).dov = s.dov ∧ (increment id bitOk s).key = s.key ∧ (increment id bitOk s).lcs = s.lcs ∧ (increment id bitOk s).eng = s.eng ∧ (increment id bitOk s).rng = s.rng ∧ (increment id bitOk s).pwr = s.pwr ∧ (increment id bitOk s).mtr = s.mtr ∧ (increment id bitOk s).msh = s.msh ∧ (increment id bitOk s).tam = s.tam ∧ (increment id bitOk s).bst = s.bst ∧ (increment id bitOk s).bar0 = s.bar0 ∧ (increment id bitOk s).dap = s.dap := by
  rw [increment]; repeat' split
  all_goals simp
@[simp] theorem wear_keeps (id : Nat) (s : State) :
    (wear id s).pending = s.pending ∧ (wear id s).freeCtr = s.freeCtr ∧ (wear id s).out = s.out ∧ (wear id s).glb = s.glb ∧ (wear id s).time = s.time ∧ (wear id s).orr = s.orr ∧ (wear id s).job = s.job ∧ (wear id s).car = s.car ∧ (wear id s).hlk = s.hlk ∧ (wear id s).wld = s.wld ∧ (wear id s).dov = s.dov ∧ (wear id s).key = s.key ∧ (wear id s).lcs = s.lcs ∧ (wear id s).eng = s.eng ∧ (wear id s).rng = s.rng ∧ (wear id s).pwr = s.pwr ∧ (wear id s).mtr = s.mtr ∧ (wear id s).msh = s.msh ∧ (wear id s).tam = s.tam ∧ (wear id s).bst = s.bst ∧ (wear id s).bar0 = s.bar0 ∧ (wear id s).dap = s.dap := by
  unfold wear; dsimp only; split <;> simp
@[simp] theorem raiseFloor_keeps (bitOk : Bool) (s : State) :
    (raiseFloor bitOk s).pending = s.pending ∧ (raiseFloor bitOk s).freeCtr = s.freeCtr ∧ (raiseFloor bitOk s).out = s.out ∧ (raiseFloor bitOk s).glb = s.glb ∧ (raiseFloor bitOk s).time = s.time ∧ (raiseFloor bitOk s).orr = s.orr ∧ (raiseFloor bitOk s).job = s.job ∧ (raiseFloor bitOk s).car = s.car ∧ (raiseFloor bitOk s).hlk = s.hlk ∧ (raiseFloor bitOk s).wld = s.wld ∧ (raiseFloor bitOk s).dov = s.dov ∧ (raiseFloor bitOk s).key = s.key ∧ (raiseFloor bitOk s).lcs = s.lcs ∧ (raiseFloor bitOk s).eng = s.eng ∧ (raiseFloor bitOk s).rng = s.rng ∧ (raiseFloor bitOk s).pwr = s.pwr ∧ (raiseFloor bitOk s).mtr = s.mtr ∧ (raiseFloor bitOk s).msh = s.msh ∧ (raiseFloor bitOk s).tam = s.tam ∧ (raiseFloor bitOk s).bst = s.bst ∧ (raiseFloor bitOk s).bar0 = s.bar0 ∧ (raiseFloor bitOk s).dap = s.dap := by
  simp [raiseFloor]
@[simp] theorem publishAnchor_keeps (bitOk : Bool) (s : State) :
    (publishAnchor bitOk s).pending = s.pending ∧ (publishAnchor bitOk s).freeCtr = s.freeCtr ∧ (publishAnchor bitOk s).out = s.out ∧ (publishAnchor bitOk s).glb = s.glb ∧ (publishAnchor bitOk s).time = s.time ∧ (publishAnchor bitOk s).orr = s.orr ∧ (publishAnchor bitOk s).job = s.job ∧ (publishAnchor bitOk s).car = s.car ∧ (publishAnchor bitOk s).hlk = s.hlk ∧ (publishAnchor bitOk s).wld = s.wld ∧ (publishAnchor bitOk s).dov = s.dov ∧ (publishAnchor bitOk s).key = s.key ∧ (publishAnchor bitOk s).lcs = s.lcs ∧ (publishAnchor bitOk s).eng = s.eng ∧ (publishAnchor bitOk s).rng = s.rng ∧ (publishAnchor bitOk s).pwr = s.pwr ∧ (publishAnchor bitOk s).mtr = s.mtr ∧ (publishAnchor bitOk s).msh = s.msh ∧ (publishAnchor bitOk s).tam = s.tam ∧ (publishAnchor bitOk s).bst = s.bst ∧ (publishAnchor bitOk s).bar0 = s.bar0 ∧ (publishAnchor bitOk s).dap = s.dap := by
  rw [publishAnchor]; repeat' split
  all_goals simp
@[simp] theorem modLaneLdg_keeps (n : Nat) (g : LaneLedger → LaneLedger) (s : State) :
    (modLaneLdg n g s).pending = s.pending ∧ (modLaneLdg n g s).freeCtr = s.freeCtr ∧ (modLaneLdg n g s).out = s.out ∧ (modLaneLdg n g s).glb = s.glb ∧ (modLaneLdg n g s).time = s.time ∧ (modLaneLdg n g s).orr = s.orr ∧ (modLaneLdg n g s).job = s.job ∧ (modLaneLdg n g s).car = s.car ∧ (modLaneLdg n g s).hlk = s.hlk ∧ (modLaneLdg n g s).evt = s.evt ∧ (modLaneLdg n g s).wld = s.wld ∧ (modLaneLdg n g s).dov = s.dov ∧ (modLaneLdg n g s).key = s.key ∧ (modLaneLdg n g s).lcs = s.lcs ∧ (modLaneLdg n g s).eng = s.eng ∧ (modLaneLdg n g s).rng = s.rng ∧ (modLaneLdg n g s).pwr = s.pwr ∧ (modLaneLdg n g s).mtr = s.mtr ∧ (modLaneLdg n g s).msh = s.msh ∧ (modLaneLdg n g s).tam = s.tam ∧ (modLaneLdg n g s).bst = s.bst ∧ (modLaneLdg n g s).bar0 = s.bar0 ∧ (modLaneLdg n g s).dap = s.dap := by
  simp [modLaneLdg]
@[simp] theorem releaseRecord_keeps (n : Nat) (s : State) :
    (releaseRecord n s).pending = s.pending ∧ (releaseRecord n s).freeCtr = s.freeCtr ∧ (releaseRecord n s).out = s.out ∧ (releaseRecord n s).glb = s.glb ∧ (releaseRecord n s).time = s.time ∧ (releaseRecord n s).orr = s.orr ∧ (releaseRecord n s).job = s.job ∧ (releaseRecord n s).car = s.car ∧ (releaseRecord n s).hlk = s.hlk ∧ (releaseRecord n s).evt = s.evt ∧ (releaseRecord n s).wld = s.wld ∧ (releaseRecord n s).dov = s.dov ∧ (releaseRecord n s).key = s.key ∧ (releaseRecord n s).lcs = s.lcs ∧ (releaseRecord n s).eng = s.eng ∧ (releaseRecord n s).rng = s.rng ∧ (releaseRecord n s).pwr = s.pwr ∧ (releaseRecord n s).mtr = s.mtr ∧ (releaseRecord n s).msh = s.msh ∧ (releaseRecord n s).tam = s.tam ∧ (releaseRecord n s).bst = s.bst ∧ (releaseRecord n s).bar0 = s.bar0 ∧ (releaseRecord n s).dap = s.dap := by
  simp [releaseRecord]
@[simp] theorem prepareLane_keeps (n : Nat) (r : LaneRecord) (s : State) :
    (prepareLane n r s).pending = s.pending ∧ (prepareLane n r s).freeCtr = s.freeCtr ∧ (prepareLane n r s).out = s.out ∧ (prepareLane n r s).glb = s.glb ∧ (prepareLane n r s).time = s.time ∧ (prepareLane n r s).orr = s.orr ∧ (prepareLane n r s).job = s.job ∧ (prepareLane n r s).car = s.car ∧ (prepareLane n r s).hlk = s.hlk ∧ (prepareLane n r s).evt = s.evt ∧ (prepareLane n r s).wld = s.wld ∧ (prepareLane n r s).dov = s.dov ∧ (prepareLane n r s).key = s.key ∧ (prepareLane n r s).lcs = s.lcs ∧ (prepareLane n r s).eng = s.eng ∧ (prepareLane n r s).rng = s.rng ∧ (prepareLane n r s).pwr = s.pwr ∧ (prepareLane n r s).mtr = s.mtr ∧ (prepareLane n r s).msh = s.msh ∧ (prepareLane n r s).tam = s.tam ∧ (prepareLane n r s).bst = s.bst ∧ (prepareLane n r s).bar0 = s.bar0 ∧ (prepareLane n r s).dap = s.dap := by
  simp [prepareLane]
@[simp] theorem releaseSeal_keeps (n : Nat) (s : State) :
    (releaseSeal n s).pending = s.pending ∧ (releaseSeal n s).freeCtr = s.freeCtr ∧ (releaseSeal n s).out = s.out ∧ (releaseSeal n s).glb = s.glb ∧ (releaseSeal n s).time = s.time ∧ (releaseSeal n s).orr = s.orr ∧ (releaseSeal n s).job = s.job ∧ (releaseSeal n s).car = s.car ∧ (releaseSeal n s).hlk = s.hlk ∧ (releaseSeal n s).evt = s.evt ∧ (releaseSeal n s).wld = s.wld ∧ (releaseSeal n s).dov = s.dov ∧ (releaseSeal n s).key = s.key ∧ (releaseSeal n s).lcs = s.lcs ∧ (releaseSeal n s).eng = s.eng ∧ (releaseSeal n s).rng = s.rng ∧ (releaseSeal n s).pwr = s.pwr ∧ (releaseSeal n s).mtr = s.mtr ∧ (releaseSeal n s).msh = s.msh ∧ (releaseSeal n s).tam = s.tam ∧ (releaseSeal n s).bst = s.bst ∧ (releaseSeal n s).bar0 = s.bar0 ∧ (releaseSeal n s).dap = s.dap := by
  simp [releaseSeal]
@[simp] theorem modGroup_keeps (g : Nat) (f : TwoBank (List BankEntry) → TwoBank (List BankEntry)) (s : State) :
    (modGroup g f s).pending = s.pending ∧ (modGroup g f s).freeCtr = s.freeCtr ∧ (modGroup g f s).out = s.out ∧ (modGroup g f s).glb = s.glb ∧ (modGroup g f s).time = s.time ∧ (modGroup g f s).orr = s.orr ∧ (modGroup g f s).job = s.job ∧ (modGroup g f s).car = s.car ∧ (modGroup g f s).hlk = s.hlk ∧ (modGroup g f s).evt = s.evt ∧ (modGroup g f s).wld = s.wld ∧ (modGroup g f s).dov = s.dov ∧ (modGroup g f s).lcs = s.lcs ∧ (modGroup g f s).eng = s.eng ∧ (modGroup g f s).rng = s.rng ∧ (modGroup g f s).pwr = s.pwr ∧ (modGroup g f s).mtr = s.mtr ∧ (modGroup g f s).ldg = s.ldg ∧ (modGroup g f s).msh = s.msh ∧ (modGroup g f s).tam = s.tam ∧ (modGroup g f s).bst = s.bst ∧ (modGroup g f s).bar0 = s.bar0 ∧ (modGroup g f s).dap = s.dap := by
  simp [modGroup]
@[simp] theorem modLane_keeps (n : Nat) (g : Lane → Lane) (s : State) :
    (modLane n g s).pending = s.pending ∧ (modLane n g s).freeCtr = s.freeCtr ∧ (modLane n g s).out = s.out ∧ (modLane n g s).glb = s.glb ∧ (modLane n g s).time = s.time ∧ (modLane n g s).orr = s.orr ∧ (modLane n g s).job = s.job ∧ (modLane n g s).car = s.car ∧ (modLane n g s).hlk = s.hlk ∧ (modLane n g s).evt = s.evt ∧ (modLane n g s).wld = s.wld ∧ (modLane n g s).dov = s.dov ∧ (modLane n g s).key = s.key ∧ (modLane n g s).lcs = s.lcs ∧ (modLane n g s).eng = s.eng ∧ (modLane n g s).rng = s.rng ∧ (modLane n g s).pwr = s.pwr ∧ (modLane n g s).ldg = s.ldg ∧ (modLane n g s).msh = s.msh ∧ (modLane n g s).tam = s.tam ∧ (modLane n g s).bst = s.bst ∧ (modLane n g s).bar0 = s.bar0 ∧ (modLane n g s).dap = s.dap := by
  simp [modLane]
@[simp] theorem modWorld_keeps (w : Nat) (g : World → World) (s : State) :
    (modWorld w g s).pending = s.pending ∧ (modWorld w g s).freeCtr = s.freeCtr ∧ (modWorld w g s).out = s.out ∧ (modWorld w g s).glb = s.glb ∧ (modWorld w g s).time = s.time ∧ (modWorld w g s).orr = s.orr ∧ (modWorld w g s).job = s.job ∧ (modWorld w g s).car = s.car ∧ (modWorld w g s).hlk = s.hlk ∧ (modWorld w g s).evt = s.evt ∧ (modWorld w g s).dov = s.dov ∧ (modWorld w g s).key = s.key ∧ (modWorld w g s).lcs = s.lcs ∧ (modWorld w g s).eng = s.eng ∧ (modWorld w g s).rng = s.rng ∧ (modWorld w g s).pwr = s.pwr ∧ (modWorld w g s).mtr = s.mtr ∧ (modWorld w g s).ldg = s.ldg ∧ (modWorld w g s).msh = s.msh ∧ (modWorld w g s).tam = s.tam ∧ (modWorld w g s).bst = s.bst ∧ (modWorld w g s).bar0 = s.bar0 ∧ (modWorld w g s).dap = s.dap := by
  simp [modWorld]
@[simp] theorem modPair_keeps (p : Nat) (g : Pair → Pair) (s : State) :
    (modPair p g s).pending = s.pending ∧ (modPair p g s).freeCtr = s.freeCtr ∧ (modPair p g s).out = s.out ∧ (modPair p g s).glb = s.glb ∧ (modPair p g s).time = s.time ∧ (modPair p g s).orr = s.orr ∧ (modPair p g s).job = s.job ∧ (modPair p g s).car = s.car ∧ (modPair p g s).hlk = s.hlk ∧ (modPair p g s).evt = s.evt ∧ (modPair p g s).dov = s.dov ∧ (modPair p g s).key = s.key ∧ (modPair p g s).lcs = s.lcs ∧ (modPair p g s).eng = s.eng ∧ (modPair p g s).rng = s.rng ∧ (modPair p g s).pwr = s.pwr ∧ (modPair p g s).mtr = s.mtr ∧ (modPair p g s).ldg = s.ldg ∧ (modPair p g s).msh = s.msh ∧ (modPair p g s).tam = s.tam ∧ (modPair p g s).bst = s.bst ∧ (modPair p g s).bar0 = s.bar0 ∧ (modPair p g s).dap = s.dap := by
  rw [modPair]; repeat' split
  all_goals simp
@[simp] theorem modTin_keeps (n : Nat) (g : TamInput → TamInput) (s : State) :
    (modTin n g s).pending = s.pending ∧ (modTin n g s).freeCtr = s.freeCtr ∧ (modTin n g s).out = s.out ∧ (modTin n g s).glb = s.glb ∧ (modTin n g s).time = s.time ∧ (modTin n g s).orr = s.orr ∧ (modTin n g s).job = s.job ∧ (modTin n g s).car = s.car ∧ (modTin n g s).hlk = s.hlk ∧ (modTin n g s).evt = s.evt ∧ (modTin n g s).wld = s.wld ∧ (modTin n g s).dov = s.dov ∧ (modTin n g s).key = s.key ∧ (modTin n g s).lcs = s.lcs ∧ (modTin n g s).eng = s.eng ∧ (modTin n g s).rng = s.rng ∧ (modTin n g s).pwr = s.pwr ∧ (modTin n g s).mtr = s.mtr ∧ (modTin n g s).ldg = s.ldg ∧ (modTin n g s).msh = s.msh ∧ (modTin n g s).bst = s.bst ∧ (modTin n g s).bar0 = s.bar0 ∧ (modTin n g s).dap = s.dap := by
  simp [modTin]
@[simp] theorem askDraws_keeps (ds : List Draw) (s : State) :
    (askDraws ds s).pending = s.pending ∧ (askDraws ds s).freeCtr = s.freeCtr ∧ (askDraws ds s).out = s.out ∧ (askDraws ds s).glb = s.glb ∧ (askDraws ds s).time = s.time ∧ (askDraws ds s).orr = s.orr ∧ (askDraws ds s).job = s.job ∧ (askDraws ds s).car = s.car ∧ (askDraws ds s).hlk = s.hlk ∧ (askDraws ds s).evt = s.evt ∧ (askDraws ds s).wld = s.wld ∧ (askDraws ds s).dov = s.dov ∧ (askDraws ds s).lcs = s.lcs ∧ (askDraws ds s).eng = s.eng ∧ (askDraws ds s).rng = s.rng ∧ (askDraws ds s).pwr = s.pwr ∧ (askDraws ds s).mtr = s.mtr ∧ (askDraws ds s).ldg = s.ldg ∧ (askDraws ds s).msh = s.msh ∧ (askDraws ds s).tam = s.tam ∧ (askDraws ds s).bst = s.bst ∧ (askDraws ds s).bar0 = s.bar0 ∧ (askDraws ds s).dap = s.dap := by
  simp [askDraws]
@[simp] theorem modPath_keeps (path : Nat) (g : ReadPath → ReadPath) (s : State) :
    (modPath path g s).pending = s.pending ∧ (modPath path g s).freeCtr = s.freeCtr ∧ (modPath path g s).out = s.out ∧ (modPath path g s).glb = s.glb ∧ (modPath path g s).time = s.time ∧ (modPath path g s).orr = s.orr ∧ (modPath path g s).job = s.job ∧ (modPath path g s).car = s.car ∧ (modPath path g s).hlk = s.hlk ∧ (modPath path g s).evt = s.evt ∧ (modPath path g s).wld = s.wld ∧ (modPath path g s).dov = s.dov ∧ (modPath path g s).key = s.key ∧ (modPath path g s).lcs = s.lcs ∧ (modPath path g s).eng = s.eng ∧ (modPath path g s).rng = s.rng ∧ (modPath path g s).pwr = s.pwr ∧ (modPath path g s).mtr = s.mtr ∧ (modPath path g s).ldg = s.ldg ∧ (modPath path g s).msh = s.msh ∧ (modPath path g s).tam = s.tam ∧ (modPath path g s).bst = s.bst := by
  rw [modPath]; repeat' split
  all_goals simp
@[simp] theorem noteReserved_keeps (f a w mask : Nat) (s : State) :
    (noteReserved f a w mask s).pending = s.pending ∧ (noteReserved f a w mask s).freeCtr = s.freeCtr ∧ (noteReserved f a w mask s).out = s.out ∧ (noteReserved f a w mask s).glb = s.glb ∧ (noteReserved f a w mask s).time = s.time ∧ (noteReserved f a w mask s).orr = s.orr ∧ (noteReserved f a w mask s).job = s.job ∧ (noteReserved f a w mask s).car = s.car ∧ (noteReserved f a w mask s).wld = s.wld ∧ (noteReserved f a w mask s).dov = s.dov ∧ (noteReserved f a w mask s).key = s.key ∧ (noteReserved f a w mask s).lcs = s.lcs ∧ (noteReserved f a w mask s).eng = s.eng ∧ (noteReserved f a w mask s).rng = s.rng ∧ (noteReserved f a w mask s).pwr = s.pwr ∧ (noteReserved f a w mask s).mtr = s.mtr ∧ (noteReserved f a w mask s).ldg = s.ldg ∧ (noteReserved f a w mask s).msh = s.msh ∧ (noteReserved f a w mask s).tam = s.tam ∧ (noteReserved f a w mask s).bst = s.bst ∧ (noteReserved f a w mask s).bar0 = s.bar0 ∧ (noteReserved f a w mask s).dap = s.dap := by
  rw [noteReserved]; repeat' split
  all_goals simp

end Sys2Proof.Machine
end

