-- ==== Sys2Proof/Laws/Otp.lean ====
section
/-! SUPPORT. The fuse words are programmed by few routines (LIFECYCLE, R446): every other routine of the block leaves
`lcs.otp` as it was, one lemma per routine. -/
set_option linter.unusedTactic false
set_option linter.unreachableTactic false
namespace Sys2Proof.Machine

theorem foldl_otp {α : Type} (f : State → α → State) (h : ∀ s a, (f s a).lcs.otp = s.lcs.otp) (l : List α) (s : State) :
    (l.foldl f s).lcs.otp = s.lcs.otp := by
  induction l generalizing s with
  | nil => rfl
  | cons a l ih => simp [List.foldl, ih, h]
@[simp] theorem forEach_otp {α : Type} (f : α → State → State) (h : ∀ a s, (f a s).lcs.otp = s.lcs.otp) (l : List α) (s : State) :
    (forEach l f s).lcs.otp = s.lcs.otp :=
  foldl_otp _ (fun s a => h a s) l s
theorem ite_otp (c : Prop) [Decidable c] (a b : State) : (if c then a else b).lcs.otp = if c then a.lcs.otp else b.lcs.otp :=
  apply_ite (fun s : State => s.lcs.otp) c a b
@[simp] theorem drawFree_otp (n : Nat) (s : State) : (drawFree n s).lcs.otp = s.lcs.otp := by
  simp [drawFree]
@[simp] theorem emit_otp (o : Out) (s : State) : (emit o s).lcs.otp = s.lcs.otp := by
  simp [emit]
@[simp] theorem countLost_otp (code : Nat) (s : State) : (countLost code s).lcs.otp = s.lcs.otp := by
  simp [countLost]
@[simp] theorem raiseFrom_otp (src code sev p1 p2 p3 : Nat) (s : State) : (raiseFrom src code sev p1 p2 p3 s).lcs.otp = s.lcs.otp := by
  rw [raiseFrom]; repeat' split
  all_goals simp
@[simp] theorem raiseEv_otp (code sev p1 p2 p3 : Nat) (s : State) : (raiseEv code sev p1 p2 p3 s).lcs.otp = s.lcs.otp := by
  simp [raiseEv]
@[simp] theorem setFn_otp (f : Nat) (x : Fn) (s : State) : (setFn f x s).lcs.otp = s.lcs.otp := by
  simp [setFn]
@[simp] theorem modFn_otp (f : Nat) (g : Fn → Fn) (s : State) : (modFn f g s).lcs.otp = s.lcs.otp := by
  simp [modFn]
@[simp] theorem modSq_otp (f n : Nat) (g : Sq → Sq) (s : State) : (modSq f n g s).lcs.otp = s.lcs.otp := by
  simp [modSq]
@[simp] theorem modCq_otp (f n : Nat) (g : Cq → Cq) (s : State) : (modCq f n g s).lcs.otp = s.lcs.otp := by
  simp [modCq]
@[simp] theorem signal_otp (f v : Nat) (s : State) : (signal f v s).lcs.otp = s.lcs.otp := by
  rw [signal]; repeat' split
  all_goals simp
@[simp] theorem setAttn_otp (b f : Nat) (s : State) : (setAttn b f s).lcs.otp = s.lcs.otp := by
  (first | rw [setAttn] | unfold setAttn); (try dsimp only); repeat' split
  all_goals first | (simp; done) | (repeat' (first | (intro _) | split | (with_reducible refine (forEach_otp _ ?_ _ _).trans ?_) | (with_reducible refine (foldl_otp _ ?_ _ _).trans ?_) | simp))
@[simp] theorem attnAll_otp (b : Nat) (s : State) : (attnAll b s).lcs.otp = s.lcs.otp := by
  simp [attnAll]
@[simp] theorem watched_otp (g : State → State) (h : ∀ s, (g s).lcs.otp = s.lcs.otp) (s : State) : (watched g s).lcs.otp = s.lcs.otp := by
  unfold watched; dsimp only; simp only [ite_otp, attnAll_otp, h, ite_self]
@[simp] theorem holdNotice_otp (f : Nat) (n : Notice) (s : State) : (holdNotice f n s).lcs.otp = s.lcs.otp := by
  rw [holdNotice]; repeat' split
  all_goals simp
@[simp] theorem notify_otp (type subject p0 p1 p2 p3 : Nat) (f : Nat) (s : State) : (notify type subject p0 p1 p2 p3 f s).lcs.otp = s.lcs.otp := by
  simp [notify]
@[simp] theorem notifyCab_otp (type subject p0 p1 p2 p3 : Nat) (c : Nat) (s : State) : (notifyCab type subject p0 p1 p2 p3 c s).lcs.otp = s.lcs.otp := by
  simp [notifyCab]
@[simp] theorem notifyZeroAndCab_otp (type subject p0 p1 p2 p3 : Nat) (c : Nat) (s : State) : (notifyZeroAndCab type subject p0 p1 p2 p3 c s).lcs.otp = s.lcs.otp := by
  simp [notifyZeroAndCab]
@[simp] theorem entryWritten_otp (f n : Nat) (s : State) : (entryWritten f n s).lcs.otp = s.lcs.otp := by
  rw [entryWritten]; repeat' split
  all_goals simp
@[simp] theorem writeEntry_otp (f n : Nat) (e : Bool → Completion) (s : State) : (writeEntry f n e s).lcs.otp = s.lcs.otp := by
  rw [writeEntry]; repeat' split
  all_goals simp
@[simp] theorem giveBack_otp (f n k : Nat) (s : State) : (giveBack f n k s).lcs.otp = s.lcs.otp := by
  (first | rw [giveBack] | unfold giveBack); (try dsimp only); repeat' split
  all_goals first | (simp; done) | (repeat' (first | (intro _) | split | (with_reducible refine (forEach_otp _ ?_ _ _).trans ?_) | (with_reducible refine (foldl_otp _ ?_ _ _).trans ?_) | simp))
@[simp] theorem modTile_otp (t : Nat) (g : Tile → Tile) (s : State) : (modTile t g s).lcs.otp = s.lcs.otp := by
  simp [modTile]
@[simp] theorem modSource_otp (n : Nat) (g : Source → Source) (s : State) : (modSource n g s).lcs.otp = s.lcs.otp := by
  simp [modSource]
@[simp] theorem modJob_otp (j : Nat) (g : Job → Job) (s : State) : (modJob j g s).lcs.otp = s.lcs.otp := by
  simp [modJob]
@[simp] theorem jobEntry_otp (j : Nat) (x : Job) (e : Bool → Completion) (s : State) : (jobEntry j x e s).lcs.otp = s.lcs.otp := by
  (first | rw [jobEntry] | unfold jobEntry); (try dsimp only); repeat' split
  all_goals first | (simp; done) | (repeat' (first | (intro _) | split | (with_reducible refine (forEach_otp _ ?_ _ _).trans ?_) | (with_reducible refine (foldl_otp _ ?_ _ _).trans ?_) | simp))
@[simp] theorem setCharge_otp (a : Account) (bulk : Bool) (v : Nat) (s : State) : (setCharge a bulk v s).lcs.otp = s.lcs.otp := by
  simp [setCharge]
@[simp] theorem dropHolds_otp (j : Nat) (s : State) : (dropHolds j s).lcs.otp = s.lcs.otp := by
  simp [dropHolds]
@[simp] theorem markFinished_otp (j : Nat) (s : State) : (markFinished j s).lcs.otp = s.lcs.otp := by
  simp [markFinished]
@[simp] theorem releaseReserve_otp (j : Nat) (s : State) : (releaseReserve j s).lcs.otp = s.lcs.otp := by
  (first | rw [releaseReserve] | unfold releaseReserve); (try dsimp only); repeat' split
  all_goals first | (simp; done) | (repeat' (first | (intro _) | split | (with_reducible refine (forEach_otp _ ?_ _ _).trans ?_) | (with_reducible refine (foldl_otp _ ?_ _ _).trans ?_) | simp))
@[simp] theorem endJob_otp (j status w0 w1 w2 : Nat) (s : State) : (endJob j status w0 w1 w2 s).lcs.otp = s.lcs.otp := by
  rw [endJob]; repeat' split
  all_goals simp
@[simp] theorem dropJob_otp (j : Nat) (s : State) : (dropJob j s).lcs.otp = s.lcs.otp := by
  simp [dropJob]
@[simp] theorem ringFaultEvent_otp (f ring error : Nat) (s : State) : (ringFaultEvent f ring error s).lcs.otp = s.lcs.otp := by
  simp [ringFaultEvent]
@[simp] theorem dropSqJobs_otp (f n : Nat) (s : State) : (dropSqJobs f n s).lcs.otp = s.lcs.otp := by
  simp [dropSqJobs]
@[simp] theorem faultSq_otp (f n error : Nat) (s : State) : (faultSq f n error s).lcs.otp = s.lcs.otp := by
  simp [faultSq]
@[simp] theorem faultCq_otp (f n error : Nat) (s : State) : (faultCq f n error s).lcs.otp = s.lcs.otp := by
  simp [faultCq]
@[simp] theorem sqEnable_otp (f n : Nat) (w : Nat) (s : State) : (sqEnable f n w s).lcs.otp = s.lcs.otp := by
  (first | rw [sqEnable] | unfold sqEnable); (try dsimp only); repeat' split
  all_goals first | (simp; done) | (repeat' (first | (intro _) | split | (with_reducible refine (forEach_otp _ ?_ _ _).trans ?_) | (with_reducible refine (foldl_otp _ ?_ _ _).trans ?_) | simp))
@[simp] theorem cqEnable_otp (f n : Nat) (w : Nat) (s : State) : (cqEnable f n w s).lcs.otp = s.lcs.otp := by
  (first | rw [cqEnable] | unfold cqEnable); (try dsimp only); repeat' split
  all_goals first | (simp; done) | (repeat' (first | (intro _) | split | (with_reducible refine (forEach_otp _ ?_ _ _).trans ?_) | (with_reducible refine (foldl_otp _ ?_ _ _).trans ?_) | simp))
@[simp] theorem releaseCredits_otp (f n : Nat) (s : State) : (releaseCredits f n s).lcs.otp = s.lcs.otp := by
  simp [releaseCredits]
@[simp] theorem orphanJobs_otp (gone : Job → Bool) (s : State) : (orphanJobs gone s).lcs.otp = s.lcs.otp := by
  (first | rw [orphanJobs] | unfold orphanJobs); (try dsimp only); repeat' split
  all_goals first | (simp; done) | (repeat' (first | (intro _) | split | (with_reducible refine (forEach_otp _ ?_ _ _).trans ?_) | (with_reducible refine (foldl_otp _ ?_ _ _).trans ?_) | simp))
@[simp] theorem sqOff_otp (f n : Nat) (s : State) : (sqOff f n s).lcs.otp = s.lcs.otp := by
  (first | rw [sqOff] | unfold sqOff); (try dsimp only); repeat' split
  all_goals first | (simp; done) | (repeat' (first | (intro _) | split | (with_reducible refine (forEach_otp _ ?_ _ _).trans ?_) | (with_reducible refine (foldl_otp _ ?_ _ _).trans ?_) | simp))
@[simp] theorem settleSq_otp (f n : Nat) (s : State) : (settleSq f n s).lcs.otp = s.lcs.otp := by
  rw [settleSq]; repeat' split
  all_goals simp
@[simp] theorem settleAll_otp (s : State) : (settleAll s).lcs.otp = s.lcs.otp := by
  simp [settleAll]
@[simp] theorem sqDisable_otp (f n : Nat) (w : Nat) (s : State) : (sqDisable f n w s).lcs.otp = s.lcs.otp := by
  rw [sqDisable]; repeat' split
  all_goals simp
@[simp] theorem cqDisable_otp (f n : Nat) (w : Nat) (s : State) : (cqDisable f n w s).lcs.otp = s.lcs.otp := by
  rw [cqDisable]; repeat' split
  all_goals simp
@[simp] theorem logIgnored_otp (f ring st : Nat) (logged : Bool) (s : State) : (logIgnored f ring st logged s).lcs.otp = s.lcs.otp := by
  rw [logIgnored]; repeat' split
  all_goals simp
@[simp] theorem sqDoorbell_otp (f n : Nat) (count : Word) (cycle : Nat) (s : State) : (sqDoorbell f n count cycle s).lcs.otp = s.lcs.otp := by
  rw [sqDoorbell]; repeat' split
  all_goals simp
@[simp] theorem cqDoorbell_otp (f n : Nat) (count : Word) (s : State) : (cqDoorbell f n count s).lcs.otp = s.lcs.otp := by
  rw [cqDoorbell]; repeat' split
  all_goals simp
@[simp] theorem passTurn_otp (f n : Nat) (s : State) : (passTurn f n s).lcs.otp = s.lcs.otp := by
  (first | rw [passTurn] | unfold passTurn); (try dsimp only); repeat' split
  all_goals first | (simp; done) | (repeat' (first | (intro _) | split | (with_reducible refine (forEach_otp _ ?_ _ _).trans ?_) | (with_reducible refine (foldl_otp _ ?_ _ _).trans ?_) | simp))
@[simp] theorem creditlessAnswer_otp (f n : Nat) (bs : List Byte) (s : State) : (creditlessAnswer f n bs s).lcs.otp = s.lcs.otp := by
  rw [creditlessAnswer]; repeat' split
  all_goals simp
@[simp] theorem grantLoop_otp (f n k : Nat) (s : State) : (grantLoop f n k s).lcs.otp = s.lcs.otp := by
  induction k generalizing s with
  | zero => rfl
  | succ k ih => simp only [grantLoop]; split; swap; · rfl
                 rw [ih]; split <;> simp
@[simp] theorem grantFn_otp (f : Nat) (s : State) : (grantFn f s).lcs.otp = s.lcs.otp := by
  have e : (forEach (grantRings (s.fnOf f)) (fun n s => grantLoop f n (s.sqOf f n).withheld s) s).lcs.otp = s.lcs.otp := by
    refine forEach_otp _ ?_ _ _; intro n s; exact grantLoop_otp ..
  rw [grantFn]; split <;> simp [e]
@[simp] theorem creditJob_otp (e : Nat × Job) (s : State) : (creditJob e s).lcs.otp = s.lcs.otp := by
  (first | rw [creditJob] | unfold creditJob); (try dsimp only); repeat' split
  all_goals first | (simp; done) | (repeat' (first | (intro _) | split | (with_reducible refine (forEach_otp _ ?_ _ _).trans ?_) | (with_reducible refine (foldl_otp _ ?_ _ _).trans ?_) | simp))
@[simp] theorem creditBatch_otp (s : State) : (creditBatch s).lcs.otp = s.lcs.otp := by
  rw [creditBatch]; repeat' split
  all_goals simp
@[simp] theorem signalCredits_otp (old s : State) : (signalCredits old s).lcs.otp = s.lcs.otp := by
  (first | rw [signalCredits] | unfold signalCredits); (try dsimp only); repeat' split
  all_goals first | (simp; done) | (repeat' (first | (intro _) | split | (with_reducible refine (forEach_otp _ ?_ _ _).trans ?_) | (with_reducible refine (foldl_otp _ ?_ _ _).trans ?_) | simp))
@[simp] theorem writeStatusBlock_otp (f : Nat) (s : State) : (writeStatusBlock f s).lcs.otp = s.lcs.otp := by
  simp [writeStatusBlock]
@[simp] theorem statusBlocks_otp (s : State) : (statusBlocks s).lcs.otp = s.lcs.otp := by
  (first | rw [statusBlocks] | unfold statusBlocks); (try dsimp only); repeat' split
  all_goals first | (simp; done) | (repeat' (first | (intro _) | split | (with_reducible refine (forEach_otp _ ?_ _ _).trans ?_) | (with_reducible refine (foldl_otp _ ?_ _ _).trans ?_) | simp))
@[simp] theorem statusBlockEnable_otp (f w : Nat) (s : State) : (statusBlockEnable f w s).lcs.otp = s.lcs.otp := by
  simp [statusBlockEnable]
@[simp] theorem fnAttnClear_otp (f w : Nat) (s : State) : (fnAttnClear f w s).lcs.otp = s.lcs.otp := by
  simp [fnAttnClear]
@[simp] theorem writeNotice_otp (f : Nat) (s : State) : (writeNotice f s).lcs.otp = s.lcs.otp := by
  (first | rw [writeNotice] | unfold writeNotice); (try dsimp only); repeat' split
  all_goals first | (simp; done) | (repeat' (first | (intro _) | split | (with_reducible refine (forEach_otp _ ?_ _ _).trans ?_) | (with_reducible refine (foldl_otp _ ?_ _ _).trans ?_) | simp))
@[simp] theorem writeNotices_otp (s : State) : (writeNotices s).lcs.otp = s.lcs.otp := by
  (first | rw [writeNotices] | unfold writeNotices); (try dsimp only); repeat' split
  all_goals first | (simp; done) | (repeat' (first | (intro _) | split | (with_reducible refine (forEach_otp _ ?_ _ _).trans ?_) | (with_reducible refine (foldl_otp _ ?_ _ _).trans ?_) | simp))
@[simp] theorem noticeWrite_otp (f : Nat) (s : State) : (noticeWrite f s).lcs.otp = s.lcs.otp := by
  rw [noticeWrite]; repeat' split
  all_goals simp
@[simp] theorem badAccess_otp (f offset size : Nat) (write : Bool) (s : State) : (badAccess f offset size write s).lcs.otp = s.lcs.otp := by
  rw [badAccess]; repeat' split
  all_goals simp
@[simp] theorem flushPending_otp (f : Nat) (s : State) : (flushPending f s).lcs.otp = s.lcs.otp := by
  (first | rw [flushPending] | unfold flushPending); (try dsimp only); repeat' split
  all_goals first | (simp; done) | (repeat' (first | (intro _) | split | (with_reducible refine (forEach_otp _ ?_ _ _).trans ?_) | (with_reducible refine (foldl_otp _ ?_ _ _).trans ?_) | simp))
@[simp] theorem writeHost_otp (addr : Nat) (bs : List Byte) (s : State) : (writeHost addr bs s).lcs.otp = s.lcs.otp := by
  simp [writeHost]
@[simp] theorem freezeMaster_otp (kind number cause addr : Nat) (tag : Word) (offender : Option Nat) (s : State) : (freezeMaster kind number cause addr tag offender s).lcs.otp = s.lcs.otp := by
  rw [freezeMaster]; repeat' split
  all_goals simp
@[simp] theorem thawMaster_otp (kind number cab : Nat) (s : State) : (thawMaster kind number cab s).lcs.otp = s.lcs.otp := by
  rw [thawMaster]; repeat' split
  all_goals simp
@[simp] theorem pageWanted_otp (f page : Nat) (tag : Word) (s : State) : (pageWanted f page tag s).lcs.otp = s.lcs.otp := by
  simp [pageWanted]
@[simp] theorem parkJob_otp (j page right ran : Nat) (s : State) : (parkJob j page right ran s).lcs.otp = s.lcs.otp := by
  (first | rw [parkJob] | unfold parkJob); (try dsimp only); repeat' split
  all_goals first | (simp; done) | (repeat' (first | (intro _) | split | (with_reducible refine (forEach_otp _ ?_ _ _).trans ?_) | (with_reducible refine (foldl_otp _ ?_ _ _).trans ?_) | simp))
@[simp] theorem pruneWanted_otp (s : State) : (pruneWanted s).lcs.otp = s.lcs.otp := by
  simp [pruneWanted]
@[simp] theorem abandonJob_otp (j page : Nat) (s : State) : (abandonJob j page s).lcs.otp = s.lcs.otp := by
  rw [abandonJob]; repeat' split
  all_goals simp
@[simp] theorem releaseJob_otp (j : Nat) (s : State) : (releaseJob j s).lcs.otp = s.lcs.otp := by
  rw [releaseJob]; repeat' split
  all_goals simp
@[simp] theorem releaseCounted_otp (pages : List Nat) (s : State) : (releaseCounted pages s).1.lcs.otp = s.lcs.otp := by
  have key : ∀ (l : List (Nat × Job)) (a : State × Nat),
      (l.foldl (fun (a : State × Nat) e => if leavesPark a.1 e.1 then (releaseJob e.1 a.1, a.2 + 1) else a) a).1.lcs.otp = a.1.lcs.otp := by
    intro l; induction l with
    | nil => intro a; rfl
    | cons e l ih => intro a; rw [List.foldl_cons, ih]; split <;> simp
  exact key _ _
@[simp] theorem releasePages_otp (pages : List Nat) (s : State) : (releasePages pages s).lcs.otp = s.lcs.otp := by
  simp [releasePages]
theorem writeBacking_otp (j : Nat) (x : Job) (addr : Nat) (bs : List Byte) (k : State → State) (h : ∀ s, (k s).lcs.otp = s.lcs.otp)
    (s : State) : (writeBacking j x addr bs k s).lcs.otp = s.lcs.otp := by
  unfold writeBacking; dsimp only; repeat' split
  all_goals simp [h]
@[simp] theorem dmaRequest_otp (r : DmaReq) (s : State) : (dmaRequest r s).lcs.otp = s.lcs.otp := by
  rw [dmaRequest]; repeat' split
  all_goals simp
@[simp] theorem releaseFinished_otp (s : State) : (releaseFinished s).lcs.otp = s.lcs.otp := by
  (first | rw [releaseFinished] | unfold releaseFinished); (try dsimp only); repeat' split
  all_goals first | (simp; done) | (repeat' (first | (intro _) | split | (with_reducible refine (forEach_otp _ ?_ _ _).trans ?_) | (with_reducible refine (foldl_otp _ ?_ _ _).trans ?_) | simp))
@[simp] theorem setResult_otp (j : Nat) (r : Result) (s : State) : (setResult j r s).lcs.otp = s.lcs.otp := by
  simp [setResult]
@[simp] theorem failJob_otp (j status w0 w1 w2 : Nat) (s : State) : (failJob j status w0 w1 w2 s).lcs.otp = s.lcs.otp := by
  simp [failJob]
@[simp] theorem potChange_otp (page : Nat) (e : Option PageEntry) (s : State) : (potChange page e s).lcs.otp = s.lcs.otp := by
  simp [potChange]
@[simp] theorem pageCommand_otp (j op : Nat) (s : State) : (pageCommand j op s).lcs.otp = s.lcs.otp := by
  (first | rw [pageCommand] | unfold pageCommand); (try dsimp only); repeat' split
  all_goals first | (simp; done) | (repeat' (first | (intro _) | split | (with_reducible refine (forEach_otp _ ?_ _ _).trans ?_) | (with_reducible refine (foldl_otp _ ?_ _ _).trans ?_) | simp))
@[simp] theorem nopJob_otp (j : Nat) (s : State) : (nopJob j s).lcs.otp = s.lcs.otp := by
  rw [nopJob]; repeat' split
  all_goals simp
@[simp] theorem pageQuery_otp (j : Nat) (s : State) : (pageQuery j s).lcs.otp = s.lcs.otp := by
  rw [pageQuery]; repeat' split
  all_goals simp
@[simp] theorem pageWantedRepeat_otp (f page : Nat) (s : State) : (pageWantedRepeat f page s).lcs.otp = s.lcs.otp := by
  rw [pageWantedRepeat]; repeat' split
  all_goals simp
@[simp] theorem pageAbandonTimeout_otp (j : Nat) (s : State) : (pageAbandonTimeout j s).lcs.otp = s.lcs.otp := by
  rw [pageAbandonTimeout]; repeat' split
  all_goals simp
@[simp] theorem latchCapacity_otp (s : State) : (latchCapacity s).lcs.otp = s.lcs.otp := by
  (first | rw [latchCapacity] | unfold latchCapacity); (try dsimp only); repeat' split
  all_goals first | (simp; done) | (repeat' (first | (intro _) | split | (with_reducible refine (forEach_otp _ ?_ _ _).trans ?_) | (with_reducible refine (foldl_otp _ ?_ _ _).trans ?_) | simp))
@[simp] theorem refuseBudget_otp (j : Nat) (x : Job) (maskOnly : Bool) (s : State) : (refuseBudget j x maskOnly s).lcs.otp = s.lcs.otp := by
  (first | rw [refuseBudget] | unfold refuseBudget); (try dsimp only); repeat' split
  all_goals first | (simp; done) | (repeat' (first | (intro _) | split | (with_reducible refine (forEach_otp _ ?_ _ _).trans ?_) | (with_reducible refine (foldl_otp _ ?_ _ _).trans ?_) | simp))
@[simp] theorem claiming_otp (g : Nat → State → State) (h : ∀ j s, (g j s).lcs.otp = s.lcs.otp) (j : Nat) (s : State) : (claiming g j s).lcs.otp = s.lcs.otp := by
  unfold claiming; dsimp only; repeat' split
  all_goals simp [h]
@[simp] theorem planPrompt_otp (j : Nat) (s : State) : (planPrompt j s).lcs.otp = s.lcs.otp := by
  rw [planPrompt]; repeat' split
  all_goals simp
@[simp] theorem reserveDrawer_otp (j n : Nat) (s : State) : (reserveDrawer j n s).lcs.otp = s.lcs.otp := by
  simp [reserveDrawer]
@[simp] theorem admitWith_otp (j : Nat) (a : Account) (plan : List Booking) (s : State) : (admitWith j a plan s).lcs.otp = s.lcs.otp := by
  (first | rw [admitWith] | unfold admitWith); (try dsimp only); repeat' split
  all_goals first | (simp; done) | (repeat' (first | (intro _) | split | (with_reducible refine (forEach_otp _ ?_ _ _).trans ?_) | (with_reducible refine (foldl_otp _ ?_ _ _).trans ?_) | simp))
@[simp] theorem planTimely_otp (j : Nat) (s : State) : (planTimely j s).lcs.otp = s.lcs.otp := by
  (first | rw [planTimely] | unfold planTimely); (try dsimp only); repeat' split
  all_goals first | (simp; done) | (repeat' (first | (intro _) | split | (with_reducible refine (forEach_otp _ ?_ _ _).trans ?_) | (with_reducible refine (foldl_otp _ ?_ _ _).trans ?_) | simp))
@[simp] theorem replanTimely_otp (j : Nat) (s : State) : (replanTimely j s).lcs.otp = s.lcs.otp := by
  unfold replanTimely; dsimp only; repeat' split
  all_goals first | (simp; done) | (split <;> simp)
@[simp] theorem useIdle_otp (j : Nat) (s : State) : (useIdle j s).lcs.otp = s.lcs.otp := by
  rw [useIdle]; repeat' split
  all_goals simp
@[simp] theorem countService_otp (cab cls cycles : Nat) (s : State) : (countService cab cls cycles s).lcs.otp = s.lcs.otp := by
  simp [countService]
@[simp] theorem bookBulk_otp (j : Nat) (x : Job) (a : Account) (b : Booking) (s : State) : (bookBulk j x a b s).lcs.otp = s.lcs.otp := by
  unfold bookBulk; dsimp only; split
  · simp
  · cases a <;> split <;> simp
@[simp] theorem admitBulk_otp (j : Nat) (x : Job) (a : Account) (b : Option Booking) (s : State) : (admitBulk j x a b s).lcs.otp = s.lcs.otp := by
  unfold admitBulk; extract_lets plan g home tile whole s1 s2
  have e : s1.lcs.otp = s.lcs.otp := by
    simp only [s1]; split <;> simp
  split
  · simp
  · rw [modJob_otp]; simp only [s2]; rw [setCharge_otp, reserveDrawer_otp, e]
@[simp] theorem planBulkJob_otp (j : Nat) (s : State) : (planBulkJob j s).lcs.otp = s.lcs.otp := by
  (first | rw [planBulkJob] | unfold planBulkJob); (try dsimp only); repeat' split
  all_goals first | (simp; done) | (repeat' (first | (intro _) | split | (with_reducible refine (forEach_otp _ ?_ _ _).trans ?_) | (with_reducible refine (foldl_otp _ ?_ _ _).trans ?_) | simp))
@[simp] theorem planBulk_otp (n : Nat) (l : List Nat) (s : State) : (planBulk n l s).lcs.otp = s.lcs.otp := by
  induction n generalizing l s with
  | zero => rfl
  | succ n ih => unfold planBulk; split <;> simp [ih]
@[simp] theorem planManagement_otp (j : Nat) (s : State) : (planManagement j s).lcs.otp = s.lcs.otp := by
  simp [planManagement]
@[simp] theorem planCommit_otp (j : Nat) (s : State) : (planCommit j s).lcs.otp = s.lcs.otp := by
  (first | rw [planCommit] | unfold planCommit); (try dsimp only); repeat' split
  all_goals first | (simp; done) | (repeat' (first | (intro _) | split | (with_reducible refine (forEach_otp _ ?_ _ _).trans ?_) | (with_reducible refine (foldl_otp _ ?_ _ _).trans ?_) | simp))
@[simp] theorem planConditioned_otp (j : Nat) (x : Job) (s : State) : (planConditioned j x s).lcs.otp = s.lcs.otp := by
  rw [planConditioned]; repeat' split
  all_goals simp
@[simp] theorem planTap_otp (j : Nat) (x : Job) (s : State) : (planTap j x s).lcs.otp = s.lcs.otp := by
  (first | rw [planTap] | unfold planTap); (try dsimp only); repeat' split
  all_goals first | (simp; done) | (repeat' (first | (intro _) | split | (with_reducible refine (forEach_otp _ ?_ _ _).trans ?_) | (with_reducible refine (foldl_otp _ ?_ _ _).trans ?_) | simp))
@[simp] theorem planPortJob_otp (j : Nat) (s : State) : (planPortJob j s).lcs.otp = s.lcs.otp := by
  (first | rw [planPortJob] | unfold planPortJob); (try dsimp only); repeat' split
  all_goals first | (simp; done) | (repeat' (first | (intro _) | split | (with_reducible refine (forEach_otp _ ?_ _ _).trans ?_) | (with_reducible refine (foldl_otp _ ?_ _ _).trans ?_) | simp))
@[simp] theorem planPort_otp (s : State) : (planPort s).lcs.otp = s.lcs.otp := by
  simp [planPort]
theorem withNextPoints_otp (ts : List Nat) (f : State → State) (h : ∀ s, (f s).lcs.otp = s.lcs.otp) (s : State) :
    (withNextPoints ts f s).lcs.otp = s.lcs.otp := by
  simp [withNextPoints, h]
@[simp] theorem planAll_otp (s : State) : (planAll s).lcs.otp = s.lcs.otp := by
  (first | rw [planAll] | unfold planAll); (try dsimp only); repeat' split
  all_goals first | (simp; done) | (repeat' (first | (intro _) | split | (with_reducible refine (forEach_otp _ ?_ _ _).trans ?_) | (with_reducible refine (foldl_otp _ ?_ _ _).trans ?_) | simp))
@[simp] theorem planBooks_otp (s : State) : (planBooks s).lcs.otp = s.lcs.otp := by
  (first | rw [planBooks] | unfold planBooks); (try dsimp only); repeat' split
  all_goals first | (simp; done) | (repeat' (first | (intro _) | split | (with_reducible refine (forEach_otp _ ?_ _ _).trans ?_) | (with_reducible refine (foldl_otp _ ?_ _ _).trans ?_) | simp))
@[simp] theorem reportMask_otp (s : State) : (reportMask s).lcs.otp = s.lcs.otp := by
  (first | rw [reportMask] | unfold reportMask); (try dsimp only); repeat' split
  all_goals first | (simp; done) | (repeat' (first | (intro _) | split | (with_reducible refine (forEach_otp _ ?_ _ _).trans ?_) | (with_reducible refine (foldl_otp _ ?_ _ _).trans ?_) | simp))
@[simp] theorem endSlices_otp (s : State) : (endSlices s).lcs.otp = s.lcs.otp := by
  (first | rw [endSlices] | unfold endSlices); (try dsimp only); repeat' split
  all_goals first | (simp; done) | (repeat' (first | (intro _) | split | (with_reducible refine (forEach_otp _ ?_ _ _).trans ?_) | (with_reducible refine (foldl_otp _ ?_ _ _).trans ?_) | simp))
@[simp] theorem planTail_otp (s : State) : (planTail s).lcs.otp = s.lcs.otp := by
  simp [planTail, withNextPoints_otp]
@[simp] theorem abandonTimely_otp (s : State) : (abandonTimely s).lcs.otp = s.lcs.otp := by
  (first | rw [abandonTimely] | unfold abandonTimely); (try dsimp only); repeat' split
  all_goals first | (simp; done) | (repeat' (first | (intro _) | split | (with_reducible refine (forEach_otp _ ?_ _ _).trans ?_) | (with_reducible refine (foldl_otp _ ?_ _ _).trans ?_) | simp))
@[simp] theorem writeAnswers_otp (s : State) : (writeAnswers s).lcs.otp = s.lcs.otp := by
  (first | rw [writeAnswers] | unfold writeAnswers); (try dsimp only); repeat' split
  all_goals first | (simp; done) | (repeat' (first | (intro _) | split | (with_reducible refine (forEach_otp _ ?_ _ _).trans ?_) | (with_reducible refine (foldl_otp _ ?_ _ _).trans ?_) | simp))
@[simp] theorem startSlices_otp (s : State) : (startSlices s).lcs.otp = s.lcs.otp := by
  simp [startSlices]
@[simp] theorem changePoints_otp (s : State) : (changePoints s).lcs.otp = s.lcs.otp := by
  unfold changePoints; apply forEach_otp; intro t s; dsimp only; split <;> simp
@[simp] theorem unplan_otp (j : Nat) (s : State) : (unplan j s).lcs.otp = s.lcs.otp := by
  (first | rw [unplan] | unfold unplan); (try dsimp only); repeat' split
  all_goals first | (simp; done) | (repeat' (first | (intro _) | split | (with_reducible refine (forEach_otp _ ?_ _ _).trans ?_) | (with_reducible refine (foldl_otp _ ?_ _ _).trans ?_) | simp))
theorem placeNow_otp {s t : State} {j : Nat} {x : Job} (h : placeNow s j x = some t) : t.lcs.otp = s.lcs.otp := by
  have map : ∀ {α : Type} {o : Option α} {f : α → Job → Job}, o.map (fun a => modJob j (f a) s) = some t → t.lcs.otp = s.lcs.otp := by
    intro α o f h; obtain ⟨a, -, rfl⟩ := Option.map_eq_some_iff.1 h; simp
  unfold placeNow at h; dsimp only at h; (repeat' split at h)
  all_goals first | (exact map h) | (simp at h; done) | (injection h with h; subst h; simp)
@[simp] theorem loseSlice_otp (j : Nat) (x : Job) (s : State) : (loseSlice j x s).lcs.otp = s.lcs.otp := by
  (first | rw [loseSlice] | unfold loseSlice); (try dsimp only); repeat' split
  all_goals first | (simp; done) | (repeat' (first | (intro _) | split | (with_reducible refine (forEach_otp _ ?_ _ _).trans ?_) | (with_reducible refine (foldl_otp _ ?_ _ _).trans ?_) | simp))
@[simp] theorem resettle_otp (n : Nat) (l : List (Nat × Nat)) (s : State) : (resettle n l s).lcs.otp = s.lcs.otp := by
  induction n generalizing l s with
  | zero => simp [resettle]
  | succ n ih =>
    cases l with
    | nil => simp [resettle]
    | cons a l =>
      obtain ⟨r, j⟩ := a
      unfold resettle; split
      · exact ih ..
      · split
        · rename_i h; rw [ih]; exact placeNow_otp h
        · split <;> simp [ih]
@[simp] theorem revisePlans_otp (s : State) : (revisePlans s).lcs.otp = s.lcs.otp := by
  simp [revisePlans]
@[simp] theorem holdClipped_otp (cabs : Nat) (s : State) : (holdClipped cabs s).lcs.otp = s.lcs.otp := by
  simp [holdClipped]
@[simp] theorem announceClipped_otp (cabs classes : Nat) (s : State) : (announceClipped cabs classes s).lcs.otp = s.lcs.otp := by
  simp [announceClipped]
@[simp] theorem reportClipped_otp (s : State) : (reportClipped s).lcs.otp = s.lcs.otp := by
  rw [reportClipped]; repeat' split
  all_goals simp
@[simp] theorem operandStaged_otp (j : Nat) (input aux extra : List Byte) (s : State) : (operandStaged j input aux extra s).lcs.otp = s.lcs.otp := by
  rw [operandStaged]; repeat' split
  all_goals simp
@[simp] theorem countOver_otp (code sev : Nat) (s : State) : (countOver code sev s).lcs.otp = s.lcs.otp := by
  simp [countOver]
@[simp] theorem journalQueue_otp (r : Record) (s : State) : (journalQueue r s).lcs.otp = s.lcs.otp := by
  rw [journalQueue]; repeat' split
  all_goals simp
@[simp] theorem place_otp (r : Record) (s : State) : (place r s).lcs.otp = s.lcs.otp := by
  rw [place]; repeat' split
  all_goals simp
@[simp] theorem eventIntake_otp (s : State) : (eventIntake s).lcs.otp = s.lcs.otp := by
  rw [eventIntake]; repeat' split
  all_goals simp
@[simp] theorem ackRing_otp (w : Word) (s : State) : (ackRing w s).lcs.otp = s.lcs.otp := by
  rw [ackRing]; repeat' split
  all_goals simp
@[simp] theorem ackJournal_otp (w : Word) (s : State) : (ackJournal w s).lcs.otp = s.lcs.otp := by
  rw [ackJournal]; repeat' split
  all_goals simp
@[simp] theorem selectRecord_otp (w : Word) (s : State) : (selectRecord w s).lcs.otp = s.lcs.otp := by
  rw [selectRecord]; repeat' split
  all_goals simp
theorem inOneCycle_otp (f : State → State) (h : ∀ s, (f s).lcs.otp = s.lcs.otp) (s : State) : (inOneCycle f s).lcs.otp = s.lcs.otp := by
  simp [inOneCycle, h]
@[simp] theorem eventSnapshot_otp (j : Nat) (s : State) : (eventSnapshot j s).lcs.otp = s.lcs.otp := by
  rw [eventSnapshot]; repeat' split
  all_goals simp
@[simp] theorem journalRead_otp (j : Nat) (s : State) : (journalRead j s).lcs.otp = s.lcs.otp := by
  rw [journalRead]; repeat' split
  all_goals simp
@[simp] theorem openBlock_otp (first : Word) (s : State) : (openBlock first s).lcs.otp = s.lcs.otp := by
  (first | rw [openBlock] | unfold openBlock); (try dsimp only); repeat' split
  all_goals first | (simp; done) | (repeat' (first | (intro _) | split | (with_reducible refine (forEach_otp _ ?_ _ _).trans ?_) | (with_reducible refine (foldl_otp _ ?_ _ _).trans ?_) | simp))
@[simp] theorem appendJournal_otp (r : Record) (s : State) : (appendJournal r s).lcs.otp = s.lcs.otp := by
  rw [appendJournal]; repeat' split
  all_goals simp
@[simp] theorem journalProgram_otp (ok : Bool) (s : State) : (journalProgram ok s).lcs.otp = s.lcs.otp := by
  (first | rw [journalProgram] | unfold journalProgram); (try dsimp only); repeat' split
  all_goals first | (simp; done) | (repeat' (first | (intro _) | split | (with_reducible refine (forEach_otp _ ?_ _ _).trans ?_) | (with_reducible refine (foldl_otp _ ?_ _ _).trans ?_) | simp))
@[simp] theorem ringPressure_otp (s : State) : (ringPressure s).lcs.otp = s.lcs.otp := by
  rw [ringPressure]; repeat' split
  all_goals simp
@[simp] theorem recordsLost_otp (s : State) : (recordsLost s).lcs.otp = s.lcs.otp := by
  rw [recordsLost]; repeat' split
  all_goals simp
@[simp] theorem timeAnchor_otp (s : State) : (timeAnchor s).lcs.otp = s.lcs.otp := by
  rw [timeAnchor]; repeat' split
  all_goals simp
@[simp] theorem ppsEdge_otp (instant inTransit : Nat) (s : State) : (ppsEdge instant inTransit s).lcs.otp = s.lcs.otp := by
  (first | rw [ppsEdge] | unfold ppsEdge); (try dsimp only); repeat' split
  all_goals first | (simp; done) | (repeat' (first | (intro _) | split | (with_reducible refine (forEach_otp _ ?_ _ _).trans ?_) | (with_reducible refine (foldl_otp _ ?_ _ _).trans ?_) | simp))
@[simp] theorem ppsIntervalTimeout_otp (s : State) : (ppsIntervalTimeout s).lcs.otp = s.lcs.otp := by
  rw [ppsIntervalTimeout]; repeat' split
  all_goals simp
@[simp] theorem loadBanks_otp (s : State) : (loadBanks s).lcs.otp = s.lcs.otp := by
  (first | rw [loadBanks] | unfold loadBanks); (try dsimp only); repeat' split
  all_goals first | (simp; done) | (repeat' (first | (intro _) | split | (with_reducible refine (forEach_otp _ ?_ _ _).trans ?_) | (with_reducible refine (foldl_otp _ ?_ _ _).trans ?_) | simp))
@[simp] theorem advanceGens_otp (slots : List Nat) (s : State) : (advanceGens slots s).lcs.otp = s.lcs.otp := by
  (first | rw [advanceGens] | unfold advanceGens); (try dsimp only); repeat' split
  all_goals first | (simp; done) | (repeat' (first | (intro _) | split | (with_reducible refine (forEach_otp _ ?_ _ _).trans ?_) | (with_reducible refine (foldl_otp _ ?_ _ _).trans ?_) | simp))
@[simp] theorem removeKey_otp (slot : Nat) (s : State) : (removeKey slot s).lcs.otp = s.lcs.otp := by
  rw [removeKey]; repeat' split
  all_goals simp
@[simp] theorem modGroup_otp (g : Nat) (f : TwoBank (List BankEntry) → TwoBank (List BankEntry)) (s : State) : (modGroup g f s).lcs.otp = s.lcs.otp := by
  (first | rw [modGroup] | unfold modGroup); (try dsimp only); repeat' split
  all_goals first | (simp; done) | (repeat' (first | (intro _) | split | (with_reducible refine (forEach_otp _ ?_ _ _).trans ?_) | (with_reducible refine (foldl_otp _ ?_ _ _).trans ?_) | simp))
@[simp] theorem prepareUpdate_otp (j : Nat) (s : State) : (prepareUpdate j s).lcs.otp = s.lcs.otp := by
  (first | rw [prepareUpdate] | unfold prepareUpdate); (try dsimp only); repeat' split
  all_goals first | (simp; done) | (repeat' (first | (intro _) | split | (with_reducible refine (forEach_otp _ ?_ _ _).trans ?_) | (with_reducible refine (foldl_otp _ ?_ _ _).trans ?_) | simp))
@[simp] theorem setKeyResult_otp (j : Nat) (r : Result) (s : State) : (setKeyResult j r s).lcs.otp = s.lcs.otp := by
  (first | rw [setKeyResult] | unfold setKeyResult); (try dsimp only); repeat' split
  all_goals first | (simp; done) | (repeat' (first | (intro _) | split | (with_reducible refine (forEach_otp _ ?_ _ _).trans ?_) | (with_reducible refine (foldl_otp _ ?_ _ _).trans ?_) | simp))
@[simp] theorem commitGroup_otp (j g : Nat) (s : State) : (commitGroup j g s).lcs.otp = s.lcs.otp := by
  (first | rw [commitGroup] | unfold commitGroup); (try dsimp only); repeat' split
  all_goals first | (simp; done) | (repeat' (first | (intro _) | split | (with_reducible refine (forEach_otp _ ?_ _ _).trans ?_) | (with_reducible refine (foldl_otp _ ?_ _ _).trans ?_) | simp))
@[simp] theorem stampEntries_otp (g handle L : Nat) (s : State) : (stampEntries g handle L s).lcs.otp = s.lcs.otp := by
  (first | rw [stampEntries] | unfold stampEntries); (try dsimp only); repeat' split
  all_goals first | (simp; done) | (repeat' (first | (intro _) | split | (with_reducible refine (forEach_otp _ ?_ _ _).trans ?_) | (with_reducible refine (foldl_otp _ ?_ _ _).trans ?_) | simp))
@[simp] theorem eraseInactive_otp (g : Nat) (s : State) : (eraseInactive g s).lcs.otp = s.lcs.otp := by
  simp [eraseInactive]
@[simp] theorem keepEntries_otp (g : Nat) (keep : BankEntry → Bool) (s : State) : (keepEntries g keep s).lcs.otp = s.lcs.otp := by
  (first | rw [keepEntries] | unfold keepEntries); (try dsimp only); repeat' split
  all_goals first | (simp; done) | (repeat' (first | (intro _) | split | (with_reducible refine (forEach_otp _ ?_ _ _).trans ?_) | (with_reducible refine (foldl_otp _ ?_ _ _).trans ?_) | simp))
@[simp] theorem placeKey_otp (j slot : Nat) (rec : KeyRec) (material : List Byte) (s : State) : (placeKey j slot rec material s).lcs.otp = s.lcs.otp := by
  (first | rw [placeKey] | unfold placeKey); (try dsimp only); repeat' split
  all_goals first | (simp; done) | (repeat' (first | (intro _) | split | (with_reducible refine (forEach_otp _ ?_ _ _).trans ?_) | (with_reducible refine (foldl_otp _ ?_ _ _).trans ?_) | simp))
@[simp] theorem reflagKey_otp (j slot flags : Nat) (s : State) : (reflagKey j slot flags s).lcs.otp = s.lcs.otp := by
  (first | rw [reflagKey] | unfold reflagKey); (try dsimp only); repeat' split
  all_goals first | (simp; done) | (repeat' (first | (intro _) | split | (with_reducible refine (forEach_otp _ ?_ _ _).trans ?_) | (with_reducible refine (foldl_otp _ ?_ _ _).trans ?_) | simp))
@[simp] theorem dropKey_otp (j h : Nat) (s : State) : (dropKey j h s).lcs.otp = s.lcs.otp := by
  (first | rw [dropKey] | unfold dropKey); (try dsimp only); repeat' split
  all_goals first | (simp; done) | (repeat' (first | (intro _) | split | (with_reducible refine (forEach_otp _ ?_ _ _).trans ?_) | (with_reducible refine (foldl_otp _ ?_ _ _).trans ?_) | simp))
@[simp] theorem withdrawNaming_otp (h : Nat) (except_ : Nat) (s : State) : (withdrawNaming h except_ s).lcs.otp = s.lcs.otp := by
  simp [withdrawNaming]
@[simp] theorem eraseKey_otp (slot : Nat) (s : State) : (eraseKey slot s).lcs.otp = s.lcs.otp := by
  rw [eraseKey]; repeat' split
  all_goals simp
@[simp] theorem createCsk_otp (cab : Nat) (s : State) : (createCsk cab s).lcs.otp = s.lcs.otp := by
  simp [createCsk]
@[simp] theorem eraseCsk_otp (cab : Nat) (s : State) : (eraseCsk cab s).lcs.otp = s.lcs.otp := by
  simp [eraseCsk]
@[simp] theorem createKey_otp (j : Nat) (x : Job) (cab cls : Nat) (flags : Nat) (material : List Byte) (s : State) : (createKey j x cab cls flags material s).lcs.otp = s.lcs.otp := by
  (first | rw [createKey] | unfold createKey); (try dsimp only); repeat' split
  all_goals first | (simp; done) | (repeat' (first | (intro _) | split | (with_reducible refine (forEach_otp _ ?_ _ _).trans ?_) | (with_reducible refine (foldl_otp _ ?_ _ _).trans ?_) | simp))
@[simp] theorem runKeyImport_otp (j : Nat) (x : Job) (s : State) : (runKeyImport j x s).lcs.otp = s.lcs.otp := by
  rw [runKeyImport]; repeat' split
  all_goals simp
@[simp] theorem runKeyExport_otp (serial j : Nat) (x : Job) (s : State) : (runKeyExport serial j x s).lcs.otp = s.lcs.otp := by
  rw [runKeyExport]; repeat' split
  all_goals simp
@[simp] theorem runKeyDestroy_otp (j : Nat) (x : Job) (s : State) : (runKeyDestroy j x s).lcs.otp = s.lcs.otp := by
  rw [runKeyDestroy]; repeat' split
  all_goals simp
@[simp] theorem keyBankErased_otp (g : Nat) (s : State) : (keyBankErased g s).lcs.otp = s.lcs.otp := by
  rw [keyBankErased]; repeat' split
  all_goals simp
@[simp] theorem takeOperands_otp (j : Nat) (input aux extra : List Byte) (s : State) : (takeOperands j input aux extra s).lcs.otp = s.lcs.otp := by
  unfold takeOperands; dsimp only; repeat' split
  all_goals simp
@[simp] theorem keyLoadFerried_otp (j : Nat) (s : State) : (keyLoadFerried j s).lcs.otp = s.lcs.otp := by
  (first | rw [keyLoadFerried] | unfold keyLoadFerried); (try dsimp only); repeat' split
  all_goals first | (simp; done) | (repeat' (first | (intro _) | split | (with_reducible refine (forEach_otp _ ?_ _ _).trans ?_) | (with_reducible refine (foldl_otp _ ?_ _ _).trans ?_) | simp))
@[simp] theorem keyLoadPublic_otp (j : Nat) (s : State) : (keyLoadPublic j s).lcs.otp = s.lcs.otp := by
  (first | rw [keyLoadPublic] | unfold keyLoadPublic); (try dsimp only); repeat' split
  all_goals first | (simp; done) | (repeat' (first | (intro _) | split | (with_reducible refine (forEach_otp _ ?_ _ _).trans ?_) | (with_reducible refine (foldl_otp _ ?_ _ _).trans ?_) | simp))
@[simp] theorem keyInfo_otp (j : Nat) (s : State) : (keyInfo j s).lcs.otp = s.lcs.otp := by
  (first | rw [keyInfo] | unfold keyInfo); (try dsimp only); repeat' split
  all_goals first | (simp; done) | (repeat' (first | (intro _) | split | (with_reducible refine (forEach_otp _ ?_ _ _).trans ?_) | (with_reducible refine (foldl_otp _ ?_ _ _).trans ?_) | simp))
@[simp] theorem keyEphemeralFree_otp (j : Nat) (s : State) : (keyEphemeralFree j s).lcs.otp = s.lcs.otp := by
  (first | rw [keyEphemeralFree] | unfold keyEphemeralFree); (try dsimp only); repeat' split
  all_goals first | (simp; done) | (repeat' (first | (intro _) | split | (with_reducible refine (forEach_otp _ ?_ _ _).trans ?_) | (with_reducible refine (foldl_otp _ ?_ _ _).trans ?_) | simp))
@[simp] theorem openRequest_otp (j : Nat) (x : Job) (rosters : List Roster) (dig : Digest) (s : State) : (openRequest j x rosters dig s).lcs.otp = s.lcs.otp := by
  rw [openRequest]; repeat' split
  all_goals simp
@[simp] theorem openOwn_otp (j : Nat) (x : Job) (right : Nat) (s : State) : (openOwn j x right s).lcs.otp = s.lcs.otp := by
  simp [openOwn]
@[simp] theorem cancelRequest_otp (n : Nat) (s : State) : (cancelRequest n s).lcs.otp = s.lcs.otp := by
  rw [cancelRequest]; repeat' split
  all_goals simp
@[simp] theorem cancelWhere_otp (p : Request → Bool) (s : State) : (cancelWhere p s).lcs.otp = s.lcs.otp := by
  simp [cancelWhere]
@[simp] theorem approve_otp (j : Nat) (s : State) : (approve j s).1.lcs.otp = s.lcs.otp := by
  (first | rw [approve] | unfold approve); (try dsimp only); repeat' split
  all_goals simp
@[simp] theorem dovetailQuery_otp (j : Nat) (s : State) : (dovetailQuery j s).lcs.otp = s.lcs.otp := by
  rw [dovetailQuery]; repeat' split
  all_goals simp
@[simp] theorem dovetailLapse_otp (n : Nat) (s : State) : (dovetailLapse n s).lcs.otp = s.lcs.otp := by
  rw [dovetailLapse]; repeat' split
  all_goals simp
@[simp] theorem keyImport_otp (j : Nat) (s : State) : (keyImport j s).lcs.otp = s.lcs.otp := by
  rw [keyImport]; repeat' split
  all_goals simp
@[simp] theorem keyExport_otp (j : Nat) (s : State) : (keyExport j s).lcs.otp = s.lcs.otp := by
  rw [keyExport]; repeat' split
  all_goals simp
@[simp] theorem keyDestroy_otp (j : Nat) (s : State) : (keyDestroy j s).lcs.otp = s.lcs.otp := by
  rw [keyDestroy]; repeat' split
  all_goals simp
@[simp] theorem thaw_otp (j : Nat) (s : State) : (thaw j s).lcs.otp = s.lcs.otp := by
  rw [thaw]; repeat' split
  all_goals simp
@[simp] theorem runThaw_otp (j : Nat) (x : Job) (s : State) : (runThaw j x s).lcs.otp = s.lcs.otp := by
  rw [runThaw]; repeat' split
  all_goals simp
@[simp] theorem modMember_otp (m : Nat) (g : Member → Member) (s : State) : (modMember m g s).lcs.otp = s.lcs.otp := by
  simp [modMember]
@[simp] theorem putFrame_otp (m : Nat) (bytes : List Byte) (s : State) : (putFrame m bytes s).lcs.otp = s.lcs.otp := by
  rw [putFrame]; repeat' split
  all_goals simp
@[simp] theorem frameOut_otp (m type frag flags epoch : Nat) (payload : List Byte) (s : State) : (frameOut m type frag flags epoch payload s).lcs.otp = s.lcs.otp := by
  rw [frameOut]; repeat' split
  all_goals simp
@[simp] theorem sendFlagged_otp (m flags type frag epoch : Nat) (payload : List Byte) (s : State) : (sendFlagged m flags type frag epoch payload s).lcs.otp = s.lcs.otp := by
  (first | rw [sendFlagged] | unfold sendFlagged); (try dsimp only); repeat' split
  all_goals first | (simp; done) | (repeat' (first | (intro _) | split | (with_reducible refine (forEach_otp _ ?_ _ _).trans ?_) | (with_reducible refine (foldl_otp _ ?_ _ _).trans ?_) | simp))
@[simp] theorem sendFrame_otp (m type frag epoch : Nat) (payload : List Byte) (s : State) : (sendFrame m type frag epoch payload s).lcs.otp = s.lcs.otp := by
  rw [sendFrame]; repeat' split
  all_goals simp
@[simp] theorem flushQueue_otp (m k : Nat) (s : State) : (flushQueue m k s).lcs.otp = s.lcs.otp := by
  induction k generalizing s with
  | zero => rfl
  | succ k ih => unfold flushQueue; repeat' split
                 all_goals simp [ih]
@[simp] theorem sendMsg_otp (m type : Nat) (payload : List Byte) (s : State) : (sendMsg m type payload s).lcs.otp = s.lcs.otp := by
  (first | rw [sendMsg] | unfold sendMsg); (try dsimp only); repeat' split
  all_goals first | (simp; done) | (repeat' (first | (intro _) | split | (with_reducible refine (forEach_otp _ ?_ _ _).trans ?_) | (with_reducible refine (foldl_otp _ ?_ _ _).trans ?_) | (with_reducible refine (checked_otp _ _ _ _ ?_ _).trans ?_) | simp))
@[simp] theorem dropPlaces_otp (m : Nat) (s : State) : (dropPlaces m s).lcs.otp = s.lcs.otp := by
  simp [dropPlaces]
@[simp] theorem closeLink_otp (m : Nat) (st : MemberState) (s : State) : (closeLink m st s).lcs.otp = s.lcs.otp := by
  simp [closeLink]
@[simp] theorem dropTunnel_otp (m : Nat) (s : State) : (dropTunnel m s).lcs.otp = s.lcs.otp := by
  (first | rw [dropTunnel] | unfold dropTunnel); (try dsimp only); repeat' split
  all_goals first | (simp; done) | (repeat' (first | (intro _) | split | (with_reducible refine (forEach_otp _ ?_ _ _).trans ?_) | (with_reducible refine (foldl_otp _ ?_ _ _).trans ?_) | simp))
@[simp] theorem scheduleHello_otp (h0 m : Nat) (s : State) : (scheduleHello h0 m s).lcs.otp = s.lcs.otp := by
  rw [scheduleHello]; repeat' split
  all_goals simp
@[simp] theorem resetLink_otp (m : Nat) (s : State) : (resetLink m s).lcs.otp = s.lcs.otp := by
  simp [resetLink]
@[simp] theorem sendHello_otp (m : Nat) (s : State) : (sendHello m s).lcs.otp = s.lcs.otp := by
  simp [sendHello]
@[simp] theorem helloTimer_otp (m : Nat) (s : State) : (helloTimer m s).lcs.otp = s.lcs.otp := by
  rw [helloTimer]; repeat' split
  all_goals simp
@[simp] theorem updateRef_otp (s : State) : (updateRef s).lcs.otp = s.lcs.otp := by
  rw [updateRef]; repeat' split
  all_goals simp
@[simp] theorem freezePeer_otp (m cause : Nat) (s : State) : (freezePeer m cause s).lcs.otp = s.lcs.otp := by
  rw [freezePeer]; repeat' split
  all_goals simp
@[simp] theorem thawPeer_otp (m : Nat) (s : State) : (thawPeer m s).lcs.otp = s.lcs.otp := by
  rw [thawPeer]; repeat' split
  all_goals simp
@[simp] theorem keyingFailed_otp (m step : Nat) (s : State) : (keyingFailed m step s).lcs.otp = s.lcs.otp := by
  simp [keyingFailed]
@[simp] theorem sendKeyInit_otp (m : Nat) (s : State) : (sendKeyInit m s).lcs.otp = s.lcs.otp := by
  rw [sendKeyInit]; repeat' split
  all_goals simp
@[simp] theorem linkKeyed_otp (m epoch : Nat) (tx rx : List Byte) (s : State) : (linkKeyed m epoch tx rx s).lcs.otp = s.lcs.otp := by
  simp [linkKeyed]
@[simp] theorem onHello_otp (m : Nat) (p : List Byte) (s : State) : (onHello m p s).lcs.otp = s.lcs.otp := by
  unfold onHello; dsimp only; split
  · split
    · split <;> simp
    · simp
  · simp
@[simp] theorem onKeyInit_otp (m epoch : Nat) (p : List Byte) (s : State) : (onKeyInit m epoch p s).lcs.otp = s.lcs.otp := by
  (first | rw [onKeyInit] | unfold onKeyInit); (try dsimp only); repeat' split
  all_goals first | (simp; done) | (repeat' (first | (intro _) | split | (with_reducible refine (forEach_otp _ ?_ _ _).trans ?_) | (with_reducible refine (foldl_otp _ ?_ _ _).trans ?_) | (with_reducible refine (checked_otp _ _ _ _ ?_ _).trans ?_) | simp))
@[simp] theorem onKeyReply_otp (m epoch : Nat) (p : List Byte) (s : State) : (onKeyReply m epoch p s).1.lcs.otp = s.lcs.otp := by
  (first | rw [onKeyReply] | unfold onKeyReply); (try dsimp only); repeat' split
  all_goals simp
@[simp] theorem onKeyConfirm_otp (m epoch : Nat) (p : List Byte) (s : State) : (onKeyConfirm m epoch p s).1.lcs.otp = s.lcs.otp := by
  (first | rw [onKeyConfirm] | unfold onKeyConfirm); (try dsimp only); repeat' split
  all_goals simp
@[simp] theorem rekey_otp (m : Nat) (s : State) : (rekey m s).lcs.otp = s.lcs.otp := by
  rw [rekey]; repeat' split
  all_goals simp
@[simp] theorem heartbeatSend_otp (phases : List (Nat × Nat)) (s : State) : (heartbeatSend phases s).lcs.otp = s.lcs.otp := by
  (first | rw [heartbeatSend] | unfold heartbeatSend); (try dsimp only); repeat' split
  all_goals first | (simp; done) | (repeat' (first | (intro _) | split | (with_reducible refine (forEach_otp _ ?_ _ _).trans ?_) | (with_reducible refine (foldl_otp _ ?_ _ _).trans ?_) | (with_reducible refine (checked_otp _ _ _ _ ?_ _).trans ?_) | simp))
@[simp] theorem onHeartbeat_otp (m rx : Nat) (p : List Byte) (s : State) : (onHeartbeat m rx p s).lcs.otp = s.lcs.otp := by
  (first | rw [onHeartbeat] | unfold onHeartbeat); (try dsimp only); repeat' split
  all_goals first | (simp; done) | (repeat' (first | (intro _) | split | (with_reducible refine (forEach_otp _ ?_ _ _).trans ?_) | (with_reducible refine (foldl_otp _ ?_ _ _).trans ?_) | (with_reducible refine (checked_otp _ _ _ _ ?_ _).trans ?_) | simp))
@[simp] theorem memberLost_otp (m : Nat) (s : State) : (memberLost m s).lcs.otp = s.lcs.otp := by
  rw [memberLost]; repeat' split
  all_goals simp
@[simp] theorem creditReturn_otp (m : Nat) (s : State) : (creditReturn m s).lcs.otp = s.lcs.otp := by
  rw [creditReturn]; repeat' split
  all_goals simp
@[simp] theorem messageResend_otp (m : Nat) (s : State) : (messageResend m s).lcs.otp = s.lcs.otp := by
  rw [messageResend]; repeat' split
  all_goals simp
@[simp] theorem countPort_otp (p cls : Nat) (s : State) : (countPort p cls s).lcs.otp = s.lcs.otp := by
  rw [countPort]; repeat' split
  all_goals simp
@[simp] theorem portLockChange_otp (p : Nat) (pcs fec : Bool) (s : State) : (portLockChange p pcs fec s).lcs.otp = s.lcs.otp := by
  rw [portLockChange]; repeat' split
  all_goals simp
@[simp] theorem runPart_otp (j : Nat) (x : Job) (s : State) : (runPart j x s).lcs.otp = s.lcs.otp := by
  (first | rw [runPart] | unfold runPart); (try dsimp only); repeat' split
  all_goals first | (simp; done) | (repeat' (first | (intro _) | split | (with_reducible refine (forEach_otp _ ?_ _ _).trans ?_) | (with_reducible refine (foldl_otp _ ?_ _ _).trans ?_) | simp))
@[simp] theorem symEncrypt_otp (j : Nat) (s : State) : (symEncrypt j s).lcs.otp = s.lcs.otp := by
  rw [symEncrypt]; repeat' split
  all_goals simp
@[simp] theorem symDecrypt_otp (j : Nat) (s : State) : (symDecrypt j s).lcs.otp = s.lcs.otp := by
  rw [symDecrypt]; repeat' split
  all_goals simp
@[simp] theorem symAeadEncrypt_otp (j : Nat) (s : State) : (symAeadEncrypt j s).lcs.otp = s.lcs.otp := by
  rw [symAeadEncrypt]; repeat' split
  all_goals simp
@[simp] theorem symAeadDecrypt_otp (j : Nat) (s : State) : (symAeadDecrypt j s).lcs.otp = s.lcs.otp := by
  (first | rw [symAeadDecrypt] | unfold symAeadDecrypt); (try dsimp only); repeat' split
  all_goals first | (simp; done) | (repeat' (first | (intro _) | split | (with_reducible refine (forEach_otp _ ?_ _ _).trans ?_) | (with_reducible refine (foldl_otp _ ?_ _ _).trans ?_) | simp))
@[simp] theorem symCmac_otp (j : Nat) (s : State) : (symCmac j s).lcs.otp = s.lcs.otp := by
  rw [symCmac]; repeat' split
  all_goals simp
@[simp] theorem symKeyWrap_otp (j : Nat) (s : State) : (symKeyWrap j s).lcs.otp = s.lcs.otp := by
  rw [symKeyWrap]; repeat' split
  all_goals simp
@[simp] theorem symKeyUnwrap_otp (j : Nat) (s : State) : (symKeyUnwrap j s).lcs.otp = s.lcs.otp := by
  rw [symKeyUnwrap]; repeat' split
  all_goals simp
@[simp] theorem convertRecord_otp (j : Nat) (x : Job) (fromForm : Nat) (s : State) : (convertRecord j x fromForm s).lcs.otp = s.lcs.otp := by
  (first | rw [convertRecord] | unfold convertRecord); (try dsimp only); repeat' split
  all_goals first | (simp; done) | (repeat' (first | (intro _) | split | (with_reducible refine (forEach_otp _ ?_ _ _).trans ?_) | (with_reducible refine (foldl_otp _ ?_ _ _).trans ?_) | simp))
@[simp] theorem symContextSave_otp (j : Nat) (s : State) : (symContextSave j s).lcs.otp = s.lcs.otp := by
  rw [symContextSave]; repeat' split
  all_goals simp
@[simp] theorem symContextRestore_otp (j : Nat) (s : State) : (symContextRestore j s).lcs.otp = s.lcs.otp := by
  rw [symContextRestore]; repeat' split
  all_goals simp
@[simp] theorem symReencrypt_otp (j : Nat) (s : State) : (symReencrypt j s).lcs.otp = s.lcs.otp := by
  (first | rw [symReencrypt] | unfold symReencrypt); (try dsimp only); repeat' split
  all_goals first | (simp; done) | (repeat' (first | (intro _) | split | (with_reducible refine (forEach_otp _ ?_ _ _).trans ?_) | (with_reducible refine (foldl_otp _ ?_ _ _).trans ?_) | simp))
@[simp] theorem tileParityError_otp (t bank : Nat) (s : State) : (tileParityError t bank s).lcs.otp = s.lcs.otp := by
  rw [tileParityError]; repeat' split
  all_goals simp
@[simp] theorem gDeliver_otp (j : Nat) (x : Job) (r : List Byte) (s : State) : (gDeliver j x r s).lcs.otp = s.lcs.otp := by
  rw [gDeliver]; repeat' split
  all_goals simp
@[simp] theorem digestPart_otp (j : Nat) (x : Job) (s : State) : (digestPart j x s).lcs.otp = s.lcs.otp := by
  (first | rw [digestPart] | unfold digestPart); (try dsimp only); repeat' split
  all_goals first | (simp; done) | (repeat' (first | (intro _) | split | (with_reducible refine (forEach_otp _ ?_ _ _).trans ?_) | (with_reducible refine (foldl_otp _ ?_ _ _).trans ?_) | simp))
@[simp] theorem digHash_otp (j : Nat) (s : State) : (digHash j s).lcs.otp = s.lcs.otp := by
  rw [digHash]; repeat' split
  all_goals simp
@[simp] theorem digHmac_otp (j : Nat) (s : State) : (digHmac j s).lcs.otp = s.lcs.otp := by
  rw [digHmac]; repeat' split
  all_goals simp
@[simp] theorem digKmac_otp (j : Nat) (s : State) : (digKmac j s).lcs.otp = s.lcs.otp := by
  rw [digKmac]; repeat' split
  all_goals simp
@[simp] theorem digXof_otp (j : Nat) (s : State) : (digXof j s).lcs.otp = s.lcs.otp := by
  rw [digXof]; repeat' split
  all_goals simp
@[simp] theorem gConvert_otp (j : Nat) (x : Job) (fromForm : Nat) (s : State) : (gConvert j x fromForm s).lcs.otp = s.lcs.otp := by
  rw [gConvert]; repeat' split
  all_goals simp
@[simp] theorem digContextSave_otp (j : Nat) (s : State) : (digContextSave j s).lcs.otp = s.lcs.otp := by
  rw [digContextSave]; repeat' split
  all_goals simp
@[simp] theorem digContextRestore_otp (j : Nat) (s : State) : (digContextRestore j s).lcs.otp = s.lcs.otp := by
  rw [digContextRestore]; repeat' split
  all_goals simp
@[simp] theorem digResultRelease_otp (j : Nat) (s : State) : (digResultRelease j s).lcs.otp = s.lcs.otp := by
  (first | rw [digResultRelease] | unfold digResultRelease); (try dsimp only); repeat' split
  all_goals first | (simp; done) | (repeat' (first | (intro _) | split | (with_reducible refine (forEach_otp _ ?_ _ _).trans ?_) | (with_reducible refine (foldl_otp _ ?_ _ _).trans ?_) | simp))
@[simp] theorem refuseLong_otp (j : Nat) (s : State) : (refuseLong j s).lcs.otp = s.lcs.otp := by
  (first | rw [refuseLong] | unfold refuseLong); (try dsimp only); repeat' split
  all_goals first | (simp; done) | (repeat' (first | (intro _) | split | (with_reducible refine (forEach_otp _ ?_ _ _).trans ?_) | (with_reducible refine (foldl_otp _ ?_ _ _).trans ?_) | simp))
@[simp] theorem stageJob_otp (j : Nat) (input aux extra : List Byte) (s : State) : (stageJob j input aux extra s).lcs.otp = s.lcs.otp := by
  (first | rw [stageJob] | unfold stageJob); (try dsimp only); repeat' split
  all_goals first | (simp; done) | (repeat' (first | (intro _) | split | (with_reducible refine (forEach_otp _ ?_ _ _).trans ?_) | (with_reducible refine (foldl_otp _ ?_ _ _).trans ?_) | simp))
@[simp] theorem verifyFailed_otp (j t op : Nat) (tag : Word) (s : State) : (verifyFailed j t op tag s).lcs.otp = s.lcs.otp := by
  rw [verifyFailed]; repeat' split
  all_goals simp
@[simp] theorem checked_otp (ok : Bool) (j : Nat) (x : Job) (g : State → State) (h : ∀ s, (g s).lcs.otp = s.lcs.otp) (s : State) : (checked ok j x g s).lcs.otp = s.lcs.otp := by
  unfold checked; split <;> simp [h]
@[simp] theorem bigRsaSign_otp (j : Nat) (ok : Bool) (s : State) : (bigRsaSign j ok s).lcs.otp = s.lcs.otp := by
  rw [bigRsaSign]; repeat' split
  all_goals simp
@[simp] theorem verdict_otp (j : Nat) (ok : Bool) (s : State) : (verdict j ok s).lcs.otp = s.lcs.otp := by
  rw [verdict]; repeat' split
  all_goals simp
@[simp] theorem bigRsaVerify_otp (j : Nat) (s : State) : (bigRsaVerify j s).lcs.otp = s.lcs.otp := by
  rw [bigRsaVerify]; repeat' split
  all_goals simp
@[simp] theorem bigRsaEncrypt_otp (j : Nat) (s : State) : (bigRsaEncrypt j s).lcs.otp = s.lcs.otp := by
  rw [bigRsaEncrypt]; repeat' split
  all_goals simp
@[simp] theorem bDeliver_otp (j : Nat) (x : Job) (r : List Byte) (s : State) : (bDeliver j x r s).lcs.otp = s.lcs.otp := by
  rw [bDeliver]; repeat' split
  all_goals simp
@[simp] theorem bigRsaDecrypt_otp (j : Nat) (ok : Bool) (s : State) : (bigRsaDecrypt j ok s).lcs.otp = s.lcs.otp := by
  (first | rw [bigRsaDecrypt] | unfold bigRsaDecrypt); (try dsimp only); repeat' split
  all_goals first | (simp; done) | (repeat' (first | (intro _) | split | (with_reducible refine (forEach_otp _ ?_ _ _).trans ?_) | (with_reducible refine (foldl_otp _ ?_ _ _).trans ?_) | (with_reducible refine (checked_otp _ _ _ _ ?_ _).trans ?_) | simp))
@[simp] theorem bigEcdsaSign_otp (j : Nat) (ok : Bool) (s : State) : (bigEcdsaSign j ok s).lcs.otp = s.lcs.otp := by
  rw [bigEcdsaSign]; repeat' split
  all_goals simp
@[simp] theorem bigEcdsaVerify_otp (j : Nat) (s : State) : (bigEcdsaVerify j s).lcs.otp = s.lcs.otp := by
  rw [bigEcdsaVerify]; repeat' split
  all_goals simp
@[simp] theorem bigEcdh_otp (j : Nat) (ok : Bool) (s : State) : (bigEcdh j ok s).lcs.otp = s.lcs.otp := by
  rw [bigEcdh]; repeat' split
  all_goals simp
@[simp] theorem bigEcEphemeral_otp (j : Nat) (ok : Bool) (s : State) : (bigEcEphemeral j ok s).lcs.otp = s.lcs.otp := by
  (first | rw [bigEcEphemeral] | unfold bigEcEphemeral); (try dsimp only); repeat' split
  all_goals first | (simp; done) | (repeat' (first | (intro _) | split | (with_reducible refine (forEach_otp _ ?_ _ _).trans ?_) | (with_reducible refine (foldl_otp _ ?_ _ _).trans ?_) | (with_reducible refine (checked_otp _ _ _ _ ?_ _).trans ?_) | simp))
@[simp] theorem bigEddsaSign_otp (j : Nat) (ok : Bool) (s : State) : (bigEddsaSign j ok s).lcs.otp = s.lcs.otp := by
  rw [bigEddsaSign]; repeat' split
  all_goals simp
@[simp] theorem bigEddsaVerify_otp (j : Nat) (s : State) : (bigEddsaVerify j s).lcs.otp = s.lcs.otp := by
  rw [bigEddsaVerify]; repeat' split
  all_goals simp
@[simp] theorem bigXdh_otp (j : Nat) (ok : Bool) (s : State) : (bigXdh j ok s).lcs.otp = s.lcs.otp := by
  (first | rw [bigXdh] | unfold bigXdh); (try dsimp only); repeat' split
  all_goals first | (simp; done) | (repeat' (first | (intro _) | split | (with_reducible refine (forEach_otp _ ?_ _ _).trans ?_) | (with_reducible refine (foldl_otp _ ?_ _ _).trans ?_) | (with_reducible refine (checked_otp _ _ _ _ ?_ _).trans ?_) | simp))
@[simp] theorem bigModarith_otp (j : Nat) (s : State) : (bigModarith j s).lcs.otp = s.lcs.otp := by
  (first | rw [bigModarith] | unfold bigModarith); (try dsimp only); repeat' split
  all_goals first | (simp; done) | (repeat' (first | (intro _) | split | (with_reducible refine (forEach_otp _ ?_ _ _).trans ?_) | (with_reducible refine (foldl_otp _ ?_ _ _).trans ?_) | (with_reducible refine (checked_otp _ _ _ _ ?_ _).trans ?_) | simp))
@[simp] theorem modCustody_otp (cab : Nat) (g : CabCustody → CabCustody) (s : State) : (modCustody cab g s).lcs.otp = s.lcs.otp := by
  simp [modCustody]
@[simp] theorem eraseShares_otp (p : Share → Bool) (s : State) : (eraseShares p s).lcs.otp = s.lcs.otp := by
  simp [eraseShares]
@[simp] theorem storeShare_otp (e : Share) (s : State) : (storeShare e s).1.lcs.otp = s.lcs.otp := by
  (first | rw [storeShare] | unfold storeShare); (try dsimp only); repeat' split
  all_goals simp
@[simp] theorem startRotation_otp (cab : Nat) (s : State) : (startRotation cab s).lcs.otp = s.lcs.otp := by
  (first | rw [startRotation] | unfold startRotation); (try dsimp only); repeat' split
  all_goals first | (simp; done) | (repeat' (first | (intro _) | split | (with_reducible refine (forEach_otp _ ?_ _ _).trans ?_) | (with_reducible refine (foldl_otp _ ?_ _ _).trans ?_) | (with_reducible refine (checked_otp _ _ _ _ ?_ _).trans ?_) | simp))
@[simp] theorem startRotations_otp (s : State) : (startRotations s).lcs.otp = s.lcs.otp := by
  (first | rw [startRotations] | unfold startRotations); (try dsimp only); repeat' split
  all_goals first | (simp; done) | (repeat' (first | (intro _) | split | (with_reducible refine (forEach_otp _ ?_ _ _).trans ?_) | (with_reducible refine (foldl_otp _ ?_ _ _).trans ?_) | (with_reducible refine (checked_otp _ _ _ _ ?_ _).trans ?_) | simp))
@[simp] theorem askRotation_otp (cab : Nat) (job : Option Nat) (s : State) : (askRotation cab job s).lcs.otp = s.lcs.otp := by
  simp [askRotation]
@[simp] theorem shareSetCommit_otp (cab : Nat) (s : State) : (shareSetCommit cab s).lcs.otp = s.lcs.otp := by
  (first | rw [shareSetCommit] | unfold shareSetCommit); (try dsimp only); repeat' split
  all_goals first | (simp; done) | (repeat' (first | (intro _) | split | (with_reducible refine (forEach_otp _ ?_ _ _).trans ?_) | (with_reducible refine (foldl_otp _ ?_ _ _).trans ?_) | (with_reducible refine (checked_otp _ _ _ _ ?_ _).trans ?_) | simp))
@[simp] theorem dropRotation_otp (cab : Nat) (s : State) : (dropRotation cab s).lcs.otp = s.lcs.otp := by
  rw [dropRotation]; repeat' split
  all_goals simp
@[simp] theorem rotationTimeout_otp (cab : Nat) (s : State) : (rotationTimeout cab s).lcs.otp = s.lcs.otp := by
  rw [rotationTimeout]; repeat' split
  all_goals simp
@[simp] theorem shareSetErase_otp (s : State) : (shareSetErase s).lcs.otp = s.lcs.otp := by
  simp [shareSetErase]
@[simp] theorem probeHolder_otp (m : Nat) (s : State) : (probeHolder m s).lcs.otp = s.lcs.otp := by
  (first | rw [probeHolder] | unfold probeHolder); (try dsimp only); repeat' split
  all_goals first | (simp; done) | (repeat' (first | (intro _) | split | (with_reducible refine (forEach_otp _ ?_ _ _).trans ?_) | (with_reducible refine (foldl_otp _ ?_ _ _).trans ?_) | (with_reducible refine (checked_otp _ _ _ _ ?_ _).trans ?_) | simp))
@[simp] theorem onSharePut_otp (m : Nat) (p : List Byte) (s : State) : (onSharePut m p s).lcs.otp = s.lcs.otp := by
  unfold onSharePut; dsimp only; split; · rfl
  split <;> simp
@[simp] theorem onShareCommit_otp (m : Nat) (p : List Byte) (s : State) : (onShareCommit m p s).lcs.otp = s.lcs.otp := by
  simp [onShareCommit]
@[simp] theorem onShareProbe_otp (m : Nat) (p : List Byte) (s : State) : (onShareProbe m p s).lcs.otp = s.lcs.otp := by
  rw [onShareProbe]; repeat' split
  all_goals simp
@[simp] theorem onShareDrop_otp (m : Nat) (p : List Byte) (s : State) : (onShareDrop m p s).lcs.otp = s.lcs.otp := by
  simp [onShareDrop]
@[simp] theorem onShareRequest_otp (m : Nat) (p : List Byte) (s : State) : (onShareRequest m p s).lcs.otp = s.lcs.otp := by
  (first | rw [onShareRequest] | unfold onShareRequest); (try dsimp only); repeat' split
  all_goals first | (simp; done) | (repeat' (first | (intro _) | split | (with_reducible refine (forEach_otp _ ?_ _ _).trans ?_) | (with_reducible refine (foldl_otp _ ?_ _ _).trans ?_) | (with_reducible refine (checked_otp _ _ _ _ ?_ _).trans ?_) | simp))
@[simp] theorem onShareAck_otp (m : Nat) (p : List Byte) (s : State) : (onShareAck m p s).lcs.otp = s.lcs.otp := by
  rw [onShareAck]; repeat' split
  all_goals simp
@[simp] theorem dropRestore_otp (j : Nat) (s : State) : (dropRestore j s).lcs.otp = s.lcs.otp := by
  simp [dropRestore]
@[simp] theorem restoreFails_otp (r : Restore) (s : State) : (restoreFails r s).lcs.otp = s.lcs.otp := by
  simp [restoreFails]
@[simp] theorem tryRestore_otp (r : Restore) (s : State) : (tryRestore r s).lcs.otp = s.lcs.otp := by
  (first | rw [tryRestore] | unfold tryRestore); (try dsimp only); repeat' split
  all_goals first | (simp; done) | (repeat' (first | (intro _) | split | (with_reducible refine (forEach_otp _ ?_ _ _).trans ?_) | (with_reducible refine (foldl_otp _ ?_ _ _).trans ?_) | (with_reducible refine (checked_otp _ _ _ _ ?_ _).trans ?_) | simp))
@[simp] theorem onShareRelease_otp (m : Nat) (p : List Byte) (s : State) : (onShareRelease m p s).lcs.otp = s.lcs.otp := by
  rw [onShareRelease]; repeat' split
  all_goals simp
@[simp] theorem onShareRefuse_otp (m : Nat) (p : List Byte) (s : State) : (onShareRefuse m p s).lcs.otp = s.lcs.otp := by
  (first | rw [onShareRefuse] | unfold onShareRefuse); (try dsimp only); repeat' split
  all_goals first | (simp; done) | (repeat' (first | (intro _) | split | (with_reducible refine (forEach_otp _ ?_ _ _).trans ?_) | (with_reducible refine (foldl_otp _ ?_ _ _).trans ?_) | (with_reducible refine (checked_otp _ _ _ _ ?_ _).trans ?_) | simp))
@[simp] theorem restoreTimeout_otp (j : Nat) (s : State) : (restoreTimeout j s).lcs.otp = s.lcs.otp := by
  rw [restoreTimeout]; repeat' split
  all_goals simp
@[simp] theorem custodyRotate_otp (j : Nat) (s : State) : (custodyRotate j s).lcs.otp = s.lcs.otp := by
  rw [custodyRotate]; repeat' split
  all_goals simp
@[simp] theorem runCustodyRotate_otp (j : Nat) (x : Job) (s : State) : (runCustodyRotate j x s).lcs.otp = s.lcs.otp := by
  simp [runCustodyRotate]
@[simp] theorem custodyRestore_otp (j : Nat) (s : State) : (custodyRestore j s).lcs.otp = s.lcs.otp := by
  rw [custodyRestore]; repeat' split
  all_goals simp
@[simp] theorem runCustodyRestore_otp (j : Nat) (x : Job) (approvals : List (List Byte)) (s : State) : (runCustodyRestore j x approvals s).lcs.otp = s.lcs.otp := by
  (first | rw [runCustodyRestore] | unfold runCustodyRestore); (try dsimp only); repeat' split
  all_goals first | (simp; done) | (repeat' (first | (intro _) | split | (with_reducible refine (forEach_otp _ ?_ _ _).trans ?_) | (with_reducible refine (foldl_otp _ ?_ _ _).trans ?_) | (with_reducible refine (checked_otp _ _ _ _ ?_ _).trans ?_) | simp))
@[simp] theorem pqChecked_otp (ok : Nat) (j : Nat) (x : Job) (g : State → State) (h : ∀ s, (g s).lcs.otp = s.lcs.otp) (s : State) : (pqChecked ok j x g s).lcs.otp = s.lcs.otp := by
  unfold pqChecked; split; · simp [h]
  split <;> simp
@[simp] theorem polMlkemKeypair_otp (j check : Nat) (s : State) : (polMlkemKeypair j check s).lcs.otp = s.lcs.otp := by
  (first | rw [polMlkemKeypair] | unfold polMlkemKeypair); (try dsimp only); repeat' split
  all_goals first | (simp; done) | (repeat' (first | (intro _) | split | (with_reducible refine (forEach_otp _ ?_ _ _).trans ?_) | (with_reducible refine (foldl_otp _ ?_ _ _).trans ?_) | (with_reducible refine (checked_otp _ _ _ _ ?_ _).trans ?_) | (with_reducible refine (pqChecked_otp _ _ _ _ ?_ _).trans ?_) | simp))
@[simp] theorem kemDeliver_otp (j : Nat) (x : Job) (ct k : List Byte) (s : State) : (kemDeliver j x ct k s).lcs.otp = s.lcs.otp := by
  rw [kemDeliver]; repeat' split
  all_goals simp
@[simp] theorem polMlkemEncaps_otp (j check : Nat) (s : State) : (polMlkemEncaps j check s).lcs.otp = s.lcs.otp := by
  rw [polMlkemEncaps]; repeat' split
  all_goals simp
@[simp] theorem polMlkemDecaps_otp (j check : Nat) (s : State) : (polMlkemDecaps j check s).lcs.otp = s.lcs.otp := by
  rw [polMlkemDecaps]; repeat' split
  all_goals simp
@[simp] theorem polMldsaSign_otp (j check : Nat) (s : State) : (polMldsaSign j check s).lcs.otp = s.lcs.otp := by
  rw [polMldsaSign]; repeat' split
  all_goals simp
@[simp] theorem polMldsaVerify_otp (j check : Nat) (s : State) : (polMldsaVerify j check s).lcs.otp = s.lcs.otp := by
  rw [polMldsaVerify]; repeat' split
  all_goals simp
@[simp] theorem heRefuse_otp (j : Nat) (x : Job) (e : Nat × Nat × Nat × Nat) (s : State) : (heRefuse j x e s).lcs.otp = s.lcs.otp := by
  rw [heRefuse]; repeat' split
  all_goals simp
@[simp] theorem heMake_otp (j : Nat) (x : Job) (o : HeOut) (bytes : List Byte) (s : State) : (heMake j x o bytes s).lcs.otp = s.lcs.otp := by
  rw [heMake]; repeat' split
  all_goals simp
@[simp] theorem heRun_otp (j op : Nat) (back : List (List Byte)) (s : State) : (heRun j op back s).lcs.otp = s.lcs.otp := by
  unfold heRun; dsimp only; repeat' split
  all_goals first | (simp; done) | (refine (writeBacking_otp _ _ _ _ _ ?_ _).trans ?_ <;> simp)
@[simp] theorem polHeEncrypt_otp (j : Nat) (back : List (List Byte)) (s : State) : (polHeEncrypt j back s).lcs.otp = s.lcs.otp := by
  simp [polHeEncrypt]
@[simp] theorem polHeAdd_otp (j : Nat) (back : List (List Byte)) (s : State) : (polHeAdd j back s).lcs.otp = s.lcs.otp := by
  simp [polHeAdd]
@[simp] theorem polHeMultiply_otp (j : Nat) (back : List (List Byte)) (s : State) : (polHeMultiply j back s).lcs.otp = s.lcs.otp := by
  simp [polHeMultiply]
@[simp] theorem polHeRotate_otp (j : Nat) (back : List (List Byte)) (s : State) : (polHeRotate j back s).lcs.otp = s.lcs.otp := by
  simp [polHeRotate]
@[simp] theorem polHeKeyswitch_otp (j : Nat) (back : List (List Byte)) (s : State) : (polHeKeyswitch j back s).lcs.otp = s.lcs.otp := by
  simp [polHeKeyswitch]
@[simp] theorem polHeRescale_otp (j : Nat) (back : List (List Byte)) (s : State) : (polHeRescale j back s).lcs.otp = s.lcs.otp := by
  simp [polHeRescale]
@[simp] theorem polHeRefresh_otp (j : Nat) (back : List (List Byte)) (s : State) : (polHeRefresh j back s).lcs.otp = s.lcs.otp := by
  simp [polHeRefresh]
@[simp] theorem adopt_otp (j : Nat) (bytes : List Byte) (s : State) : (adopt j bytes s).lcs.otp = s.lcs.otp := by
  rw [adopt]; repeat' split
  all_goals simp
@[simp] theorem polHeDecrypt_otp (j : Nat) (back : List (List Byte)) (s : State) : (polHeDecrypt j back s).lcs.otp = s.lcs.otp := by
  rw [polHeDecrypt]; repeat' split
  all_goals simp
@[simp] theorem freeRecord_otp (i : Nat) (s : State) : (freeRecord i s).lcs.otp = s.lcs.otp := by
  simp [freeRecord]
@[simp] theorem polHandleFree_otp (j : Nat) (s : State) : (polHandleFree j s).lcs.otp = s.lcs.otp := by
  rw [polHandleFree]; repeat' split
  all_goals simp
@[simp] theorem modRound_otp (id : Nat) (g : Round → Round) (s : State) : (modRound id g s).lcs.otp = s.lcs.otp := by
  simp [modRound]
@[simp] theorem dropRound_otp (id : Nat) (s : State) : (dropRound id s).lcs.otp = s.lcs.otp := by
  simp [dropRound]
@[simp] theorem collect_otp (j : Nat) (x : Job) (r : Round) (s : State) : (collect j x r s).lcs.otp = s.lcs.otp := by
  unfold collect; dsimp only; repeat' split
  all_goals first | (simp; done) | (refine (writeBacking_otp _ _ _ _ _ ?_ _).trans ?_ <;> simp)
@[simp] theorem roundGoes_otp (id : Nat) (s : State) : (roundGoes id s).lcs.otp = s.lcs.otp := by
  (first | rw [roundGoes] | unfold roundGoes); (try dsimp only); repeat' split
  all_goals first | (simp; done) | (repeat' (first | (intro _) | split | (with_reducible refine (forEach_otp _ ?_ _ _).trans ?_) | (with_reducible refine (foldl_otp _ ?_ _ _).trans ?_) | (with_reducible refine (checked_otp _ _ _ _ ?_ _).trans ?_) | (with_reducible refine (pqChecked_otp _ _ _ _ ?_ _).trans ?_) | simp))
@[simp] theorem meshAggregate_otp (j : Nat) (back : List Byte) (s : State) : (meshAggregate j back s).lcs.otp = s.lcs.otp := by
  (first | rw [meshAggregate] | unfold meshAggregate); (try dsimp only); repeat' split
  all_goals first | (simp; done) | (repeat' (first | (intro _) | split | (with_reducible refine (forEach_otp _ ?_ _ _).trans ?_) | (with_reducible refine (foldl_otp _ ?_ _ _).trans ?_) | (with_reducible refine (checked_otp _ _ _ _ ?_ _).trans ?_) | (with_reducible refine (pqChecked_otp _ _ _ _ ?_ _).trans ?_) | simp))
@[simp] theorem onAggOffer_otp (m : Nat) (p : List Byte) (s : State) : (onAggOffer m p s).lcs.otp = s.lcs.otp := by
  rw [onAggOffer]; repeat' split
  all_goals simp
@[simp] theorem onAggShare_otp (m : Nat) (p : List Byte) (s : State) : (onAggShare m p s).lcs.otp = s.lcs.otp := by
  simp [onAggShare]
@[simp] theorem onAggPartial_otp (m : Nat) (p : List Byte) (s : State) : (onAggPartial m p s).lcs.otp = s.lcs.otp := by
  simp [onAggPartial]
@[simp] theorem onAggCipher_otp (m : Nat) (p : List Byte) (s : State) : (onAggCipher m p s).lcs.otp = s.lcs.otp := by
  simp [onAggCipher]
@[simp] theorem aggRoundTimeout_otp (id : Nat) (s : State) : (aggRoundTimeout id s).lcs.otp = s.lcs.otp := by
  unfold aggRoundTimeout; dsimp only; repeat' split
  all_goals simp
@[simp] theorem pruneMesh_otp (s : State) : (pruneMesh s).lcs.otp = s.lcs.otp := by
  simp [pruneMesh]
theorem whenCustody_otp (f : State → State) (h : ∀ s, (f s).lcs.otp = s.lcs.otp) (s : State) : (whenCustody f s).lcs.otp = s.lcs.otp := by
  unfold whenCustody; split <;> simp [h]
@[simp] theorem onMessage_otp (m rx : Nat) (h : FrameHdr) (p : List Byte) (s : State) : (onMessage m rx h p s).lcs.otp = s.lcs.otp := by
  unfold onMessage; dsimp only; split
  all_goals first | (simp; done) | (split <;> simp; done) | (refine whenCustody_otp _ ?_ _; intro s; simp)
theorem gather_otp (m type frag : Nat) (p : List Byte) (s : State) :
    match gather m type frag p s with
    | .part t => t.lcs.otp = s.lcs.otp
    | .wrong => True
    | .whole _ t => t.lcs.otp = s.lcs.otp := by
  unfold gather; dsimp only
  cases s.msh.places.find? (fun q => q.member == m) <;> split_ifs <;> (try simp) <;> split_ifs <;> simp
theorem gather_part_otp {m type frag : Nat} {p : List Byte} {s t : State} (h : gather m type frag p s = .part t) : t.lcs.otp = s.lcs.otp := by
  have e := gather_otp m type frag p s
  rw [h] at e; exact e
theorem gather_whole_otp {m type frag : Nat} {p q : List Byte} {s t : State} (h : gather m type frag p s = .whole q t) : t.lcs.otp = s.lcs.otp := by
  have e := gather_otp m type frag p s
  rw [h] at e; exact e
@[simp] theorem tagFailed_otp (m path : Nat) (s : State) : (tagFailed m path s).lcs.otp = s.lcs.otp := by
  (first | rw [tagFailed] | unfold tagFailed); (try dsimp only); repeat' split
  all_goals first | (simp; done) | (repeat' (first | (intro _) | split | (with_reducible refine (forEach_otp _ ?_ _ _).trans ?_) | (with_reducible refine (foldl_otp _ ?_ _ _).trans ?_) | (with_reducible refine (checked_otp _ _ _ _ ?_ _).trans ?_) | (with_reducible refine (pqChecked_otp _ _ _ _ ?_ _).trans ?_) | simp))
@[simp] theorem takeCredit_otp (m credit : Nat) (s : State) : (takeCredit m credit s).lcs.otp = s.lcs.otp := by
  simp [takeCredit]
@[simp] theorem malformed_otp (m path flags : Nat) (s : State) : (malformed m path flags s).lcs.otp = s.lcs.otp := by
  rw [malformed]; repeat' split
  all_goals simp
@[simp] theorem frameBody_otp (m path rx : Nat) (h : FrameHdr) (p : List Byte) (s : State) :
    (frameBody m path rx h p s).1.lcs.otp = s.lcs.otp := by
  unfold frameBody; split
  · rename_i t e; have e := gather_part_otp e; simp [e]
  · simp
  · rename_i q t e; have e := gather_whole_otp e; split <;> simp [e]
@[simp] theorem frameIn_otp (m path rx : Nat) (b : List Byte) (s : State) : (frameIn m path rx b s).1.lcs.otp = s.lcs.otp := by
  rw [frameIn]
  repeat' split
  all_goals first | (simp; done) | ((try dsimp only); (repeat' split) <;> simp)
@[simp] theorem receive_otp (m path rx : Nat) (b : List Byte) (s : State) : (receive m path rx b s).1.lcs.otp = s.lcs.otp := by
  (first | rw [receive] | unfold receive); (try dsimp only); repeat' split
  all_goals simp
@[simp] theorem portFrame_otp (type : Option Nat) (p rx : Nat) (b : List Byte) (s : State) : (portFrame type p rx b s).1.lcs.otp = s.lcs.otp := by
  (first | rw [portFrame] | unfold portFrame); (try dsimp only); repeat' split
  all_goals simp
@[simp] theorem meshFrame_otp (type p : Nat) (b : List Byte) (s : State) : (meshFrame type p b s).lcs.otp = s.lcs.otp := by
  simp [meshFrame]
@[simp] theorem meshHeartbeat_otp (p rx : Nat) (b : List Byte) (s : State) : (meshHeartbeat p rx b s).lcs.otp = s.lcs.otp := by
  simp [meshHeartbeat]
@[simp] theorem meshFrameRejected_otp (p : Nat) (fec : Bool) (b : List Byte) (s : State) : (meshFrameRejected p fec b s).lcs.otp = s.lcs.otp := by
  unfold meshFrameRejected; dsimp only; repeat' split
  all_goals simp
@[simp] theorem meshTunnelIn_otp (j : Nat) (s : State) : (meshTunnelIn j s).lcs.otp = s.lcs.otp := by
  have key : ∀ (l : List (Option Nat × List Byte)) (one : State × Nat × Nat → Option Nat × List Byte → State × Nat × Nat) (a : State × Nat × Nat),
      (∀ a f, (one a f).1.lcs.otp = a.1.lcs.otp) → (l.foldl one a).1.lcs.otp = a.1.lcs.otp := by
    intro l one a h
    induction l generalizing a with
    | nil => rfl
    | cons b l ih => rw [List.foldl_cons, ih, h]
  unfold meshTunnelIn; split
  · rfl
  · extract_lets one r; split
    · simp
    · rw [setResult_otp]; refine key _ one _ ?_; intro a f
      simp only [one]; split
      · rfl
      · split
        · split <;> simp
        · rfl
@[simp] theorem meshTunnelOut_otp (j : Nat) (s : State) : (meshTunnelOut j s).lcs.otp = s.lcs.otp := by
  rw [meshTunnelOut]; repeat' split
  all_goals simp
@[simp] theorem meshVault_otp (bad : List Nat) (s : State) : (meshVault bad s).lcs.otp = s.lcs.otp := by
  (first | rw [meshVault] | unfold meshVault); (try dsimp only); repeat' split
  all_goals first | (simp; done) | (repeat' (first | (intro _) | split | (with_reducible refine (forEach_otp _ ?_ _ _).trans ?_) | (with_reducible refine (foldl_otp _ ?_ _ _).trans ?_) | (with_reducible refine (checked_otp _ _ _ _ ?_ _).trans ?_) | (with_reducible refine (pqChecked_otp _ _ _ _ ?_ _).trans ?_) | simp))
@[simp] theorem makeIdentity_otp (s : State) : (makeIdentity s).lcs.otp = s.lcs.otp := by
  rw [makeIdentity]; repeat' split
  all_goals simp
@[simp] theorem meshReset_otp (s : State) : (meshReset s).lcs.otp = s.lcs.otp := by
  simp [meshReset]
@[simp] theorem meshStart_otp (h0 : Nat) (s : State) : (meshStart h0 s).lcs.otp = s.lcs.otp := by
  rw [meshStart]; repeat' split
  all_goals simp
@[simp] theorem eraseMeshVault_otp (s : State) : (eraseMeshVault s).lcs.otp = s.lcs.otp := by
  simp [eraseMeshVault]
@[simp] theorem dropBackup_otp (holders : List Nat) (cab : Nat) (s : State) : (dropBackup holders cab s).lcs.otp = s.lcs.otp := by
  rw [dropBackup]; repeat' split
  all_goals simp
@[simp] theorem shareCommit_otp (old : Carcass) (s : State) : (shareCommit old s).lcs.otp = s.lcs.otp := by
  (first | rw [shareCommit] | unfold shareCommit); (try dsimp only); repeat' split
  all_goals first | (simp; done) | (repeat' (first | (intro _) | split | (with_reducible refine (forEach_otp _ ?_ _ _).trans ?_) | (with_reducible refine (foldl_otp _ ?_ _ _).trans ?_) | (with_reducible refine (checked_otp _ _ _ _ ?_ _).trans ?_) | (with_reducible refine (pqChecked_otp _ _ _ _ ?_ _).trans ?_) | simp))
@[simp] theorem meshCommit_otp (old : Carcass) (s : State) : (meshCommit old s).lcs.otp = s.lcs.otp := by
  (first | rw [meshCommit] | unfold meshCommit); (try dsimp only); repeat' split
  all_goals first | (simp; done) | (repeat' (first | (intro _) | split | (with_reducible refine (forEach_otp _ ?_ _ _).trans ?_) | (with_reducible refine (foldl_otp _ ?_ _ _).trans ?_) | (with_reducible refine (checked_otp _ _ _ _ ?_ _).trans ?_) | (with_reducible refine (pqChecked_otp _ _ _ _ ?_ _).trans ?_) | simp))
@[simp] theorem setRow_otp (r : Nat) (bs : List Byte) (s : State) : (setRow r bs s).lcs.otp = s.lcs.otp := by
  (first | rw [setRow] | unfold setRow); (try dsimp only); repeat' split
  all_goals first | (simp; done) | (repeat' (first | (intro _) | split | (with_reducible refine (forEach_otp _ ?_ _ _).trans ?_) | (with_reducible refine (foldl_otp _ ?_ _ _).trans ?_) | (with_reducible refine (checked_otp _ _ _ _ ?_ _).trans ?_) | (with_reducible refine (pqChecked_otp _ _ _ _ ?_ _).trans ?_) | simp))
@[simp] theorem programRow_otp (r : Nat) (bs : List Byte) (s : State) : (programRow r bs s).lcs.otp = s.lcs.otp := by
  (first | rw [programRow] | unfold programRow); (try dsimp only); repeat' split
  all_goals first | (simp; done) | (repeat' (first | (intro _) | split | (with_reducible refine (forEach_otp _ ?_ _ _).trans ?_) | (with_reducible refine (foldl_otp _ ?_ _ _).trans ?_) | (with_reducible refine (checked_otp _ _ _ _ ?_ _).trans ?_) | (with_reducible refine (pqChecked_otp _ _ _ _ ?_ _).trans ?_) | simp))
@[simp] theorem setRows_otp (r : Nat) (bs : List Byte) (s : State) : (setRows r bs s).lcs.otp = s.lcs.otp := by
  (first | rw [setRows] | unfold setRows); (try dsimp only); repeat' split
  all_goals first | (simp; done) | (repeat' (first | (intro _) | split | (with_reducible refine (forEach_otp _ ?_ _ _).trans ?_) | (with_reducible refine (foldl_otp _ ?_ _ _).trans ?_) | (with_reducible refine (checked_otp _ _ _ _ ?_ _).trans ?_) | (with_reducible refine (pqChecked_otp _ _ _ _ ?_ _).trans ?_) | simp))
@[simp] theorem readyRow_otp (r : Nat) (s : State) : (readyRow r s).lcs.otp = s.lcs.otp := by
  (first | rw [readyRow] | unfold readyRow); (try dsimp only); repeat' split
  all_goals first | (simp; done) | (repeat' (first | (intro _) | split | (with_reducible refine (forEach_otp _ ?_ _ _).trans ?_) | (with_reducible refine (foldl_otp _ ?_ _ _).trans ?_) | (with_reducible refine (checked_otp _ _ _ _ ?_ _).trans ?_) | (with_reducible refine (pqChecked_otp _ _ _ _ ?_ _).trans ?_) | simp))
@[simp] theorem programBit_otp (r n : Nat) (s : State) : (programBit r n s).lcs.otp = s.lcs.otp := by
  (first | rw [programBit] | unfold programBit); (try dsimp only); repeat' split
  all_goals first | (simp; done) | (repeat' (first | (intro _) | split | (with_reducible refine (forEach_otp _ ?_ _ _).trans ?_) | (with_reducible refine (foldl_otp _ ?_ _ _).trans ?_) | (with_reducible refine (checked_otp _ _ _ _ ?_ _).trans ?_) | (with_reducible refine (pqChecked_otp _ _ _ _ ?_ _).trans ?_) | simp))
@[simp] theorem writeIntent_otp (id b k : Nat) (s : State) : (writeIntent id b k s).lcs.otp = s.lcs.otp := by
  (first | rw [writeIntent] | unfold writeIntent); (try dsimp only); repeat' split
  all_goals first | (simp; done) | (repeat' (first | (intro _) | split | (with_reducible refine (forEach_otp _ ?_ _ _).trans ?_) | (with_reducible refine (foldl_otp _ ?_ _ _).trans ?_) | (with_reducible refine (checked_otp _ _ _ _ ?_ _).trans ?_) | (with_reducible refine (pqChecked_otp _ _ _ _ ?_ _).trans ?_) | simp))
@[simp] theorem markDone_otp (j : Nat) (s : State) : (markDone j s).lcs.otp = s.lcs.otp := by
  (first | rw [markDone] | unfold markDone); (try dsimp only); repeat' split
  all_goals first | (simp; done) | (repeat' (first | (intro _) | split | (with_reducible refine (forEach_otp _ ?_ _ _).trans ?_) | (with_reducible refine (foldl_otp _ ?_ _ _).trans ?_) | (with_reducible refine (checked_otp _ _ _ _ ?_ _).trans ?_) | (with_reducible refine (pqChecked_otp _ _ _ _ ?_ _).trans ?_) | simp))
@[simp] theorem writeRecord_otp (id mark : Nat) (bs : List Byte) (s : State) : (writeRecord id mark bs s).lcs.otp = s.lcs.otp := by
  (first | rw [writeRecord] | unfold writeRecord); (try dsimp only); repeat' split
  all_goals first | (simp; done) | (repeat' (first | (intro _) | split | (with_reducible refine (forEach_otp _ ?_ _ _).trans ?_) | (with_reducible refine (foldl_otp _ ?_ _ _).trans ?_) | (with_reducible refine (checked_otp _ _ _ _ ?_ _).trans ?_) | (with_reducible refine (pqChecked_otp _ _ _ _ ?_ _).trans ?_) | simp))
@[simp] theorem programReleased_otp (id mark : Nat) (s : State) : (programReleased id mark s).lcs.otp = s.lcs.otp := by
  (first | rw [programReleased] | unfold programReleased); (try dsimp only); repeat' split
  all_goals first | (simp; done) | (repeat' (first | (intro _) | split | (with_reducible refine (forEach_otp _ ?_ _ _).trans ?_) | (with_reducible refine (foldl_otp _ ?_ _ _).trans ?_) | (with_reducible refine (checked_otp _ _ _ _ ?_ _).trans ?_) | (with_reducible refine (pqChecked_otp _ _ _ _ ?_ _).trans ?_) | simp))
@[simp] theorem closeIntentCell_otp (abandoned : Bool) (s : State) : (closeIntentCell abandoned s).lcs.otp = s.lcs.otp := by
  (first | rw [closeIntentCell] | unfold closeIntentCell); (try dsimp only); repeat' split
  all_goals first | (simp; done) | (repeat' (first | (intro _) | split | (with_reducible refine (forEach_otp _ ?_ _ _).trans ?_) | (with_reducible refine (foldl_otp _ ?_ _ _).trans ?_) | (with_reducible refine (checked_otp _ _ _ _ ?_ _).trans ?_) | (with_reducible refine (pqChecked_otp _ _ _ _ ?_ _).trans ?_) | simp))
@[simp] theorem writeCopy_otp (k : Nat) (bs : List Byte) (s : State) : (writeCopy k bs s).lcs.otp = s.lcs.otp := by
  rw [writeCopy]; repeat' split
  all_goals simp
@[simp] theorem setCopyActive_otp (k : Nat) (b : Bool) (s : State) : (setCopyActive k b s).lcs.otp = s.lcs.otp := by
  rw [setCopyActive]; repeat' split
  all_goals simp
@[simp] theorem setCopyReason_otp (k : Nat) (r : Bad) (s : State) : (setCopyReason k r s).lcs.otp = s.lcs.otp := by
  rw [setCopyReason]; repeat' split
  all_goals simp
@[simp] theorem openIntent_otp (g : Staged) (s : State) : (openIntent g s).lcs.otp = s.lcs.otp := by
  simp [openIntent]
@[simp] theorem discardStaged_otp (s : State) : (discardStaged s).lcs.otp = s.lcs.otp := by
  rw [discardStaged]; repeat' split
  all_goals simp
@[simp] theorem carcassStage_otp (j : Nat) (s : State) : (carcassStage j s).lcs.otp = s.lcs.otp := by
  (first | rw [carcassStage] | unfold carcassStage); (try dsimp only); repeat' split
  all_goals first | (simp; done) | (repeat' (first | (intro _) | split | (with_reducible refine (forEach_otp _ ?_ _ _).trans ?_) | (with_reducible refine (foldl_otp _ ?_ _ _).trans ?_) | (with_reducible refine (checked_otp _ _ _ _ ?_ _).trans ?_) | (with_reducible refine (pqChecked_otp _ _ _ _ ?_ _).trans ?_) | simp))
@[simp] theorem carcassUnstage_otp (j : Nat) (s : State) : (carcassUnstage j s).lcs.otp = s.lcs.otp := by
  rw [carcassUnstage]; repeat' split
  all_goals simp
@[simp] theorem carcassRead_otp (j : Nat) (s : State) : (carcassRead j s).lcs.otp = s.lcs.otp := by
  (first | rw [carcassRead] | unfold carcassRead); (try dsimp only); repeat' split
  all_goals first | (simp; done) | (repeat' (first | (intro _) | split | (with_reducible refine (forEach_otp _ ?_ _ _).trans ?_) | (with_reducible refine (foldl_otp _ ?_ _ _).trans ?_) | (with_reducible refine (checked_otp _ _ _ _ ?_ _).trans ?_) | (with_reducible refine (pqChecked_otp _ _ _ _ ?_ _).trans ?_) | simp))
@[simp] theorem runCarcassStage_otp (j : Nat) (s : State) : (runCarcassStage j s).lcs.otp = s.lcs.otp := by
  rw [runCarcassStage]; repeat' split
  all_goals simp
@[simp] theorem abandonIntent_otp (cause : Nat) (s : State) : (abandonIntent cause s).lcs.otp = s.lcs.otp := by
  rw [abandonIntent]; repeat' split
  all_goals simp
@[simp] theorem carcassCopyWritten_otp (found : List Byte) (s : State) : (carcassCopyWritten found s).lcs.otp = s.lcs.otp := by
  unfold carcassCopyWritten; dsimp only; repeat' split
  all_goals simp
@[simp] theorem carcassIntentTimeout_otp (s : State) : (carcassIntentTimeout s).lcs.otp = s.lcs.otp := by
  rw [carcassIntentTimeout]; repeat' split
  all_goals simp
@[simp] theorem copyRepair_otp (found : List Byte) (s : State) : (copyRepair found s).lcs.otp = s.lcs.otp := by
  (first | rw [copyRepair] | unfold copyRepair); (try dsimp only); repeat' split
  all_goals first | (simp; done) | (repeat' (first | (intro _) | split | (with_reducible refine (forEach_otp _ ?_ _ _).trans ?_) | (with_reducible refine (foldl_otp _ ?_ _ _).trans ?_) | (with_reducible refine (checked_otp _ _ _ _ ?_ _).trans ?_) | (with_reducible refine (pqChecked_otp _ _ _ _ ?_ _).trans ?_) | simp))
@[simp] theorem completeCommit_otp (c : Carcass) (i : CommitIntent) (s : State) : (completeCommit c i s).lcs.otp = s.lcs.otp := by
  simp [completeCommit]
@[simp] theorem runBare_otp (reason : Nat) (s : State) : (runBare reason s).lcs.otp = s.lcs.otp := by
  simp [runBare]
@[simp] theorem logCopy_otp (k : Nat) (r : Except Bad Carcass) (s : State) : (logCopy k r s).lcs.otp = s.lcs.otp := by
  (first | rw [logCopy] | unfold logCopy); (try dsimp only); repeat' split
  all_goals first | (simp; done) | (repeat' (first | (intro _) | split | (with_reducible refine (forEach_otp _ ?_ _ _).trans ?_) | (with_reducible refine (foldl_otp _ ?_ _ _).trans ?_) | (with_reducible refine (checked_otp _ _ _ _ ?_ _).trans ?_) | (with_reducible refine (pqChecked_otp _ _ _ _ ?_ _).trans ?_) | simp))
@[simp] theorem runCopy_otp (k : Nat) (c : Carcass) (same : Bool) (s : State) : (runCopy k c same s).lcs.otp = s.lcs.otp := by
  rw [runCopy]; repeat' split
  all_goals simp
@[simp] theorem selectCarcass_otp (s : State) : (selectCarcass s).lcs.otp = s.lcs.otp := by
  (first | rw [selectCarcass] | unfold selectCarcass); (try dsimp only); repeat' split
  all_goals first | (simp; done) | (repeat' (first | (intro _) | split | (with_reducible refine (forEach_otp _ ?_ _ _).trans ?_) | (with_reducible refine (foldl_otp _ ?_ _ _).trans ?_) | (with_reducible refine (checked_otp _ _ _ _ ?_ _).trans ?_) | (with_reducible refine (pqChecked_otp _ _ _ _ ?_ _).trans ?_) | simp))
@[simp] theorem splitNotice_otp (s : State) : (splitNotice s).lcs.otp = s.lcs.otp := by
  rw [splitNotice]; repeat' split
  all_goals simp
@[simp] theorem failSource_otp (n test : Nat) (s : State) : (failSource n test s).lcs.otp = s.lcs.otp := by
  rw [failSource]; repeat' split
  all_goals simp
@[simp] theorem healthIntermittent_otp (n test : Nat) (s : State) : (healthIntermittent n test s).lcs.otp = s.lcs.otp := by
  (first | rw [healthIntermittent] | unfold healthIntermittent); (try dsimp only); repeat' split
  all_goals first | (simp; done) | (repeat' (first | (intro _) | split | (with_reducible refine (forEach_otp _ ?_ _ _).trans ?_) | (with_reducible refine (foldl_otp _ ?_ _ _).trans ?_) | (with_reducible refine (checked_otp _ _ _ _ ?_ _).trans ?_) | (with_reducible refine (pqChecked_otp _ _ _ _ ?_ _).trans ?_) | simp))
@[simp] theorem windowClose_otp (n : Nat) (s : State) : (windowClose n s).lcs.otp = s.lcs.otp := by
  (first | rw [windowClose] | unfold windowClose); (try dsimp only); repeat' split
  all_goals first | (simp; done) | (repeat' (first | (intro _) | split | (with_reducible refine (forEach_otp _ ?_ _ _).trans ?_) | (with_reducible refine (foldl_otp _ ?_ _ _).trans ?_) | (with_reducible refine (checked_otp _ _ _ _ ?_ _).trans ?_) | (with_reducible refine (pqChecked_otp _ _ _ _ ?_ _).trans ?_) | simp))
@[simp] theorem tapSample_otp (n : Nat) (b : Bool) (s : State) : (tapSample n b s).lcs.otp = s.lcs.otp := by
  (first | rw [tapSample] | unfold tapSample); (try dsimp only); repeat' split
  all_goals first | (simp; done) | (repeat' (first | (intro _) | split | (with_reducible refine (forEach_otp _ ?_ _ _).trans ?_) | (with_reducible refine (foldl_otp _ ?_ _ _).trans ?_) | (with_reducible refine (checked_otp _ _ _ _ ?_ _).trans ?_) | (with_reducible refine (pqChecked_otp _ _ _ _ ?_ _).trans ?_) | simp))
@[simp] theorem takeSample_otp (n : Nat) (b : Bool) (s : State) : (takeSample n b s).lcs.otp = s.lcs.otp := by
  (first | rw [takeSample] | unfold takeSample); (try dsimp only); repeat' split
  all_goals first | (simp; done) | (repeat' (first | (intro _) | split | (with_reducible refine (forEach_otp _ ?_ _ _).trans ?_) | (with_reducible refine (foldl_otp _ ?_ _ _).trans ?_) | (with_reducible refine (checked_otp _ _ _ _ ?_ _).trans ?_) | (with_reducible refine (pqChecked_otp _ _ _ _ ?_ _).trans ?_) | simp))
@[simp] theorem rawBit_otp (n : Nat) (b : Bool) (s : State) : (rawBit n b s).lcs.otp = s.lcs.otp := by
  (first | rw [rawBit] | unfold rawBit); (try dsimp only); repeat' split
  all_goals first | (simp; done) | (repeat' (first | (intro _) | split | (with_reducible refine (forEach_otp _ ?_ _ _).trans ?_) | (with_reducible refine (foldl_otp _ ?_ _ _).trans ?_) | (with_reducible refine (checked_otp _ _ _ _ ?_ _).trans ?_) | (with_reducible refine (pqChecked_otp _ _ _ _ ?_ _).trans ?_) | simp))
@[simp] theorem takeRaw_otp (n : Nat) (bits : List Bool) (s : State) : (takeRaw n bits s).lcs.otp = s.lcs.otp := by
  (first | rw [takeRaw] | unfold takeRaw); (try dsimp only); repeat' split
  all_goals first | (simp; done) | (repeat' (first | (intro _) | split | (with_reducible refine (forEach_otp _ ?_ _ _).trans ?_) | (with_reducible refine (foldl_otp _ ?_ _ _).trans ?_) | (with_reducible refine (checked_otp _ _ _ _ ?_ _).trans ?_) | (with_reducible refine (pqChecked_otp _ _ _ _ ?_ _).trans ?_) | simp))
@[simp] theorem pairSample_otp (n ca cb : Nat) (bits : List Bool) (s : State) : (pairSample n ca cb bits s).lcs.otp = s.lcs.otp := by
  (first | rw [pairSample] | unfold pairSample); (try dsimp only); repeat' split
  all_goals first | (simp; done) | (repeat' (first | (intro _) | split | (with_reducible refine (forEach_otp _ ?_ _ _).trans ?_) | (with_reducible refine (foldl_otp _ ?_ _ _).trans ?_) | (with_reducible refine (checked_otp _ _ _ _ ?_ _).trans ?_) | (with_reducible refine (pqChecked_otp _ _ _ _ ?_ _).trans ?_) | simp))
@[simp] theorem channelSample_otp (n : Nat) (bits : List Bool) (s : State) : (channelSample n bits s).lcs.otp = s.lcs.otp := by
  (first | rw [channelSample] | unfold channelSample); (try dsimp only); repeat' split
  all_goals first | (simp; done) | (repeat' (first | (intro _) | split | (with_reducible refine (forEach_otp _ ?_ _ _).trans ?_) | (with_reducible refine (foldl_otp _ ?_ _ _).trans ?_) | (with_reducible refine (checked_otp _ _ _ _ ?_ _).trans ?_) | (with_reducible refine (pqChecked_otp _ _ _ _ ?_ _).trans ?_) | simp))
@[simp] theorem orbitSources_otp (s : State) : (orbitSources s).lcs.otp = s.lcs.otp := by
  simp [orbitSources]
@[simp] theorem booksBoundary_otp (s : State) : (booksBoundary s).lcs.otp = s.lcs.otp := by
  simp [booksBoundary]
@[simp] theorem takeSeed_otp (s : State) : (takeSeed s).lcs.otp = s.lcs.otp := by
  simp [takeSeed]
@[simp] theorem resume_otp (s : State) : (resume s).lcs.otp = s.lcs.otp := by
  rw [resume]; repeat' split
  all_goals simp
@[simp] theorem drawsLost_otp (s : State) : (drawsLost s).lcs.otp = s.lcs.otp := by
  (first | rw [drawsLost] | unfold drawsLost); (try dsimp only); repeat' split
  all_goals first | (simp; done) | (repeat' (first | (intro _) | split | (with_reducible refine (forEach_otp _ ?_ _ _).trans ?_) | (with_reducible refine (foldl_otp _ ?_ _ _).trans ?_) | (with_reducible refine (checked_otp _ _ _ _ ?_ _).trans ?_) | (with_reducible refine (pqChecked_otp _ _ _ _ ?_ _).trans ?_) | simp))
@[simp] theorem block_otp (s : State) : (block s).lcs.otp = s.lcs.otp := by
  simp [block]
@[simp] theorem drbgInstantiate_otp (s : State) : (drbgInstantiate s).lcs.otp = s.lcs.otp := by
  rw [drbgInstantiate]; repeat' split
  all_goals simp
@[simp] theorem drbgReseed_otp (s : State) : (drbgReseed s).lcs.otp = s.lcs.otp := by
  rw [drbgReseed]; repeat' split
  all_goals simp
@[simp] theorem drbgBlocked_otp (s : State) : (drbgBlocked s).lcs.otp = s.lcs.otp := by
  rw [drbgBlocked]; repeat' split
  all_goals simp
@[simp] theorem drbgKatFailed_otp (cause : Nat) (s : State) : (drbgKatFailed cause s).lcs.otp = s.lcs.otp := by
  rw [drbgKatFailed]; repeat' split
  all_goals simp
@[simp] theorem drbgLate_otp (s : State) : (drbgLate s).lcs.otp = s.lcs.otp := by
  rw [drbgLate]; repeat' split
  all_goals simp
@[simp] theorem rngClear_otp (s : State) : (rngClear s).lcs.otp = s.lcs.otp := by
  simp [rngClear]
@[simp] theorem rngDawn_otp (s : State) : (rngDawn s).lcs.otp = s.lcs.otp := by
  simp [rngDawn]
@[simp] theorem rngRead_otp (j : Nat) (s : State) : (rngRead j s).lcs.otp = s.lcs.otp := by
  (first | rw [rngRead] | unfold rngRead); (try dsimp only); repeat' split
  all_goals first | (simp; done) | (repeat' (first | (intro _) | split | (with_reducible refine (forEach_otp _ ?_ _ _).trans ?_) | (with_reducible refine (foldl_otp _ ?_ _ _).trans ?_) | (with_reducible refine (checked_otp _ _ _ _ ?_ _).trans ?_) | (with_reducible refine (pqChecked_otp _ _ _ _ ?_ _).trans ?_) | simp))
@[simp] theorem modCounter_otp (id : Nat) (g : Counter → Counter) (s : State) : (modCounter id g s).lcs.otp = s.lcs.otp := by
  simp [modCounter]
@[simp] theorem openCarry_otp (id b k : Nat) (s : State) : (openCarry id b k s).lcs.otp = s.lcs.otp := by
  (first | rw [openCarry] | unfold openCarry); (try dsimp only); repeat' split
  all_goals first | (simp; done) | (repeat' (first | (intro _) | split | (with_reducible refine (forEach_otp _ ?_ _ _).trans ?_) | (with_reducible refine (foldl_otp _ ?_ _ _).trans ?_) | (with_reducible refine (checked_otp _ _ _ _ ?_ _).trans ?_) | (with_reducible refine (pqChecked_otp _ _ _ _ ?_ _).trans ?_) | simp))
@[simp] theorem carry_otp (id : Nat) (s : State) : (carry id s).lcs.otp = s.lcs.otp := by
  simp [carry]
@[simp] theorem increment_otp (id : Nat) (bitOk : Bool) (s : State) : (increment id bitOk s).lcs.otp = s.lcs.otp := by
  rw [increment]; repeat' split
  all_goals simp
@[simp] theorem wear_otp (id : Nat) (s : State) : (wear id s).lcs.otp = s.lcs.otp := by
  unfold wear; dsimp only; split <;> simp
@[simp] theorem publishAnchor_otp (bitOk : Bool) (s : State) : (publishAnchor bitOk s).lcs.otp = s.lcs.otp := by
  rw [publishAnchor]; repeat' split
  all_goals simp
@[simp] theorem closeCarry_otp (id : Nat) (s : State) : (closeCarry id s).lcs.otp = s.lcs.otp := by
  (first | rw [closeCarry] | unfold closeCarry); (try dsimp only); repeat' split
  all_goals first | (simp; done) | (repeat' (first | (intro _) | split | (with_reducible refine (forEach_otp _ ?_ _ _).trans ?_) | (with_reducible refine (foldl_otp _ ?_ _ _).trans ?_) | (with_reducible refine (checked_otp _ _ _ _ ?_ _).trans ?_) | (with_reducible refine (pqChecked_otp _ _ _ _ ?_ _).trans ?_) | simp))
@[simp] theorem carryCompletion_otp (id fail : Nat) (s : State) : (carryCompletion id fail s).lcs.otp = s.lcs.otp := by
  (first | rw [carryCompletion] | unfold carryCompletion); (try dsimp only); repeat' split
  all_goals first | (simp; done) | (repeat' (first | (intro _) | split | (with_reducible refine (forEach_otp _ ?_ _ _).trans ?_) | (with_reducible refine (foldl_otp _ ?_ _ _).trans ?_) | (with_reducible refine (checked_otp _ _ _ _ ?_ _).trans ?_) | (with_reducible refine (pqChecked_otp _ _ _ _ ?_ _).trans ?_) | simp))
@[simp] theorem modLaneLdg_otp (n : Nat) (g : LaneLedger → LaneLedger) (s : State) : (modLaneLdg n g s).lcs.otp = s.lcs.otp := by
  simp [modLaneLdg]
@[simp] theorem checkpoint_otp (n kind : Nat) (s : State) : (checkpoint n kind s).lcs.otp = s.lcs.otp := by
  simp [checkpoint]
@[simp] theorem prepareLane_otp (n : Nat) (r : LaneRecord) (s : State) : (prepareLane n r s).lcs.otp = s.lcs.otp := by
  (first | rw [prepareLane] | unfold prepareLane); (try dsimp only); repeat' split
  all_goals first | (simp; done) | (repeat' (first | (intro _) | split | (with_reducible refine (forEach_otp _ ?_ _ _).trans ?_) | (with_reducible refine (foldl_otp _ ?_ _ _).trans ?_) | (with_reducible refine (checked_otp _ _ _ _ ?_ _).trans ?_) | (with_reducible refine (pqChecked_otp _ _ _ _ ?_ _).trans ?_) | simp))
@[simp] theorem releaseRecord_otp (n : Nat) (s : State) : (releaseRecord n s).lcs.otp = s.lcs.otp := by
  (first | rw [releaseRecord] | unfold releaseRecord); (try dsimp only); repeat' split
  all_goals first | (simp; done) | (repeat' (first | (intro _) | split | (with_reducible refine (forEach_otp _ ?_ _ _).trans ?_) | (with_reducible refine (foldl_otp _ ?_ _ _).trans ?_) | (with_reducible refine (checked_otp _ _ _ _ ?_ _).trans ?_) | (with_reducible refine (pqChecked_otp _ _ _ _ ?_ _).trans ?_) | simp))
@[simp] theorem publishLane_otp (n : Nat) (r : LaneRecord) (bitOk : Bool) (s : State) : (publishLane n r bitOk s).lcs.otp = s.lcs.otp := by
  simp [publishLane]
@[simp] theorem laneRecordWrite_otp (n : Nat) (bitOk : Bool) (s : State) : (laneRecordWrite n bitOk s).lcs.otp = s.lcs.otp := by
  rw [laneRecordWrite]; repeat' split
  all_goals simp
@[simp] theorem writeAnchor_otp (bitOk : Bool) (s : State) : (writeAnchor bitOk s).lcs.otp = s.lcs.otp := by
  rw [writeAnchor]; repeat' split
  all_goals simp
@[simp] theorem closeTo_otp (c : Nat) (s : State) : (closeTo c s).lcs.otp = s.lcs.otp := by
  simp [closeTo]
@[simp] theorem periodClose_otp (bitOk : Bool) (s : State) : (periodClose bitOk s).lcs.otp = s.lcs.otp := by
  rw [periodClose]; repeat' split
  all_goals simp
@[simp] theorem closePeriod_otp (n kind cause : Nat) (s : State) : (closePeriod n kind cause s).lcs.otp = s.lcs.otp := by
  simp [closePeriod]
@[simp] theorem closeAtDecision_otp (n : Nat) (s : State) : (closeAtDecision n s).lcs.otp = s.lcs.otp := by
  rw [closeAtDecision]; repeat' split
  all_goals simp
@[simp] theorem seqSkip_otp (n cause : Nat) (s : State) : (seqSkip n cause s).lcs.otp = s.lcs.otp := by
  rw [seqSkip]; repeat' split
  all_goals simp
@[simp] theorem skipRemoved_otp (s : State) : (skipRemoved s).lcs.otp = s.lcs.otp := by
  rw [skipRemoved]; split <;> simp
@[simp] theorem takeSnapshots_otp (s : State) : (takeSnapshots s).lcs.otp = s.lcs.otp := by
  simp [takeSnapshots]
@[simp] theorem sealRequest_otp (j : Nat) (ok : Bool) (s : State) : (sealRequest j ok s).lcs.otp = s.lcs.otp := by
  (first | rw [sealRequest] | unfold sealRequest); (try dsimp only); repeat' split
  all_goals first | (simp; done) | (repeat' (first | (intro _) | split | (with_reducible refine (forEach_otp _ ?_ _ _).trans ?_) | (with_reducible refine (foldl_otp _ ?_ _ _).trans ?_) | (with_reducible refine (checked_otp _ _ _ _ ?_ _).trans ?_) | (with_reducible refine (pqChecked_otp _ _ _ _ ?_ _).trans ?_) | simp))
@[simp] theorem commitSeal_otp (j n seq : Nat) (bitOk : Bool) (s : State) : (commitSeal j n seq bitOk s).lcs.otp = s.lcs.otp := by
  rw [commitSeal]; repeat' split
  all_goals simp
@[simp] theorem releaseSeal_otp (n : Nat) (s : State) : (releaseSeal n s).lcs.otp = s.lcs.otp := by
  simp [releaseSeal]
@[simp] theorem raiseFloor_otp (bitOk : Bool) (s : State) : (raiseFloor bitOk s).lcs.otp = s.lcs.otp := by
  (first | rw [raiseFloor] | unfold raiseFloor); (try dsimp only); repeat' split
  all_goals first | (simp; done) | (repeat' (first | (intro _) | split | (with_reducible refine (forEach_otp _ ?_ _ _).trans ?_) | (with_reducible refine (foldl_otp _ ?_ _ _).trans ?_) | (with_reducible refine (checked_otp _ _ _ _ ?_ _).trans ?_) | (with_reducible refine (pqChecked_otp _ _ _ _ ?_ _).trans ?_) | simp))
@[simp] theorem ledgerRead_otp (j : Nat) (s : State) : (ledgerRead j s).lcs.otp = s.lcs.otp := by
  rw [ledgerRead]; repeat' split
  all_goals simp
@[simp] theorem ledgerIdentity_otp (j : Nat) (s : State) : (ledgerIdentity j s).lcs.otp = s.lcs.otp := by
  rw [ledgerIdentity]; repeat' split
  all_goals simp
@[simp] theorem modLane_otp (n : Nat) (g : Lane → Lane) (s : State) : (modLane n g s).lcs.otp = s.lcs.otp := by
  simp [modLane]
@[simp] theorem sendRequest_otp (n : Nat) (identify : Bool) (s : State) : (sendRequest n identify s).lcs.otp = s.lcs.otp := by
  simp [sendRequest]
@[simp] theorem laneCycleStart_otp (n : Nat) (s : State) : (laneCycleStart n s).lcs.otp = s.lcs.otp := by
  rw [laneCycleStart]; repeat' split
  all_goals simp
@[simp] theorem laneRetry_otp (n : Nat) (s : State) : (laneRetry n s).lcs.otp = s.lcs.otp := by
  rw [laneRetry]; repeat' split
  all_goals simp
@[simp] theorem laneResponseTimeout_otp (n : Nat) (s : State) : (laneResponseTimeout n s).lcs.otp = s.lcs.otp := by
  rw [laneResponseTimeout]; repeat' split
  all_goals simp
@[simp] theorem laneResponse_otp (n : Nat) (clean : Bool) (bs : List Byte) (s : State) : (laneResponse n clean bs s).lcs.otp = s.lcs.otp := by
  rw [laneResponse]; repeat' split
  all_goals simp
@[simp] theorem reading_otp (n : Nat) (clean : Bool) (bs : List Byte) (s : State) : (reading n clean bs s).lcs.otp = s.lcs.otp := by
  simp [reading]
@[simp] theorem identity_otp (n : Nat) (clean : Bool) (bs : List Byte) (s : State) : (identity n clean bs s).lcs.otp = s.lcs.otp := by
  simp [identity]
@[simp] theorem pulse_otp (n : Nat) (s : State) : (pulse n s).lcs.otp = s.lcs.otp := by
  rw [pulse]; repeat' split
  all_goals simp
@[simp] theorem laneNotice_otp (n cause p1 p2 : Nat) (s : State) : (laneNotice n cause p1 p2 s).lcs.otp = s.lcs.otp := by
  simp [laneNotice]
@[simp] theorem taint_otp (n : Nat) (s : State) : (taint n s).lcs.otp = s.lcs.otp := by
  rw [taint]; repeat' split
  all_goals simp
@[simp] theorem enterSuspect_otp (n cause p1 p2 : Nat) (s : State) : (enterSuspect n cause p1 p2 s).lcs.otp = s.lcs.otp := by
  rw [enterSuspect]; repeat' split
  all_goals simp
@[simp] theorem handOver_otp (n imp exp : Nat) (c : Cycle) (s : State) : (handOver n imp exp c s).lcs.otp = s.lcs.otp := by
  rw [handOver]; repeat' split
  all_goals simp
@[simp] theorem crossCheck_otp (n imp : Nat) (c : Cycle) (s : State) : (crossCheck n imp c s).lcs.otp = s.lcs.otp := by
  (first | rw [crossCheck] | unfold crossCheck); (try dsimp only); repeat' split
  all_goals first | (simp; done) | (repeat' (first | (intro _) | split | (with_reducible refine (forEach_otp _ ?_ _ _).trans ?_) | (with_reducible refine (foldl_otp _ ?_ _ _).trans ?_) | (with_reducible refine (checked_otp _ _ _ _ ?_ _).trans ?_) | (with_reducible refine (pqChecked_otp _ _ _ _ ?_ _).trans ?_) | simp))
@[simp] theorem newBaseline_otp (n imp exp : Nat) (c : Cycle) (s : State) : (newBaseline n imp exp c s).lcs.otp = s.lcs.otp := by
  simp [newBaseline]
@[simp] theorem endJoin_otp (n imp exp : Nat) (c : Cycle) (s : State) : (endJoin n imp exp c s).lcs.otp = s.lcs.otp := by
  (first | rw [endJoin] | unfold endJoin); (try dsimp only); repeat' split
  all_goals first | (simp; done) | (repeat' (first | (intro _) | split | (with_reducible refine (forEach_otp _ ?_ _ _).trans ?_) | (with_reducible refine (foldl_otp _ ?_ _ _).trans ?_) | (with_reducible refine (checked_otp _ _ _ _ ?_ _).trans ?_) | (with_reducible refine (pqChecked_otp _ _ _ _ ?_ _).trans ?_) | simp))
@[simp] theorem acceptReading_otp (n imp exp : Nat) (c : Cycle) (s : State) : (acceptReading n imp exp c s).lcs.otp = s.lcs.otp := by
  rw [acceptReading]; repeat' split
  all_goals simp
@[simp] theorem decideReading_otp (n : Nat) (c : Cycle) (p : List Byte) (s : State) : (decideReading n c p s).lcs.otp = s.lcs.otp := by
  (first | rw [decideReading] | unfold decideReading); (try dsimp only); repeat' split
  all_goals first | (simp; done) | (repeat' (first | (intro _) | split | (with_reducible refine (forEach_otp _ ?_ _ _).trans ?_) | (with_reducible refine (foldl_otp _ ?_ _ _).trans ?_) | (with_reducible refine (checked_otp _ _ _ _ ?_ _).trans ?_) | (with_reducible refine (pqChecked_otp _ _ _ _ ?_ _).trans ?_) | simp))
@[simp] theorem decideIdentity_otp (n : Nat) (s : State) : (decideIdentity n s).lcs.otp = s.lcs.otp := by
  rw [decideIdentity]; repeat' split
  all_goals simp
@[simp] theorem decideMissed_otp (n : Nat) (c : Cycle) (s : State) : (decideMissed n c s).lcs.otp = s.lcs.otp := by
  (first | rw [decideMissed] | unfold decideMissed); (try dsimp only); repeat' split
  all_goals first | (simp; done) | (repeat' (first | (intro _) | split | (with_reducible refine (forEach_otp _ ?_ _ _).trans ?_) | (with_reducible refine (foldl_otp _ ?_ _ _).trans ?_) | (with_reducible refine (checked_otp _ _ _ _ ?_ _).trans ?_) | (with_reducible refine (pqChecked_otp _ _ _ _ ?_ _).trans ?_) | simp))
@[simp] theorem decisionPoint_otp (n : Nat) (s : State) : (decisionPoint n s).lcs.otp = s.lcs.otp := by
  rw [decisionPoint]; repeat' split
  all_goals simp
@[simp] theorem laneBabbling_otp (n : Nat) (s : State) : (laneBabbling n s).lcs.otp = s.lcs.otp := by
  rw [laneBabbling]; repeat' split
  all_goals simp
@[simp] theorem joinLaneFrom_otp (n frame : Nat) (s : State) : (joinLaneFrom n frame s).lcs.otp = s.lcs.otp := by
  simp [joinLaneFrom]
@[simp] theorem thawLane_otp (n : Nat) (s : State) : (thawLane n s).lcs.otp = s.lcs.otp := by
  simp [thawLane]
@[simp] theorem rejoinThawed_otp (s : State) : (rejoinThawed s).lcs.otp = s.lcs.otp := by
  (first | rw [rejoinThawed] | unfold rejoinThawed); (try dsimp only); repeat' split
  all_goals first | (simp; done) | (repeat' (first | (intro _) | split | (with_reducible refine (forEach_otp _ ?_ _ _).trans ?_) | (with_reducible refine (foldl_otp _ ?_ _ _).trans ?_) | (with_reducible refine (checked_otp _ _ _ _ ?_ _).trans ?_) | (with_reducible refine (pqChecked_otp _ _ _ _ ?_ _).trans ?_) | simp))
@[simp] theorem laneJoin_otp (n : Nat) (s : State) : (laneJoin n s).lcs.otp = s.lcs.otp := by
  rw [laneJoin]; repeat' split
  all_goals simp
@[simp] theorem dawnLanes_otp (firstFrame : Nat) (s : State) : (dawnLanes firstFrame s).lcs.otp = s.lcs.otp := by
  simp [dawnLanes]
@[simp] theorem laneStatus_otp (j : Nat) (s : State) : (laneStatus j s).lcs.otp = s.lcs.otp := by
  rw [laneStatus]; repeat' split
  all_goals simp
@[simp] theorem timeNonce_otp (j : Nat) (s : State) : (timeNonce j s).lcs.otp = s.lcs.otp := by
  rw [timeNonce]; repeat' split
  all_goals simp
@[simp] theorem acceptStmt_otp (j : Nat) (t : TimeState) (s : State) : (acceptStmt j t s).lcs.otp = s.lcs.otp := by
  unfold acceptStmt; simp
@[simp] theorem openStep_otp (j : Nat) (x : Job) (target : Int) (s : State) : (openStep j x target s).lcs.otp = s.lcs.otp := by
  rw [openStep]; repeat' split
  all_goals simp
@[simp] theorem decideStmt_otp (j : Nat) (x : Job) (st : Stmt) (issue : Nat) (s : State) : (decideStmt j x st issue s).lcs.otp = s.lcs.otp := by
  unfold decideStmt; dsimp only; repeat' split
  all_goals simp
@[simp] theorem timeStatement_otp (j : Nat) (s : State) : (timeStatement j s).lcs.otp = s.lcs.otp := by
  (first | rw [timeStatement] | unfold timeStatement); (try dsimp only); repeat' split
  all_goals first | (simp; done) | (repeat' (first | (intro _) | split | (with_reducible refine (forEach_otp _ ?_ _ _).trans ?_) | (with_reducible refine (foldl_otp _ ?_ _ _).trans ?_) | (with_reducible refine (checked_otp _ _ _ _ ?_ _).trans ?_) | (with_reducible refine (pqChecked_otp _ _ _ _ ?_ _).trans ?_) | simp))
@[simp] theorem approveStep_otp (j : Nat) (s : State) : (approveStep j s).lcs.otp = s.lcs.otp := by
  unfold approveStep; repeat' split
  all_goals rfl
@[simp] theorem timeStepApply_otp (s : State) : (timeStepApply s).lcs.otp = s.lcs.otp := by
  unfold timeStepApply; split
  · rfl
  · dsimp only; split <;> simp
@[simp] theorem keepResult_otp (src : Nat) (e : BistEntry) (s : State) : (keepResult src e s).lcs.otp = s.lcs.otp := by
  simp [keepResult]
@[simp] theorem underTest_otp (p : Nat) (from_ : Option Nat) (s : State) : (underTest p from_ s).lcs.otp = s.lcs.otp := by
  simp [underTest]
@[simp] theorem bistTail_otp (s : State) : (bistTail s).lcs.otp = s.lcs.otp := by
  rw [bistTail]; repeat' split
  all_goals simp
@[simp] theorem tileReturns_otp (t : Nat) (s : State) : (tileReturns t s).lcs.otp = s.lcs.otp := by
  rw [tileReturns]; repeat' split
  all_goals simp
@[simp] theorem bistFinish_otp (r : BistRun) (s : State) : (bistFinish r s).lcs.otp = s.lcs.otp := by
  rw [bistFinish]; repeat' split
  all_goals simp
@[simp] theorem bistRunComplete_otp (p : Nat) (found : List BistFound) (s : State) : (bistRunComplete p found s).lcs.otp = s.lcs.otp := by
  (first | rw [bistRunComplete] | unfold bistRunComplete); (try dsimp only); repeat' split
  all_goals first | (simp; done) | (repeat' (first | (intro _) | split | (with_reducible refine (forEach_otp _ ?_ _ _).trans ?_) | (with_reducible refine (foldl_otp _ ?_ _ _).trans ?_) | (with_reducible refine (checked_otp _ _ _ _ ?_ _).trans ?_) | (with_reducible refine (pqChecked_otp _ _ _ _ ?_ _).trans ?_) | simp))
@[simp] theorem dropWaiting_otp (s : State) : (dropWaiting s).lcs.otp = s.lcs.otp := by
  simp [dropWaiting]
@[simp] theorem abortBist_otp (cause : Nat) (s : State) : (abortBist cause s).lcs.otp = s.lcs.otp := by
  rw [abortBist]; repeat' split
  all_goals simp
@[simp] theorem pruneBist_otp (s : State) : (pruneBist s).lcs.otp = s.lcs.otp := by
  rw [pruneBist]; repeat' split
  all_goals simp
@[simp] theorem selftest_otp (j : Nat) (s : State) : (selftest j s).lcs.otp = s.lcs.otp := by
  (first | rw [selftest] | unfold selftest); (try dsimp only); repeat' split
  all_goals first | (simp; done) | (repeat' (first | (intro _) | split | (with_reducible refine (forEach_otp _ ?_ _ _).trans ?_) | (with_reducible refine (foldl_otp _ ?_ _ _).trans ?_) | (with_reducible refine (checked_otp _ _ _ _ ?_ _).trans ?_) | (with_reducible refine (pqChecked_otp _ _ _ _ ?_ _).trans ?_) | simp))
@[simp] theorem bstDapStart_otp (s : State) : (bstDapStart s).lcs.otp = s.lcs.otp := by
  rw [bstDapStart]; repeat' split
  all_goals simp
@[simp] theorem modWorld_otp (w : Nat) (g : World → World) (s : State) : (modWorld w g s).lcs.otp = s.lcs.otp := by
  simp [modWorld]
@[simp] theorem worldWrite_otp (w vaddr : Nat) (bs : List Byte) (s : State) : (worldWrite w vaddr bs s).lcs.otp = s.lcs.otp := by
  simp [worldWrite]
@[simp] theorem clearPages_otp (ps : List Nat) (s : State) : (clearPages ps s).lcs.otp = s.lcs.otp := by
  simp [clearPages]
@[simp] theorem endMessages_otp (w : Nat) (s : State) : (endMessages w s).lcs.otp = s.lcs.otp := by
  simp [endMessages]
@[simp] theorem returnPages_otp (w : Nat) (s : State) : (returnPages w s).lcs.otp = s.lcs.otp := by
  simp [returnPages]
@[simp] theorem offPair_otp (w : Nat) (s : State) : (offPair w s).lcs.otp = s.lcs.otp := by
  rw [offPair]; repeat' split
  all_goals simp
@[simp] theorem loadWorld_otp (w : Nat) (img : List Byte) (job : Option Nat) (stored : Bool) (s : State) : (loadWorld w img job stored s).lcs.otp = s.lcs.otp := by
  simp [loadWorld]
@[simp] theorem appletLoad_otp (j : Nat) (s : State) : (appletLoad j s).lcs.otp = s.lcs.otp := by
  rw [appletLoad]; repeat' split
  all_goals simp
@[simp] theorem runAppletLoad_otp (j : Nat) (x : Job) (s : State) : (runAppletLoad j x s).lcs.otp = s.lcs.otp := by
  unfold runAppletLoad; split <;> simp
@[simp] theorem appletStoreWritten_otp (w : Nat) (ok : Bool) (s : State) : (appletStoreWritten w ok s).lcs.otp = s.lcs.otp := by
  rw [appletStoreWritten]; repeat' split
  all_goals simp
@[simp] theorem appletRun_otp (w : Nat) (s : State) : (appletRun w s).lcs.otp = s.lcs.otp := by
  rw [appletRun]; repeat' split
  all_goals simp
@[simp] theorem stopWorld_otp (w cause : Nat) (s : State) : (stopWorld w cause s).lcs.otp = s.lcs.otp := by
  simp [stopWorld]
@[simp] theorem appletStop_otp (j : Nat) (s : State) : (appletStop j s).lcs.otp = s.lcs.otp := by
  rw [appletStop]; repeat' split
  all_goals simp
@[simp] theorem worldStop_otp (w : Nat) (s : State) : (worldStop w s).lcs.otp = s.lcs.otp := by
  rw [worldStop]; repeat' split
  all_goals simp
@[simp] theorem dawnWorlds_otp (s : State) : (dawnWorlds s).lcs.otp = s.lcs.otp := by
  (first | rw [dawnWorlds] | unfold dawnWorlds); (try dsimp only); repeat' split
  all_goals first | (simp; done) | (repeat' (first | (intro _) | split | (with_reducible refine (forEach_otp _ ?_ _ _).trans ?_) | (with_reducible refine (foldl_otp _ ?_ _ _).trans ?_) | (with_reducible refine (checked_otp _ _ _ _ ?_ _).trans ?_) | (with_reducible refine (pqChecked_otp _ _ _ _ ?_ _).trans ?_) | simp))
@[simp] theorem worldSwitch_otp (q : Nat) (s : State) : (worldSwitch q s).lcs.otp = s.lcs.otp := by
  rw [worldSwitch]; repeat' split
  all_goals simp
@[simp] theorem retStatus_otp (w v : Nat) (s : State) : (retStatus w v s).lcs.otp = s.lcs.otp := by
  simp [retStatus]
@[simp] theorem freezeWorld_otp (w cause addr : Nat) (s : State) : (freezeWorld w cause addr s).lcs.otp = s.lcs.otp := by
  simp [freezeWorld]
@[simp] theorem yield_otp (w : Nat) (s : State) : (yield w s).lcs.otp = s.lcs.otp := by
  rw [yield]; repeat' split
  all_goals simp
@[simp] theorem msgRecv_otp (w : Nat) (s : State) : (msgRecv w s).lcs.otp = s.lcs.otp := by
  rw [msgRecv]; repeat' split
  all_goals simp
@[simp] theorem msgDone_otp (w : Nat) (s : State) : (msgDone w s).lcs.otp = s.lcs.otp := by
  rw [msgDone]; repeat' split
  all_goals simp
@[simp] theorem msgSend_otp (w len : Nat) (out : List Byte) (s : State) : (msgSend w len out s).lcs.otp = s.lcs.otp := by
  (first | rw [msgSend] | unfold msgSend); (try dsimp only); repeat' split
  all_goals first | (simp; done) | (repeat' (first | (intro _) | split | (with_reducible refine (forEach_otp _ ?_ _ _).trans ?_) | (with_reducible refine (foldl_otp _ ?_ _ _).trans ?_) | (with_reducible refine (checked_otp _ _ _ _ ?_ _).trans ?_) | (with_reducible refine (pqChecked_otp _ _ _ _ ?_ _).trans ?_) | simp))
@[simp] theorem ledgerViewCall_otp (w lane buf : Nat) (s : State) : (ledgerViewCall w lane buf s).lcs.otp = s.lcs.otp := by
  rw [ledgerViewCall]; repeat' split
  all_goals simp
@[simp] theorem timeCall_otp (w buf : Nat) (s : State) : (timeCall w buf s).lcs.otp = s.lcs.otp := by
  rw [timeCall]; repeat' split
  all_goals simp
@[simp] theorem lNow_otp (w : Nat) (s : State) : (lNow w s).lcs.otp = s.lcs.otp := by
  rw [lNow]; repeat' split
  all_goals simp
@[simp] theorem badCall_otp (w number addr : Nat) (s : State) : (badCall w number addr s).lcs.otp = s.lcs.otp := by
  rw [badCall]; repeat' split
  all_goals simp
@[simp] theorem worldViolation_otp (w : Nat) (kind : Option Access) (vaddr : Nat) (s : State) : (worldViolation w kind vaddr s).lcs.otp = s.lcs.otp := by
  (first | rw [worldViolation] | unfold worldViolation); (try dsimp only); repeat' split
  all_goals first | (simp; done) | (repeat' (first | (intro _) | split | (with_reducible refine (forEach_otp _ ?_ _ _).trans ?_) | (with_reducible refine (foldl_otp _ ?_ _ _).trans ?_) | (with_reducible refine (checked_otp _ _ _ _ ?_ _).trans ?_) | (with_reducible refine (pqChecked_otp _ _ _ _ ?_ _).trans ?_) | simp))
@[simp] theorem restartWorld_otp (w : Nat) (s : State) : (restartWorld w s).lcs.otp = s.lcs.otp := by
  simp [restartWorld]
@[simp] theorem appletMessage_otp (j : Nat) (s : State) : (appletMessage j s).lcs.otp = s.lcs.otp := by
  (first | rw [appletMessage] | unfold appletMessage); (try dsimp only); repeat' split
  all_goals first | (simp; done) | (repeat' (first | (intro _) | split | (with_reducible refine (forEach_otp _ ?_ _ _).trans ?_) | (with_reducible refine (foldl_otp _ ?_ _ _).trans ?_) | (with_reducible refine (checked_otp _ _ _ _ ?_ _).trans ?_) | (with_reducible refine (pqChecked_otp _ _ _ _ ?_ _).trans ?_) | simp))
@[simp] theorem messageDelivery_otp (w : Nat) (s : State) : (messageDelivery w s).lcs.otp = s.lcs.otp := by
  rw [messageDelivery]; repeat' split
  all_goals simp
@[simp] theorem messageTimeout_otp (w : Nat) (s : State) : (messageTimeout w s).lcs.otp = s.lcs.otp := by
  simp [messageTimeout]
@[simp] theorem modPair_otp (p : Nat) (g : Pair → Pair) (s : State) : (modPair p g s).lcs.otp = s.lcs.otp := by
  rw [modPair]; repeat' split
  all_goals simp
@[simp] theorem dropLoads_otp (s : State) : (dropLoads s).lcs.otp = s.lcs.otp := by
  (first | rw [dropLoads] | unfold dropLoads); (try dsimp only); repeat' split
  all_goals first | (simp; done) | (repeat' (first | (intro _) | split | (with_reducible refine (forEach_otp _ ?_ _ _).trans ?_) | (with_reducible refine (foldl_otp _ ?_ _ _).trans ?_) | (with_reducible refine (checked_otp _ _ _ _ ?_ _).trans ?_) | (with_reducible refine (pqChecked_otp _ _ _ _ ?_ _).trans ?_) | simp))
@[simp] theorem keeperLost_otp (s : State) : (keeperLost s).lcs.otp = s.lcs.otp := by
  simp [keeperLost]
@[simp] theorem attemptFailed_otp (p outcome : Nat) (s : State) : (attemptFailed p outcome s).lcs.otp = s.lcs.otp := by
  simp [attemptFailed]
@[simp] theorem lockstepMismatch_otp (p cause : Nat) (s : State) : (lockstepMismatch p cause s).lcs.otp = s.lcs.otp := by
  rw [lockstepMismatch]; repeat' split
  all_goals simp
@[simp] theorem comparatorDead_otp (p cause : Nat) (s : State) : (comparatorDead p cause s).lcs.otp = s.lcs.otp := by
  rw [comparatorDead]; repeat' split
  all_goals simp
@[simp] theorem comparatorProbe_otp (p rail cycles : Nat) (s : State) : (comparatorProbe p rail cycles s).lcs.otp = s.lcs.otp := by
  rw [comparatorProbe]; repeat' split
  all_goals simp
@[simp] theorem pairRestart_otp (p : Nat) (s : State) : (pairRestart p s).lcs.otp = s.lcs.otp := by
  rw [pairRestart]; repeat' split
  all_goals simp
@[simp] theorem resolveIntent_otp (s : State) : (resolveIntent s).lcs.otp = s.lcs.otp := by
  (first | rw [resolveIntent] | unfold resolveIntent); (try dsimp only); repeat' split
  all_goals first | (simp; done) | (repeat' (first | (intro _) | split | (with_reducible refine (forEach_otp _ ?_ _ _).trans ?_) | (with_reducible refine (foldl_otp _ ?_ _ _).trans ?_) | (with_reducible refine (checked_otp _ _ _ _ ?_ _).trans ?_) | (with_reducible refine (pqChecked_otp _ _ _ _ ?_ _).trans ?_) | simp))
@[simp] theorem pairRestartComplete_otp (p : Nat) (bad : List Nat) (s : State) : (pairRestartComplete p bad s).lcs.otp = s.lcs.otp := by
  (first | rw [pairRestartComplete] | unfold pairRestartComplete); (try dsimp only); repeat' split
  all_goals first | (simp; done) | (repeat' (first | (intro _) | split | (with_reducible refine (forEach_otp _ ?_ _ _).trans ?_) | (with_reducible refine (foldl_otp _ ?_ _ _).trans ?_) | (with_reducible refine (checked_otp _ _ _ _ ?_ _).trans ?_) | (with_reducible refine (pqChecked_otp _ _ _ _ ?_ _).trans ?_) | simp))
@[simp] theorem pairRestartTimeout_otp (p : Nat) (s : State) : (pairRestartTimeout p s).lcs.otp = s.lcs.otp := by
  rw [pairRestartTimeout]; repeat' split
  all_goals simp
@[simp] theorem keeperAbsentClose_otp (s : State) : (keeperAbsentClose s).lcs.otp = s.lcs.otp := by
  rw [keeperAbsentClose]; repeat' split
  all_goals simp
@[simp] theorem admissionReopen_otp (s : State) : (admissionReopen s).lcs.otp = s.lcs.otp := by
  rw [admissionReopen]; repeat' split
  all_goals simp
@[simp] theorem debugPairHalt_otp (p : Nat) (s : State) : (debugPairHalt p s).lcs.otp = s.lcs.otp := by
  rw [debugPairHalt]; repeat' split
  all_goals simp
@[simp] theorem debugPairResume_otp (p : Nat) (s : State) : (debugPairResume p s).lcs.otp = s.lcs.otp := by
  rw [debugPairResume]; repeat' split
  all_goals simp
@[simp] theorem modTin_otp (n : Nat) (g : TamInput → TamInput) (s : State) : (modTin n g s).lcs.otp = s.lcs.otp := by
  simp [modTin]
@[simp] theorem loadTamper_otp (recs : List TamperRec) (cover : Bool) (s : State) : (loadTamper recs cover s).lcs.otp = s.lcs.otp := by
  (first | rw [loadTamper] | unfold loadTamper); (try dsimp only); repeat' split
  all_goals first | (simp; done) | (repeat' (first | (intro _) | split | (with_reducible refine (forEach_otp _ ?_ _ _).trans ?_) | (with_reducible refine (foldl_otp _ ?_ _ _).trans ?_) | (with_reducible refine (checked_otp _ _ _ _ ?_ _).trans ?_) | (with_reducible refine (pqChecked_otp _ _ _ _ ?_ _).trans ?_) | simp))
@[simp] theorem tamperSample_otp (a b : Nat) (lid board : Bool × Bool) (temp : Int) (mv present : Nat) (s : State) : (tamperSample a b lid board temp mv present s).lcs.otp = s.lcs.otp := by
  rw [tamperSample]; repeat' split
  all_goals simp
@[simp] theorem reportBrief_otp (n : Nat) (e : Nat × Nat) (s : State) : (reportBrief n e s).lcs.otp = s.lcs.otp := by
  rw [reportBrief]; repeat' split
  all_goals simp
@[simp] theorem discrepancyBrief_otp (n : Nat) (s : State) : (discrepancyBrief n s).lcs.otp = s.lcs.otp := by
  rw [discrepancyBrief]; repeat' split
  all_goals simp
@[simp] theorem logNight_otp (s : State) : (logNight s).lcs.otp = s.lcs.otp := by
  unfold logNight; apply forEach_otp; intro n s
  dsimp only; apply (forEach_otp _ (by simp) _ _).trans; split <;> simp
@[simp] theorem eraseVault_otp (s : State) : (eraseVault s).lcs.otp = s.lcs.otp := by
  simp [eraseVault]
@[simp] theorem eraseSecrets_otp (s : State) : (eraseSecrets s).lcs.otp = s.lcs.otp := by
  simp [eraseSecrets]
@[simp] theorem clearBanks_otp (s : State) : (clearBanks s).lcs.otp = s.lcs.otp := by
  (first | rw [clearBanks] | unfold clearBanks); (try dsimp only); repeat' split
  all_goals first | (simp; done) | (repeat' (first | (intro _) | split | (with_reducible refine (forEach_otp _ ?_ _ _).trans ?_) | (with_reducible refine (foldl_otp _ ?_ _ _).trans ?_) | (with_reducible refine (checked_otp _ _ _ _ ?_ _).trans ?_) | (with_reducible refine (pqChecked_otp _ _ _ _ ?_ _).trans ?_) | simp))
@[simp] theorem clearDrawers_otp (s : State) : (clearDrawers s).lcs.otp = s.lcs.otp := by
  (first | rw [clearDrawers] | unfold clearDrawers); (try dsimp only); repeat' split
  all_goals first | (simp; done) | (repeat' (first | (intro _) | split | (with_reducible refine (forEach_otp _ ?_ _ _).trans ?_) | (with_reducible refine (foldl_otp _ ?_ _ _).trans ?_) | (with_reducible refine (checked_otp _ _ _ _ ?_ _).trans ?_) | (with_reducible refine (pqChecked_otp _ _ _ _ ?_ _).trans ?_) | simp))
@[simp] theorem umbraLine_otp (s : State) : (umbraLine s).lcs.otp = s.lcs.otp := by
  simp [umbraLine]
@[simp] theorem clearHandles_otp (p : HeRec → Bool) (s : State) : (clearHandles p s).lcs.otp = s.lcs.otp := by
  simp [clearHandles]
@[simp] theorem clearKeyStore_otp (s : State) : (clearKeyStore s).lcs.otp = s.lcs.otp := by
  simp [clearKeyStore]
@[simp] theorem clearSram_otp (s : State) : (clearSram s).lcs.otp = s.lcs.otp := by
  simp [clearSram]
@[simp] theorem breakJobs_otp (s : State) : (breakJobs s).lcs.otp = s.lcs.otp := by
  (first | rw [breakJobs] | unfold breakJobs); (try dsimp only); repeat' split
  all_goals first | (simp; done) | (repeat' (first | (intro _) | split | (with_reducible refine (forEach_otp _ ?_ _ _).trans ?_) | (with_reducible refine (foldl_otp _ ?_ _ _).trans ?_) | (with_reducible refine (checked_otp _ _ _ _ ?_ _).trans ?_) | (with_reducible refine (pqChecked_otp _ _ _ _ ?_ _).trans ?_) | simp))
@[simp] theorem pairsDown_otp (s : State) : (pairsDown s).lcs.otp = s.lcs.otp := by
  simp [pairsDown]
@[simp] theorem latchAlarm_otp (cls src : Nat) (s : State) : (latchAlarm cls src s).lcs.otp = s.lcs.otp := by
  unfold latchAlarm; dsimp only; repeat' split
  all_goals simp
@[simp] theorem closeInvasive_otp (s : State) : (closeInvasive s).lcs.otp = s.lcs.otp := by
  simp [closeInvasive]
@[simp] theorem alarmNotice_otp (cls src L : Nat) (s : State) : (alarmNotice cls src L s).lcs.otp = s.lcs.otp := by
  rw [alarmNotice]; repeat' split
  all_goals simp
@[simp] theorem alarm_otp (cls src : Nat) (s : State) : (alarm cls src s).lcs.otp = s.lcs.otp := by
  rw [alarm]; repeat' split
  all_goals simp
@[simp] theorem inputTripped_otp (n : Nat) (s : State) : (inputTripped n s).lcs.otp = s.lcs.otp := by
  rw [inputTripped]; repeat' split
  all_goals simp
@[simp] theorem inputDiscrepancy_otp (n : Nat) (s : State) : (inputDiscrepancy n s).lcs.otp = s.lcs.otp := by
  rw [inputDiscrepancy]; repeat' split
  all_goals simp
@[simp] theorem escutcheon_otp (m : Nat) (s : State) : (escutcheon m s).lcs.otp = s.lcs.otp := by
  rw [escutcheon]; repeat' split
  all_goals simp
@[simp] theorem sensorAlarm_otp (cls src : Nat) (s : State) : (sensorAlarm cls src s).lcs.otp = s.lcs.otp := by
  rw [sensorAlarm]; repeat' split
  all_goals simp
@[simp] theorem logAlarm_otp (p3 : Nat) (s : State) : (logAlarm p3 s).lcs.otp = s.lcs.otp := by
  (first | rw [logAlarm] | unfold logAlarm); (try dsimp only); repeat' split
  all_goals first | (simp; done) | (repeat' (first | (intro _) | split | (with_reducible refine (forEach_otp _ ?_ _ _).trans ?_) | (with_reducible refine (foldl_otp _ ?_ _ _).trans ?_) | (with_reducible refine (checked_otp _ _ _ _ ?_ _).trans ?_) | (with_reducible refine (pqChecked_otp _ _ _ _ ?_ _).trans ?_) | simp))
@[simp] theorem revokeRings_otp (s : State) : (revokeRings s).lcs.otp = s.lcs.otp := by
  (first | rw [revokeRings] | unfold revokeRings); (try dsimp only); repeat' split
  all_goals first | (simp; done) | (repeat' (first | (intro _) | split | (with_reducible refine (forEach_otp _ ?_ _ _).trans ?_) | (with_reducible refine (foldl_otp _ ?_ _ _).trans ?_) | (with_reducible refine (checked_otp _ _ _ _ ?_ _).trans ?_) | (with_reducible refine (pqChecked_otp _ _ _ _ ?_ _).trans ?_) | simp))
@[simp] theorem zeroizeComplete_otp (vaultOk sramOk : Bool) (s : State) : (zeroizeComplete vaultOk sramOk s).lcs.otp = s.lcs.otp := by
  rw [zeroizeComplete]; repeat' split
  all_goals simp
@[simp] theorem alarmAtDawn_otp (s : State) : (alarmAtDawn s).lcs.otp = s.lcs.otp := by
  rw [alarmAtDawn]; repeat' split
  all_goals simp
@[simp] theorem lowBattery_otp (mv : Nat) (s : State) : (lowBattery mv s).lcs.otp = s.lcs.otp := by
  (first | rw [lowBattery] | unfold lowBattery); (try dsimp only); repeat' split
  all_goals first | (simp; done) | (repeat' (first | (intro _) | split | (with_reducible refine (forEach_otp _ ?_ _ _).trans ?_) | (with_reducible refine (foldl_otp _ ?_ _ _).trans ?_) | (with_reducible refine (checked_otp _ _ _ _ ?_ _).trans ?_) | (with_reducible refine (pqChecked_otp _ _ _ _ ?_ _).trans ?_) | simp))
@[simp] theorem aonPowerLoss_otp (s : State) : (aonPowerLoss s).lcs.otp = s.lcs.otp := by
  simp [aonPowerLoss]
@[simp] theorem alwaysOnPowerUp_otp (s : State) : (alwaysOnPowerUp s).lcs.otp = s.lcs.otp := by
  rw [alwaysOnPowerUp]; repeat' split
  all_goals simp
@[simp] theorem sensorDisarm_otp (s : State) : (sensorDisarm s).lcs.otp = s.lcs.otp := by
  rw [sensorDisarm]; repeat' split
  all_goals simp
@[simp] theorem keyGenShort_otp (j : Nat) (x : Job) (s : State) : (keyGenShort j x s).lcs.otp = s.lcs.otp := by
  (first | rw [keyGenShort] | unfold keyGenShort); (try dsimp only); repeat' split
  all_goals first | (simp; done) | (repeat' (first | (intro _) | split | (with_reducible refine (forEach_otp _ ?_ _ _).trans ?_) | (with_reducible refine (foldl_otp _ ?_ _ _).trans ?_) | (with_reducible refine (checked_otp _ _ _ _ ?_ _).trans ?_) | (with_reducible refine (pqChecked_otp _ _ _ _ ?_ _).trans ?_) | simp))
@[simp] theorem runKeyGenerate_otp (j : Nat) (x : Job) (s : State) : (runKeyGenerate j x s).lcs.otp = s.lcs.otp := by
  rw [runKeyGenerate]; repeat' split
  all_goals simp
@[simp] theorem generate_otp (j tile outcome : Nat) (x : Job) (s : State) : (generate j tile outcome x s).lcs.otp = s.lcs.otp := by
  rw [generate]; repeat' split
  all_goals simp
@[simp] theorem keyGenerate_otp (j tile outcome : Nat) (s : State) : (keyGenerate j tile outcome s).lcs.otp = s.lcs.otp := by
  rw [keyGenerate]; repeat' split
  all_goals simp
@[simp] theorem resetVolatile_otp (s : State) : (resetVolatile s).lcs.otp = s.lcs.otp := by
  simp [resetVolatile]
@[simp] theorem copyTime_otp (s : State) : (copyTime s).lcs.otp = s.lcs.otp := by
  rw [copyTime]; repeat' split
  all_goals simp
@[simp] theorem endRun_otp (cause : Nat) (s : State) : (endRun cause s).lcs.otp = s.lcs.otp := by
  simp [endRun]
@[simp] theorem warmReset_otp (s : State) : (warmReset s).lcs.otp = s.lcs.otp := by
  rw [warmReset]; repeat' split
  all_goals simp
@[simp] theorem bootRetry_otp (s : State) : (bootRetry s).lcs.otp = s.lcs.otp := by
  rw [bootRetry]; repeat' split
  all_goals simp
@[simp] theorem powerRecovered_otp (s : State) : (powerRecovered s).lcs.otp = s.lcs.otp := by
  rw [powerRecovered]; repeat' split
  all_goals simp
@[simp] theorem wake_otp (cause secs : Nat) (s : State) : (wake cause secs s).lcs.otp = s.lcs.otp := by
  rw [wake]; repeat' split
  all_goals simp
@[simp] theorem powerFail_otp (s : State) : (powerFail s).lcs.otp = s.lcs.otp := by
  rw [powerFail]; repeat' split
  all_goals simp
@[simp] theorem setPlace_otp (k : Nat) (bs : List Byte) (s : State) : (setPlace k bs s).lcs.otp = s.lcs.otp := by
  rw [setPlace]; repeat' split
  all_goals simp
@[simp] theorem beginWrite_otp (j place : Nat) (img : List Byte) (s : State) : (beginWrite j place img s).lcs.otp = s.lcs.otp := by
  simp [beginWrite]
@[simp] theorem firmwareStage_otp (j : Nat) (s : State) : (firmwareStage j s).lcs.otp = s.lcs.otp := by
  rw [firmwareStage]; repeat' split
  all_goals simp
@[simp] theorem runFirmwareCommit_otp (j : Nat) (s : State) : (runFirmwareCommit j s).lcs.otp = s.lcs.otp := by
  rw [runFirmwareCommit]; repeat' split
  all_goals simp
@[simp] theorem firmwareCommit_otp (j : Nat) (s : State) : (firmwareCommit j s).lcs.otp = s.lcs.otp := by
  rw [firmwareCommit]; repeat' split
  all_goals simp
@[simp] theorem firmwareCopyWritten_otp (found : List Byte) (s : State) : (firmwareCopyWritten found s).lcs.otp = s.lcs.otp := by
  (first | rw [firmwareCopyWritten] | unfold firmwareCopyWritten); (try dsimp only); repeat' split
  all_goals first | (simp; done) | (repeat' (first | (intro _) | split | (with_reducible refine (forEach_otp _ ?_ _ _).trans ?_) | (with_reducible refine (foldl_otp _ ?_ _ _).trans ?_) | (with_reducible refine (checked_otp _ _ _ _ ?_ _).trans ?_) | (with_reducible refine (pqChecked_otp _ _ _ _ ?_ _).trans ?_) | simp))
@[simp] theorem firmwareReset_otp (s : State) : (firmwareReset s).lcs.otp = s.lcs.otp := by
  rw [firmwareReset]; repeat' split
  all_goals simp
@[simp] theorem setCeiling_otp (i2c : Bool) (p : Nat) (s : State) : (setCeiling i2c p s).lcs.otp = s.lcs.otp := by
  simp [setCeiling]
@[simp] theorem powerPolicy_otp (j : Nat) (s : State) : (powerPolicy j s).lcs.otp = s.lcs.otp := by
  rw [powerPolicy]; repeat' split
  all_goals simp
@[simp] theorem i2cCeiling_otp (bs : List Byte) (s : State) : (i2cCeiling bs s).lcs.otp = s.lcs.otp := by
  rw [i2cCeiling]; repeat' split
  all_goals simp
@[simp] theorem lowerLimit_otp (t cause : Nat) (s : State) : (lowerLimit t cause s).lcs.otp = s.lcs.otp := by
  rw [lowerLimit]; repeat' split
  all_goals simp
@[simp] theorem tileLimitChange_otp (t : Nat) (s : State) : (tileLimitChange t s).lcs.otp = s.lcs.otp := by
  rw [tileLimitChange]; repeat' split
  all_goals simp
@[simp] theorem haltWorlds_otp (s : State) : (haltWorlds s).lcs.otp = s.lcs.otp := by
  simp [haltWorlds]
@[simp] theorem nightEnter_otp (j : Nat) (s : State) : (nightEnter j s).lcs.otp = s.lcs.otp := by
  rw [nightEnter]; repeat' split
  all_goals simp
@[simp] theorem enterNight_otp (delay : Nat) (bitOk : Bool) (s : State) : (enterNight delay bitOk s).lcs.otp = s.lcs.otp := by
  simp [enterNight]
@[simp] theorem bootMap_otp (f w : Nat) (s : State) : (bootMap f w s).lcs.otp = s.lcs.otp := by
  (first | rw [bootMap] | unfold bootMap); (try dsimp only); repeat' split
  all_goals first | (simp; done) | (repeat' (first | (intro _) | split | (with_reducible refine (forEach_otp _ ?_ _ _).trans ?_) | (with_reducible refine (foldl_otp _ ?_ _ _).trans ?_) | (with_reducible refine (checked_otp _ _ _ _ ?_ _).trans ?_) | (with_reducible refine (pqChecked_otp _ _ _ _ ?_ _).trans ?_) | simp))
@[simp] theorem withdrawAll_otp (but : Option Nat) (s : State) : (withdrawAll but s).lcs.otp = s.lcs.otp := by
  simp [withdrawAll]
@[simp] theorem eraseFor_otp (from_ to_ : Nat) (s : State) : (eraseFor from_ to_ s).lcs.otp = s.lcs.otp := by
  rw [eraseFor]; repeat' split
  all_goals simp
@[simp] theorem tokenBad_otp (to_ f : Nat) (s : State) : (tokenBad to_ f s).lcs.otp = s.lcs.otp := by
  simp [tokenBad]
@[simp] theorem transitionDone_otp (from_ to_ : Nat) (s : State) : (transitionDone from_ to_ s).lcs.otp = s.lcs.otp := by
  simp [transitionDone]
@[simp] theorem zeroizeForDebug_otp (j rights : Nat) (s : State) : (zeroizeForDebug j rights s).lcs.otp = s.lcs.otp := by
  simp [zeroizeForDebug]
@[simp] theorem dueRights_otp (rights source : Nat) (s : State) : (dueRights rights source s).lcs.otp = s.lcs.otp := by
  (first | rw [dueRights] | unfold dueRights); (try dsimp only); repeat' split
  all_goals first | (simp; done) | (repeat' (first | (intro _) | split | (with_reducible refine (forEach_otp _ ?_ _ _).trans ?_) | (with_reducible refine (foldl_otp _ ?_ _ _).trans ?_) | (with_reducible refine (checked_otp _ _ _ _ ?_ _).trans ?_) | (with_reducible refine (pqChecked_otp _ _ _ _ ?_ _).trans ?_) | simp))
@[simp] theorem grant_otp (j rights source : Nat) (zeroize : Bool) (s : State) : (grant j rights source zeroize s).lcs.otp = s.lcs.otp := by
  (first | rw [grant] | unfold grant); (try dsimp only); repeat' split
  all_goals first | (simp; done) | (repeat' (first | (intro _) | split | (with_reducible refine (forEach_otp _ ?_ _ _).trans ?_) | (with_reducible refine (foldl_otp _ ?_ _ _).trans ?_) | (with_reducible refine (checked_otp _ _ _ _ ?_ _).trans ?_) | (with_reducible refine (pqChecked_otp _ _ _ _ ?_ _).trans ?_) | simp))
@[simp] theorem authorize_otp (j : Nat) (x : Job) (rights reach : Nat) (ack : Bool) (source : Nat) (s : State) : (authorize j x rights reach ack source s).lcs.otp = s.lcs.otp := by
  rw [authorize]; repeat' split
  all_goals simp
@[simp] theorem debugCert_otp (j : Nat) (s : State) : (debugCert j s).lcs.otp = s.lcs.otp := by
  (first | rw [debugCert] | unfold debugCert); (try dsimp only); repeat' split
  all_goals first | (simp; done) | (repeat' (first | (intro _) | split | (with_reducible refine (forEach_otp _ ?_ _ _).trans ?_) | (with_reducible refine (foldl_otp _ ?_ _ _).trans ?_) | (with_reducible refine (checked_otp _ _ _ _ ?_ _).trans ?_) | (with_reducible refine (pqChecked_otp _ _ _ _ ?_ _).trans ?_) | simp))
@[simp] theorem debugChallenge_otp (j : Nat) (s : State) : (debugChallenge j s).lcs.otp = s.lcs.otp := by
  rw [debugChallenge]; repeat' split
  all_goals simp
@[simp] theorem debugResponse_otp (j : Nat) (s : State) : (debugResponse j s).lcs.otp = s.lcs.otp := by
  (first | rw [debugResponse] | unfold debugResponse); (try dsimp only); repeat' split
  all_goals first | (simp; done) | (repeat' (first | (intro _) | split | (with_reducible refine (forEach_otp _ ?_ _ _).trans ?_) | (with_reducible refine (foldl_otp _ ?_ _ _).trans ?_) | (with_reducible refine (checked_otp _ _ _ _ ?_ _).trans ?_) | (with_reducible refine (pqChecked_otp _ _ _ _ ?_ _).trans ?_) | simp))
@[simp] theorem runDebugGrant_otp (j : Nat) (x : Job) (s : State) : (runDebugGrant j x s).lcs.otp = s.lcs.otp := by
  simp [runDebugGrant]
@[simp] theorem openRights_otp (s : State) : (openRights s).lcs.otp = s.lcs.otp := by
  rw [openRights]; repeat' split
  all_goals simp
@[simp] theorem cabinetZeroize_otp (j : Nat) (s : State) : (cabinetZeroize j s).lcs.otp = s.lcs.otp := by
  rw [cabinetZeroize]; repeat' split
  all_goals simp
@[simp] theorem eraseCabinet_otp (cab : Nat) (s : State) : (eraseCabinet cab s).lcs.otp = s.lcs.otp := by
  simp [eraseCabinet]
@[simp] theorem zeroizeCabinet_otp (j cab : Nat) (keep : Bool) (s : State) : (zeroizeCabinet j cab keep s).lcs.otp = s.lcs.otp := by
  (first | rw [zeroizeCabinet] | unfold zeroizeCabinet); (try dsimp only); repeat' split
  all_goals first | (simp; done) | (repeat' (first | (intro _) | split | (with_reducible refine (forEach_otp _ ?_ _ _).trans ?_) | (with_reducible refine (foldl_otp _ ?_ _ _).trans ?_) | (with_reducible refine (checked_otp _ _ _ _ ?_ _).trans ?_) | (with_reducible refine (pqChecked_otp _ _ _ _ ?_ _).trans ?_) | simp))
@[simp] theorem runCabinetZeroize_otp (j : Nat) (x : Job) (s : State) : (runCabinetZeroize j x s).lcs.otp = s.lcs.otp := by
  rw [runCabinetZeroize]; repeat' split
  all_goals simp
@[simp] theorem mailboxEntry_otp (d : Desc) (e : Nat × Nat × Nat) (s : State) : (mailboxEntry d e s).lcs.otp = s.lcs.otp := by
  simp [mailboxEntry]
@[simp] theorem tapLog_otp (c : Nat) (s : State) : (tapLog c s).lcs.otp = s.lcs.otp := by
  rw [tapLog]; repeat' split
  all_goals simp
@[simp] theorem tapInstruction_otp (c : Nat) (s : State) : (tapInstruction c s).lcs.otp = s.lcs.otp := by
  rw [tapInstruction]; repeat' split
  all_goals simp
@[simp] theorem endReset_otp (r : ResetDue) (s : State) : (endReset r s).lcs.otp = s.lcs.otp := by
  (first | rw [endReset] | unfold endReset); (try dsimp only); repeat' split
  all_goals first | (simp; done) | (repeat' (first | (intro _) | split | (with_reducible refine (forEach_otp _ ?_ _ _).trans ?_) | (with_reducible refine (foldl_otp _ ?_ _ _).trans ?_) | (with_reducible refine (checked_otp _ _ _ _ ?_ _).trans ?_) | (with_reducible refine (pqChecked_otp _ _ _ _ ?_ _).trans ?_) | simp))
@[simp] theorem fnReset_otp (f cause : Nat) (s : State) : (fnReset f cause s).lcs.otp = s.lcs.otp := by
  unfold fnReset; dsimp only; split <;> simp
@[simp] theorem settleResets_otp (s : State) : (settleResets s).lcs.otp = s.lcs.otp := by
  (first | rw [settleResets] | unfold settleResets); (try dsimp only); repeat' split
  all_goals first | (simp; done) | (repeat' (first | (intro _) | split | (with_reducible refine (forEach_otp _ ?_ _ _).trans ?_) | (with_reducible refine (foldl_otp _ ?_ _ _).trans ?_) | (with_reducible refine (checked_otp _ _ _ _ ?_ _).trans ?_) | (with_reducible refine (pqChecked_otp _ _ _ _ ?_ _).trans ?_) | simp))
@[simp] theorem clearVfEnable_otp (cause : Nat) (s : State) : (clearVfEnable cause s).lcs.otp = s.lcs.otp := by
  rw [clearVfEnable]; repeat' split
  all_goals simp
@[simp] theorem fnResetEvent_otp (f cause : Nat) (s : State) : (fnResetEvent f cause s).lcs.otp = s.lcs.otp := by
  rw [fnResetEvent]; repeat' split
  all_goals simp
@[simp] theorem flr_otp (f : Nat) (s : State) : (flr f s).lcs.otp = s.lcs.otp := by
  simp [flr]
@[simp] theorem busMasterCleared_otp (f : Nat) (s : State) : (busMasterCleared f s).lcs.otp = s.lcs.otp := by
  simp [busMasterCleared]
@[simp] theorem d3hotEntry_otp (f : Nat) (s : State) : (d3hotEntry f s).lcs.otp = s.lcs.otp := by
  rw [d3hotEntry]; repeat' split
  all_goals simp
@[simp] theorem d3hotToD0_otp (f : Nat) (s : State) : (d3hotToD0 f s).lcs.otp = s.lcs.otp := by
  rw [d3hotToD0]; repeat' split
  all_goals simp
@[simp] theorem resetLinkFns_otp (s : State) : (resetLinkFns s).lcs.otp = s.lcs.otp := by
  simp [resetLinkFns]
@[simp] theorem hotReset_otp (s : State) : (hotReset s).lcs.otp = s.lcs.otp := by
  rw [hotReset]; repeat' split
  all_goals simp
@[simp] theorem linkDown_otp (s : State) : (linkDown s).lcs.otp = s.lcs.otp := by
  rw [linkDown]; repeat' split
  all_goals simp
@[simp] theorem vfEnableCleared_otp (s : State) : (vfEnableCleared s).lcs.otp = s.lcs.otp := by
  simp [vfEnableCleared]
@[simp] theorem modCfg_otp (f : Nat) (g : FnConfig → FnConfig) (s : State) : (modCfg f g s).lcs.otp = s.lcs.otp := by
  (first | rw [modCfg] | unfold modCfg); (try dsimp only); repeat' split
  all_goals first | (simp; done) | (repeat' (first | (intro _) | split | (with_reducible refine (forEach_otp _ ?_ _ _).trans ?_) | (with_reducible refine (foldl_otp _ ?_ _ _).trans ?_) | (with_reducible refine (checked_otp _ _ _ _ ?_ _).trans ?_) | (with_reducible refine (pqChecked_otp _ _ _ _ ?_ _).trans ?_) | simp))
@[simp] theorem configWrite_otp (f off w : Nat) (s : State) : (configWrite f off w s).lcs.otp = s.lcs.otp := by
  unfold configWrite; dsimp only; split
  all_goals first | (simp; done) | ((repeat' split) <;> simp)
@[simp] theorem emitPieces_otp (ps : List (Nat × List Byte)) (s : State) : (emitPieces ps s).lcs.otp = s.lcs.otp := by
  simp [emitPieces]
@[simp] theorem runApproved_otp (r : Request) (s : State) : (runApproved r s).lcs.otp = s.lcs.otp := by
  rw [runApproved]; repeat' split
  all_goals simp
@[simp] theorem dovetailApprove_otp (j : Nat) (s : State) : (dovetailApprove j s).lcs.otp = s.lcs.otp := by
  unfold dovetailApprove; have h := approve_otp j s; split <;> simp_all
@[simp] theorem makeDraw_otp (d : Draw) (s : State) : (makeDraw d s).lcs.otp = s.lcs.otp := by
  (first | rw [makeDraw] | unfold makeDraw); (try dsimp only); repeat' split
  all_goals first | (simp; done) | (repeat' (first | (intro _) | split | (with_reducible refine (forEach_otp _ ?_ _ _).trans ?_) | (with_reducible refine (foldl_otp _ ?_ _ _).trans ?_) | (with_reducible refine (checked_otp _ _ _ _ ?_ _).trans ?_) | (with_reducible refine (pqChecked_otp _ _ _ _ ?_ _).trans ?_) | simp))
@[simp] theorem serveDraw_otp (d : Draw) (s : State) : (serveDraw d s).lcs.otp = s.lcs.otp := by
  rw [serveDraw]; repeat' split
  all_goals simp
@[simp] theorem serveDraws_otp (s : State) : (serveDraws s).lcs.otp = s.lcs.otp := by
  (first | rw [serveDraws] | unfold serveDraws); (try dsimp only); repeat' split
  all_goals first | (simp; done) | (repeat' (first | (intro _) | split | (with_reducible refine (forEach_otp _ ?_ _ _).trans ?_) | (with_reducible refine (foldl_otp _ ?_ _ _).trans ?_) | (with_reducible refine (checked_otp _ _ _ _ ?_ _).trans ?_) | (with_reducible refine (pqChecked_otp _ _ _ _ ?_ _).trans ?_) | simp))
@[simp] theorem askDraws_otp (ds : List Draw) (s : State) : (askDraws ds s).lcs.otp = s.lcs.otp := by
  simp [askDraws]
@[simp] theorem removeCabinet_otp (cab : Nat) (s : State) : (removeCabinet cab s).lcs.otp = s.lcs.otp := by
  simp [removeCabinet]
@[simp] theorem eraseLeaving_otp (new : Carcass) (s : State) : (eraseLeaving new s).lcs.otp = s.lcs.otp := by
  simp [eraseLeaving]
@[simp] theorem dropEntries_otp (new : Carcass) (s : State) : (dropEntries new s).lcs.otp = s.lcs.otp := by
  (first | rw [dropEntries] | unfold dropEntries); (try dsimp only); repeat' split
  all_goals first | (simp; done) | (repeat' (first | (intro _) | split | (with_reducible refine (forEach_otp _ ?_ _ _).trans ?_) | (with_reducible refine (foldl_otp _ ?_ _ _).trans ?_) | (with_reducible refine (checked_otp _ _ _ _ ?_ _).trans ?_) | (with_reducible refine (pqChecked_otp _ _ _ _ ?_ _).trans ?_) | simp))
@[simp] theorem closeMoved_otp (old new : Carcass) (s : State) : (closeMoved old new s).lcs.otp = s.lcs.otp := by
  simp [closeMoved]
@[simp] theorem rejoinLanes_otp (old new : Carcass) (s : State) : (rejoinLanes old new s).lcs.otp = s.lcs.otp := by
  simp [rejoinLanes]
@[simp] theorem freeMovedLanes_otp (old new : Carcass) (s : State) : (freeMovedLanes old new s).lcs.otp = s.lcs.otp := by
  simp [freeMovedLanes]
@[simp] theorem stopChanged_otp (old new : Carcass) (s : State) : (stopChanged old new s).lcs.otp = s.lcs.otp := by
  (first | rw [stopChanged] | unfold stopChanged); (try dsimp only); repeat' split
  all_goals first | (simp; done) | (repeat' (first | (intro _) | split | (with_reducible refine (forEach_otp _ ?_ _ _).trans ?_) | (with_reducible refine (foldl_otp _ ?_ _ _).trans ?_) | (with_reducible refine (checked_otp _ _ _ _ ?_ _).trans ?_) | (with_reducible refine (pqChecked_otp _ _ _ _ ?_ _).trans ?_) | simp))
@[simp] theorem commitTamper_otp (new : Carcass) (s : State) : (commitTamper new s).lcs.otp = s.lcs.otp := by
  unfold commitTamper; dsimp only; apply (forEach_otp _ _ _ _).trans
  · simp
  · intro n s; split <;> simp
@[simp] theorem applyStructure_otp (old new : Carcass) (s : State) : (applyStructure old new s).lcs.otp = s.lcs.otp := by
  simp [applyStructure]
@[simp] theorem carcassCommit_otp (bitOk : Bool) (s : State) : (carcassCommit bitOk s).lcs.otp = s.lcs.otp := by
  rw [carcassCommit]; repeat' split
  all_goals simp
@[simp] theorem dawnFlash_otp (e : Nat × List Byte) (s : State) : (dawnFlash e s).lcs.otp = s.lcs.otp := by
  rw [dawnFlash]; repeat' split
  all_goals simp
@[simp] theorem alwaysOnCheck_otp (a : Option (Nat × Nat)) (s : State) : (alwaysOnCheck a s).lcs.otp = s.lcs.otp := by
  (first | rw [alwaysOnCheck] | unfold alwaysOnCheck); (try dsimp only); repeat' split
  all_goals first | (simp; done) | (repeat' (first | (intro _) | split | (with_reducible refine (forEach_otp _ ?_ _ _).trans ?_) | (with_reducible refine (foldl_otp _ ?_ _ _).trans ?_) | (with_reducible refine (checked_otp _ _ _ _ ?_ _).trans ?_) | (with_reducible refine (pqChecked_otp _ _ _ _ ?_ _).trans ?_) | simp))
@[simp] theorem logAlwaysOn_otp (s : State) : (logAlwaysOn s).lcs.otp = s.lcs.otp := by
  rw [logAlwaysOn]; repeat' split
  all_goals simp
@[simp] theorem checkFirmware_otp (s : State) : (checkFirmware s).lcs.otp = s.lcs.otp := by
  (first | rw [checkFirmware] | unfold checkFirmware); (try dsimp only); repeat' split
  all_goals first | (simp; done) | (repeat' (first | (intro _) | split | (with_reducible refine (forEach_otp _ ?_ _ _).trans ?_) | (with_reducible refine (foldl_otp _ ?_ _ _).trans ?_) | (with_reducible refine (checked_otp _ _ _ _ ?_ _).trans ?_) | (with_reducible refine (pqChecked_otp _ _ _ _ ?_ _).trans ?_) | simp))
@[simp] theorem applyPick_otp (best : Option (Nat × Nat)) (s : State) : (applyPick best s).lcs.otp = s.lcs.otp := by
  (first | rw [applyPick] | unfold applyPick); (try dsimp only); repeat' split
  all_goals first | (simp; done) | (repeat' (first | (intro _) | split | (with_reducible refine (forEach_otp _ ?_ _ _).trans ?_) | (with_reducible refine (foldl_otp _ ?_ _ _).trans ?_) | (with_reducible refine (checked_otp _ _ _ _ ?_ _).trans ?_) | (with_reducible refine (pqChecked_otp _ _ _ _ ?_ _).trans ?_) | simp))
@[simp] theorem clearExcluded_otp (s : State) : (clearExcluded s).lcs.otp = s.lcs.otp := by
  simp [clearExcluded]
@[simp] theorem selectPair_otp (s : State) : (selectPair s).lcs.otp = s.lcs.otp := by
  rw [selectPair]; repeat' split
  all_goals simp
@[simp] theorem drainRecorder_otp (s : State) : (drainRecorder s).lcs.otp = s.lcs.otp := by
  simp [drainRecorder]
@[simp] theorem failAttempt_otp (cause : Nat) (s : State) : (failAttempt cause s).lcs.otp = s.lcs.otp := by
  simp [failAttempt]
@[simp] theorem eventStep_otp (kept : Bool) (s : State) : (eventStep kept s).lcs.otp = s.lcs.otp := by
  simp [eventStep]
@[simp] theorem endCarry_otp (id : Nat) (fails : List Nat) (s : State) : (endCarry id fails s).lcs.otp = s.lcs.otp := by
  (first | rw [endCarry] | unfold endCarry); (try dsimp only); repeat' split
  all_goals first | (simp; done) | (repeat' (first | (intro _) | split | (with_reducible refine (forEach_otp _ ?_ _ _).trans ?_) | (with_reducible refine (foldl_otp _ ?_ _ _).trans ?_) | (with_reducible refine (checked_otp _ _ _ _ ?_ _).trans ?_) | (with_reducible refine (pqChecked_otp _ _ _ _ ?_ _).trans ?_) | simp))
@[simp] theorem readCounter_otp (id : Nat) (s : State) : (readCounter id s).lcs.otp = s.lcs.otp := by
  (first | rw [readCounter] | unfold readCounter); (try dsimp only); repeat' split
  all_goals first | (simp; done) | (repeat' (first | (intro _) | split | (with_reducible refine (forEach_otp _ ?_ _ _).trans ?_) | (with_reducible refine (foldl_otp _ ?_ _ _).trans ?_) | (with_reducible refine (checked_otp _ _ _ _ ?_ _).trans ?_) | (with_reducible refine (pqChecked_otp _ _ _ _ ?_ _).trans ?_) | simp))
@[simp] theorem recoverCounter_otp (inp : DawnInput) (id : Nat) (s : State) : (recoverCounter inp id s).lcs.otp = s.lcs.otp := by
  (first | rw [recoverCounter] | unfold recoverCounter); (try dsimp only); repeat' split
  all_goals first | (simp; done) | (repeat' (first | (intro _) | split | (with_reducible refine (forEach_otp _ ?_ _ _).trans ?_) | (with_reducible refine (foldl_otp _ ?_ _ _).trans ?_) | (with_reducible refine (checked_otp _ _ _ _ ?_ _).trans ?_) | (with_reducible refine (pqChecked_otp _ _ _ _ ?_ _).trans ?_) | simp))
@[simp] theorem recordGone_otp (id : Nat) (s : State) : (recordGone id s).lcs.otp = s.lcs.otp := by
  rw [recordGone]; repeat' split
  all_goals simp
@[simp] theorem recoverRecord_otp (id : Nat) (s : State) : (recoverRecord id s).lcs.otp = s.lcs.otp := by
  (first | rw [recoverRecord] | unfold recoverRecord); (try dsimp only); repeat' split
  all_goals first | (simp; done) | (repeat' (first | (intro _) | split | (with_reducible refine (forEach_otp _ ?_ _ _).trans ?_) | (with_reducible refine (foldl_otp _ ?_ _ _).trans ?_) | (with_reducible refine (checked_otp _ _ _ _ ?_ _).trans ?_) | (with_reducible refine (pqChecked_otp _ _ _ _ ?_ _).trans ?_) | simp))
@[simp] theorem bump_otp (inp : DawnInput) (id k : Nat) (s : State) : (bump inp id k s).lcs.otp = s.lcs.otp := by
  (first | rw [bump] | unfold bump); (try dsimp only); repeat' split
  all_goals first | (simp; done) | (repeat' (first | (intro _) | split | (with_reducible refine (forEach_otp _ ?_ _ _).trans ?_) | (with_reducible refine (foldl_otp _ ?_ _ _).trans ?_) | (with_reducible refine (checked_otp _ _ _ _ ?_ _).trans ?_) | (with_reducible refine (pqChecked_otp _ _ _ _ ?_ _).trans ?_) | simp))
@[simp] theorem setIdentity_otp (s : State) : (setIdentity s).lcs.otp = s.lcs.otp := by
  rw [setIdentity]; repeat' split
  all_goals simp
@[simp] theorem ledgerRecovery_otp (inp : DawnInput) (s : State) : (ledgerRecovery inp s).lcs.otp = s.lcs.otp := by
  simp [ledgerRecovery]
@[simp] theorem countAttempts_otp (inp : DawnInput) (s : State) : (countAttempts inp s).lcs.otp = s.lcs.otp := by
  (first | rw [countAttempts] | unfold countAttempts); (try dsimp only); repeat' split
  all_goals first | (simp; done) | (repeat' (first | (intro _) | split | (with_reducible refine (forEach_otp _ ?_ _ _).trans ?_) | (with_reducible refine (foldl_otp _ ?_ _ _).trans ?_) | (with_reducible refine (checked_otp _ _ _ _ ?_ _).trans ?_) | (with_reducible refine (pqChecked_otp _ _ _ _ ?_ _).trans ?_) | simp))
@[simp] theorem dropIntent_otp (s : State) : (dropIntent s).lcs.otp = s.lcs.otp := by
  (first | rw [dropIntent] | unfold dropIntent); (try dsimp only); repeat' split
  all_goals first | (simp; done) | (repeat' (first | (intro _) | split | (with_reducible refine (forEach_otp _ ?_ _ _).trans ?_) | (with_reducible refine (foldl_otp _ ?_ _ _).trans ?_) | (with_reducible refine (checked_otp _ _ _ _ ?_ _).trans ?_) | (with_reducible refine (pqChecked_otp _ _ _ _ ?_ _).trans ?_) | simp))
@[simp] theorem carriedChanges_otp (old new : Carcass) (s : State) : (carriedChanges old new s).lcs.otp = s.lcs.otp := by
  (first | rw [carriedChanges] | unfold carriedChanges); (try dsimp only); repeat' split
  all_goals first | (simp; done) | (repeat' (first | (intro _) | split | (with_reducible refine (forEach_otp _ ?_ _ _).trans ?_) | (with_reducible refine (foldl_otp _ ?_ _ _).trans ?_) | (with_reducible refine (checked_otp _ _ _ _ ?_ _).trans ?_) | (with_reducible refine (pqChecked_otp _ _ _ _ ?_ _).trans ?_) | simp))
@[simp] theorem floorBump_otp (inp : DawnInput) (s : State) : (floorBump inp s).lcs.otp = s.lcs.otp := by
  (first | rw [floorBump] | unfold floorBump); (try dsimp only); repeat' split
  all_goals first | (simp; done) | (repeat' (first | (intro _) | split | (with_reducible refine (forEach_otp _ ?_ _ _).trans ?_) | (with_reducible refine (foldl_otp _ ?_ _ _).trans ?_) | (with_reducible refine (checked_otp _ _ _ _ ?_ _).trans ?_) | (with_reducible refine (pqChecked_otp _ _ _ _ ?_ _).trans ?_) | simp))
@[simp] theorem selectStep_otp (inp : DawnInput) (s : State) : (selectStep inp s).lcs.otp = s.lcs.otp := by
  (first | rw [selectStep] | unfold selectStep); (try dsimp only); repeat' split
  all_goals first | (simp; done) | (repeat' (first | (intro _) | split | (with_reducible refine (forEach_otp _ ?_ _ _).trans ?_) | (with_reducible refine (foldl_otp _ ?_ _ _).trans ?_) | (with_reducible refine (checked_otp _ _ _ _ ?_ _).trans ?_) | (with_reducible refine (pqChecked_otp _ _ _ _ ?_ _).trans ?_) | simp))
@[simp] theorem startGenerator_otp (inp : DawnInput) (was : Bool) (s : State) : (startGenerator inp was s).lcs.otp = s.lcs.otp := by
  (first | rw [startGenerator] | unfold startGenerator); (try dsimp only); repeat' split
  all_goals first | (simp; done) | (repeat' (first | (intro _) | split | (with_reducible refine (forEach_otp _ ?_ _ _).trans ?_) | (with_reducible refine (foldl_otp _ ?_ _ _).trans ?_) | (with_reducible refine (checked_otp _ _ _ _ ?_ _).trans ?_) | (with_reducible refine (pqChecked_otp _ _ _ _ ?_ _).trans ?_) | simp))
@[simp] theorem stampEvents_otp (s : State) : (stampEvents s).lcs.otp = s.lcs.otp := by
  (first | rw [stampEvents] | unfold stampEvents); (try dsimp only); repeat' split
  all_goals first | (simp; done) | (repeat' (first | (intro _) | split | (with_reducible refine (forEach_otp _ ?_ _ _).trans ?_) | (with_reducible refine (foldl_otp _ ?_ _ _).trans ?_) | (with_reducible refine (checked_otp _ _ _ _ ?_ _).trans ?_) | (with_reducible refine (pqChecked_otp _ _ _ _ ?_ _).trans ?_) | simp))
@[simp] theorem bistStep_otp (full : Bool) (inp : DawnInput) (s : State) : (bistStep full inp s).lcs.otp = s.lcs.otp := by
  unfold bistStep; extract_lets es s1 failed s2 map pass
  have e1 : s1.lcs.otp = s.lcs.otp := by simp [s1]
  have e2 : s2.lcs.otp = s1.lcs.otp := by
    simp only [s2]; refine forEach_otp _ ?_ _ _; intro n s; split <;> simp
  simp [e2, e1]
@[simp] theorem spoilBanks_otp (inp : DawnInput) (s : State) : (spoilBanks inp s).lcs.otp = s.lcs.otp := by
  simp [spoilBanks]
@[simp] theorem dropBank_otp (g k : Nat) (b : Option (RecBank (List BankEntry))) (s : State) : (dropBank g k b s).lcs.otp = s.lcs.otp := by
  (first | rw [dropBank] | unfold dropBank); (try dsimp only); repeat' split
  all_goals first | (simp; done) | (repeat' (first | (intro _) | split | (with_reducible refine (forEach_otp _ ?_ _ _).trans ?_) | (with_reducible refine (foldl_otp _ ?_ _ _).trans ?_) | (with_reducible refine (checked_otp _ _ _ _ ?_ _).trans ?_) | (with_reducible refine (pqChecked_otp _ _ _ _ ?_ _).trans ?_) | simp))
@[simp] theorem loadEntry_otp (e : BankEntry) (s : State) : (loadEntry e s).lcs.otp = s.lcs.otp := by
  (first | rw [loadEntry] | unfold loadEntry); (try dsimp only); repeat' split
  all_goals first | (simp; done) | (repeat' (first | (intro _) | split | (with_reducible refine (forEach_otp _ ?_ _ _).trans ?_) | (with_reducible refine (foldl_otp _ ?_ _ _).trans ?_) | (with_reducible refine (checked_otp _ _ _ _ ?_ _).trans ?_) | (with_reducible refine (pqChecked_otp _ _ _ _ ?_ _).trans ?_) | simp))
@[simp] theorem loadGroup_otp (a : State × Emptied) (g : Nat) : (loadGroup a g).1.lcs.otp = a.1.lcs.otp := by
  have key : ∀ (l : List BankEntry) (one : State × Emptied → BankEntry → State × Emptied) (a : State × Emptied),
      (∀ a e, (one a e).1.lcs.otp = a.1.lcs.otp) → (l.foldl one a).1.lcs.otp = a.1.lcs.otp := by
    intro l one a h; induction l generalizing a with
    | nil => rfl
    | cons e l ih => rw [List.foldl_cons, ih, h]
  unfold loadGroup; dsimp only; split
  · simp
  · refine (key _ _ _ ?_).trans ?_
    · intro a e; split <;> simp
    · simp
@[simp] theorem loadGroups_otp (gs : List Nat) (s : State) : (loadGroups gs s).1.lcs.otp = s.lcs.otp := by
  have key : ∀ (l : List Nat) (a : State × Emptied), (l.foldl loadGroup a).1.lcs.otp = a.1.lcs.otp := by
    intro l; induction l with
    | nil => intro a; rfl
    | cons e l ih => intro a; rw [List.foldl_cons, ih, loadGroup_otp]
  exact key gs (s, {})
@[simp] theorem storeReady_otp (empty : Bool) (r : State × Emptied) : (storeReady empty r).lcs.otp = r.1.lcs.otp := by
  rfl
@[simp] theorem keyStoreStep_otp (inp : DawnInput) (s : State) : (keyStoreStep inp s).lcs.otp = s.lcs.otp := by
  unfold keyStoreStep
  exact (storeReady_otp ..).trans ((loadGroups_otp ..).trans (spoilBanks_otp inp s))
@[simp] theorem carcassStep_otp (inp : DawnInput) (s : State) : (carcassStep inp s).lcs.otp = s.lcs.otp := by
  unfold carcassStep; extract_lets dark s1 s2 s3 s4 s5 x s6 s7
  have e3 : s3.lcs.otp = s.lcs.otp := by
    simp only [s3]; split
    · split <;> simp [s2, s1]
    · simp [s2, s1]
  have e4 : s4.lcs.otp = s.lcs.otp := (keyStoreStep_otp inp s3).trans e3
  clear_value s4
  have e5 : s5.lcs.otp = s.lcs.otp := by simp only [s5]; split <;> simp [e4]
  have e7 : s7.lcs.otp = s.lcs.otp := by simp only [s7]; split <;> simp [s6, e5]
  split <;> simp [e7]
@[simp] theorem laterDawn_otp (inp : DawnInput) (kept : Bool) (s : State) : (laterDawn inp kept s).lcs.otp = s.lcs.otp := by
  rw [laterDawn]; repeat' split
  all_goals simp
@[simp] theorem admissionOpen_otp (ms : Nat) (s : State) : (admissionOpen ms s).lcs.otp = s.lcs.otp := by
  (first | rw [admissionOpen] | unfold admissionOpen); (try dsimp only); repeat' split
  all_goals first | (simp; done) | (repeat' (first | (intro _) | split | (with_reducible refine (forEach_otp _ ?_ _ _).trans ?_) | (with_reducible refine (foldl_otp _ ?_ _ _).trans ?_) | (with_reducible refine (checked_otp _ _ _ _ ?_ _).trans ?_) | (with_reducible refine (pqChecked_otp _ _ _ _ ?_ _).trans ?_) | simp))
@[simp] theorem linkTraining_otp (lanes gts : Nat) (vf : Bool) (s : State) : (linkTraining lanes gts vf s).lcs.otp = s.lcs.otp := by
  rw [linkTraining]; repeat' split
  all_goals simp
@[simp] theorem stoppedAnswer_otp (f n : Nat) (d : Desc) (s : State) : (stoppedAnswer f n d s).lcs.otp = s.lcs.otp := by
  simp [stoppedAnswer]
@[simp] theorem descriptorFetch_otp (f n : Nat) (bs : List Byte) (s : State) : (descriptorFetch f n bs s).lcs.otp = s.lcs.otp := by
  (first | rw [descriptorFetch] | unfold descriptorFetch); (try dsimp only); repeat' split
  all_goals first | (simp; done) | (repeat' (first | (intro _) | split | (with_reducible refine (forEach_otp _ ?_ _ _).trans ?_) | (with_reducible refine (foldl_otp _ ?_ _ _).trans ?_) | (with_reducible refine (checked_otp _ _ _ _ ?_ _).trans ?_) | (with_reducible refine (pqChecked_otp _ _ _ _ ?_ _).trans ?_) | simp))
@[simp] theorem reportAer_otp (f cause : Nat) (s : State) : (reportAer f cause s).lcs.otp = s.lcs.otp := by
  (first | rw [reportAer] | unfold reportAer); (try dsimp only); repeat' split
  all_goals first | (simp; done) | (repeat' (first | (intro _) | split | (with_reducible refine (forEach_otp _ ?_ _ _).trans ?_) | (with_reducible refine (foldl_otp _ ?_ _ _).trans ?_) | (with_reducible refine (checked_otp _ _ _ _ ?_ _).trans ?_) | (with_reducible refine (pqChecked_otp _ _ _ _ ?_ _).trans ?_) | simp))
@[simp] theorem hostReadFailure_otp (job : Option Nat) (f n addr cause : Nat) (s : State) : (hostReadFailure job f n addr cause s).lcs.otp = s.lcs.otp := by
  (first | rw [hostReadFailure] | unfold hostReadFailure); (try dsimp only); repeat' split
  all_goals first | (simp; done) | (repeat' (first | (intro _) | split | (with_reducible refine (forEach_otp _ ?_ _ _).trans ?_) | (with_reducible refine (foldl_otp _ ?_ _ _).trans ?_) | (with_reducible refine (checked_otp _ _ _ _ ?_ _).trans ?_) | (with_reducible refine (pqChecked_otp _ _ _ _ ?_ _).trans ?_) | simp))
@[simp] theorem noiseSamples_otp (inp : TransitInput) (s : State) : (noiseSamples inp s).lcs.otp = s.lcs.otp := by
  simp [noiseSamples]
@[simp] theorem tileReading_otp (r : TileReading) (s : State) : (tileReading r s).lcs.otp = s.lcs.otp := by
  rw [tileReading]; repeat' split
  all_goals simp
@[simp] theorem applyThaws_otp (s : State) : (applyThaws s).lcs.otp = s.lcs.otp := by
  (first | rw [applyThaws] | unfold applyThaws); (try dsimp only); repeat' split
  all_goals first | (simp; done) | (repeat' (first | (intro _) | split | (with_reducible refine (forEach_otp _ ?_ _ _).trans ?_) | (with_reducible refine (foldl_otp _ ?_ _ _).trans ?_) | (with_reducible refine (checked_otp _ _ _ _ ?_ _).trans ?_) | (with_reducible refine (pqChecked_otp _ _ _ _ ?_ _).trans ?_) | simp))
@[simp] theorem wornCloses_otp (s : State) : (wornCloses s).lcs.otp = s.lcs.otp := by
  rw [wornCloses]; repeat' split
  all_goals simp
@[simp] theorem boundaryDraws_otp (s : State) : (boundaryDraws s).lcs.otp = s.lcs.otp := by
  simp [boundaryDraws]
@[simp] theorem beginL_otp (s : State) : (beginL s).lcs.otp = s.lcs.otp := by
  (first | rw [beginL] | unfold beginL); (try dsimp only); repeat' split
  all_goals first | (simp; done) | (repeat' (first | (intro _) | split | (with_reducible refine (forEach_otp _ ?_ _ _).trans ?_) | (with_reducible refine (foldl_otp _ ?_ _ _).trans ?_) | (with_reducible refine (checked_otp _ _ _ _ ?_ _).trans ?_) | (with_reducible refine (pqChecked_otp _ _ _ _ ?_ _).trans ?_) | simp))
@[simp] theorem fillBooks_otp (s : State) : (fillBooks s).lcs.otp = s.lcs.otp := by
  simp [fillBooks]
@[simp] theorem stepVid_otp (s : State) : (stepVid s).lcs.otp = s.lcs.otp := by
  simp [stepVid]
@[simp] theorem openDueRights_otp (s : State) : (openDueRights s).lcs.otp = s.lcs.otp := by
  (first | rw [openDueRights] | unfold openDueRights); (try dsimp only); repeat' split
  all_goals first | (simp; done) | (repeat' (first | (intro _) | split | (with_reducible refine (forEach_otp _ ?_ _ _).trans ?_) | (with_reducible refine (foldl_otp _ ?_ _ _).trans ?_) | (with_reducible refine (checked_otp _ _ _ _ ?_ _).trans ?_) | (with_reducible refine (pqChecked_otp _ _ _ _ ?_ _).trans ?_) | simp))
@[simp] theorem boundaryWork_otp (s : State) : (boundaryWork s).lcs.otp = s.lcs.otp := by
  (first | rw [boundaryWork] | unfold boundaryWork); (try dsimp only); repeat' split
  all_goals first | (simp; done) | (repeat' (first | (intro _) | split | (with_reducible refine (forEach_otp _ ?_ _ _).trans ?_) | (with_reducible refine (foldl_otp _ ?_ _ _).trans ?_) | (with_reducible refine (checked_otp _ _ _ _ ?_ _).trans ?_) | (with_reducible refine (pqChecked_otp _ _ _ _ ?_ _).trans ?_) | simp))
@[simp] theorem stopGenerator_otp (s : State) : (stopGenerator s).lcs.otp = s.lcs.otp := by
  simp [stopGenerator]
@[simp] theorem frameWork_otp (bitOk : Bool) (s : State) : (frameWork bitOk s).lcs.otp = s.lcs.otp := by
  (first | rw [frameWork] | unfold frameWork); (try dsimp only); repeat' split
  all_goals first | (simp; done) | (repeat' (first | (intro _) | split | (with_reducible refine (forEach_otp _ ?_ _ _).trans ?_) | (with_reducible refine (foldl_otp _ ?_ _ _).trans ?_) | (with_reducible refine (checked_otp _ _ _ _ ?_ _).trans ?_) | (with_reducible refine (pqChecked_otp _ _ _ _ ?_ _).trans ?_) | simp))
@[simp] theorem meterFrameBoundary_otp (bitOk : Bool) (s : State) : (meterFrameBoundary bitOk s).lcs.otp = s.lcs.otp := by
  unfold meterFrameBoundary; split
  · exact inOneCycle_otp _ (fun s => by simp) s
  · rfl
@[simp] theorem untestedNotice_otp (s : State) : (untestedNotice s).lcs.otp = s.lcs.otp := by
  rw [untestedNotice]; repeat' split
  all_goals simp
@[simp] theorem orbitBoundary_otp (s : State) : (orbitBoundary s).lcs.otp = s.lcs.otp := by
  rw [orbitBoundary]; repeat' split
  all_goals simp
theorem underStructure_otp (c : Carcass) (f : State → State) (h : ∀ s, (f s).lcs.otp = s.lcs.otp) (s : State) :
    (underStructure c f s).lcs.otp = s.lcs.otp := by
  simp [underStructure, h]
@[simp] theorem openTail_otp (s : State) : (openTail s).lcs.otp = s.lcs.otp := by
  (first | rw [openTail] | unfold openTail); (try dsimp only); repeat' split
  all_goals first | (simp; done) | (repeat' (first | (intro _) | split | (with_reducible refine (forEach_otp _ ?_ _ _).trans ?_) | (with_reducible refine (foldl_otp _ ?_ _ _).trans ?_) | (with_reducible refine (checked_otp _ _ _ _ ?_ _).trans ?_) | (with_reducible refine (pqChecked_otp _ _ _ _ ?_ _).trans ?_) | simp))
@[simp] theorem planningTail_otp (s : State) : (planningTail s).lcs.otp = s.lcs.otp := by
  rw [planningTail]; repeat' split
  all_goals simp [underStructure_otp]
@[simp] theorem holdEntry_otp (s : State) : (holdEntry s).lcs.otp = s.lcs.otp := by
  rw [holdEntry]; repeat' split
  all_goals simp
@[simp] theorem onHost_otp (f : Nat) (g : State → State) (h : ∀ s, (g s).lcs.otp = s.lcs.otp) (s : State) : (onHost f g s).lcs.otp = s.lcs.otp := by
  unfold onHost; split <;> simp [h]
@[simp] theorem whenAwake_otp (g : State → State) (h : ∀ s, (g s).lcs.otp = s.lcs.otp) (s : State) : (whenAwake g s).lcs.otp = s.lcs.otp := by
  unfold whenAwake; split <;> simp [h]
@[simp] theorem modPath_otp (path : Nat) (g : ReadPath → ReadPath) (s : State) : (modPath path g s).lcs.otp = s.lcs.otp := by
  rw [modPath]; repeat' split
  all_goals simp
@[simp] theorem latchingRead_otp (path a : Nat) (s : State) : (latchingRead path a s).lcs.otp = s.lcs.otp := by
  rw [latchingRead]; repeat' split
  all_goals simp
@[simp] theorem noteReserved_otp (f a w mask : Nat) (s : State) : (noteReserved f a w mask s).lcs.otp = s.lcs.otp := by
  rw [noteReserved]; repeat' split
  all_goals simp
@[simp] theorem fnWrite_otp (f off v : Nat) (s : State) : (fnWrite f off v s).lcs.otp = s.lcs.otp := by
  unfold fnWrite; repeat' split
  all_goals simp
@[simp] theorem takeValue_otp (f a v : Nat) (s : State) : (takeValue f a v s).lcs.otp = s.lcs.otp := by
  rw [takeValue]; repeat' split
  all_goals simp
@[simp] theorem putDapDesc_otp (off w : Nat) (s : State) : (putDapDesc off w s).lcs.otp = s.lcs.otp := by
  simp [putDapDesc]
@[simp] theorem putDapToken_otp (off w : Nat) (s : State) : (putDapToken off w s).lcs.otp = s.lcs.otp := by
  simp [putDapToken]
@[simp] theorem dapWrite_otp (a w : Nat) (s : State) : (dapWrite a w s).lcs.otp = s.lcs.otp := by
  simp only [dapWrite]; split
  · split <;> simp
  · simp [ite_otp]
@[simp] theorem registerWrite_otp (path a w : Nat) (s : State) : (registerWrite path a w s).lcs.otp = s.lcs.otp := by
  rw [registerWrite]; repeat' split
  all_goals simp
@[simp] theorem lcsTransition_otp (j bits : Nat) (s : State) : (lcsTransition j bits s).lcs.otp = s.lcs.otp := by
  rw [lcsTransition]; split
  · rfl
  · dsimp only; repeat' split
    all_goals simp
end Sys2Proof.Machine
end

