-- ==== Sys2Proof/Laws/State.lean ====
section
/-! SUPPORT. The small lemmas of the state and of the queue: a new queue changes nothing else, and a command's outcome keeps
the queue. -/

namespace Sys2Proof.Machine

@[simp] theorem State.withPending_pending (s : State) (q : List Instr) : (s.withPending q).pending = q := rfl
@[simp] theorem State.withPending_freeCtr (s : State) (q : List Instr) : (s.withPending q).freeCtr = s.freeCtr := rfl
@[simp] theorem State.withPending_out (s : State) (q : List Instr) : (s.withPending q).out = s.out := rfl
@[simp] theorem State.withPending_glb (s : State) (q : List Instr) : (s.withPending q).glb = s.glb := rfl
@[simp] theorem State.withPending_time (s : State) (q : List Instr) : (s.withPending q).time = s.time := rfl
@[simp] theorem State.withPending_orr (s : State) (q : List Instr) : (s.withPending q).orr = s.orr := rfl
@[simp] theorem State.withPending_job (s : State) (q : List Instr) : (s.withPending q).job = s.job := rfl
@[simp] theorem State.withPending_car (s : State) (q : List Instr) : (s.withPending q).car = s.car := rfl
@[simp] theorem State.withPending_hlk (s : State) (q : List Instr) : (s.withPending q).hlk = s.hlk := rfl
@[simp] theorem State.withPending_evt (s : State) (q : List Instr) : (s.withPending q).evt = s.evt := rfl
@[simp] theorem State.withPending_wld (s : State) (q : List Instr) : (s.withPending q).wld = s.wld := rfl
@[simp] theorem State.withPending_dov (s : State) (q : List Instr) : (s.withPending q).dov = s.dov := rfl
@[simp] theorem State.withPending_key (s : State) (q : List Instr) : (s.withPending q).key = s.key := rfl
@[simp] theorem State.withPending_lcs (s : State) (q : List Instr) : (s.withPending q).lcs = s.lcs := rfl
@[simp] theorem State.withPending_eng (s : State) (q : List Instr) : (s.withPending q).eng = s.eng := rfl
@[simp] theorem State.withPending_rng (s : State) (q : List Instr) : (s.withPending q).rng = s.rng := rfl
@[simp] theorem State.withPending_pwr (s : State) (q : List Instr) : (s.withPending q).pwr = s.pwr := rfl
@[simp] theorem State.withPending_mtr (s : State) (q : List Instr) : (s.withPending q).mtr = s.mtr := rfl
@[simp] theorem State.withPending_ldg (s : State) (q : List Instr) : (s.withPending q).ldg = s.ldg := rfl
@[simp] theorem State.withPending_msh (s : State) (q : List Instr) : (s.withPending q).msh = s.msh := rfl
@[simp] theorem State.withPending_tam (s : State) (q : List Instr) : (s.withPending q).tam = s.tam := rfl
@[simp] theorem State.withPending_bst (s : State) (q : List Instr) : (s.withPending q).bst = s.bst := rfl
@[simp] theorem State.withPending_bar0 (s : State) (q : List Instr) : (s.withPending q).bar0 = s.bar0 := rfl
@[simp] theorem State.withPending_dap (s : State) (q : List Instr) : (s.withPending q).dap = s.dap := rfl
@[simp] theorem State.withPending_twice (s : State) (p q : List Instr) : (s.withPending p).withPending q = s.withPending q := rfl
@[simp] theorem State.withPending_self (s : State) : s.withPending s.pending = s := rfl

/-- What `done` answers: the effect with the queue as it was. -/
theorem done_eq (s t : State) : done s t = .next (t.withPending s.pending) := rfl

/-- An outcome of `done` is its effect but for the queue. -/
theorem done_next {s t u : State} (h : done s t = .next u) : u = t.withPending s.pending := by
  simpa [done_eq] using h.symm

@[simp] theorem exec_of_done {s t u : State} : done s t = .next u ↔ u = t.withPending s.pending := by
  rw [done_eq]; constructor
  · intro h; exact (Host.Outcome.next.inj h).symm
  · intro h; rw [h]

end Sys2Proof.Machine
end

