-- ==== Sys2Proof/Laws/Read.lean ====
section
/-! SUPPORT. Reads after writes: what the record of a job, a function, a ring, a counter, a lane, a world, a tamper input, a mesh
member or a fuse word is after an operation has changed one of them. -/
set_option linter.unusedTactic false
set_option linter.unreachableTactic false

namespace Sys2Proof.Machine

@[simp] theorem Tab.getD_modify {α : Type} (t : Tab α) (k j : Nat) (d : α) (f : α → α) :
    Tab.getD (Tab.modify t k d f) j d = if j = k then f (Tab.getD t k d) else Tab.getD t j d := by
  by_cases h : j = k
  · subst h; simp
  · simp [Tab.getD_modify_ne, h]

theorem Tab.getD_put {α : Type} (t : Tab α) (k j : Nat) (v d : α) :
    Tab.getD (Tab.put t k v) j d = if j = k then v else Tab.getD t j d := by
  simp only [Tab.getD, Tab.get?_put]; split <;> rfl

/-- An entry of a table that a write left is the written one or one of the table's own. -/
theorem Tab.mem_put {α : Type} {t : Tab α} {k : Nat} {v : α} {e : Nat × α} (h : e ∈ Tab.put t k v) : e = (k, v) ∨ e ∈ t := by
  induction t with
  | nil => simpa [Tab.put] using h
  | cons a t ih =>
    obtain ⟨i, x⟩ := a
    unfold Tab.put at h
    split at h
    · simpa using h
    · split at h
      · simp only [List.mem_cons] at h ⊢; tauto
      · simp only [List.mem_cons] at h ⊢
        rcases h with h | h
        · tauto
        · have := ih h; tauto

/-- A key's entry is listed. -/
theorem Tab.mem_of_get? {α : Type} {t : Tab α} {k : Nat} {v : α} (h : Tab.get? t k = some v) : (k, v) ∈ t := by
  induction t with
  | nil => simp at h
  | cons a t ih =>
    obtain ⟨i, x⟩ := a
    rw [Tab.get?_cons] at h
    split at h
    · simp_all
    · exact .tail _ (ih h)

/-! ### The queue is no part of what the accessors read -/

@[simp] theorem jobOf_withPending (s : State) (q : List Instr) (j : Nat) : (s.withPending q).jobOf j = s.jobOf j := rfl
@[simp] theorem fnOf_withPending (s : State) (q : List Instr) (f : Nat) : (s.withPending q).fnOf f = s.fnOf f := rfl
@[simp] theorem sqOf_withPending (s : State) (q : List Instr) (f n : Nat) : (s.withPending q).sqOf f n = s.sqOf f n := rfl
@[simp] theorem cqOf_withPending (s : State) (q : List Instr) (f n : Nat) : (s.withPending q).cqOf f n = s.cqOf f n := rfl
@[simp] theorem counterOf_withPending (s : State) (q : List Instr) (k : Nat) : counterOf (s.withPending q) k = counterOf s k := rfl
@[simp] theorem laneLdg_withPending (s : State) (q : List Instr) (n : Nat) : laneLdg (s.withPending q) n = laneLdg s n := rfl
@[simp] theorem lane_withPending (s : State) (q : List Instr) (n : Nat) : (s.withPending q).lane n = s.lane n := rfl
@[simp] theorem world_withPending (s : State) (q : List Instr) (w : Nat) : (s.withPending q).world w = s.world w := rfl
@[simp] theorem tin_withPending (s : State) (q : List Instr) (n : Nat) : (s.withPending q).tin n = s.tin n := rfl
@[simp] theorem tile_withPending (s : State) (q : List Instr) (t : Nat) : (s.withPending q).tile t = s.tile t := rfl
@[simp] theorem memberOf_withPending (s : State) (q : List Instr) (m : Nat) : (s.withPending q).memberOf m = s.memberOf m := rfl
@[simp] theorem custodyOf_withPending (s : State) (q : List Instr) (c : Nat) : (s.withPending q).custodyOf c = s.custodyOf c := rfl
@[simp] theorem otpWord_withPending (s : State) (q : List Instr) (w : Nat) : otpWord (s.withPending q) w = otpWord s w := rfl

/-! ### Records of jobs and functions -/

@[simp] theorem jobOf_modJob (j k : Nat) (g : Job → Job) (s : State) :
    (modJob j g s).jobOf k = if k = j then (s.jobOf k).map g else s.jobOf k := by
  simp [State.jobOf, modJob, Tab.get?_update]

@[simp] theorem jobOf_setResult (j k : Nat) (r : Result) (s : State) :
    (setResult j r s).jobOf k = if k = j then (s.jobOf k).map (fun x => { x with result := some r }) else s.jobOf k := by
  simp [setResult]

/-- A recorded result is the job's. -/
theorem setResult_result {j : Nat} {r : Result} {s : State} {x : Job} (h : s.jobOf j = some x) :
    ((setResult j r s).jobOf j).map (·.result) = some (some r) := by
  simp [h]

@[simp] theorem fnOf_setFn (f k : Nat) (x : Fn) (s : State) : (setFn f x s).fnOf k = if k = f then x else s.fnOf k := by
  simp [State.fnOf, setFn, Tab.getD_put]

@[simp] theorem fnOf_modFn (f k : Nat) (g : Fn → Fn) (s : State) :
    (modFn f g s).fnOf k = if k = f then g (s.fnOf f) else s.fnOf k := by
  simp [modFn]

@[simp] theorem sqOf_modSq (f n k m : Nat) (g : Sq → Sq) (s : State) :
    (modSq f n g s).sqOf k m = if k = f ∧ m = n then g (s.sqOf f n) else s.sqOf k m := by
  by_cases h : k = f <;> by_cases h' : m = n <;> simp [State.sqOf, modSq, h, h']

@[simp] theorem cqOf_modSq (f n k m : Nat) (g : Sq → Sq) (s : State) : (modSq f n g s).cqOf k m = s.cqOf k m := by
  by_cases h : k = f <;> simp [State.cqOf, modSq, h]

@[simp] theorem cqOf_modCq (f n k m : Nat) (g : Cq → Cq) (s : State) :
    (modCq f n g s).cqOf k m = if k = f ∧ m = n then g (s.cqOf f n) else s.cqOf k m := by
  by_cases h : k = f <;> by_cases h' : m = n <;> simp [State.cqOf, modCq, h, h']

@[simp] theorem sqOf_modCq (f n k m : Nat) (g : Cq → Cq) (s : State) : (modCq f n g s).sqOf k m = s.sqOf k m := by
  by_cases h : k = f <;> simp [State.sqOf, modCq, h]

/-! ### The other records -/

@[simp] theorem tile_modTile (t k : Nat) (g : Tile → Tile) (s : State) :
    (modTile t g s).tile k = if k = t then g (s.tile t) else s.tile k := by
  simp [State.tile, modTile]

@[simp] theorem counterOf_modCounter (id k : Nat) (g : Counter → Counter) (s : State) :
    counterOf (modCounter id g s) k = if k = id then g (counterOf s id) else counterOf s k := by
  simp [counterOf, modCounter]

@[simp] theorem laneLdg_modLaneLdg (n k : Nat) (g : LaneLedger → LaneLedger) (s : State) :
    laneLdg (modLaneLdg n g s) k = if k = n then g (laneLdg s n) else laneLdg s k := by
  simp [laneLdg, modLaneLdg]

@[simp] theorem counterOf_modLaneLdg (n k : Nat) (g : LaneLedger → LaneLedger) (s : State) :
    counterOf (modLaneLdg n g s) k = counterOf s k := rfl

@[simp] theorem laneLdg_modCounter (id k : Nat) (g : Counter → Counter) (s : State) :
    laneLdg (modCounter id g s) k = laneLdg s k := rfl

@[simp] theorem lane_modLane (n k : Nat) (g : Lane → Lane) (s : State) :
    (modLane n g s).lane k = if k = n then g (s.lane n) else s.lane k := by
  simp [State.lane, modLane]

@[simp] theorem world_modWorld (w k : Nat) (g : World → World) (s : State) :
    (modWorld w g s).world k = if k = w then g (s.world w) else s.world k := by
  simp [State.world, modWorld]

@[simp] theorem tin_modTin (n k : Nat) (g : TamInput → TamInput) (s : State) :
    (modTin n g s).tin k = if k = n then g (s.tin n) else s.tin k := by
  simp [State.tin, modTin]

@[simp] theorem memberOf_modMember (m k : Nat) (g : Member → Member) (s : State) :
    (modMember m g s).memberOf k = if k = m then (s.memberOf k).map g else s.memberOf k := by
  simp [State.memberOf, modMember, Tab.get?_update]

@[simp] theorem custodyOf_modCustody (c k : Nat) (g : CabCustody → CabCustody) (s : State) :
    (modCustody c g s).custodyOf k = if k = c then g (s.custodyOf c) else s.custodyOf k := by
  simp [State.custodyOf, modCustody]

/-! ### Records in two banks -/

/-- Bank 0 is in force exactly if it is intact and its sequence is the commit word (R210). -/
theorem TwoBank.active_zero {α : Type} (r : TwoBank α) : r.active = some 0 ↔ r.b0.any (fun b => b.intact && b.seq == r.word) = true := by
  unfold TwoBank.active; split
  · simp_all
  · split <;> simp_all

/-- A bank prepared leaves the value in force as it was (R210 steps 1 and 2). -/
@[simp] theorem TwoBank.value_prepare {α : Type} (v : α) (r : TwoBank α) : (r.prepare v).value = r.value := by
  unfold TwoBank.prepare; dsimp only; split
  · rename_i h; have h0 := (TwoBank.active_zero r).1 h
    simp [TwoBank.value, TwoBank.active, h0]
  · rename_i h; have h0 := mt (TwoBank.active_zero r).2 h
    rw [Bool.not_eq_true] at h0
    cases e : r.b1.any (fun b => b.intact && b.seq == r.word) <;> simp [TwoBank.value, TwoBank.active, h0, e]

/-- A whole update puts its value in force (R210). -/
@[simp] theorem TwoBank.value_store {α : Type} (v : α) (r : TwoBank α) : (r.store v).value = some v := by
  unfold TwoBank.store TwoBank.commit TwoBank.prepare; dsimp only; split
  · rename_i h; have h0 := (TwoBank.active_zero r).1 h
    obtain ⟨b, hb⟩ : ∃ b, r.b0 = some b := by cases e : r.b0 <;> simp_all
    simp [hb] at h0
    simp [TwoBank.value, TwoBank.active, hb, h0]
  · simp [TwoBank.value, TwoBank.active]

@[simp] theorem groupOf_modGroup (g k : Nat) (f : TwoBank (List BankEntry) → TwoBank (List BankEntry)) (s : State) :
    groupOf (modGroup g f s) k = if k = g then f (groupOf s g) else groupOf s k := by
  simp [groupOf, modGroup]

@[simp] theorem sourceOf_modSource (n k : Nat) (g : Source → Source) (s : State) :
    sourceOf (modSource n g s) k = if k = n then g (sourceOf s n) else sourceOf s k := by
  simp [sourceOf, modSource]

/-! ### Fuse words -/

/-- Programming ORs bits into one word. -/
theorem Tab.getD_programWord (o : Tab Nat) (w v k : Nat) :
    Tab.getD (programWord w v o) k 0 = if k = w then Tab.getD o w 0 ||| v else Tab.getD o k 0 := by
  unfold programWord
  dsimp only
  split
  · rename_i h
    split
    · subst_vars; rw [h]; exact (Nat.or_eq_zero_iff.1 h).1
    · rfl
  · rw [Tab.getD_put]

end Sys2Proof.Machine
end

