-- ==== Sys2Proof/Laws/Still.lean ====
section
/-! SUPPORT. What the jobs, the host link and the mesh leave alone: `still` collects the key store, the lifecycle, the engines'
and the random number state, the meters and the ledger, power, tamper, self-test, the applet worlds and the global state; each
routine on their path keeps all of it, one lemma per routine. -/
set_option linter.unusedTactic false
set_option linter.unreachableTactic false
namespace Sys2Proof.Machine

/-- The groups of state that no job's own path writes. -/
def State.still (s : State) : GlbState × WldState × KeyState × LcsState × EngState × RngState × PwrState × Tab Lane × LdgState × TamState ×
    BstState × ReadPath × ReadPath :=
  (s.glb, s.wld, s.key, s.lcs, s.eng, s.rng, s.pwr, s.mtr, s.ldg, s.tam, s.bst, s.bar0, s.dap)

@[simp] theorem still_mk (s : State) (pending : List Instr) (freeCtr : Nat) (out : List Out) (time : TimeState) (orr : OrrState)
    (job : JobState) (car : CarState) (hlk : LinkState) (evt : EvtState) (dov : DovState) (msh : MshState) :
    (State.mk pending freeCtr out s.glb time orr job car hlk evt s.wld dov s.key s.lcs s.eng s.rng s.pwr s.mtr s.ldg msh s.tam s.bst s.bar0
      s.dap).still = s.still := rfl

theorem foldl_still {α : Type} (f : State → α → State) (h : ∀ s a, (f s a).still = s.still) (l : List α) (s : State) :
    (l.foldl f s).still = s.still := by
  induction l generalizing s with
  | nil => rfl
  | cons a l ih => simp [List.foldl, ih, h]
@[simp] theorem forEach_still {α : Type} (f : α → State → State) (h : ∀ a s, (f a s).still = s.still) (l : List α) (s : State) :
    (forEach l f s).still = s.still :=
  foldl_still _ (fun s a => h a s) l s
theorem ite_still (c : Prop) [Decidable c] (a b : State) : (if c then a else b).still = if c then a.still else b.still :=
  apply_ite (fun s : State => s.still) c a b
@[simp] theorem drawFree_still (n : Nat) (s : State) : (drawFree n s).still = s.still := by
  simp [drawFree]
@[simp] theorem emit_still (o : Out) (s : State) : (emit o s).still = s.still := by
  simp [emit]
@[simp] theorem countLost_still (code : Nat) (s : State) : (countLost code s).still = s.still := by
  simp [countLost]
@[simp] theorem raiseFrom_still (src code sev p1 p2 p3 : Nat) (s : State) : (raiseFrom src code sev p1 p2 p3 s).still = s.still := by
  rw [raiseFrom]; repeat' split
  all_goals simp
@[simp] theorem raiseEv_still (code sev p1 p2 p3 : Nat) (s : State) : (raiseEv code sev p1 p2 p3 s).still = s.still := by
  simp [raiseEv]
@[simp] theorem setFn_still (f : Nat) (x : Fn) (s : State) : (setFn f x s).still = s.still := by
  simp [setFn]
@[simp] theorem modFn_still (f : Nat) (g : Fn → Fn) (s : State) : (modFn f g s).still = s.still := by
  simp [modFn]
@[simp] theorem modSq_still (f n : Nat) (g : Sq → Sq) (s : State) : (modSq f n g s).still = s.still := by
  simp [modSq]
@[simp] theorem modCq_still (f n : Nat) (g : Cq → Cq) (s : State) : (modCq f n g s).still = s.still := by
  simp [modCq]
@[simp] theorem signal_still (f v : Nat) (s : State) : (signal f v s).still = s.still := by
  rw [signal]; repeat' split
  all_goals simp
@[simp] theorem setAttn_still (b f : Nat) (s : State) : (setAttn b f s).still = s.still := by
  (first | rw [setAttn] | unfold setAttn); (try dsimp only); repeat' split
  all_goals first | (simp; done) | (repeat' (first | (intro _) | split | (with_reducible refine (forEach_still _ ?_ _ _).trans ?_) | (with_reducible refine (foldl_still _ ?_ _ _).trans ?_) | simp))
@[simp] theorem holdNotice_still (f : Nat) (n : Notice) (s : State) : (holdNotice f n s).still = s.still := by
  rw [holdNotice]; repeat' split
  all_goals simp
@[simp] theorem notify_still (type subject p0 p1 p2 p3 : Nat) (f : Nat) (s : State) : (notify type subject p0 p1 p2 p3 f s).still = s.still := by
  simp [notify]
@[simp] theorem notifyCab_still (type subject p0 p1 p2 p3 : Nat) (c : Nat) (s : State) : (notifyCab type subject p0 p1 p2 p3 c s).still = s.still := by
  simp [notifyCab]
@[simp] theorem notifyZeroAndCab_still (type subject p0 p1 p2 p3 : Nat) (c : Nat) (s : State) : (notifyZeroAndCab type subject p0 p1 p2 p3 c s).still = s.still := by
  simp [notifyZeroAndCab]
@[simp] theorem entryWritten_still (f n : Nat) (s : State) : (entryWritten f n s).still = s.still := by
  rw [entryWritten]; repeat' split
  all_goals simp
@[simp] theorem writeEntry_still (f n : Nat) (e : Bool → Completion) (s : State) : (writeEntry f n e s).still = s.still := by
  rw [writeEntry]; repeat' split
  all_goals simp
@[simp] theorem giveBack_still (f n k : Nat) (s : State) : (giveBack f n k s).still = s.still := by
  (first | rw [giveBack] | unfold giveBack); (try dsimp only); repeat' split
  all_goals first | (simp; done) | (repeat' (first | (intro _) | split | (with_reducible refine (forEach_still _ ?_ _ _).trans ?_) | (with_reducible refine (foldl_still _ ?_ _ _).trans ?_) | simp))
@[simp] theorem modTile_still (t : Nat) (g : Tile → Tile) (s : State) : (modTile t g s).still = s.still := by
  simp [modTile]
@[simp] theorem modJob_still (j : Nat) (g : Job → Job) (s : State) : (modJob j g s).still = s.still := by
  simp [modJob]
@[simp] theorem jobEntry_still (j : Nat) (x : Job) (e : Bool → Completion) (s : State) : (jobEntry j x e s).still = s.still := by
  (first | rw [jobEntry] | unfold jobEntry); (try dsimp only); repeat' split
  all_goals first | (simp; done) | (repeat' (first | (intro _) | split | (with_reducible refine (forEach_still _ ?_ _ _).trans ?_) | (with_reducible refine (foldl_still _ ?_ _ _).trans ?_) | simp))
@[simp] theorem dropHolds_still (j : Nat) (s : State) : (dropHolds j s).still = s.still := by
  simp [dropHolds]
@[simp] theorem markFinished_still (j : Nat) (s : State) : (markFinished j s).still = s.still := by
  simp [markFinished]
@[simp] theorem releaseReserve_still (j : Nat) (s : State) : (releaseReserve j s).still = s.still := by
  (first | rw [releaseReserve] | unfold releaseReserve); (try dsimp only); repeat' split
  all_goals first | (simp; done) | (repeat' (first | (intro _) | split | (with_reducible refine (forEach_still _ ?_ _ _).trans ?_) | (with_reducible refine (foldl_still _ ?_ _ _).trans ?_) | simp))
@[simp] theorem endJob_still (j status w0 w1 w2 : Nat) (s : State) : (endJob j status w0 w1 w2 s).still = s.still := by
  rw [endJob]; repeat' split
  all_goals simp
@[simp] theorem dropJob_still (j : Nat) (s : State) : (dropJob j s).still = s.still := by
  simp [dropJob]
@[simp] theorem ringFaultEvent_still (f ring error : Nat) (s : State) : (ringFaultEvent f ring error s).still = s.still := by
  simp [ringFaultEvent]
@[simp] theorem dropSqJobs_still (f n : Nat) (s : State) : (dropSqJobs f n s).still = s.still := by
  simp [dropSqJobs]
@[simp] theorem faultSq_still (f n error : Nat) (s : State) : (faultSq f n error s).still = s.still := by
  simp [faultSq]
@[simp] theorem faultCq_still (f n error : Nat) (s : State) : (faultCq f n error s).still = s.still := by
  simp [faultCq]
@[simp] theorem sqEnable_still (f n : Nat) (w : Nat) (s : State) : (sqEnable f n w s).still = s.still := by
  (first | rw [sqEnable] | unfold sqEnable); (try dsimp only); repeat' split
  all_goals first | (simp; done) | (repeat' (first | (intro _) | split | (with_reducible refine (forEach_still _ ?_ _ _).trans ?_) | (with_reducible refine (foldl_still _ ?_ _ _).trans ?_) | simp))
@[simp] theorem cqEnable_still (f n : Nat) (w : Nat) (s : State) : (cqEnable f n w s).still = s.still := by
  (first | rw [cqEnable] | unfold cqEnable); (try dsimp only); repeat' split
  all_goals first | (simp; done) | (repeat' (first | (intro _) | split | (with_reducible refine (forEach_still _ ?_ _ _).trans ?_) | (with_reducible refine (foldl_still _ ?_ _ _).trans ?_) | simp))
@[simp] theorem releaseCredits_still (f n : Nat) (s : State) : (releaseCredits f n s).still = s.still := by
  simp [releaseCredits]
@[simp] theorem orphanJobs_still (gone : Job → Bool) (s : State) : (orphanJobs gone s).still = s.still := by
  (first | rw [orphanJobs] | unfold orphanJobs); (try dsimp only); repeat' split
  all_goals first | (simp; done) | (repeat' (first | (intro _) | split | (with_reducible refine (forEach_still _ ?_ _ _).trans ?_) | (with_reducible refine (foldl_still _ ?_ _ _).trans ?_) | simp))
@[simp] theorem sqOff_still (f n : Nat) (s : State) : (sqOff f n s).still = s.still := by
  (first | rw [sqOff] | unfold sqOff); (try dsimp only); repeat' split
  all_goals first | (simp; done) | (repeat' (first | (intro _) | split | (with_reducible refine (forEach_still _ ?_ _ _).trans ?_) | (with_reducible refine (foldl_still _ ?_ _ _).trans ?_) | simp))
@[simp] theorem settleSq_still (f n : Nat) (s : State) : (settleSq f n s).still = s.still := by
  rw [settleSq]; repeat' split
  all_goals simp
@[simp] theorem sqDisable_still (f n : Nat) (w : Nat) (s : State) : (sqDisable f n w s).still = s.still := by
  rw [sqDisable]; repeat' split
  all_goals simp
@[simp] theorem cqDisable_still (f n : Nat) (w : Nat) (s : State) : (cqDisable f n w s).still = s.still := by
  rw [cqDisable]; repeat' split
  all_goals simp
@[simp] theorem logIgnored_still (f ring st : Nat) (logged : Bool) (s : State) : (logIgnored f ring st logged s).still = s.still := by
  rw [logIgnored]; repeat' split
  all_goals simp
@[simp] theorem sqDoorbell_still (f n : Nat) (count : Word) (cycle : Nat) (s : State) : (sqDoorbell f n count cycle s).still = s.still := by
  rw [sqDoorbell]; repeat' split
  all_goals simp
@[simp] theorem cqDoorbell_still (f n : Nat) (count : Word) (s : State) : (cqDoorbell f n count s).still = s.still := by
  rw [cqDoorbell]; repeat' split
  all_goals simp
@[simp] theorem passTurn_still (f n : Nat) (s : State) : (passTurn f n s).still = s.still := by
  (first | rw [passTurn] | unfold passTurn); (try dsimp only); repeat' split
  all_goals first | (simp; done) | (repeat' (first | (intro _) | split | (with_reducible refine (forEach_still _ ?_ _ _).trans ?_) | (with_reducible refine (foldl_still _ ?_ _ _).trans ?_) | simp))
@[simp] theorem creditlessAnswer_still (f n : Nat) (bs : List Byte) (s : State) : (creditlessAnswer f n bs s).still = s.still := by
  rw [creditlessAnswer]; repeat' split
  all_goals simp
@[simp] theorem statusBlockEnable_still (f w : Nat) (s : State) : (statusBlockEnable f w s).still = s.still := by
  simp [statusBlockEnable]
@[simp] theorem fnAttnClear_still (f w : Nat) (s : State) : (fnAttnClear f w s).still = s.still := by
  simp [fnAttnClear]
@[simp] theorem writeNotice_still (f : Nat) (s : State) : (writeNotice f s).still = s.still := by
  (first | rw [writeNotice] | unfold writeNotice); (try dsimp only); repeat' split
  all_goals first | (simp; done) | (repeat' (first | (intro _) | split | (with_reducible refine (forEach_still _ ?_ _ _).trans ?_) | (with_reducible refine (foldl_still _ ?_ _ _).trans ?_) | simp))
@[simp] theorem noticeWrite_still (f : Nat) (s : State) : (noticeWrite f s).still = s.still := by
  rw [noticeWrite]; repeat' split
  all_goals simp
@[simp] theorem badAccess_still (f offset size : Nat) (write : Bool) (s : State) : (badAccess f offset size write s).still = s.still := by
  rw [badAccess]; repeat' split
  all_goals simp
@[simp] theorem writeHost_still (addr : Nat) (bs : List Byte) (s : State) : (writeHost addr bs s).still = s.still := by
  simp [writeHost]
@[simp] theorem freezeMaster_still (kind number cause addr : Nat) (tag : Word) (offender : Option Nat) (s : State) : (freezeMaster kind number cause addr tag offender s).still = s.still := by
  rw [freezeMaster]; repeat' split
  all_goals simp
@[simp] theorem pageWanted_still (f page : Nat) (tag : Word) (s : State) : (pageWanted f page tag s).still = s.still := by
  simp [pageWanted]
@[simp] theorem parkJob_still (j page right ran : Nat) (s : State) : (parkJob j page right ran s).still = s.still := by
  (first | rw [parkJob] | unfold parkJob); (try dsimp only); repeat' split
  all_goals first | (simp; done) | (repeat' (first | (intro _) | split | (with_reducible refine (forEach_still _ ?_ _ _).trans ?_) | (with_reducible refine (foldl_still _ ?_ _ _).trans ?_) | simp))
@[simp] theorem pruneWanted_still (s : State) : (pruneWanted s).still = s.still := by
  simp [pruneWanted]
@[simp] theorem abandonJob_still (j page : Nat) (s : State) : (abandonJob j page s).still = s.still := by
  rw [abandonJob]; repeat' split
  all_goals simp
@[simp] theorem releaseJob_still (j : Nat) (s : State) : (releaseJob j s).still = s.still := by
  rw [releaseJob]; repeat' split
  all_goals simp
@[simp] theorem releaseCounted_still (pages : List Nat) (s : State) : (releaseCounted pages s).1.still = s.still := by
  have key : ∀ (l : List (Nat × Job)) (a : State × Nat),
      (l.foldl (fun (a : State × Nat) e => if leavesPark a.1 e.1 then (releaseJob e.1 a.1, a.2 + 1) else a) a).1.still = a.1.still := by
    intro l; induction l with
    | nil => intro a; rfl
    | cons e l ih => intro a; rw [List.foldl_cons, ih]; split <;> simp
  exact key _ _
@[simp] theorem releasePages_still (pages : List Nat) (s : State) : (releasePages pages s).still = s.still := by
  simp [releasePages]
theorem writeBacking_still (j : Nat) (x : Job) (addr : Nat) (bs : List Byte) (k : State → State) (h : ∀ s, (k s).still = s.still)
    (s : State) : (writeBacking j x addr bs k s).still = s.still := by
  unfold writeBacking; dsimp only; repeat' split
  all_goals simp [h]
@[simp] theorem setResult_still (j : Nat) (r : Result) (s : State) : (setResult j r s).still = s.still := by
  simp [setResult]
@[simp] theorem failJob_still (j status w0 w1 w2 : Nat) (s : State) : (failJob j status w0 w1 w2 s).still = s.still := by
  simp [failJob]
@[simp] theorem potChange_still (page : Nat) (e : Option PageEntry) (s : State) : (potChange page e s).still = s.still := by
  simp [potChange]
@[simp] theorem pageCommand_still (j op : Nat) (s : State) : (pageCommand j op s).still = s.still := by
  (first | rw [pageCommand] | unfold pageCommand); (try dsimp only); repeat' split
  all_goals first | (simp; done) | (repeat' (first | (intro _) | split | (with_reducible refine (forEach_still _ ?_ _ _).trans ?_) | (with_reducible refine (foldl_still _ ?_ _ _).trans ?_) | simp))
@[simp] theorem nopJob_still (j : Nat) (s : State) : (nopJob j s).still = s.still := by
  rw [nopJob]; repeat' split
  all_goals simp
@[simp] theorem pageQuery_still (j : Nat) (s : State) : (pageQuery j s).still = s.still := by
  rw [pageQuery]; repeat' split
  all_goals simp
@[simp] theorem pageWantedRepeat_still (f page : Nat) (s : State) : (pageWantedRepeat f page s).still = s.still := by
  rw [pageWantedRepeat]; repeat' split
  all_goals simp
@[simp] theorem pageAbandonTimeout_still (j : Nat) (s : State) : (pageAbandonTimeout j s).still = s.still := by
  rw [pageAbandonTimeout]; repeat' split
  all_goals simp
@[simp] theorem operandStaged_still (j : Nat) (input aux extra : List Byte) (s : State) : (operandStaged j input aux extra s).still = s.still := by
  rw [operandStaged]; repeat' split
  all_goals simp
@[simp] theorem countOver_still (code sev : Nat) (s : State) : (countOver code sev s).still = s.still := by
  simp [countOver]
@[simp] theorem journalQueue_still (r : Record) (s : State) : (journalQueue r s).still = s.still := by
  rw [journalQueue]; repeat' split
  all_goals simp
@[simp] theorem place_still (r : Record) (s : State) : (place r s).still = s.still := by
  rw [place]; repeat' split
  all_goals simp
@[simp] theorem eventIntake_still (s : State) : (eventIntake s).still = s.still := by
  rw [eventIntake]; repeat' split
  all_goals simp
@[simp] theorem ackRing_still (w : Word) (s : State) : (ackRing w s).still = s.still := by
  rw [ackRing]; repeat' split
  all_goals simp
@[simp] theorem ackJournal_still (w : Word) (s : State) : (ackJournal w s).still = s.still := by
  rw [ackJournal]; repeat' split
  all_goals simp
@[simp] theorem selectRecord_still (w : Word) (s : State) : (selectRecord w s).still = s.still := by
  rw [selectRecord]; repeat' split
  all_goals simp
@[simp] theorem eventSnapshot_still (j : Nat) (s : State) : (eventSnapshot j s).still = s.still := by
  rw [eventSnapshot]; repeat' split
  all_goals simp
@[simp] theorem journalRead_still (j : Nat) (s : State) : (journalRead j s).still = s.still := by
  rw [journalRead]; repeat' split
  all_goals simp
@[simp] theorem openBlock_still (first : Word) (s : State) : (openBlock first s).still = s.still := by
  (first | rw [openBlock] | unfold openBlock); (try dsimp only); repeat' split
  all_goals first | (simp; done) | (repeat' (first | (intro _) | split | (with_reducible refine (forEach_still _ ?_ _ _).trans ?_) | (with_reducible refine (foldl_still _ ?_ _ _).trans ?_) | simp))
@[simp] theorem appendJournal_still (r : Record) (s : State) : (appendJournal r s).still = s.still := by
  rw [appendJournal]; repeat' split
  all_goals simp
@[simp] theorem journalProgram_still (ok : Bool) (s : State) : (journalProgram ok s).still = s.still := by
  (first | rw [journalProgram] | unfold journalProgram); (try dsimp only); repeat' split
  all_goals first | (simp; done) | (repeat' (first | (intro _) | split | (with_reducible refine (forEach_still _ ?_ _ _).trans ?_) | (with_reducible refine (foldl_still _ ?_ _ _).trans ?_) | simp))
@[simp] theorem timeAnchor_still (s : State) : (timeAnchor s).still = s.still := by
  rw [timeAnchor]; repeat' split
  all_goals simp
@[simp] theorem ppsEdge_still (instant inTransit : Nat) (s : State) : (ppsEdge instant inTransit s).still = s.still := by
  (first | rw [ppsEdge] | unfold ppsEdge); (try dsimp only); repeat' split
  all_goals first | (simp; done) | (repeat' (first | (intro _) | split | (with_reducible refine (forEach_still _ ?_ _ _).trans ?_) | (with_reducible refine (foldl_still _ ?_ _ _).trans ?_) | simp))
@[simp] theorem ppsIntervalTimeout_still (s : State) : (ppsIntervalTimeout s).still = s.still := by
  rw [ppsIntervalTimeout]; repeat' split
  all_goals simp
@[simp] theorem takeOperands_still (j : Nat) (input aux extra : List Byte) (s : State) : (takeOperands j input aux extra s).still = s.still := by
  unfold takeOperands; dsimp only; repeat' split
  all_goals simp
@[simp] theorem keyLoadFerried_still (j : Nat) (s : State) : (keyLoadFerried j s).still = s.still := by
  (first | rw [keyLoadFerried] | unfold keyLoadFerried); (try dsimp only); repeat' split
  all_goals first | (simp; done) | (repeat' (first | (intro _) | split | (with_reducible refine (forEach_still _ ?_ _ _).trans ?_) | (with_reducible refine (foldl_still _ ?_ _ _).trans ?_) | simp))
@[simp] theorem keyLoadPublic_still (j : Nat) (s : State) : (keyLoadPublic j s).still = s.still := by
  (first | rw [keyLoadPublic] | unfold keyLoadPublic); (try dsimp only); repeat' split
  all_goals first | (simp; done) | (repeat' (first | (intro _) | split | (with_reducible refine (forEach_still _ ?_ _ _).trans ?_) | (with_reducible refine (foldl_still _ ?_ _ _).trans ?_) | simp))
@[simp] theorem keyInfo_still (j : Nat) (s : State) : (keyInfo j s).still = s.still := by
  (first | rw [keyInfo] | unfold keyInfo); (try dsimp only); repeat' split
  all_goals first | (simp; done) | (repeat' (first | (intro _) | split | (with_reducible refine (forEach_still _ ?_ _ _).trans ?_) | (with_reducible refine (foldl_still _ ?_ _ _).trans ?_) | simp))
@[simp] theorem openRequest_still (j : Nat) (x : Job) (rosters : List Roster) (dig : Digest) (s : State) : (openRequest j x rosters dig s).still = s.still := by
  rw [openRequest]; repeat' split
  all_goals simp
@[simp] theorem openOwn_still (j : Nat) (x : Job) (right : Nat) (s : State) : (openOwn j x right s).still = s.still := by
  simp [openOwn]
@[simp] theorem cancelRequest_still (n : Nat) (s : State) : (cancelRequest n s).still = s.still := by
  rw [cancelRequest]; repeat' split
  all_goals simp
@[simp] theorem dovetailQuery_still (j : Nat) (s : State) : (dovetailQuery j s).still = s.still := by
  rw [dovetailQuery]; repeat' split
  all_goals simp
@[simp] theorem dovetailLapse_still (n : Nat) (s : State) : (dovetailLapse n s).still = s.still := by
  rw [dovetailLapse]; repeat' split
  all_goals simp
@[simp] theorem keyImport_still (j : Nat) (s : State) : (keyImport j s).still = s.still := by
  rw [keyImport]; repeat' split
  all_goals simp
@[simp] theorem keyExport_still (j : Nat) (s : State) : (keyExport j s).still = s.still := by
  rw [keyExport]; repeat' split
  all_goals simp
@[simp] theorem keyDestroy_still (j : Nat) (s : State) : (keyDestroy j s).still = s.still := by
  rw [keyDestroy]; repeat' split
  all_goals simp
@[simp] theorem thaw_still (j : Nat) (s : State) : (thaw j s).still = s.still := by
  rw [thaw]; repeat' split
  all_goals simp
@[simp] theorem modMember_still (m : Nat) (g : Member → Member) (s : State) : (modMember m g s).still = s.still := by
  simp [modMember]
@[simp] theorem putFrame_still (m : Nat) (bytes : List Byte) (s : State) : (putFrame m bytes s).still = s.still := by
  rw [putFrame]; repeat' split
  all_goals simp
@[simp] theorem frameOut_still (m type frag flags epoch : Nat) (payload : List Byte) (s : State) : (frameOut m type frag flags epoch payload s).still = s.still := by
  rw [frameOut]; repeat' split
  all_goals simp
@[simp] theorem sendFlagged_still (m flags type frag epoch : Nat) (payload : List Byte) (s : State) : (sendFlagged m flags type frag epoch payload s).still = s.still := by
  (first | rw [sendFlagged] | unfold sendFlagged); (try dsimp only); repeat' split
  all_goals first | (simp; done) | (repeat' (first | (intro _) | split | (with_reducible refine (forEach_still _ ?_ _ _).trans ?_) | (with_reducible refine (foldl_still _ ?_ _ _).trans ?_) | simp))
@[simp] theorem sendFrame_still (m type frag epoch : Nat) (payload : List Byte) (s : State) : (sendFrame m type frag epoch payload s).still = s.still := by
  rw [sendFrame]; repeat' split
  all_goals simp
@[simp] theorem flushQueue_still (m k : Nat) (s : State) : (flushQueue m k s).still = s.still := by
  induction k generalizing s with
  | zero => rfl
  | succ k ih => unfold flushQueue; repeat' split
                 all_goals simp [ih]
@[simp] theorem sendMsg_still (m type : Nat) (payload : List Byte) (s : State) : (sendMsg m type payload s).still = s.still := by
  (first | rw [sendMsg] | unfold sendMsg); (try dsimp only); repeat' split
  all_goals first | (simp; done) | (repeat' (first | (intro _) | split | (with_reducible refine (forEach_still _ ?_ _ _).trans ?_) | (with_reducible refine (foldl_still _ ?_ _ _).trans ?_) | (with_reducible refine (checked_still _ _ _ _ ?_ _).trans ?_) | simp))
@[simp] theorem dropPlaces_still (m : Nat) (s : State) : (dropPlaces m s).still = s.still := by
  simp [dropPlaces]
@[simp] theorem closeLink_still (m : Nat) (st : MemberState) (s : State) : (closeLink m st s).still = s.still := by
  simp [closeLink]
@[simp] theorem dropTunnel_still (m : Nat) (s : State) : (dropTunnel m s).still = s.still := by
  (first | rw [dropTunnel] | unfold dropTunnel); (try dsimp only); repeat' split
  all_goals first | (simp; done) | (repeat' (first | (intro _) | split | (with_reducible refine (forEach_still _ ?_ _ _).trans ?_) | (with_reducible refine (foldl_still _ ?_ _ _).trans ?_) | simp))
@[simp] theorem scheduleHello_still (h0 m : Nat) (s : State) : (scheduleHello h0 m s).still = s.still := by
  rw [scheduleHello]; repeat' split
  all_goals simp
@[simp] theorem resetLink_still (m : Nat) (s : State) : (resetLink m s).still = s.still := by
  simp [resetLink]
@[simp] theorem sendHello_still (m : Nat) (s : State) : (sendHello m s).still = s.still := by
  simp [sendHello]
@[simp] theorem helloTimer_still (m : Nat) (s : State) : (helloTimer m s).still = s.still := by
  rw [helloTimer]; repeat' split
  all_goals simp
@[simp] theorem updateRef_still (s : State) : (updateRef s).still = s.still := by
  rw [updateRef]; repeat' split
  all_goals simp
@[simp] theorem freezePeer_still (m cause : Nat) (s : State) : (freezePeer m cause s).still = s.still := by
  rw [freezePeer]; repeat' split
  all_goals simp
@[simp] theorem keyingFailed_still (m step : Nat) (s : State) : (keyingFailed m step s).still = s.still := by
  simp [keyingFailed]
@[simp] theorem sendKeyInit_still (m : Nat) (s : State) : (sendKeyInit m s).still = s.still := by
  rw [sendKeyInit]; repeat' split
  all_goals simp
@[simp] theorem linkKeyed_still (m epoch : Nat) (tx rx : List Byte) (s : State) : (linkKeyed m epoch tx rx s).still = s.still := by
  simp [linkKeyed]
@[simp] theorem onHello_still (m : Nat) (p : List Byte) (s : State) : (onHello m p s).still = s.still := by
  unfold onHello; dsimp only; split
  · split
    · split <;> simp
    · simp
  · simp
@[simp] theorem onKeyInit_still (m epoch : Nat) (p : List Byte) (s : State) : (onKeyInit m epoch p s).still = s.still := by
  (first | rw [onKeyInit] | unfold onKeyInit); (try dsimp only); repeat' split
  all_goals first | (simp; done) | (repeat' (first | (intro _) | split | (with_reducible refine (forEach_still _ ?_ _ _).trans ?_) | (with_reducible refine (foldl_still _ ?_ _ _).trans ?_) | (with_reducible refine (checked_still _ _ _ _ ?_ _).trans ?_) | simp))
@[simp] theorem onKeyReply_still (m epoch : Nat) (p : List Byte) (s : State) : (onKeyReply m epoch p s).1.still = s.still := by
  (first | rw [onKeyReply] | unfold onKeyReply); (try dsimp only); repeat' split
  all_goals simp
@[simp] theorem onKeyConfirm_still (m epoch : Nat) (p : List Byte) (s : State) : (onKeyConfirm m epoch p s).1.still = s.still := by
  (first | rw [onKeyConfirm] | unfold onKeyConfirm); (try dsimp only); repeat' split
  all_goals simp
@[simp] theorem rekey_still (m : Nat) (s : State) : (rekey m s).still = s.still := by
  rw [rekey]; repeat' split
  all_goals simp
@[simp] theorem heartbeatSend_still (phases : List (Nat × Nat)) (s : State) : (heartbeatSend phases s).still = s.still := by
  (first | rw [heartbeatSend] | unfold heartbeatSend); (try dsimp only); repeat' split
  all_goals first | (simp; done) | (repeat' (first | (intro _) | split | (with_reducible refine (forEach_still _ ?_ _ _).trans ?_) | (with_reducible refine (foldl_still _ ?_ _ _).trans ?_) | (with_reducible refine (checked_still _ _ _ _ ?_ _).trans ?_) | simp))
@[simp] theorem onHeartbeat_still (m rx : Nat) (p : List Byte) (s : State) : (onHeartbeat m rx p s).still = s.still := by
  (first | rw [onHeartbeat] | unfold onHeartbeat); (try dsimp only); repeat' split
  all_goals first | (simp; done) | (repeat' (first | (intro _) | split | (with_reducible refine (forEach_still _ ?_ _ _).trans ?_) | (with_reducible refine (foldl_still _ ?_ _ _).trans ?_) | (with_reducible refine (checked_still _ _ _ _ ?_ _).trans ?_) | simp))
@[simp] theorem memberLost_still (m : Nat) (s : State) : (memberLost m s).still = s.still := by
  rw [memberLost]; repeat' split
  all_goals simp
@[simp] theorem creditReturn_still (m : Nat) (s : State) : (creditReturn m s).still = s.still := by
  rw [creditReturn]; repeat' split
  all_goals simp
@[simp] theorem messageResend_still (m : Nat) (s : State) : (messageResend m s).still = s.still := by
  rw [messageResend]; repeat' split
  all_goals simp
@[simp] theorem countPort_still (p cls : Nat) (s : State) : (countPort p cls s).still = s.still := by
  rw [countPort]; repeat' split
  all_goals simp
@[simp] theorem portLockChange_still (p : Nat) (pcs fec : Bool) (s : State) : (portLockChange p pcs fec s).still = s.still := by
  rw [portLockChange]; repeat' split
  all_goals simp
@[simp] theorem runPart_still (j : Nat) (x : Job) (s : State) : (runPart j x s).still = s.still := by
  (first | rw [runPart] | unfold runPart); (try dsimp only); repeat' split
  all_goals first | (simp; done) | (repeat' (first | (intro _) | split | (with_reducible refine (forEach_still _ ?_ _ _).trans ?_) | (with_reducible refine (foldl_still _ ?_ _ _).trans ?_) | simp))
@[simp] theorem symEncrypt_still (j : Nat) (s : State) : (symEncrypt j s).still = s.still := by
  rw [symEncrypt]; repeat' split
  all_goals simp
@[simp] theorem symDecrypt_still (j : Nat) (s : State) : (symDecrypt j s).still = s.still := by
  rw [symDecrypt]; repeat' split
  all_goals simp
@[simp] theorem symAeadEncrypt_still (j : Nat) (s : State) : (symAeadEncrypt j s).still = s.still := by
  rw [symAeadEncrypt]; repeat' split
  all_goals simp
@[simp] theorem symAeadDecrypt_still (j : Nat) (s : State) : (symAeadDecrypt j s).still = s.still := by
  (first | rw [symAeadDecrypt] | unfold symAeadDecrypt); (try dsimp only); repeat' split
  all_goals first | (simp; done) | (repeat' (first | (intro _) | split | (with_reducible refine (forEach_still _ ?_ _ _).trans ?_) | (with_reducible refine (foldl_still _ ?_ _ _).trans ?_) | simp))
@[simp] theorem symCmac_still (j : Nat) (s : State) : (symCmac j s).still = s.still := by
  rw [symCmac]; repeat' split
  all_goals simp
@[simp] theorem symKeyWrap_still (j : Nat) (s : State) : (symKeyWrap j s).still = s.still := by
  rw [symKeyWrap]; repeat' split
  all_goals simp
@[simp] theorem symKeyUnwrap_still (j : Nat) (s : State) : (symKeyUnwrap j s).still = s.still := by
  rw [symKeyUnwrap]; repeat' split
  all_goals simp
@[simp] theorem convertRecord_still (j : Nat) (x : Job) (fromForm : Nat) (s : State) : (convertRecord j x fromForm s).still = s.still := by
  (first | rw [convertRecord] | unfold convertRecord); (try dsimp only); repeat' split
  all_goals first | (simp; done) | (repeat' (first | (intro _) | split | (with_reducible refine (forEach_still _ ?_ _ _).trans ?_) | (with_reducible refine (foldl_still _ ?_ _ _).trans ?_) | simp))
@[simp] theorem symContextSave_still (j : Nat) (s : State) : (symContextSave j s).still = s.still := by
  rw [symContextSave]; repeat' split
  all_goals simp
@[simp] theorem symContextRestore_still (j : Nat) (s : State) : (symContextRestore j s).still = s.still := by
  rw [symContextRestore]; repeat' split
  all_goals simp
@[simp] theorem symReencrypt_still (j : Nat) (s : State) : (symReencrypt j s).still = s.still := by
  (first | rw [symReencrypt] | unfold symReencrypt); (try dsimp only); repeat' split
  all_goals first | (simp; done) | (repeat' (first | (intro _) | split | (with_reducible refine (forEach_still _ ?_ _ _).trans ?_) | (with_reducible refine (foldl_still _ ?_ _ _).trans ?_) | simp))
@[simp] theorem tileParityError_still (t bank : Nat) (s : State) : (tileParityError t bank s).still = s.still := by
  rw [tileParityError]; repeat' split
  all_goals simp
@[simp] theorem gDeliver_still (j : Nat) (x : Job) (r : List Byte) (s : State) : (gDeliver j x r s).still = s.still := by
  rw [gDeliver]; repeat' split
  all_goals simp
@[simp] theorem digestPart_still (j : Nat) (x : Job) (s : State) : (digestPart j x s).still = s.still := by
  (first | rw [digestPart] | unfold digestPart); (try dsimp only); repeat' split
  all_goals first | (simp; done) | (repeat' (first | (intro _) | split | (with_reducible refine (forEach_still _ ?_ _ _).trans ?_) | (with_reducible refine (foldl_still _ ?_ _ _).trans ?_) | simp))
@[simp] theorem digHash_still (j : Nat) (s : State) : (digHash j s).still = s.still := by
  rw [digHash]; repeat' split
  all_goals simp
@[simp] theorem digHmac_still (j : Nat) (s : State) : (digHmac j s).still = s.still := by
  rw [digHmac]; repeat' split
  all_goals simp
@[simp] theorem digKmac_still (j : Nat) (s : State) : (digKmac j s).still = s.still := by
  rw [digKmac]; repeat' split
  all_goals simp
@[simp] theorem digXof_still (j : Nat) (s : State) : (digXof j s).still = s.still := by
  rw [digXof]; repeat' split
  all_goals simp
@[simp] theorem gConvert_still (j : Nat) (x : Job) (fromForm : Nat) (s : State) : (gConvert j x fromForm s).still = s.still := by
  rw [gConvert]; repeat' split
  all_goals simp
@[simp] theorem digContextSave_still (j : Nat) (s : State) : (digContextSave j s).still = s.still := by
  rw [digContextSave]; repeat' split
  all_goals simp
@[simp] theorem digContextRestore_still (j : Nat) (s : State) : (digContextRestore j s).still = s.still := by
  rw [digContextRestore]; repeat' split
  all_goals simp
@[simp] theorem refuseLong_still (j : Nat) (s : State) : (refuseLong j s).still = s.still := by
  (first | rw [refuseLong] | unfold refuseLong); (try dsimp only); repeat' split
  all_goals first | (simp; done) | (repeat' (first | (intro _) | split | (with_reducible refine (forEach_still _ ?_ _ _).trans ?_) | (with_reducible refine (foldl_still _ ?_ _ _).trans ?_) | simp))
@[simp] theorem stageJob_still (j : Nat) (input aux extra : List Byte) (s : State) : (stageJob j input aux extra s).still = s.still := by
  (first | rw [stageJob] | unfold stageJob); (try dsimp only); repeat' split
  all_goals first | (simp; done) | (repeat' (first | (intro _) | split | (with_reducible refine (forEach_still _ ?_ _ _).trans ?_) | (with_reducible refine (foldl_still _ ?_ _ _).trans ?_) | simp))
@[simp] theorem verifyFailed_still (j t op : Nat) (tag : Word) (s : State) : (verifyFailed j t op tag s).still = s.still := by
  rw [verifyFailed]; repeat' split
  all_goals simp
@[simp] theorem checked_still (ok : Bool) (j : Nat) (x : Job) (g : State → State) (h : ∀ s, (g s).still = s.still) (s : State) : (checked ok j x g s).still = s.still := by
  unfold checked; split <;> simp [h]
@[simp] theorem bigRsaSign_still (j : Nat) (ok : Bool) (s : State) : (bigRsaSign j ok s).still = s.still := by
  rw [bigRsaSign]; repeat' split
  all_goals simp
@[simp] theorem verdict_still (j : Nat) (ok : Bool) (s : State) : (verdict j ok s).still = s.still := by
  rw [verdict]; repeat' split
  all_goals simp
@[simp] theorem bigRsaVerify_still (j : Nat) (s : State) : (bigRsaVerify j s).still = s.still := by
  rw [bigRsaVerify]; repeat' split
  all_goals simp
@[simp] theorem bigRsaEncrypt_still (j : Nat) (s : State) : (bigRsaEncrypt j s).still = s.still := by
  rw [bigRsaEncrypt]; repeat' split
  all_goals simp
@[simp] theorem bDeliver_still (j : Nat) (x : Job) (r : List Byte) (s : State) : (bDeliver j x r s).still = s.still := by
  rw [bDeliver]; repeat' split
  all_goals simp
@[simp] theorem bigRsaDecrypt_still (j : Nat) (ok : Bool) (s : State) : (bigRsaDecrypt j ok s).still = s.still := by
  (first | rw [bigRsaDecrypt] | unfold bigRsaDecrypt); (try dsimp only); repeat' split
  all_goals first | (simp; done) | (repeat' (first | (intro _) | split | (with_reducible refine (forEach_still _ ?_ _ _).trans ?_) | (with_reducible refine (foldl_still _ ?_ _ _).trans ?_) | (with_reducible refine (checked_still _ _ _ _ ?_ _).trans ?_) | simp))
@[simp] theorem bigEcdsaSign_still (j : Nat) (ok : Bool) (s : State) : (bigEcdsaSign j ok s).still = s.still := by
  rw [bigEcdsaSign]; repeat' split
  all_goals simp
@[simp] theorem bigEcdsaVerify_still (j : Nat) (s : State) : (bigEcdsaVerify j s).still = s.still := by
  rw [bigEcdsaVerify]; repeat' split
  all_goals simp
@[simp] theorem bigEcdh_still (j : Nat) (ok : Bool) (s : State) : (bigEcdh j ok s).still = s.still := by
  rw [bigEcdh]; repeat' split
  all_goals simp
@[simp] theorem bigEcEphemeral_still (j : Nat) (ok : Bool) (s : State) : (bigEcEphemeral j ok s).still = s.still := by
  (first | rw [bigEcEphemeral] | unfold bigEcEphemeral); (try dsimp only); repeat' split
  all_goals first | (simp; done) | (repeat' (first | (intro _) | split | (with_reducible refine (forEach_still _ ?_ _ _).trans ?_) | (with_reducible refine (foldl_still _ ?_ _ _).trans ?_) | (with_reducible refine (checked_still _ _ _ _ ?_ _).trans ?_) | simp))
@[simp] theorem bigEddsaSign_still (j : Nat) (ok : Bool) (s : State) : (bigEddsaSign j ok s).still = s.still := by
  rw [bigEddsaSign]; repeat' split
  all_goals simp
@[simp] theorem bigEddsaVerify_still (j : Nat) (s : State) : (bigEddsaVerify j s).still = s.still := by
  rw [bigEddsaVerify]; repeat' split
  all_goals simp
@[simp] theorem bigXdh_still (j : Nat) (ok : Bool) (s : State) : (bigXdh j ok s).still = s.still := by
  (first | rw [bigXdh] | unfold bigXdh); (try dsimp only); repeat' split
  all_goals first | (simp; done) | (repeat' (first | (intro _) | split | (with_reducible refine (forEach_still _ ?_ _ _).trans ?_) | (with_reducible refine (foldl_still _ ?_ _ _).trans ?_) | (with_reducible refine (checked_still _ _ _ _ ?_ _).trans ?_) | simp))
@[simp] theorem bigModarith_still (j : Nat) (s : State) : (bigModarith j s).still = s.still := by
  (first | rw [bigModarith] | unfold bigModarith); (try dsimp only); repeat' split
  all_goals first | (simp; done) | (repeat' (first | (intro _) | split | (with_reducible refine (forEach_still _ ?_ _ _).trans ?_) | (with_reducible refine (foldl_still _ ?_ _ _).trans ?_) | (with_reducible refine (checked_still _ _ _ _ ?_ _).trans ?_) | simp))
@[simp] theorem modCustody_still (cab : Nat) (g : CabCustody → CabCustody) (s : State) : (modCustody cab g s).still = s.still := by
  simp [modCustody]
@[simp] theorem eraseShares_still (p : Share → Bool) (s : State) : (eraseShares p s).still = s.still := by
  simp [eraseShares]
@[simp] theorem storeShare_still (e : Share) (s : State) : (storeShare e s).1.still = s.still := by
  (first | rw [storeShare] | unfold storeShare); (try dsimp only); repeat' split
  all_goals simp
@[simp] theorem askRotation_still (cab : Nat) (job : Option Nat) (s : State) : (askRotation cab job s).still = s.still := by
  simp [askRotation]
@[simp] theorem shareSetCommit_still (cab : Nat) (s : State) : (shareSetCommit cab s).still = s.still := by
  (first | rw [shareSetCommit] | unfold shareSetCommit); (try dsimp only); repeat' split
  all_goals first | (simp; done) | (repeat' (first | (intro _) | split | (with_reducible refine (forEach_still _ ?_ _ _).trans ?_) | (with_reducible refine (foldl_still _ ?_ _ _).trans ?_) | (with_reducible refine (checked_still _ _ _ _ ?_ _).trans ?_) | simp))
@[simp] theorem dropRotation_still (cab : Nat) (s : State) : (dropRotation cab s).still = s.still := by
  rw [dropRotation]; repeat' split
  all_goals simp
@[simp] theorem rotationTimeout_still (cab : Nat) (s : State) : (rotationTimeout cab s).still = s.still := by
  rw [rotationTimeout]; repeat' split
  all_goals simp
@[simp] theorem shareSetErase_still (s : State) : (shareSetErase s).still = s.still := by
  simp [shareSetErase]
@[simp] theorem probeHolder_still (m : Nat) (s : State) : (probeHolder m s).still = s.still := by
  (first | rw [probeHolder] | unfold probeHolder); (try dsimp only); repeat' split
  all_goals first | (simp; done) | (repeat' (first | (intro _) | split | (with_reducible refine (forEach_still _ ?_ _ _).trans ?_) | (with_reducible refine (foldl_still _ ?_ _ _).trans ?_) | (with_reducible refine (checked_still _ _ _ _ ?_ _).trans ?_) | simp))
@[simp] theorem onSharePut_still (m : Nat) (p : List Byte) (s : State) : (onSharePut m p s).still = s.still := by
  unfold onSharePut; dsimp only; split; · rfl
  split <;> simp
@[simp] theorem onShareCommit_still (m : Nat) (p : List Byte) (s : State) : (onShareCommit m p s).still = s.still := by
  simp [onShareCommit]
@[simp] theorem onShareProbe_still (m : Nat) (p : List Byte) (s : State) : (onShareProbe m p s).still = s.still := by
  rw [onShareProbe]; repeat' split
  all_goals simp
@[simp] theorem onShareDrop_still (m : Nat) (p : List Byte) (s : State) : (onShareDrop m p s).still = s.still := by
  simp [onShareDrop]
@[simp] theorem onShareRequest_still (m : Nat) (p : List Byte) (s : State) : (onShareRequest m p s).still = s.still := by
  (first | rw [onShareRequest] | unfold onShareRequest); (try dsimp only); repeat' split
  all_goals first | (simp; done) | (repeat' (first | (intro _) | split | (with_reducible refine (forEach_still _ ?_ _ _).trans ?_) | (with_reducible refine (foldl_still _ ?_ _ _).trans ?_) | (with_reducible refine (checked_still _ _ _ _ ?_ _).trans ?_) | simp))
@[simp] theorem onShareAck_still (m : Nat) (p : List Byte) (s : State) : (onShareAck m p s).still = s.still := by
  rw [onShareAck]; repeat' split
  all_goals simp
@[simp] theorem dropRestore_still (j : Nat) (s : State) : (dropRestore j s).still = s.still := by
  simp [dropRestore]
@[simp] theorem restoreFails_still (r : Restore) (s : State) : (restoreFails r s).still = s.still := by
  simp [restoreFails]
@[simp] theorem tryRestore_still (r : Restore) (s : State) : (tryRestore r s).still = s.still := by
  (first | rw [tryRestore] | unfold tryRestore); (try dsimp only); repeat' split
  all_goals first | (simp; done) | (repeat' (first | (intro _) | split | (with_reducible refine (forEach_still _ ?_ _ _).trans ?_) | (with_reducible refine (foldl_still _ ?_ _ _).trans ?_) | (with_reducible refine (checked_still _ _ _ _ ?_ _).trans ?_) | simp))
@[simp] theorem onShareRelease_still (m : Nat) (p : List Byte) (s : State) : (onShareRelease m p s).still = s.still := by
  rw [onShareRelease]; repeat' split
  all_goals simp
@[simp] theorem onShareRefuse_still (m : Nat) (p : List Byte) (s : State) : (onShareRefuse m p s).still = s.still := by
  (first | rw [onShareRefuse] | unfold onShareRefuse); (try dsimp only); repeat' split
  all_goals first | (simp; done) | (repeat' (first | (intro _) | split | (with_reducible refine (forEach_still _ ?_ _ _).trans ?_) | (with_reducible refine (foldl_still _ ?_ _ _).trans ?_) | (with_reducible refine (checked_still _ _ _ _ ?_ _).trans ?_) | simp))
@[simp] theorem restoreTimeout_still (j : Nat) (s : State) : (restoreTimeout j s).still = s.still := by
  rw [restoreTimeout]; repeat' split
  all_goals simp
@[simp] theorem custodyRotate_still (j : Nat) (s : State) : (custodyRotate j s).still = s.still := by
  rw [custodyRotate]; repeat' split
  all_goals simp
@[simp] theorem custodyRestore_still (j : Nat) (s : State) : (custodyRestore j s).still = s.still := by
  rw [custodyRestore]; repeat' split
  all_goals simp
@[simp] theorem pqChecked_still (ok : Nat) (j : Nat) (x : Job) (g : State → State) (h : ∀ s, (g s).still = s.still) (s : State) : (pqChecked ok j x g s).still = s.still := by
  unfold pqChecked; split; · simp [h]
  split <;> simp
@[simp] theorem polMlkemKeypair_still (j check : Nat) (s : State) : (polMlkemKeypair j check s).still = s.still := by
  (first | rw [polMlkemKeypair] | unfold polMlkemKeypair); (try dsimp only); repeat' split
  all_goals first | (simp; done) | (repeat' (first | (intro _) | split | (with_reducible refine (forEach_still _ ?_ _ _).trans ?_) | (with_reducible refine (foldl_still _ ?_ _ _).trans ?_) | (with_reducible refine (checked_still _ _ _ _ ?_ _).trans ?_) | (with_reducible refine (pqChecked_still _ _ _ _ ?_ _).trans ?_) | simp))
@[simp] theorem kemDeliver_still (j : Nat) (x : Job) (ct k : List Byte) (s : State) : (kemDeliver j x ct k s).still = s.still := by
  rw [kemDeliver]; repeat' split
  all_goals simp
@[simp] theorem polMlkemEncaps_still (j check : Nat) (s : State) : (polMlkemEncaps j check s).still = s.still := by
  rw [polMlkemEncaps]; repeat' split
  all_goals simp
@[simp] theorem polMlkemDecaps_still (j check : Nat) (s : State) : (polMlkemDecaps j check s).still = s.still := by
  rw [polMlkemDecaps]; repeat' split
  all_goals simp
@[simp] theorem polMldsaSign_still (j check : Nat) (s : State) : (polMldsaSign j check s).still = s.still := by
  rw [polMldsaSign]; repeat' split
  all_goals simp
@[simp] theorem polMldsaVerify_still (j check : Nat) (s : State) : (polMldsaVerify j check s).still = s.still := by
  rw [polMldsaVerify]; repeat' split
  all_goals simp
@[simp] theorem heRefuse_still (j : Nat) (x : Job) (e : Nat × Nat × Nat × Nat) (s : State) : (heRefuse j x e s).still = s.still := by
  rw [heRefuse]; repeat' split
  all_goals simp
@[simp] theorem heMake_still (j : Nat) (x : Job) (o : HeOut) (bytes : List Byte) (s : State) : (heMake j x o bytes s).still = s.still := by
  rw [heMake]; repeat' split
  all_goals simp
@[simp] theorem heRun_still (j op : Nat) (back : List (List Byte)) (s : State) : (heRun j op back s).still = s.still := by
  unfold heRun; dsimp only; repeat' split
  all_goals first | (simp; done) | (refine (writeBacking_still _ _ _ _ _ ?_ _).trans ?_ <;> simp)
@[simp] theorem polHeEncrypt_still (j : Nat) (back : List (List Byte)) (s : State) : (polHeEncrypt j back s).still = s.still := by
  simp [polHeEncrypt]
@[simp] theorem polHeAdd_still (j : Nat) (back : List (List Byte)) (s : State) : (polHeAdd j back s).still = s.still := by
  simp [polHeAdd]
@[simp] theorem polHeMultiply_still (j : Nat) (back : List (List Byte)) (s : State) : (polHeMultiply j back s).still = s.still := by
  simp [polHeMultiply]
@[simp] theorem polHeRotate_still (j : Nat) (back : List (List Byte)) (s : State) : (polHeRotate j back s).still = s.still := by
  simp [polHeRotate]
@[simp] theorem polHeKeyswitch_still (j : Nat) (back : List (List Byte)) (s : State) : (polHeKeyswitch j back s).still = s.still := by
  simp [polHeKeyswitch]
@[simp] theorem polHeRescale_still (j : Nat) (back : List (List Byte)) (s : State) : (polHeRescale j back s).still = s.still := by
  simp [polHeRescale]
@[simp] theorem polHeRefresh_still (j : Nat) (back : List (List Byte)) (s : State) : (polHeRefresh j back s).still = s.still := by
  simp [polHeRefresh]
@[simp] theorem adopt_still (j : Nat) (bytes : List Byte) (s : State) : (adopt j bytes s).still = s.still := by
  rw [adopt]; repeat' split
  all_goals simp
@[simp] theorem polHeDecrypt_still (j : Nat) (back : List (List Byte)) (s : State) : (polHeDecrypt j back s).still = s.still := by
  rw [polHeDecrypt]; repeat' split
  all_goals simp
@[simp] theorem modRound_still (id : Nat) (g : Round → Round) (s : State) : (modRound id g s).still = s.still := by
  simp [modRound]
@[simp] theorem dropRound_still (id : Nat) (s : State) : (dropRound id s).still = s.still := by
  simp [dropRound]
@[simp] theorem collect_still (j : Nat) (x : Job) (r : Round) (s : State) : (collect j x r s).still = s.still := by
  unfold collect; dsimp only; repeat' split
  all_goals first | (simp; done) | (refine (writeBacking_still _ _ _ _ _ ?_ _).trans ?_ <;> simp)
@[simp] theorem roundGoes_still (id : Nat) (s : State) : (roundGoes id s).still = s.still := by
  (first | rw [roundGoes] | unfold roundGoes); (try dsimp only); repeat' split
  all_goals first | (simp; done) | (repeat' (first | (intro _) | split | (with_reducible refine (forEach_still _ ?_ _ _).trans ?_) | (with_reducible refine (foldl_still _ ?_ _ _).trans ?_) | (with_reducible refine (checked_still _ _ _ _ ?_ _).trans ?_) | (with_reducible refine (pqChecked_still _ _ _ _ ?_ _).trans ?_) | simp))
@[simp] theorem meshAggregate_still (j : Nat) (back : List Byte) (s : State) : (meshAggregate j back s).still = s.still := by
  (first | rw [meshAggregate] | unfold meshAggregate); (try dsimp only); repeat' split
  all_goals first | (simp; done) | (repeat' (first | (intro _) | split | (with_reducible refine (forEach_still _ ?_ _ _).trans ?_) | (with_reducible refine (foldl_still _ ?_ _ _).trans ?_) | (with_reducible refine (checked_still _ _ _ _ ?_ _).trans ?_) | (with_reducible refine (pqChecked_still _ _ _ _ ?_ _).trans ?_) | simp))
@[simp] theorem onAggOffer_still (m : Nat) (p : List Byte) (s : State) : (onAggOffer m p s).still = s.still := by
  rw [onAggOffer]; repeat' split
  all_goals simp
@[simp] theorem onAggShare_still (m : Nat) (p : List Byte) (s : State) : (onAggShare m p s).still = s.still := by
  simp [onAggShare]
@[simp] theorem onAggPartial_still (m : Nat) (p : List Byte) (s : State) : (onAggPartial m p s).still = s.still := by
  simp [onAggPartial]
@[simp] theorem onAggCipher_still (m : Nat) (p : List Byte) (s : State) : (onAggCipher m p s).still = s.still := by
  simp [onAggCipher]
@[simp] theorem aggRoundTimeout_still (id : Nat) (s : State) : (aggRoundTimeout id s).still = s.still := by
  unfold aggRoundTimeout; dsimp only; repeat' split
  all_goals simp
theorem whenCustody_still (f : State → State) (h : ∀ s, (f s).still = s.still) (s : State) : (whenCustody f s).still = s.still := by
  unfold whenCustody; split <;> simp [h]
@[simp] theorem onMessage_still (m rx : Nat) (h : FrameHdr) (p : List Byte) (s : State) : (onMessage m rx h p s).still = s.still := by
  unfold onMessage; dsimp only; split
  all_goals first | (simp; done) | (split <;> simp; done) | (refine whenCustody_still _ ?_ _; intro s; simp)
theorem gather_still (m type frag : Nat) (p : List Byte) (s : State) :
    match gather m type frag p s with
    | .part t => t.still = s.still
    | .wrong => True
    | .whole _ t => t.still = s.still := by
  unfold gather; dsimp only
  cases s.msh.places.find? (fun q => q.member == m) <;> split_ifs <;> (try simp) <;> split_ifs <;> simp
theorem gather_part_still {m type frag : Nat} {p : List Byte} {s t : State} (h : gather m type frag p s = .part t) : t.still = s.still := by
  have e := gather_still m type frag p s
  rw [h] at e; exact e
theorem gather_whole_still {m type frag : Nat} {p q : List Byte} {s t : State} (h : gather m type frag p s = .whole q t) : t.still = s.still := by
  have e := gather_still m type frag p s
  rw [h] at e; exact e
@[simp] theorem tagFailed_still (m path : Nat) (s : State) : (tagFailed m path s).still = s.still := by
  (first | rw [tagFailed] | unfold tagFailed); (try dsimp only); repeat' split
  all_goals first | (simp; done) | (repeat' (first | (intro _) | split | (with_reducible refine (forEach_still _ ?_ _ _).trans ?_) | (with_reducible refine (foldl_still _ ?_ _ _).trans ?_) | (with_reducible refine (checked_still _ _ _ _ ?_ _).trans ?_) | (with_reducible refine (pqChecked_still _ _ _ _ ?_ _).trans ?_) | simp))
@[simp] theorem takeCredit_still (m credit : Nat) (s : State) : (takeCredit m credit s).still = s.still := by
  simp [takeCredit]
@[simp] theorem malformed_still (m path flags : Nat) (s : State) : (malformed m path flags s).still = s.still := by
  rw [malformed]; repeat' split
  all_goals simp
@[simp] theorem frameBody_still (m path rx : Nat) (h : FrameHdr) (p : List Byte) (s : State) :
    (frameBody m path rx h p s).1.still = s.still := by
  unfold frameBody; split
  · rename_i t e; have e := gather_part_still e; simp [e]
  · simp
  · rename_i q t e; have e := gather_whole_still e; split <;> simp [e]
@[simp] theorem frameIn_still (m path rx : Nat) (b : List Byte) (s : State) : (frameIn m path rx b s).1.still = s.still := by
  rw [frameIn]
  repeat' split
  all_goals first | (simp; done) | ((try dsimp only); (repeat' split) <;> simp)
@[simp] theorem receive_still (m path rx : Nat) (b : List Byte) (s : State) : (receive m path rx b s).1.still = s.still := by
  (first | rw [receive] | unfold receive); (try dsimp only); repeat' split
  all_goals simp
@[simp] theorem portFrame_still (type : Option Nat) (p rx : Nat) (b : List Byte) (s : State) : (portFrame type p rx b s).1.still = s.still := by
  (first | rw [portFrame] | unfold portFrame); (try dsimp only); repeat' split
  all_goals simp
@[simp] theorem meshFrame_still (type p : Nat) (b : List Byte) (s : State) : (meshFrame type p b s).still = s.still := by
  simp [meshFrame]
@[simp] theorem meshHeartbeat_still (p rx : Nat) (b : List Byte) (s : State) : (meshHeartbeat p rx b s).still = s.still := by
  simp [meshHeartbeat]
@[simp] theorem meshFrameRejected_still (p : Nat) (fec : Bool) (b : List Byte) (s : State) : (meshFrameRejected p fec b s).still = s.still := by
  unfold meshFrameRejected; dsimp only; repeat' split
  all_goals simp
@[simp] theorem meshTunnelIn_still (j : Nat) (s : State) : (meshTunnelIn j s).still = s.still := by
  have key : ∀ (l : List (Option Nat × List Byte)) (one : State × Nat × Nat → Option Nat × List Byte → State × Nat × Nat) (a : State × Nat × Nat),
      (∀ a f, (one a f).1.still = a.1.still) → (l.foldl one a).1.still = a.1.still := by
    intro l one a h
    induction l generalizing a with
    | nil => rfl
    | cons b l ih => rw [List.foldl_cons, ih, h]
  unfold meshTunnelIn; split
  · rfl
  · extract_lets one r; split
    · simp
    · rw [setResult_still]; refine key _ one _ ?_; intro a f
      simp only [one]; split
      · rfl
      · split
        · split <;> simp
        · rfl
@[simp] theorem meshTunnelOut_still (j : Nat) (s : State) : (meshTunnelOut j s).still = s.still := by
  rw [meshTunnelOut]; repeat' split
  all_goals simp
@[simp] theorem writeCopy_still (k : Nat) (bs : List Byte) (s : State) : (writeCopy k bs s).still = s.still := by
  rw [writeCopy]; repeat' split
  all_goals simp
@[simp] theorem setCopyActive_still (k : Nat) (b : Bool) (s : State) : (setCopyActive k b s).still = s.still := by
  rw [setCopyActive]; repeat' split
  all_goals simp
@[simp] theorem setCopyReason_still (k : Nat) (r : Bad) (s : State) : (setCopyReason k r s).still = s.still := by
  rw [setCopyReason]; repeat' split
  all_goals simp
@[simp] theorem discardStaged_still (s : State) : (discardStaged s).still = s.still := by
  rw [discardStaged]; repeat' split
  all_goals simp
@[simp] theorem carcassUnstage_still (j : Nat) (s : State) : (carcassUnstage j s).still = s.still := by
  rw [carcassUnstage]; repeat' split
  all_goals simp
@[simp] theorem carcassRead_still (j : Nat) (s : State) : (carcassRead j s).still = s.still := by
  (first | rw [carcassRead] | unfold carcassRead); (try dsimp only); repeat' split
  all_goals first | (simp; done) | (repeat' (first | (intro _) | split | (with_reducible refine (forEach_still _ ?_ _ _).trans ?_) | (with_reducible refine (foldl_still _ ?_ _ _).trans ?_) | (with_reducible refine (checked_still _ _ _ _ ?_ _).trans ?_) | (with_reducible refine (pqChecked_still _ _ _ _ ?_ _).trans ?_) | simp))
@[simp] theorem copyRepair_still (found : List Byte) (s : State) : (copyRepair found s).still = s.still := by
  (first | rw [copyRepair] | unfold copyRepair); (try dsimp only); repeat' split
  all_goals first | (simp; done) | (repeat' (first | (intro _) | split | (with_reducible refine (forEach_still _ ?_ _ _).trans ?_) | (with_reducible refine (foldl_still _ ?_ _ _).trans ?_) | (with_reducible refine (checked_still _ _ _ _ ?_ _).trans ?_) | (with_reducible refine (pqChecked_still _ _ _ _ ?_ _).trans ?_) | simp))
@[simp] theorem ledgerRead_still (j : Nat) (s : State) : (ledgerRead j s).still = s.still := by
  rw [ledgerRead]; repeat' split
  all_goals simp
@[simp] theorem ledgerIdentity_still (j : Nat) (s : State) : (ledgerIdentity j s).still = s.still := by
  rw [ledgerIdentity]; repeat' split
  all_goals simp
@[simp] theorem laneStatus_still (j : Nat) (s : State) : (laneStatus j s).still = s.still := by
  rw [laneStatus]; repeat' split
  all_goals simp
@[simp] theorem timeNonce_still (j : Nat) (s : State) : (timeNonce j s).still = s.still := by
  rw [timeNonce]; repeat' split
  all_goals simp
@[simp] theorem acceptStmt_still (j : Nat) (t : TimeState) (s : State) : (acceptStmt j t s).still = s.still := by
  unfold acceptStmt; simp
@[simp] theorem openStep_still (j : Nat) (x : Job) (target : Int) (s : State) : (openStep j x target s).still = s.still := by
  rw [openStep]; repeat' split
  all_goals simp
@[simp] theorem decideStmt_still (j : Nat) (x : Job) (st : Stmt) (issue : Nat) (s : State) : (decideStmt j x st issue s).still = s.still := by
  unfold decideStmt; dsimp only; repeat' split
  all_goals simp
@[simp] theorem timeStatement_still (j : Nat) (s : State) : (timeStatement j s).still = s.still := by
  (first | rw [timeStatement] | unfold timeStatement); (try dsimp only); repeat' split
  all_goals first | (simp; done) | (repeat' (first | (intro _) | split | (with_reducible refine (forEach_still _ ?_ _ _).trans ?_) | (with_reducible refine (foldl_still _ ?_ _ _).trans ?_) | (with_reducible refine (checked_still _ _ _ _ ?_ _).trans ?_) | (with_reducible refine (pqChecked_still _ _ _ _ ?_ _).trans ?_) | simp))
@[simp] theorem appletLoad_still (j : Nat) (s : State) : (appletLoad j s).still = s.still := by
  rw [appletLoad]; repeat' split
  all_goals simp
@[simp] theorem setCeiling_still (i2c : Bool) (p : Nat) (s : State) : (setCeiling i2c p s).still = s.still := by
  simp [setCeiling]
@[simp] theorem powerPolicy_still (j : Nat) (s : State) : (powerPolicy j s).still = s.still := by
  rw [powerPolicy]; repeat' split
  all_goals simp
@[simp] theorem i2cCeiling_still (bs : List Byte) (s : State) : (i2cCeiling bs s).still = s.still := by
  rw [i2cCeiling]; repeat' split
  all_goals simp
@[simp] theorem lowerLimit_still (t cause : Nat) (s : State) : (lowerLimit t cause s).still = s.still := by
  rw [lowerLimit]; repeat' split
  all_goals simp
@[simp] theorem tileLimitChange_still (t : Nat) (s : State) : (tileLimitChange t s).still = s.still := by
  rw [tileLimitChange]; repeat' split
  all_goals simp
@[simp] theorem bootMap_still (f w : Nat) (s : State) : (bootMap f w s).still = s.still := by
  (first | rw [bootMap] | unfold bootMap); (try dsimp only); repeat' split
  all_goals first | (simp; done) | (repeat' (first | (intro _) | split | (with_reducible refine (forEach_still _ ?_ _ _).trans ?_) | (with_reducible refine (foldl_still _ ?_ _ _).trans ?_) | (with_reducible refine (checked_still _ _ _ _ ?_ _).trans ?_) | (with_reducible refine (pqChecked_still _ _ _ _ ?_ _).trans ?_) | simp))
@[simp] theorem cabinetZeroize_still (j : Nat) (s : State) : (cabinetZeroize j s).still = s.still := by
  rw [cabinetZeroize]; repeat' split
  all_goals simp
@[simp] theorem endReset_still (r : ResetDue) (s : State) : (endReset r s).still = s.still := by
  (first | rw [endReset] | unfold endReset); (try dsimp only); repeat' split
  all_goals first | (simp; done) | (repeat' (first | (intro _) | split | (with_reducible refine (forEach_still _ ?_ _ _).trans ?_) | (with_reducible refine (foldl_still _ ?_ _ _).trans ?_) | (with_reducible refine (checked_still _ _ _ _ ?_ _).trans ?_) | (with_reducible refine (pqChecked_still _ _ _ _ ?_ _).trans ?_) | simp))
@[simp] theorem fnReset_still (f cause : Nat) (s : State) : (fnReset f cause s).still = s.still := by
  unfold fnReset; dsimp only; split <;> simp
@[simp] theorem clearVfEnable_still (cause : Nat) (s : State) : (clearVfEnable cause s).still = s.still := by
  rw [clearVfEnable]; repeat' split
  all_goals simp
@[simp] theorem fnResetEvent_still (f cause : Nat) (s : State) : (fnResetEvent f cause s).still = s.still := by
  rw [fnResetEvent]; repeat' split
  all_goals simp
@[simp] theorem flr_still (f : Nat) (s : State) : (flr f s).still = s.still := by
  simp [flr]
@[simp] theorem busMasterCleared_still (f : Nat) (s : State) : (busMasterCleared f s).still = s.still := by
  simp [busMasterCleared]
@[simp] theorem d3hotEntry_still (f : Nat) (s : State) : (d3hotEntry f s).still = s.still := by
  rw [d3hotEntry]; repeat' split
  all_goals simp
@[simp] theorem d3hotToD0_still (f : Nat) (s : State) : (d3hotToD0 f s).still = s.still := by
  rw [d3hotToD0]; repeat' split
  all_goals simp
@[simp] theorem resetLinkFns_still (s : State) : (resetLinkFns s).still = s.still := by
  simp [resetLinkFns]
@[simp] theorem hotReset_still (s : State) : (hotReset s).still = s.still := by
  rw [hotReset]; repeat' split
  all_goals simp
@[simp] theorem linkDown_still (s : State) : (linkDown s).still = s.still := by
  rw [linkDown]; repeat' split
  all_goals simp
@[simp] theorem vfEnableCleared_still (s : State) : (vfEnableCleared s).still = s.still := by
  simp [vfEnableCleared]
@[simp] theorem linkTraining_still (lanes gts : Nat) (vf : Bool) (s : State) : (linkTraining lanes gts vf s).still = s.still := by
  rw [linkTraining]; repeat' split
  all_goals simp
@[simp] theorem stoppedAnswer_still (f n : Nat) (d : Desc) (s : State) : (stoppedAnswer f n d s).still = s.still := by
  simp [stoppedAnswer]
@[simp] theorem descriptorFetch_still (f n : Nat) (bs : List Byte) (s : State) : (descriptorFetch f n bs s).still = s.still := by
  (first | rw [descriptorFetch] | unfold descriptorFetch); (try dsimp only); repeat' split
  all_goals first | (simp; done) | (repeat' (first | (intro _) | split | (with_reducible refine (forEach_still _ ?_ _ _).trans ?_) | (with_reducible refine (foldl_still _ ?_ _ _).trans ?_) | (with_reducible refine (checked_still _ _ _ _ ?_ _).trans ?_) | (with_reducible refine (pqChecked_still _ _ _ _ ?_ _).trans ?_) | simp))
@[simp] theorem reportAer_still (f cause : Nat) (s : State) : (reportAer f cause s).still = s.still := by
  (first | rw [reportAer] | unfold reportAer); (try dsimp only); repeat' split
  all_goals first | (simp; done) | (repeat' (first | (intro _) | split | (with_reducible refine (forEach_still _ ?_ _ _).trans ?_) | (with_reducible refine (foldl_still _ ?_ _ _).trans ?_) | (with_reducible refine (checked_still _ _ _ _ ?_ _).trans ?_) | (with_reducible refine (pqChecked_still _ _ _ _ ?_ _).trans ?_) | simp))
@[simp] theorem hostReadFailure_still (job : Option Nat) (f n addr cause : Nat) (s : State) : (hostReadFailure job f n addr cause s).still = s.still := by
  (first | rw [hostReadFailure] | unfold hostReadFailure); (try dsimp only); repeat' split
  all_goals first | (simp; done) | (repeat' (first | (intro _) | split | (with_reducible refine (forEach_still _ ?_ _ _).trans ?_) | (with_reducible refine (foldl_still _ ?_ _ _).trans ?_) | (with_reducible refine (checked_still _ _ _ _ ?_ _).trans ?_) | (with_reducible refine (pqChecked_still _ _ _ _ ?_ _).trans ?_) | simp))
@[simp] theorem onHost_still (f : Nat) (g : State → State) (h : ∀ s, (g s).still = s.still) (s : State) : (onHost f g s).still = s.still := by
  unfold onHost; split <;> simp [h]
@[simp] theorem whenAwake_still (g : State → State) (h : ∀ s, (g s).still = s.still) (s : State) : (whenAwake g s).still = s.still := by
  unfold whenAwake; split <;> simp [h]
@[simp] theorem noteReserved_still (f a w mask : Nat) (s : State) : (noteReserved f a w mask s).still = s.still := by
  rw [noteReserved]; repeat' split
  all_goals simp
end Sys2Proof.Machine
end

