-- ==== Sys2Proof/Tests/Slice0.lean ====
section
/-! SUPPORT. Tests of the model: small states and commands that meet the hypotheses of the statements, each command's effect on
one of them, and a term that WellFormed refuses for each of its checks. -/

open Sys2Proof Sys2Proof.Machine

namespace Sys2Proof.Tests

/-- The state a command goes on to. -/
def after (c : Instr) (s : State) : State := match exec c s with | .next t => t | _ => s

/-- A small image: two cabinets, functions 0 and 1, a window, slots, two lanes, a mesh of four members, two applets. -/
def image : Carcass := {
  seq := 5, serial := 9, periodMin := 15
  cabinets := [{ cab := 0, flags := 15 }, { cab := 1, flags := 15 }]
  quorums := [{ cab := 0, m := 1, n := 1 }, { cab := 1, m := 1, n := 1 }]
  officers := [{ cab := 0, index := 0, alg := 1, rights := 0xFFFF, digest := 7 }, { cab := 1, index := 0, alg := 1, rights := 0xFFFF, digest := 8 }]
  fns := [{ fn := 0, cab := 0, flags := 3, sqs := 4, cqs := 4 }, { fn := 1, cab := 1, flags := 1, sqs := 2, cqs := 2 }]
  windows := [{ first := 0, count := 1024, cab := 0, rights := 3, fn := 0 }, { first := 1024, count := 64, cab := 1, rights := 3, fn := 1 }]
  slots := [{ first := 0, count := 64, cab := 0, ephemeral := 32 }, { first := 64, count := 64, cab := 1, ephemeral := 32 }]
  lanes := [{ lane := 2, cab := 0, flags := 1, pulseConst := 1000, identity := [] }, { lane := 3, cab := 1, flags := 0, pulseConst := 0, identity := [] }]
  meshSelf := some (1, true)
  members := [{ member := 0, path := 0, eligible := true, serial := 20, digest := 0 }, { member := 2, path := 1, eligible := true, serial := 22, digest := 0 },
    { member := 3, path := 4, eligible := true, serial := 23, digest := 0 }, { member := 4, path := 2, eligible := true, serial := 24, digest := 0 }]
  custody := [{ cab := 0, t := 2, holders := [0, 2, 3] }, { cab := 1, t := 2, holders := [0, 2, 3] }]
  applets := [{ world := 4, cab := 0, pages := 8, share := 8, digest := 0 }] }

/-- Function 0's rings: submission ring 1 with ten descriptors' credit and completion rings 0 and 1. -/
def fn0 : Fn := {
  sqs := [(1, { base := 1, sizeLog2 := 8, cq := 1, enableBit := true, st := .active, limit := 20, head := 10, tail := 12 })]
  cqs := [(0, { base := 2, sizeLog2 := 8, enableBit := true, st := .active }), (1, { base := 3, sizeLog2 := 8, enableBit := true, st := .active, written := 9, consumed := 7, reserved := 4 })]
  slots := 12 }

/-- A device in SERVICE under that image, with its link up and transits running. -/
def up : State := {
  glb := { phase := .run, attempt := 1 }
  time := { L := 5000000, genRunning := true, rate := 0x007D0000 }
  orr := { admitOpen := true }
  job := { jobs := [], nextJob := 8, pot := [(1, { rights := 3, cab := 0, fn := 0, frame := 101 }), (2, { rights := 3, cab := 0, fn := 0, frame := 102 }),
    (3, { rights := 3, cab := 0, fn := 0, frame := 103 }), (10, { rights := 3, cab := 0, fn := 0, frame := 110 })] }
  car := { floor := 5, active := image }
  hlk := { up := true, lanes := 8, gts := 16, fns := [(0, fn0)] }
  wld := { pair0 := { up := true }, pair1 := { up := true } }
  lcs := { code := 3 }
  rng := { running := true, held := 4096, ready := true, lastReseedL := 5000000 } }

/-- A descriptor with its parameter bytes. -/
def desc (op : Nat) (ps : List Byte := []) (ha : Nat := noHandle) (hb : Nat := noHandle) (cls : Nat := 1) : Desc :=
  { opcode := op, cls := cls, classByte := cls, reserved3 := 0, tag := 77, handleA := ha, handleB := hb, inAddr := 0, inLen := 0, outAddr := 4096 * 10,
    outCap := 4096, auxAddr := 0, auxLen := 0, params := ps ++ List.replicate (24 - ps.length) 0 }

/-- A job on ring 1 of function 0 in its last slice. -/
def runJob (d : Desc) (input : List Byte := []) (aux : List Byte := []) : Job :=
  { fn := 0, sq := 1, cq := 1, desc := d, bellD := 5000000 * 24576, plane := 0, st := .running, staged := true, input := input, aux := aux }

/-- The job under number 7, alone. -/
def withJob (x : Job) (s : State := up) : State := { s with job := { s.job with jobs := [(7, x)] } }

/-- A key of the cabinet 0 in slot 32 or above. -/
def keyAt (slot type : Nat) (m : List Byte) : Nat × KeySlot :=
  (slot, { attr := { handle := mkHandle 0 1 slot 0, type := type, length := m.length, policy := 0xFFFFFFFF }, material := m })

/-- A state with keys. -/
def withKeys (ks : Tab KeySlot) (s : State) : State := { s with key := { s.key with slots := ks } }

/-- The handle of a class 1 key of cabinet 0 in slot 32, and of another in slot 33. -/
def ha : Nat := mkHandle 0 1 32 0
def hb : Nat := mkHandle 0 1 33 0
def seqBytes (n : Nat) : List Byte := (List.range n).map (BitVec.ofNat 8)
/-- A device with two keys of the given types and lengths, running one job. -/
def keyed (ta tb len : Nat) (x : Job) : State := withKeys [keyAt 32 ta (seqBytes len), keyAt 33 tb (seqBytes len)] (withJob x)
def theKey (t len : Nat) : KeySlot := (keyAt 32 t (seqBytes len)).2
def otherKey (t len : Nat) : KeySlot := (keyAt 33 t (seqBytes len)).2

def mgmt (op : Nat) (ps : List Byte := []) (h1 : Nat := noHandle) (h2 : Nat := noHandle) (input : List Byte := []) (aux : List Byte := []) : Job :=
  { runJob (desc op ps h1 h2 3) input aux with plane := 1, st := .admitted }
def theCsk : Csk := { key := zeros 32, gen := 2 }
/-- A two-bank record whose first bank is committed. -/
def stored {α : Type} (x : α) : TwoBank α := { b0 := some { seq := 1, body := x }, word := 1 }
/-- A secret key of set 0x101 in slot 32. -/
def heState (x : Job) (hs : Tab HeRec := []) : State :=
  { withKeys [(32, { attr := { handle := ha, type := 0x60, length := 36 }, material := zeros 32 ++ [0, 0, 1, 1] })] (withJob x) with
    eng := { up.eng with handles := hs } }
def heRec : HeRec := { handle := mkHe 0 5 0, cab := 0, kind := 0, set := 0x101, keyId := ha, level := 3, back := 65536, backLen := 393216, digest := zeros 16, noise := 9216, scale := 0 }
def loadJob : Job := mgmt 0xA001 [4]
def event (c sev : Nat) : Event := { code := c, sev := sev, source := 0, L := 4, p1 := 1, p2 := 2, p3 := 3 }
def record (n : Nat) (sev : Nat := 3) : Record := { seq := BitVec.ofNat 32 n, ev := event 0x1010 sev }
def testJob (scope : Byte) : Job := mgmt 0xD001 [scope, 0, 0, 0, 3]
def fwJob : Job := mgmt 0xD010 [] noHandle noHandle (zeros 100)

set_option Elab.async false
set_option maxRecDepth 20000

/-! ### Time, planning, counters -/

def atOrbitEnd : State := { up with time := { up.time with L := 2 ^ 20 - 1 } }
def onePps : State := { up with time := { up.time with ppsLast := some 4, ppsRun := 7, ppsMissed := 3, quality := .set } }
def atFrame : State := { up with time := { up.time with L := 128 * 40000 } }
def atOrbit : State := { up with
  time := { up.time with L := 2 ^ 20 * 5 }
  orr := { up.orr with tiles := [(3, { verifyFails := 2 })] }
  rng := { up.rng with sources := [(1, { faults := 2 })] } }
def readJob : Job := { runJob { desc 0x2001 with inAddr := 8172, inLen := 40, auxAddr := 8232, auxLen := 4 } with staged := false, st := .admitted }
def lateJob : Job := { readJob with desc := { readJob.desc with cls := 0, classByte := 0, inAddr := 20480, inLen := 3 }, st := .queued }
def lateTimely : Job := { readJob with desc := { readJob.desc with inAddr := 20480, inLen := 3 } }
def ferriedJob : Job := { readJob with desc := { readJob.desc with opcode := 0x7005, inLen := 7, auxLen := 0 } }
def endingJob : Job := { runJob (desc 0x0001) with result := some { status := 0, w0 := 3 } }
def openCells : State := { up with ldg := { up.ldg with
  counters := [(0x12, { base := 255, count := 3 }), (0x13, { base := 10, k := 1, intent := true })]
  lanes := [(2, { view := { seq := 7 }, wait := [{ imp := 5 }, { imp := 6 }] })] } }
def doneResult : Result := { status := 0, w0 := 3 }
def firstMark : LaneRecord := { imp := 5 }
def secondMark : LaneRecord := { imp := 6 }
def noInput : TransitInput := { pairs := [] }

/-! ### The host link -/

/-- A notice that waits. -/
def aNotice : Notice := { type := 2, subject := 1, p0 := 0, p1 := 0, p2 := 0, p3 := 0, raisedL := 4999999 }
def setFn0 (g : Fn → Fn) (s : State := up) : State := { s with hlk := { s.hlk with fns := [(0, g fn0)] } }
def sqOff : State := setFn0 (fun x => { x with sqs := [(1, { base := 1, error := 3 })] })
def cqOff : State := setFn0 (fun x => { x with cqs := [(1, { base := 3 }), (0, { base := 2, sizeLog2 := 8, enableBit := true, st := .active })] })
def cqFault : State := setFn0 (fun x => { x with cqs := [(1, { base := 3, sizeLog2 := 8, st := .fault, reserved := 6 })] })
def beyond : State := setFn0 (fun x => { x with sqs := [(1, { base := 1, sizeLog2 := 8, cq := 1, enableBit := true, st := .active, limit := 10, head := 10, tail := 12 })] })
def attended : State := setFn0 (fun x => { x with attn := 0x2D, held := [aNotice], lostSince := 4, bootPage := 5, bootFrameLo := 0x12345000, bootFrameHi := 2 })
def inTail : State := { attended with time := { up.time with tailL := some up.time.L } }
def ringless : State := setFn0 (fun x => { x with sqs := [], cqs := [], bootPage := 5, bootFrameLo := 0x12345000, bootFrameHi := 2 })
/-- A function with a job in its commit phase. -/
def vfBusy : State := { withJob { runJob (desc 0x0001) with result := some { status := 0 }, burst := some { beganL := 4999999, issued := 0 } } with
  hlk := { up.hlk with vfEnable := true, fns := [(0, fn0), (1, fn0)] } }
def withVf : State := { up with hlk := { up.hlk with vfEnable := true, fns := [(0, fn0), (1, fn0)] } }
def vfAsleep : State := { up with hlk := { up.hlk with vfEnable := true, fns := [(0, fn0), (1, { fn0 with d3hot := true })] } }
def linkOff : State := { up with hlk := {} }
def nopBytes : List Byte := [1, 0, 1, 0, 9, 0, 0, 0, 0xFF, 0xFF, 0xFF, 0xFF, 0xFF, 0xFF, 0xFF, 0xFF] ++ List.replicate 48 0
def waitingRead : Job := runJob (desc 0x2001)
def window0 : Window := { first := 0, count := 1024, cab := 0, rights := 3, fn := 0 }

/-! ### Engines -/

def encJob : Job := runJob (desc 0x1001 [2, 6, 0, 32] ha) (seqBytes 20) (zeros 16)
def decJob : Job := runJob (desc 0x1002 [1, 6] ha) (seqBytes 32) (zeros 16)
def sealJob : Job := runJob (desc 0x1003 [3, 6, 16] ha) (seqBytes 20) (zeros 16)
def macJob : Job := runJob (desc 0x1005 [7, 6, 16] ha) (seqBytes 20) []
def openJob : Job := runJob (desc 0x1004 [3, 6, 16] ha) (seqBytes 20) (zeros 16)
def wrapJob : Job := { runJob (desc 0x1006 [8] ha) (seqBytes 16) with desc := { desc 0x1006 [8] ha with inLen := 16 } }
def unwrapJob : Job := runJob (desc 0x1007 [8] ha) (seqBytes 24)
def ctxRec (form : Byte) : List Byte := [0x4B, 0x47, 0x43, 0x58, 1, 0, form, 2] ++ leBytes 4 ha ++ zeros 70 ++ [32] ++ zeros 45
def saveJob : Job := runJob (desc 0x1008 [] ha) (ctxRec 1)
def restoreJob : Job := runJob (desc 0x1009 [] ha) (ctxRec 2)
/-- The body of a saved CTR state whose counter has 32 bits. -/
def ctrBody : List Byte := zeros 50 ++ [32] ++ zeros 13
def reencJob : Job := runJob (desc 0x100A [5] ha hb) (seqBytes 32) (zeros 16)

def hashJob : Job := runJob (desc 0x2001 [7, 6, 0, 0, 32]) (seqBytes 5)
def slotJob : Job := { runJob (desc 0x2001 [7, 6, 1, 0, 32]) (seqBytes 5) with gotSlot := some 3, outLen := 32 }
def hmacJob : Job := runJob (desc 0x2002 [2, 6, 0, 0, 32] ha) (seqBytes 5)
def kmacJob : Job := runJob (desc 0x2003 [10, 6, 0, 0, 32] ha) (seqBytes 5)
def xofJob : Job := runJob (desc 0x2004 [9, 6, 0, 0, 40]) (seqBytes 5)
def digRec (form : Byte) : List Byte := [0x4B, 0x47, 0x43, 0x44, 1, 0, form, 7, 0xFF, 0xFF, 0xFF, 0xFF] ++ zeros 244
def digSaveJob : Job := runJob (desc 0x2005) (digRec 1)
def digRestoreJob : Job := runJob (desc 0x2006) (digRec 2)
def releaseJob : Job := runJob (desc 0x2007 [63])
def withResult (x : Job) : State := { withJob x with eng := { up.eng with results := [(63, zeros 64)] } }

def bigJob (op : Nat) (ps : List Byte := []) (input aux : List Byte := []) : Job := runJob (desc op ps ha) input aux
def bigInput : List Byte := List.replicate 300 0xFF
def modJob3 : Job := runJob (desc 0x3030 [1, 0, 0, 0, 0, 0, 1]) ([7, 0, 0, 0, 0, 0, 0, 7] ++ [7, 0, 0, 0, 0, 0, 0, 6] ++ zeros 7 ++ [3])
def modEven : Job := runJob (desc 0x3030 [2, 0, 0, 0, 0, 0, 1]) ([7, 0, 0, 0, 0, 0, 0, 8] ++ zeros 8)
def pairJob : Job := runJob (desc 0x3013 [0])
def kemJob : Job := runJob (desc 0x4001 [2])

def heEncJob : Job := { runJob (desc 0x4020 [1, 0, 0, 0, 0, 0, 0, 0, 0, 16, 0, 0] ha) with gotHe := some 2 }
def adoptJob : Job := { runJob (desc 0x4020 ([9, 0, 0, 0] ++ leBytes 4 0x101 ++ leBytes 4 65536 ++ leBytes 4 ha)) with gotHe := some 2 }
def heAddJob : Job := { runJob (desc 0x4022 [] (mkHe 0 5 0) (mkHe 0 5 0)) with gotHe := some 2 }
def heFreeJob : Job := runJob (desc 0x4028 [] (mkHe 0 5 0))
def heDecJob : Job := runJob (desc 0x4021 [] (mkHe 0 5 0) ha)
def heSet1 : HeSet := { id := 0x101, ckks := false, n := 13, limbs := List.replicate 3 50, special := [60], t := 65537, tau := 17, f := 36, kappa := 38, rho := 32, steps := [9, 23, 57, 9] }
def adopted : HeOut := { kind := 1, set := heSet1, keyId := ha, level := 3 }

/-! ### Pages, random bytes, ledger and keys -/

def nopJob : Job := runJob (desc 0x0001)
def pageJob (op : Nat) (first count : Nat) : Job := runJob (desc op (leBytes 4 first ++ leBytes 4 count ++ leBytes 8 500 ++ leBytes 2 0 ++ [3, 0]))
def wantedState : State :=
  { withJob { runJob (desc 0x2001) with st := .parked, park := some (5, 1, 4000000) } with job :=
    { up.job with jobs := [(7, { runJob (desc 0x2001) with st := .parked, park := some (5, 1, 4000000) })], wanted := [{ fn := 0, page := 5, tag := 77, lastL := 4998976 }] } }
def bulkParked : Job := { runJob (desc 0x2001 [] noHandle noHandle 2) with st := .parked, park := some (5, 1, 5000000 - 2 ^ 20) }
def timelyParked : Job := { runJob (desc 0x2001) with st := .parked, park := some (5, 1, 4000000) }
def rngJob (src flags n : Byte) : Job := runJob (desc 0x5001 [src, flags, 0, 0, n])
def blockedUp : State := { up with rng := { up.rng with blocked := true } }
def laneJob (op : Nat) : Job := runJob (desc op [2] ha)
def sealUp : State :=
  { keyed 0x20 1 32 (laneJob 0x6010) with
    mtr := [(2, { st := .live })]
    ldg := { up.ldg with lanes := [(2, { view := { seq := 9, imp := 70 }, cur := some {} })], snaps := [{ job := 7, lane := 2, rec_ := { seq := 9, imp := 70 }, L := 4999990, us := 3, quality := .set }] } }
def aSnap : Snapshot := { job := 7, lane := 2, rec_ := { seq := 9, imp := 70 }, L := 4999990, us := 3, quality := .set }
def ferried : List Byte := [0x4B, 0x47, 0x46, 0x4B, 1, 0, 0, 0, 2, 0, 0, 0, 1, 0, 16, 0, 0, 0, 0, 0] ++ zeros 56
def ferryJob : Job := runJob (desc 0x7005) ferried
def ferryUp : State := { withJob ferryJob with key := { up.key with cskBanks := [(0, stored theCsk)] } }
def publicJob : Job := runJob (desc 0x7006 [0x28]) (4 :: seqBytes 64)
def infoJob : Job := runJob (desc 0x7007 [1] ha)
def freeJob : Job := runJob (desc 0x7008 [] ha)
def otherUser : Job := { runJob (desc 0x1001 [] ha) with st := .queued }
def freeUp : State := { keyed 1 1 16 freeJob with job := { up.job with jobs := [(6, otherUser), (7, freeJob)] } }
def aRequest (n job op : Nat) : Request := { num := n, cab := 0, opcode := op, job := job, digest := 0, openL := 4900000, rosters := [{ cab := 0, m := 1, right := none }] }
def busyDov (s : State) : State := { s with dov := { reqs := (List.range 16).map (fun i => aRequest (i + 1) (100 + i) 0x7004), nextNum := 17 } }
def generateJob : Job := { mgmt 0x7001 [1, 0, 0, 0, 0xF, 0, 0, 0] with approved := true }
def generateUp : State := { withJob generateJob with key := { up.key with cskBanks := [(0, stored theCsk)] } }
def destroyUp : State := keyed 1 1 16 (mgmt 0x7004 [] ha)
def thawJob : Job := mgmt 0x7012 [1, 0, 0, 0, 3]
def thawUp : State := { withJob thawJob with job := { up.job with jobs := [(7, thawJob)], freezes := [{ kind := 1, number := 3, cause := 9, L := 1, addr := 0, tag := 0 }] } }
def exportJob : Job := mgmt 0x7003 [0, 0, 1] ha hb
def exportUp : State := keyed 1 1 16 exportJob
def approveShort : Job := mgmt 0x7010 [] noHandle noHandle [] ([0x4B, 0x47, 0x44, 0x41, 1, 0, 0, 0] ++ zeros 20)
def approveBad : Job := mgmt 0x7010 [] noHandle noHandle [] ([0x4B, 0x47, 0x44, 0x41, 1, 0, 0, 9] ++ zeros 20)
def withRequests (x : Job) : State := { withJob x with dov := { reqs := [aRequest 3 6 0x7004, aRequest 4 7 0x7012], nextNum := 5 } }
def queryJob : Job := mgmt 0x7011
def oldRequest : Request := { aRequest 3 7 0x7004 with openL := 5000000 - 2 ^ 20 }
def lapseUp : State := { withJob (mgmt 0x7004 [] ha) with dov := { reqs := [oldRequest], nextNum := 4 } }
def aWanted : Wanted := { fn := 0, page := 5, tag := 77, lastL := 4998976 }

/-! ### Structure, time, mesh and service jobs -/

def stageJob : Job := mgmt 0x8001 [] noHandle noHandle (zeros 100)
def anImage : Staged := { bytes := [1, 2, 3], image := { image with seq := 6 }, imageDigest := 3, alg := 1, root := 4, job := 7, request := none }
def anIntent : CommitIntent := { seq := 6, imageDigest := 3, alg := 1, root := 4, openL := 2 ^ 20 * 5 - 2 ^ 20, job := some 7, firstCopy := 1, written := false }
def stagedUp (x : Job) : State := { withJob x with car := { up.car with staged := some anImage, aActive := true, copyA := [9, 9] } }
def intentUp (w : Bool) : State :=
  { stagedUp { stageJob with result := some { status := 0 } } with
    time := { up.time with L := 2 ^ 20 * 5 }
    car := { up.car with staged := some anImage, intent := some { anIntent with written := w }, aActive := true } }
def freshIntent : CommitIntent := { anIntent with openL := 2 ^ 20 * 4 + 1 }
def intentFresh : State := { intentUp false with car := { (intentUp false).car with intent := some freshIntent } }
def repairUp : State := { up with car := { up.car with repairPending := true, aActive := true } }
/-- An image of 30 bytes by its header. -/
def shortImage : List Byte := zeros 24 ++ [30, 0, 0, 0, 1, 2]
def nonceJob : Job := mgmt 0x8010
def noncesUp : State := { withJob nonceJob with time := { up.time with nonces := (List.range 4).map (fun i => (zeros 16, 4000000 + i)) } }
def statement : List Byte := [0x4B, 0x47, 0x54, 0x53, 1, 0, 0, 0] ++ zeros 8 ++ (List.replicate 16 5) ++ leBytes 8 900 ++ leBytes 4 50 ++ leBytes 4 (mkHandle 0 3 5 0) ++
  leBytes 4 2 ++ leBytes 4 64 ++ zeros 72
def timeKeySlot : KeySlot := { attr := { handle := mkHandle 0 3 5 0, type := 0x38, length := 32, policy := 0xFFFFFFFF }, material := zeros 32 }
def stmtJob : Job := mgmt 0x8011 [] noHandle noHandle statement
def stmtUp : State := { withJob stmtJob with key := { up.key with slots := [(5, timeKeySlot)] }, time := { up.time with nonces := [(List.replicate 16 5, 4999000)] } }
def stmtSet : State := { stmtUp with time := { stmtUp.time with quality := .set, ledgerUs := 5000000 } }
def aStep : StepReq := { target := 77000, elapsedPs := 3000000, digest := 0, request := 3, job := 7, approvedL := some 5119990 }
def stepUp : State := { withJob { stmtJob with approved := true } with time := { up.time with L := 128 * 40000, stepDue := [aStep] } }
def openStepReq : StepReq := { aStep with approvedL := none }
def stepOpen : State := { withJob stmtJob with time := { up.time with stepReq := some openStepReq } }
def tunnelJob : Job := mgmt 0x9001 [] noHandle noHandle ([3, 0, 0, 0, 4, 0, 0, 0, 1, 2, 3, 4, 0, 0, 0, 0, 3, 0, 0, 0] ++ [])
def tunnelOutJob : Job := mgmt 0x9002
def tunnelUp : State := { withJob tunnelOutJob with msh := { up.msh with tunnel := [(3, zeros 30), (3, zeros 40), (3, zeros 5000)] } }
def roundJob (mode count : Byte) (aux : List Byte) (h1 : Nat := noHandle) : Job := mgmt 0x9020 ([mode, count, 0, 0, 0, 0, 0, 0, 9, 0, 0, 0]) h1 noHandle (zeros 16) aux
def stopJob : Job := mgmt 0xA002 [4]
def messageJob : Job := mgmt 0xA003 [4] noHandle noHandle [1, 2, 3]
def fullWorld : State := { up with
  job := { up.job with jobs := (List.range 10).map (fun k => (k, messageJob)) }
  wld := { up.wld with worlds := [(4, { st := .running, queue := [1, 2, 3, 4, 5, 6, 8, 9] })] } }
def transitionJob (a : Bool) : Job := { mgmt 0xB001 [4] with approved := a }
def transition3 : Job := mgmt 0xB001 [3]
def lcsUp (code : Nat) (x : Job) : State := { withJob x with lcs := { up.lcs with code := code } }
def cert : List Byte := [0x4B, 0x47, 0x44, 0x43, 1, 0, 0, 0] ++ zeros 12 ++ [5, 0, 0, 0] ++ zeros 40
def response : List Byte := [0x4B, 0x47, 0x43, 0x52, 1, 0, 0, 0] ++ zeros 8 ++ [1, 0, 0, 0] ++ zeros 44
def certJob : Job := mgmt 0xB002 [] noHandle noHandle cert
def responseJob : Job := mgmt 0xB004 [] noHandle noHandle response
def aChallenge : Challenge := { bytes := zeros 96, rights := 5, issueL := 4999999 }
def responseUp : State := { withJob responseJob with lcs := { up.lcs with challenge := some aChallenge } }
def challengeJob : Job := mgmt 0xB003 [0, 0, 0, 0, 7]
def recordsUp (x : Job) : State := { withJob x with evt := { up.evt with ring := [record 0, record 1, record 2], next := 3, mark := 3, journal := [{ number := 0, openL := 0, openUs := 0, quality := 0, firstSeq := 0, recs := [record 1] }] } }
def snapshotJob (flags : Byte) : Job := mgmt 0xC001 [1, 0, 0, 0, flags]
def journalJob (flags : Byte) : Job := mgmt 0xC002 [0, 0, 0, 0, flags]
def ceilingJob : Job := mgmt 0xD002 [0x15]
def nightJob : Job := mgmt 0xD003 [0, 0, 0, 0, 0, 0, 0, 0, 60]
def nightUp : State := { withJob nightJob with job := { up.job with jobs := [(6, { runJob (desc 0x2001) with st := .queued }), (7, nightJob)] } }
def busyNight : State := { withJob nightJob with pwr := { up.pwr with resetAtOrbit := true } }
def fwCommitJob (a : Bool) : Job := { mgmt 0xD011 with approved := a }
def siteUp (x : Job) : State := { withJob x with car := { up.car with siteBanks := ((siteOf image 1 4).map stored).getD {} } }
def resetUp : State := { withJob fwJob with time := { up.time with L := 2 ^ 20 * 5 }, pwr := { up.pwr with resetAtOrbit := true } }
def writtenIntent : CommitIntent := { anIntent with written := true }
def repairFull : State := { repairUp with car := { repairUp.car with copyA := shortImage } }
def stmtNear : State := { stmtSet with time := { stmtSet.time with ledgerUs := 4996 } }
def stepJob : Job := { stmtJob with approved := true }

/-! ### Sources, lanes, worlds and core pairs -/

def tileUp : State := { up with job := { up.job with jobs := [(7, { runJob (desc 0x2001) with tile := some 33 })] } }
/-- Source 17 one sample before its window is full, and one bit before its repetition cutoff; a channel with a bit that waits. -/
def windowUp : State := { up with rng := { up.rng with
  sources := [(17, { transits := 16, win := (List.range 1023).map (fun i => i % 2 == 0), cnt := 500, last := some false, rep := 1 })] } }
def faultUp : State := { up with rng := { up.rng with sources := [(17, { transits := 16, faults := 2, win := List.replicate 60 true, cnt := 60, last := some true, rep := 60 })] } }
def halfUp : State := { up with rng := { up.rng with sources := [(2, { half := some true })] } }
def seedless : State := { up with rng := { up.rng with ready := false, blocked := true } }
def reseedUp : State := { up with time := { up.time with L := 64 * 80000 } }
def dryUp : State := { reseedUp with rng := { reseedUp.rng with held := 383 } }
def staleUp : State := { up with rng := { up.rng with lastReseedL := 5000000 - 1024 } }
def freshUp : State := { up with rng := { up.rng with lastReseedL := 5000000 - 1023 } }

/-- Lane 2 of a device at transit `l`. -/
def laneUp (l : Nat) (x : Lane) : State := { up with time := { up.time with L := l }, mtr := [(2, x)] }
def starting : State := laneUp (128 * 40000 + 4) { st := .live, seq := 0xFFFF, idDone := true }
def aCycle : Cycle := { frame := 40000, reqL := 128 * 40000 + 4, identify := false, latch := 9 }
def idCycle : Cycle := { frame := 40000, reqL := 128 * 40000 + 4, identify := true, latch := 9 }
def asking : State := laneUp (128 * 40000 + 20) { st := .live, seq := 1, cycle := some aCycle }
def pulsing : State := laneUp (128 * 40000 + 20) { st := .live, seq := 1, counting := true }
def askingId : State := laneUp (128 * 40000 + 20) { st := .live, seq := 1, cycle := some idCycle }
def failed : State := laneUp (128 * 40000 + 68) { st := .live, seq := 1, cycle := some { aCycle with failed := true } }
def withCrc (b : List Byte) : List Byte := b ++ leBytes 2 (crc16 b)
def reading : List Byte := withCrc ([0x81, 2, 0, 0, 22, 0, 0] ++ leBytes 8 700 ++ leBytes 8 5 ++ leBytes 4 1)
def identity : List Byte := withCrc ([0x82, 2, 0, 0, 20] ++ zeros 16 ++ [3, 0, 4, 0])
def aPayload (st : Byte) : List Byte := [st, 0] ++ leBytes 8 700 ++ leBytes 8 5 ++ leBytes 4 1
def decided (r : Option (List Byte)) (missed : Nat) : State :=
  { laneUp (128 * 40000 + 100) { st := .live, seq := 1, missed := missed, power := some 1, lastFrame := some 39999, cycle := some { aCycle with resp := r } } with
    ldg := { up.ldg with lanes := [(2, { view := { meterImp := 600, meterExp := 5, imp := 600, exp := 5 }, cur := some {} })] } }
def joining : State := laneUp (128 * 40000 + 4) { st := .joining, joinFrom := some 40000 }

/-- World 4 of a device, running now with four pages. -/
def worldUp (x : World) : State := { up with wld := { up.wld with
  worlds := [(4, { x with st := .running, pages := [10, 11, 12, 13], codePages := 1, dataPages := 1 })]
  table := [(10, { read := true, write := false, exec := true, world := 4, mailbox := false, vpage := 0 }),
    (11, { read := true, write := true, exec := false, world := 4, mailbox := false, vpage := 1 }),
    (12, { read := true, write := false, exec := false, world := 4, mailbox := true, vpage := 2 }),
    (13, { read := true, write := true, exec := false, world := 4, mailbox := true, vpage := 3 })]
  cur := some 4 } }
def aMsg : Msg := { job := 7, len := 3, seq := 0, L := 5000000 - 2 ^ 20 }
def inMsg : State := worldUp { inbox := some aMsg }
def awaitingJob : Job := { runJob (desc 0xA003) with plane := 1, input := [1, 2, 3] }
def answering : State := { worldUp { awaiting := [aMsg] } with job := { up.job with jobs := [(7, awaitingJob)] } }
def delivering : State := { worldUp { queue := [7] } with job := { up.job with jobs := [(7, awaitingJob)] } }
def loaded : State := { withJob loadJob with time := { up.time with L := 128 * 40000 }, wld := { up.wld with worlds := [(4, { st := .loading, stored := true, loadJob := some 7 })] } }
def stopping : State := { withJob (mgmt 0xA002 [4]) with time := { up.time with L := 128 * 40000 }, wld := { up.wld with worlds := [(4, { st := .running, stopDue := true, stopJob := some 7, pages := [10] })], table := [(10, { read := true, write := true, exec := false, world := 4, mailbox := false, vpage := 0 })] } }

def probed : State := { up with time := { up.time with L := 2 ^ 20 * 4 + 2 ^ 19 } }
def pairDown (p : Pair) : State := { up with wld := { up.wld with pair0 := p } }
def longAbsent : State := pairDown { absentL := some (5000000 - 2 ^ 22) }
def reopening : State := { up with orr := { up.orr with admitOpen := false }, glb := { up.glb with keeperClosed := true } }
def holdNext : State := { withJob (runJob (desc 0x2001)) with wld := { up.wld with holdDue := some 4999999 } }
def lostCycle : Cycle := { aCycle with failed := true }
def heard0 (st : Byte) : Cycle := { aCycle with resp := some (aPayload st) }
def world4 : State := worldUp {}
def pairGone : State := pairDown {}
def pairBack : State := pairDown { restartL := some 4000000 }
def pairLate : State := pairDown { restartL := some (5000000 - 2 ^ 20) }

/-! ### The mesh -/

/-- A frame from member `src` to this device, with its CRC. -/
def frame (type src flags epoch counter : Nat) (p : List Byte) : List Byte :=
  let len := if flags % 2 = 1 then p.length - 16 else p.length
  let b := [0x4B, 0x4D, 1] ++ leBytes 1 type ++ leBytes 1 src ++ [1] ++ leBytes 1 flags ++ [3] ++ leBytes 2 len ++ [0, 0x80] ++ leBytes 4 epoch ++ leBytes 8 counter ++ p
  b ++ leBytes 4 (crc32c b)
def aLink : Link := { epoch := 4, tx := List.replicate 32 1, rx := List.replicate 32 2, rxCount := 10, keyedL := 4000000 }
def liveMember : Member := { st := .live, link := some aLink, lastEpoch := 4, heardL := 4999000, helloSerial := some 22 }
/-- A device with member 2 on port 1. -/
def meshWith (x : Member) (s : State := up) : State :=
  { s with msh := { s.msh with idSeed := some (zeros 32), shareKey := some (zeros 32), members := [(2, x)], ports := [(1, { pcs := true, fec := true })] } }
def meshLive : State := meshWith liveMember
def helloFrame : List Byte := frame 1 2 0 0 0 (leBytes 8 22 ++ zeros 48)
def beat (epoch counter : Nat) : List Byte := frame 0x10 2 1 epoch counter (zeros 56)
def aKeying : Keying := { epoch := 9, x := List.replicate 32 1, init := [1], keys := zeros 64 }
def keyingMember (m : Nat) : Member := { st := .keying, helloSerial := some (20 + m), keying := some aKeying }
/-- The same device seen from the other side of the exchange: member 0 has the lower number. -/
def keyingUp (m : Nat) : State :=
  { up with msh := { up.msh with idSeed := some (zeros 32), members := [(m, keyingMember m)] } }
def aShare : Share := { owner := 2, cab := 0, gen := 3, x := 2, t := 2, L := 10, roster := 0, y := zeros 32, blob := zeros 64 }
def aRot : Rotation := { gen := 3, startL := 5 * 2 ^ 20 - 5, acks := [0, 2], job := some 7 }
def aRestore : Restore := { job := 7, cab := 0, wanted := 0, startL := 5 * 2 ^ 20 - 2 ^ 20, holders := [0, 2, 3], t := 3 }
def custodyUp : State := { meshWith liveMember (withJob (mgmt 0x9010)) with
  time := { up.time with L := 5 * 2 ^ 20 }
  msh := { meshLive.msh with shares := [aShare], custody := [(0, { rot := some aRot })], restores := [aRestore] } }
def lateRot : State := { custodyUp with msh := { custodyUp.msh with custody := [(0, { rot := some { aRot with startL := 4 * 2 ^ 20 } })] } }
def setMsg : List Byte := [0, 0, 0, 0, 3, 0, 0, 0]
def doneUp : State := { custodyUp with msh := { custodyUp.msh with custody := [(0, { rot := some { aRot with acks := [0, 2, 3] } })] } }
def aRound : Round := { id := 9, firstL := 5 * 2 ^ 20 - 2 ^ 20, offers := [(2, 1, 1, zeros 32)] }
def roundUp9 : State := { custodyUp with msh := { custodyUp.msh with rounds := [aRound] } }
def joinedRound : State := { custodyUp with msh := { custodyUp.msh with rounds := [{ aRound with job := some 7 }] } }
def roundMsg : List Byte := leBytes 8 9 ++ leBytes 8 77
def downMember : Member := { helloAt := some 4999999, queue := [{ type := 1, flags := 0, frag := 0x8000, epoch := 0, payload := [] }], credits := 3 }
def queued : Member := { liveMember with lastMsg := some (0x20, zeros 136), resendAt := some 5000000, freed := 4, credits := 5 }
def rekeyMember : Member := { liveMember with link := some { aLink with keyedL := 0 } }
def rekeyUp : State := { meshWith {} with time := { up.time with L := 64 * 2 ^ 20 }, msh := { meshLive.msh with members := [(2, rekeyMember)] } }
def meshUnkeyed : State := { meshLive with msh := { meshLive.msh with idSeed := none } }
def custodyShut : State := { custodyUp with glb := { custodyUp.glb with maint := true } }
def theRound : Round := { aRound with job := some 7 }
def meshBeat : State := { meshLive with time := { up.time with L := 16 * 312500 } }
def silentMember : Member := { liveMember with heardL := 5000000 - 1024 }
def oldLink : Link := { aLink with keyedL := 0 }
def doneRot : Rotation := { aRot with acks := [0, 2, 3] }
def custody0 : Custody := { cab := 0, t := 2, holders := [0, 2, 3] }
def lateRotation : Rotation := { aRot with startL := 4 * 2 ^ 20 }

/-! ### Tamper, power, debug, events, self-test -/

def inputs (i : TamInput) : State := { up with tam := { up.tam with inputs := [(7, i)], lid := { due := true }, board := { due := true } } }
def tripped : State := inputs { trippedDue := true, discDue := some 1, briefDue := [(3, 4)] }
def nightNow : State := { up with glb := { up.glb with phase := .night }, pwr := { up.pwr with wakeDelay := 60 }, time := {} }
def failing : State := { up with glb := { up.glb with phase := .pwrfail } }
def zeroing : State := { up with tam := { up.tam with zeroDue := some (5000000 - 256), latched := true } }
def darkAon : State := { up with tam := { up.tam with up := false } }
def waitingUp : State := { State.reset with glb := { phase := .backoff }, key := { up.key with cskBanks := [(0, stored theCsk)] } }
def heldDown : State := { failing with tam := { up.tam with disarmed := true } }
def dawning : State := { up with glb := { up.glb with phase := .dawn } }
def tileHot : State := { up with orr := { up.orr with tiles := [(33, { hot := 128, limit := 2 }), (34, { clean := 2 ^ 20, limit := 1 })] } }
def aWrite : FwWrite := { job := 7, place := 2, image := [1, 2, 3] }
def writingUp : State := { withJob fwJob with pwr := { up.pwr with write := some aWrite } }
def scanning : State := { up with glb := { up.glb with phase := .scan } }
def testPart : State := { up with lcs := { up.lcs with code := 1, dapDesc := [1, 0xB0] ++ zeros 62 } }
def debugging : State := { up with lcs := { up.lcs with rights := 0x38 } }
def halted : State := { debugging with wld := { up.wld with pair1 := { up := true, halted := true } } }
def raised : State := { up with evt := { up.evt with queue := [event 0x4012 7, event 0x1010 3], next := 9 } }
def recorded : State := { up with evt := { up.evt with ring := [record 5, record 6], reserve := [record 7 7], ack := 6, jAck := 3 } }
def journalling : State := { up with evt := { up.evt with jQueue := [record 5, record 6] } }
def aRun : BistRun := { job := some 7, scope := 3, todo := [4, 5], bellL := 4999000, startL := some 4999002, endL := 5000000 }
def testing : State := { withJob (testJob 3) with bst := { up.bst with running := some aRun } }
def testingLast : State := { withJob (testJob 3) with bst := { up.bst with running := some { aRun with todo := [5] } } }
def dapTest : State := { up with lcs := { up.lcs with rights := 8 }, bst := { up.bst with dapScope := 3, dapMap := 6 } }
def aBurst : Burst := { beganL := 4999999, issued := 0 }
def destroyed : Job := { mgmt 0x7004 [] ha with result := some { status := 0, effects := [.destroyKey ha] }, burst := some aBurst }
def erasing : State := { withJob destroyed with key := { up.key with eraseDue := [(7, 2)], groups := [(2, { b0 := some { seq := 4, body := [] }, b1 := some { seq := 3, body := [] }, word := 4 })] } }
def storing : State := { withJob loadJob with wld := { up.wld with worlds := [(4, { st := .loading, image := [1, 2], loadJob := some 7, pages := [10] })] } }
def nopJob2 : Job := runJob (desc 0x0001)
def snap (flags : Byte) : Job := mgmt 0xC001 [1, 0, 0, 0, flags]
def jread (flags : Byte) : Job := mgmt 0xC002 [1, 0, 0, 0, flags]
def quietMember (n : Nat) : Member := { st := .live, link := some { epoch := 4, tx := [], rx := [], keyedL := 4000000 }, heardL := 5000000 - n }
def quiet (n : Nat) : State := { up with msh := { up.msh with members := [(2, quietMember n)] } }
def lastRun : BistRun := { aRun with todo := [5] }
def dapBusy : State := { dapTest with bst := testing.bst }
def nopDone : Job := { nopJob2 with finished := true }
def nightResult : Result := { status := 0 }
def nightDone : Job := { nightJob with result := some nightResult }
def nightDue : State := { withJob nightDone with pwr := { up.pwr with nightJob := some (7, 5000000) } }
def coldStart : DawnInput := { cold := true }
def badRom : DawnInput := { romOk := false }

/-! ### States and operands that meet the hypotheses of the statements -/

/-- States and operands that meet the hypotheses of AlarmsAreTaken, clause by clause. -/
theorem witness_AlarmsAreTaken :
    7 < 8 ∧ (tripped.tin 7).trippedDue = true ∧ (tripped.tin 7).discDue = some 1 ∧ tripped.tam.lid.due = true ∧ tripped.tam.board.due = true ∧
    tripped.tam.up = true ∧ 7 < sensorSources 7 ∧ (alwaysArmed tripped 7 7 = true ∨ mainArmed tripped = true ∧ ¬(7 = 6 ∧ 7 = 2)) ∧
    alwaysArmed heldDown 8 7 = false ∧ mainArmed heldDown = false :=
  by and_intros <;> decide

/-- States and operands that meet the hypotheses of CorePairs, clause by clause. -/
theorem witness_CorePairs :
    1 < 2 ∧ (pairOf up 1).up = true ∧ up.glb.phase = Phase.run ∧ (pairOf up 1).dead = false ∧ probed.time.L % 2 ^ 20 = 2 ^ 19 ∧ (pairOf probed 1).up = true ∧
    (pairOf probed 1).dead = false ∧ 1 ≤ 4 ∧ (5000000 - 2 ^ 20 ≠ 1 ∨ 4 < 5000000 - 2 ^ 20) ∧ 0 < 2 ∧ (pairOf pairGone 0).up = false ∧
    (pairOf pairGone 0).restartL = none ∧ pairGone.glb.phase = Phase.run ∧ umbral pairGone = false ∧ (pairGone.glb.hold = false ∨ 0 = 0) ∧
    (∀ (l : ℕ), (pairOf pairGone 0).downL = some l → l < pairGone.time.L) ∧ (pairOf pairBack 0).restartL ≠ none ∧
    (pairOf pairLate 0).restartL = some (5000000 - 2 ^ 20) ∧ 5000000 - 2 ^ 20 + 2 ^ 20 ≤ pairLate.time.L ∧ keeperAbsent longAbsent = true ∧
    2 ^ 22 ≤ absentTransits longAbsent ∧ longAbsent.orr.admitOpen = true ∧ reopening.glb.keeperClosed = true ∧ keeperAbsent reopening = false ∧
    holdNext.wld.holdDue = some 4999999 ∧ 4999999 < holdNext.time.L ∧ holdNext.time.genRunning = true :=
  by and_intros <;> decide

/-- States and operands that meet the hypotheses of DescriptorsAreFetchedOrAnswered, clause by clause. -/
theorem witness_DescriptorsAreFetchedOrAnswered :
    nextFetch up = some (0, 1) ∧ withinLimit (up.sqOf 0 1) = true ∧ up.time.genStopped = false ∧
    firstRefusal (passTurn 0 1 up) 0 (Desc.parse nopBytes) = none ∧ nextFetch beyond = some (0, 1) ∧ withinLimit (beyond.sqOf 0 1) = false ∧
    (beyond.cqOf 0 (beyond.sqOf 0 1).cq).st = RingState.active :=
  by and_intros <;> decide

/-- States and operands that meet the hypotheses of ImagesAreCommitted, clause by clause. -/
theorem witness_ImagesAreCommitted :
    intentFresh.car.intent = some freshIntent ∧ intentFresh.car.staged = some anImage ∧ freshIntent.written = false ∧
    intentFresh.time.L < freshIntent.openL + 2 ^ 20 ∧ (intentUp false).car.intent = some anIntent ∧ (intentUp false).car.staged = some anImage ∧
    anIntent.written = false ∧ ([] ≠ anImage.bytes ∨ anIntent.openL + 2 ^ 20 ≤ (intentUp false).time.L) ∧ anIntent.openL + 2 ^ 20 ≤ (intentUp false).time.L ∧
    (intentUp true).car.intent = some writtenIntent ∧ (intentUp true).car.staged = some anImage ∧ writtenIntent.written = true ∧
    (intentUp true).time.L % 2 ^ 20 = 0 ∧ (intentUp true).glb.phase = Phase.run ∧ (intentUp true).glb.umbra = false ∧ keeperAbsent (intentUp true) = false ∧
    (counterOf (intentUp true) 1).worn = false ∧ repairOpen repairFull = true ∧ firstDiff [] (activeImage repairFull) 0 ≠ none :=
  by and_intros <;> decide

/-- States and operands that meet the hypotheses of ImagesAreStagedUnstagedAndRead, clause by clause. -/
theorem witness_ImagesAreStagedUnstagedAndRead :
    openable (withJob stageJob) 7 32769 = some stageJob ∧ (withJob stageJob).glb.umbra = false ∧ (withJob stageJob).glb.hold = false ∧
    (withJob stageJob).car.intent = none ∧ (withJob stageJob).car.repairPending = false ∧ (withJob stageJob).car.staged = none ∧
    openRequests (withJob stageJob) (cabOfFn (withJob stageJob) stageJob.fn) < 16 ∧ runnable (stagedUp (mgmt 32770)) 7 32770 = some (mgmt 32770) ∧
    (stagedUp (mgmt 32770)).car.intent = none ∧ (stagedUp (mgmt 32770)).car.staged ≠ none ∧ runnable (withJob (mgmt 32770)) 7 32770 = some (mgmt 32770) ∧
    (withJob (mgmt 32770)).car.intent = none ∧ (withJob (mgmt 32770)).car.staged = none ∧ runnable (stagedUp (mgmt 32771)) 7 32771 = some (mgmt 32771) :=
  by and_intros <;> decide

/-- States and operands that meet the hypotheses of JobsEndWithOneFinalEntry, clause by clause. -/
theorem witness_JobsEndWithOneFinalEntry :
    (withJob nopDone).jobOf 7 = some nopDone ∧ nopDone.finished = true ∧ (withJob nopJob2).jobOf 7 = some nopJob2 ∧ nopJob2.finished = false ∧
    nopJob2.orphan = false ∧ ((withJob nopJob2).sqOf nopJob2.fn nopJob2.sq).st ≠ RingState.fault ∧
    ((withJob nopJob2).cqOf nopJob2.fn nopJob2.cq).st = RingState.active ∧ ((withJob nopJob2).sqOf nopJob2.fn nopJob2.sq).cq = nopJob2.cq ∧
    cqStands (withJob nopJob2) nopJob2.fn nopJob2.sq = true ∧ 0 < nopJob2.reserve ∧ 3 ≠ 4098 :=
  by and_intros <;> decide

/-- States and operands that meet the hypotheses of KeysAreLoadedReadAndFreed, clause by clause. -/
theorem witness_KeysAreLoadedReadAndFreed :
    runnable ferryUp 7 28677 = some ferryJob ∧ leAt ferryJob.input 6 1 = cabOfFn ferryUp ferryJob.fn ∧
    ferryUp.key.csk.get? (cabOfFn ferryUp ferryJob.fn) = some theCsk ∧ leAt ferryJob.input 0 4 = 1262896971 ∧ leAt ferryJob.input 4 2 = 1 ∧
    leAt ferryJob.input 7 1 = 0 ∧ leAt ferryJob.input 8 4 = theCsk.gen ∧ typeKnown (leAt ferryJob.input 12 2) = true ∧ leAt ferryJob.input 20 4 = 0 ∧
    ferryJob.input.length = 60 + leAt ferryJob.input 14 2 ∧
    freeSpan ferryUp (cabOfFn ferryUp ferryJob.fn) (max 1 (ceilDiv (leAt ferryJob.input 14 2) 432)) = some 0 ∧
    runnable (withJob publicJob) 7 28678 = some publicJob ∧
    freeSpan (withJob publicJob) (cabOfFn (withJob publicJob) publicJob.fn) (max 1 (ceilDiv (publicMaterial (publicJob.desc.par 40 2) publicJob.input).length 432)) = some 0 ∧
    runnable (keyed 32 1 32 infoJob) 7 28679 = some infoJob ∧ keyOf? (keyed 32 1 32 infoJob) infoJob.desc.handleA = some (theKey 32 32) ∧
    runnable freeUp 7 28680 = some freeJob ∧ keyOf? freeUp freeJob.desc.handleA = some (theKey 1 16) ∧
    (hClass freeJob.desc.handleA = 1 ∨ hClass freeJob.desc.handleA = 2) :=
  by and_intros <;> decide

/-- States and operands that meet the hypotheses of LedgerJobs, clause by clause. -/
theorem witness_LedgerJobs :
    runnable (withJob (laneJob 24577)) 7 24577 = some (laneJob 24577) ∧ runnable (withJob (laneJob 24593)) 7 24593 = some (laneJob 24593) ∧
    runnable (withJob (laneJob 24608)) 7 24608 = some (laneJob 24608) ∧ runnable sealUp 7 24592 = some (laneJob 24592) ∧
    List.find? (fun q => q.job == 7) sealUp.ldg.snaps = some aSnap ∧ keyOf? sealUp (laneJob 24592).desc.handleA = some (theKey 32 32) ∧
    sealLaneBad sealUp (laneJob 24592).fn ((laneJob 24592).desc.par 40 1) = none ∧ laneGood sealUp ((laneJob 24592).desc.par 40 1) = true ∧
    sealPrepared sealUp ((laneJob 24592).desc.par 40 1) = false ∧ (laneLdg sealUp ((laneJob 24592).desc.par 40 1)).wait = [] :=
  by and_intros <;> decide

/-- States and operands that meet the hypotheses of LedgerTimeIsStated, clause by clause. -/
theorem witness_LedgerTimeIsStated :
    runnable noncesUp 7 32784 = some nonceJob ∧ openable stmtUp 7 32785 = some stmtJob ∧ stmtOk stmtUp stmtJob.input = true ∧
    (List.find? (fun e => decide (e.1 = (stmtOf stmtJob.input).nonce ∧ stmtUp.time.L < e.2 + nonceLife)) stmtUp.time.nonces = some (List.replicate 16 5, 4999000)) ∧
    timeKey stmtUp (stmtOf stmtJob.input).handle (stmtOf stmtJob.input).alg = some timeKeySlot ∧ stmtUp.jobOf 7 = some stmtJob ∧
    (stmtOf statement).step = false ∧ stmtUp.time.quality = Quality.unset ∧
    ↑(ledgerFloorUs stmtUp) ≤ fieldSigned 64 ((stmtOf statement).asserted + (stmtUp.time.L - 4999000) * 8192 / 1000 / 2) ∧ stmtNear.jobOf 7 = some stmtJob ∧
    stmtNear.time.quality ≠ Quality.unset ∧
    (fieldSigned 64 ((stmtOf statement).asserted + (stmtNear.time.L - 4999000) * 8192 / 1000 / 2) - ↑stmtNear.time.ledgerUs).natAbs ≤ (stmtOf statement).unc + (stmtNear.time.L - 4999000) * 8192 / 1000 / 2 ∧
    stepOpen.time.stepReq = some openStepReq ∧ stepUp.time.stepDue = [aStep] ∧ aStep.approvedL = some 5119990 ∧ 5119990 < stepUp.time.L ∧
    stepUp.time.L % 128 = 0 ∧ stepUp.time.genRunning = true :=
  by and_intros <;> decide

/-- States and operands that meet the hypotheses of LinkMessages, clause by clause. -/
theorem witness_LinkMessages :
    meshUnkeyed.memberOf 2 = some liveMember ∧ mayKey meshUnkeyed = false ∧ (keyingUp 0).memberOf 0 = some (keyingMember 0) ∧ mayKey (keyingUp 0) = true ∧
    0 < (meshSelf (keyingUp 0)).getD 0 ∧ (keyingUp 2).memberOf 2 = some (keyingMember 2) ∧ mayKey (keyingUp 2) = true ∧ (meshSelf (keyingUp 2)).getD 0 < 2 ∧
    (keyingMember 2).keying = some aKeying ∧ aKeying.epoch = 9 ∧ (keyingMember 0).keying = some aKeying :=
  by and_intros <;> decide

/-- States and operands that meet the hypotheses of MeshTimersAndPorts, clause by clause. -/
theorem witness_MeshTimersAndPorts :
    (meshWith downMember).memberOf 2 = some downMember ∧ meshUp (meshWith downMember) = true ∧ mayKey (meshWith downMember) = true ∧
    (downMember.st = MemberState.down ∨ downMember.st = MemberState.lost ∨ downMember.st = MemberState.keying) ∧ downMember.helloAt = some 4999999 ∧
    4999999 ≤ (meshWith downMember).time.L ∧ (meshWith silentMember).memberOf 2 = some silentMember ∧ meshUp (meshWith silentMember) = true ∧
    (meshWith silentMember).time.genRunning = true ∧ (meshWith silentMember).time.L % 16 = 0 ∧ silentMember.st = MemberState.live ∧
    (List.filter (fun e => e.1 == 2) (meshWith silentMember).msh.members).length = 1 ∧ silentMember.heardL + 1024 ≤ (meshWith silentMember).time.L ∧
    rekeyUp.memberOf 2 = some rekeyMember ∧ meshUp rekeyUp = true ∧ mayKey rekeyUp = true ∧ (meshSelf rekeyUp).getD 0 < 2 ∧ rekeyMember.keying = none ∧
    rekeyMember.link = some oldLink ∧ oldLink.keyedL + 64 * 2 ^ 20 ≤ rekeyUp.time.L ∧ rekeyMember.st ≠ MemberState.frozen ∧
    (meshWith queued).memberOf 2 = some queued ∧ meshUp (meshWith queued) = true ∧ 0 < queued.freed ∧ queued.freedL < (meshWith queued).time.L ∧
    queued.queue = [] ∧ queued.st ≠ MemberState.frozen ∧ 0 < queued.credits ∧ queued.lastMsg = some (32, zeros 136) ∧ queued.resendAt = some 5000000 ∧
    5000000 ≤ (meshWith queued).time.L ∧ (meshWith downMember).glb.phase = Phase.run ∧ 1 < 4 ∧
    ((meshWith downMember).car.active.members.any fun r => r.path == 1) = true ∧ (memberOnPort (meshWith downMember) 1).isSome = true :=
  by and_intros <;> decide

/-- States and operands that meet the hypotheses of NoticesAndReadFailures, clause by clause. -/
theorem witness_NoticesAndReadFailures :
    (inTail.fnOf 0).held = [aNotice] ∧ (inTail.cqOf 0 0).st = RingState.active ∧ 0 < noticeRoom (inTail.cqOf 0 0) ∧ resetting inTail 0 = false ∧
    inTail.time.tailL = some inTail.time.L ∧ (withJob waitingRead).jobOf 7 = some waitingRead ∧ waitingRead.finished = false ∧ waitingRead.burst = none ∧
    waitingRead.answer = none ∧ nextFetch (withJob waitingRead) = some (0, 1) :=
  by and_intros <;> decide

/-- States and operands that meet the hypotheses of OnePpsIsAcceptedQualifiedAndLost, clause by clause. -/
theorem witness_OnePpsIsAcceptedQualifiedAndLost :
    up.time.genRunning = true ∧ up.time.ppsLast = none ∧ onePps.time.genRunning = true ∧ onePps.time.ppsLast = some 4 ∧ 2999400000 ≤ 2999400004 / 4 * 4 - 4 ∧
    2999400004 / 4 * 4 - 4 ≤ 3000600000 ∧ 2999400000 ≤ 3000600007 / 4 * 4 - 4 ∧ 3000600007 / 4 * 4 - 4 ≤ 3000600000 ∧
    (¬(2999400000 ≤ 2999400003 / 4 * 4 - 4 ∧ 2999400003 / 4 * 4 - 4 ≤ 3000600000)) ∧
    ((onePps.time.ppsMissed + if onePps.time.ppsLate = true then 0 else 1) = onePps.time.ppsMissed + if onePps.time.ppsLate = true then 0 else 1) ∧
    (¬(2999400000 ≤ 3000600008 / 4 * 4 - 4 ∧ 3000600008 / 4 * 4 - 4 ≤ 3000600000)) :=
  by and_intros <;> decide

/-- States and operands that meet the hypotheses of ReadPointsOnlyMoveForward, clause by clause. -/
theorem witness_ReadPointsOnlyMoveForward :
    (withJob (snap 1)).hlk.up = true ∧ (runnable (withJob (snap 1)) 7 49153 = some (snap 1) ∨ runnable (withJob (snap 1)) 7 49154 = some (snap 1)) ∧
    bit ((snap 1).desc.par 44 1) 0 = true ∧ (snap 1).desc.opcode = 49153 ∧
    (runnable (withJob (jread 1)) 7 49153 = some (jread 1) ∨ runnable (withJob (jread 1)) 7 49154 = some (jread 1)) ∧ bit ((jread 1).desc.par 44 1) 0 = true ∧
    (jread 1).desc.opcode = 49154 :=
  by and_intros <;> decide

/-- States and operands that meet the hypotheses of RegistersAtReset, clause by clause. -/
theorem witness_RegistersAtReset :
    0 ∈ resetWords :=
  by decide

/-- States and operands that meet the hypotheses of SilentMembersAreLost, clause by clause. -/
theorem witness_SilentMembersAreLost :
    (quiet 1024).memberOf 2 = some (quietMember 1024) ∧ meshUp (quiet 1024) = true ∧ (quietMember 1024).st = MemberState.live ∧
    (quietMember 1024).heardL + 1024 ≤ (quiet 1024).time.L ∧ (quiet 1023).memberOf 2 = some (quietMember 1023) ∧ meshUp (quiet 1023) = true ∧
    (quietMember 1023).st = MemberState.live ∧ (quiet 1023).time.L < (quietMember 1023).heardL + 1024 :=
  by and_intros <;> decide

/-- States and operands that meet the hypotheses of TapMailboxAndPairs, clause by clause. -/
theorem witness_TapMailboxAndPairs :
    up.glb.phase ≠ Phase.scan ∧ scanCode (tapEffective up (16 % 256 % 256)) = false ∧ up.glb.phase = Phase.run ∧
    scanCode (tapEffective up (3 % 256 % 256)) = true ∧ scanning.glb.phase = Phase.scan ∧ scanCode (tapEffective scanning (16 % 256 % 256)) = false ∧
    testPart.lcs.code < 2 ∧ testPart.glb.lockdown = false ∧ testPart.glb.phase = Phase.run ∧ 2 ≤ up.lcs.code ∧ 1 % 256 < 2 ∧
    mayDebug debugging (1 % 256) = true ∧ (pairOf debugging (1 % 256)).up = true ∧ (pairOf debugging (1 % 256)).halted = false ∧
    (pairOf halted (1 % 256)).halted = true :=
  by and_intros <;> decide

/-- States and operands that meet the hypotheses of AggregationMessages, clause by clause. -/
theorem witness_AggregationMessages :
    9 = leAt roundMsg 0 8 ∧ custodyUp.roundOf 9 = none ∧ roundUp9.roundOf 9 = some aRound ∧ aRound.job = none ∧ aRound.firstL + 2 ^ 20 ≤ roundUp9.time.L ∧
    (aRound.job = none ∨ ∃ q ∈ peersOf roundUp9 aRound, joined aRound q = false) :=
  by and_intros <;> decide

/-- States and operands that meet the hypotheses of AppletJobs, clause by clause. -/
theorem witness_AppletJobs :
    4 = stopJob.desc.par 40 1 ∧ runnable (withJob stopJob) 7 40962 = some stopJob ∧ ((withJob stopJob).world 4).stopDue = false ∧
    4 = messageJob.desc.par 40 1 ∧ runnable (withJob messageJob) 7 40963 = some messageJob ∧ ((withJob messageJob).world 4).queue.contains 7 = false ∧
    (((withJob messageJob).world 4).awaiting.any fun m => m.job == 7) = false ∧ (waiting (withJob messageJob) 4).length < 8 ∧
    runnable fullWorld 7 40963 = some messageJob ∧ (fullWorld.world 4).queue.contains 7 = false ∧
    ((fullWorld.world 4).awaiting.any fun m => m.job == 7) = false ∧ 8 ≤ (waiting fullWorld 4).length :=
  by and_intros <;> decide

/-- States and operands that meet the hypotheses of ApprovalsAreChecked, clause by clause. -/
theorem witness_ApprovalsAreChecked :
    runnable (withRequests approveShort) 7 28688 = some approveShort ∧ approvalLenBad (withRequests approveShort) approveShort.aux = some 257 ∧
    runnable (withRequests approveBad) 7 28688 = some approveBad ∧ approvalLenBad (withRequests approveBad) approveBad.aux = none :=
  by and_intros <;> decide

/-- States and operands that meet the hypotheses of ApprovedKeyCommandsRun, clause by clause. -/
theorem witness_ApprovedKeyCommandsRun :
    runnable generateUp 7 28673 = some generateJob ∧ generateJob.approved = true ∧ prReady generateUp = true ∧
    generateUp.key.csk.get? (cabOfFn generateUp generateJob.fn) = some theCsk ∧ generateJob.desc.par 42 1 ≠ 1 ∧
    freeSpan generateUp (cabOfFn generateUp generateJob.fn) (max 1 (ceilDiv (keyGenMaterial generateUp generateJob.desc).length 432)) = some 0 ∧
    (aRequest 3 7 28676).job = 7 ∧ destroyUp.jobOf 7 = some (mgmt 28676 [] ha) ∧ (mgmt 28676 [] ha).finished = false ∧ (aRequest 3 7 28676).opcode = 28676 ∧
    keyOf? destroyUp (mgmt 28676 [] ha).desc.handleA = some (theKey 1 16) ∧ (aRequest 3 7 28690).job = 7 ∧ thawUp.jobOf 7 = some thawJob ∧
    thawJob.finished = false ∧ (aRequest 3 7 28690).opcode = 28690 ∧ isFrozen thawUp (thawJob.desc.par 40 1) (thawJob.desc.par 44 4) = true ∧
    (aRequest 3 7 28675).job = 7 ∧ exportUp.jobOf 7 = some exportJob ∧ exportJob.finished = false ∧ (aRequest 3 7 28675).opcode = 28675 ∧
    keyOf? exportUp exportJob.desc.handleA = some (theKey 1 16) ∧ keyOf? exportUp exportJob.desc.handleB = some (otherKey 1 16) :=
  by and_intros <;> decide

/-- States and operands that meet the hypotheses of AuthenticatedOpening, clause by clause. -/
theorem witness_AuthenticatedOpening :
    keyOf? (keyed 1 1 16 openJob) openJob.desc.handleA = some (theKey 1 16) ∧ runnable (keyed 1 1 16 openJob) 7 4100 = some openJob ∧
    auxBad openJob.desc openJob.aux = none ∧ keyOf? (keyed 1 1 16 unwrapJob) unwrapJob.desc.handleA = some (theKey 1 16) ∧
    runnable (keyed 1 1 16 unwrapJob) 7 4103 = some unwrapJob ∧ keyOf? (keyed 1 1 16 wrapJob) wrapJob.desc.handleA = some (theKey 1 16) ∧
    runnable (keyed 1 1 16 wrapJob) 7 4102 = some wrapJob ∧ wrapJob.desc.opcode = 4102 ∧ cMode wrapJob.desc = 8 :=
  by and_intros <;> decide

/-- States and operands that meet the hypotheses of BanksAndStoresAreWritten, clause by clause. -/
theorem witness_BanksAndStoresAreWritten :
    erasing.key.eraseDue = [(7, 2)] ∧ erasing.jobOf 7 = some destroyed ∧ destroyed.result = some { status := 0, effects := [Effect.destroyKey ha] } ∧
    destroyed.burst = some aBurst ∧ aBurst.issued = 0 ∧ destroyed.finished = false ∧ destroyed.answer = none ∧ destroyed.desc.opcode = 28676 ∧
    (storing.world 4).st = WorldState.loading ∧ (storing.world 4).stored = false ∧ keeperAbsent storing = false :=
  by and_intros <;> decide

/-- States and operands that meet the hypotheses of BignumSigning, clause by clause. -/
theorem witness_BignumSigning :
    keyOf? (keyed 16 1 456 (bigJob 12289)) (bigJob 12289).desc.handleA = some (theKey 16 456) ∧
    runnable (keyed 16 1 456 (bigJob 12289)) 7 12289 = some (bigJob 12289) ∧
    keyOf? (keyed 16 1 456 (bigJob 12291)) (bigJob 12291).desc.handleA = some (theKey 16 456) ∧
    runnable (keyed 16 1 456 (bigJob 12291)) 7 12291 = some (bigJob 12291) ∧
    keyOf? (keyed 32 1 32 (bigJob 12304)) (bigJob 12304).desc.handleA = some (theKey 32 32) ∧
    runnable (keyed 32 1 32 (bigJob 12304)) 7 12304 = some (bigJob 12304) ∧
    keyOf? (keyed 48 1 32 (bigJob 12320)) (bigJob 12320).desc.handleA = some (theKey 48 32) ∧
    runnable (keyed 48 1 32 (bigJob 12320)) 7 12320 = some (bigJob 12320) :=
  by and_intros <;> decide

/-- States and operands that meet the hypotheses of CarriesCompleteAndLaneRecordsAreWritten, clause by clause. -/
theorem witness_CarriesCompleteAndLaneRecordsAreWritten :
    (counterOf openCells 19).intent = true ∧ sequencerStopped openCells = false ∧ openCells.ldg.anchorWait = none ∧
    (laneLdg openCells 2).wait = [firstMark, secondMark] ∧ openCells.time.genStopped = false ∧ counterOpen openCells (markId 2) = true ∧
    sealPrepared openCells 2 = false :=
  by and_intros <;> decide

/-- States and operands that meet the hypotheses of CipherMessages, clause by clause. -/
theorem witness_CipherMessages :
    keyOf? (keyed 1 1 16 encJob) encJob.desc.handleA = some (theKey 1 16) ∧ cInit encJob.desc = true ∧ cFinish encJob.desc = true ∧
    cIvHelper encJob.desc = false ∧ auxBad encJob.desc encJob.aux = none ∧
    (∀ (r : ℕ), cRemain encJob.desc (initCtx encJob.desc (theKey 1 16).material (cIv (keyed 1 1 16 encJob) encJob.desc encJob.aux) (List.drop 16 encJob.aux)) = some r → encJob.input.length ≤ r) ∧
    runnable (keyed 1 1 16 encJob) 7 4097 = some encJob ∧ encJob.desc.opcode = 4097 ∧ cMode encJob.desc ≠ 7 ∧ cTagLen encJob.desc = 0 ∧
    keyOf? (keyed 1 1 16 decJob) decJob.desc.handleA = some (theKey 1 16) ∧ cInit decJob.desc = true ∧ cFinish decJob.desc = true ∧
    cIvHelper decJob.desc = false ∧ auxBad decJob.desc decJob.aux = none ∧
    (∀ (r : ℕ), cRemain decJob.desc (initCtx decJob.desc (theKey 1 16).material (cIv (keyed 1 1 16 decJob) decJob.desc decJob.aux) (List.drop 16 decJob.aux)) = some r → decJob.input.length ≤ r) ∧
    runnable (keyed 1 1 16 decJob) 7 4098 = some decJob ∧ decJob.desc.opcode = 4098 ∧ cMode decJob.desc ≠ 7 ∧ cTagLen decJob.desc = 0 ∧
    keyOf? (keyed 1 1 16 sealJob) sealJob.desc.handleA = some (theKey 1 16) ∧ cInit sealJob.desc = true ∧ cFinish sealJob.desc = true ∧
    cIvHelper sealJob.desc = false ∧ auxBad sealJob.desc sealJob.aux = none ∧
    (∀ (r : ℕ), cRemain sealJob.desc (initCtx sealJob.desc (theKey 1 16).material (cIv (keyed 1 1 16 sealJob) sealJob.desc sealJob.aux) (List.drop 16 sealJob.aux)) = some r → sealJob.input.length ≤ r) ∧
    runnable (keyed 1 1 16 sealJob) 7 4099 = some sealJob ∧ sealJob.desc.opcode = 4099 ∧ cMode sealJob.desc ≠ 4 ∧ cMode sealJob.desc ≠ 7 ∧
    cTagLen sealJob.desc ≠ 0 ∧ keyOf? (keyed 1 1 16 macJob) macJob.desc.handleA = some (theKey 1 16) ∧ cInit macJob.desc = true ∧ cFinish macJob.desc = true ∧
    cIvHelper macJob.desc = false ∧ auxBad macJob.desc macJob.aux = none ∧
    (∀ (r : ℕ), cRemain macJob.desc (initCtx macJob.desc (theKey 1 16).material (cIv (keyed 1 1 16 macJob) macJob.desc macJob.aux) (List.drop 16 macJob.aux)) = some r → macJob.input.length ≤ r) ∧
    runnable (keyed 1 1 16 macJob) 7 4101 = some macJob ∧ macJob.desc.opcode = 4101 ∧ cMode macJob.desc = 7 ∧ cTagLen macJob.desc ≠ 0 :=
  by and_intros <;> decide

/-- States and operands that meet the hypotheses of CommitPhaseEndsTheJob, clause by clause. -/
theorem witness_CommitPhaseEndsTheJob :
    (withJob endingJob).jobOf 7 = some endingJob ∧ endingJob.result = some doneResult ∧ endingJob.burst = none ∧
    commitReady (withJob endingJob) 7 endingJob = true ∧ doneResult.output = [] ∧ doneResult.record = none ∧ doneResult.effects = [] ∧
    firstMeet (withJob endingJob) endingJob.fn 2 (checkedPages endingJob doneResult) = none ∧
    Option.all (fun e => e.1 != 7) (withJob endingJob).pwr.nightJob = true ∧ nightDue.jobOf 7 = some nightDone ∧ nightDone.result = some nightResult ∧
    nightDone.burst = none ∧ commitReady nightDue 7 nightDone = true ∧ nightResult.output = [] ∧ nightResult.record = none ∧ nightResult.effects = [] ∧
    firstMeet nightDue nightDone.fn 2 (checkedPages nightDone nightResult) = none ∧ nightDue.pwr.nightJob = some (7, 5000000) :=
  by and_intros <;> decide

/-- States and operands that meet the hypotheses of CompletionDoorbells, clause by clause. -/
theorem witness_CompletionDoorbells :
    up.hlk.up = true ∧ fnExists up 0 = true ∧ (up.cqOf 0 0).st = RingState.active ∧ 0 ≤ diff32 0 (up.cqOf 0 0).consumed ∧ 0 ≤ diff32 (up.cqOf 0 0).written 0 ∧
    (up.cqOf 0 1).st = RingState.active ∧ diff32 0 (up.cqOf 0 1).consumed < 0 :=
  by and_intros <;> decide

/-- States and operands that meet the hypotheses of ContextRecordsAndReencryption, clause by clause. -/
theorem witness_ContextRecordsAndReencryption :
    keyOf? (keyed 1 1 16 saveJob) saveJob.desc.handleA = some (theKey 1 16) ∧ runnable (keyed 1 1 16 saveJob) 7 4104 = some saveJob ∧
    cKeyBad (keyed 1 1 16 saveJob) saveJob.desc.handleA (byteAt saveJob.input 7) = false ∧
    (byteAt saveJob.input 7 = 1 ∨ byteAt saveJob.input 7 = 2 ∨ byteAt saveJob.input 7 = 3 ∨ byteAt saveJob.input 7 = 6 ∨ byteAt saveJob.input 7 = 7) ∧
    keyOf? (keyed 1 1 16 restoreJob) restoreJob.desc.handleA = some (theKey 1 16) ∧ runnable (keyed 1 1 16 restoreJob) 7 4105 = some restoreJob ∧
    openRecord (keyed 1 1 16 restoreJob) (cabOfFn (keyed 1 1 16 restoreJob) restoreJob.fn) 2 (byteAt restoreJob.input 7) restoreJob.desc.handleA restoreJob.input = Except.ok ctrBody ∧
    cKeyBad (keyed 1 1 16 restoreJob) restoreJob.desc.handleA (byteAt restoreJob.input 7) = false ∧
    (byteAt restoreJob.input 7 = 1 ∨ byteAt restoreJob.input 7 = 2 ∨ byteAt restoreJob.input 7 = 3 ∨ byteAt restoreJob.input 7 = 6 ∨ byteAt restoreJob.input 7 = 7) ∧
    ctxSizes (byteAt restoreJob.input 7) (byteAt ctrBody 49) (byteAt ctrBody 50) = true ∧ ctxZeros ctrBody = true ∧
    keyOf? (keyed 1 1 16 reencJob) reencJob.desc.handleA = some (theKey 1 16) ∧ runnable (keyed 1 1 16 reencJob) 7 4106 = some reencJob ∧
    keyOf? (keyed 1 1 16 reencJob) reencJob.desc.handleB = some (otherKey 1 16) ∧ cMode reencJob.desc = 5 :=
  by and_intros <;> decide

/-- States and operands that meet the hypotheses of CountersIncrementByOne, clause by clause. -/
theorem witness_CountersIncrementByOne :
    counterOpen openCells 18 = true :=
  by decide

/-- States and operands that meet the hypotheses of CustodyBoundaries, clause by clause. -/
theorem witness_CustodyBoundaries :
    (doneUp.custodyOf 0).rot = some doneRot ∧ custodyRec? doneUp 0 = some custody0 ∧ mayCustody doneUp = true ∧ doneUp.time.L % 2 ^ 20 = 0 ∧
    doneUp.time.L ≤ doneRot.startL + 2 ^ 20 ∧ (∀ h ∈ custody0.holders, h ∈ doneRot.acks) ∧ custody0.t ≤ doneRot.acks.length ∧
    (lateRot.custodyOf 0).rot = some lateRotation ∧ lateRotation.startL + 2 ^ 20 ≤ lateRot.time.L ∧
    List.find? (fun q => q.job == aRestore.job) doneUp.msh.restores = some aRestore ∧ aRestore.startL + 2 ^ 20 ≤ doneUp.time.L :=
  by and_intros <;> decide

/-- States and operands that meet the hypotheses of CustodyMessages, clause by clause. -/
theorem witness_CustodyMessages :
    mayCustody custodyUp = true ∧ custodyUp.msh.shareKey.isSome = true ∧ custodyUp.msh.shares.length < 16384 ∧ mayCustody custodyShut = false ∧
    (custodyUp.custodyOf (byteAt setMsg 0)).rot = some aRot ∧ aRot.gen = leAt setMsg 4 4 ∧ (holdersFor custodyUp (byteAt setMsg 0)).contains 3 = true ∧
    aShare ∈ custodyUp.msh.shares ∧ aShare.owner = 2 ∧ aShare.cab = byteAt setMsg 0 ∧ aShare.gen = leAt setMsg 4 4 ∧
    aShare ∈ (onShareDrop 3 setMsg custodyUp).msh.shares ∧
    List.find? (fun r => r.cab == byteAt [0, 1] 0 && r.holders.contains 2) custodyUp.msh.restores = some aRestore ∧ aRestore.refused.contains 2 = false ∧
    aRestore.holders.length < aRestore.t + (aRestore.refused.length + 1) ∧ (custodyUp.jobOf aRestore.job).isSome = true ∧
    List.find? (fun r => r.cab == byteAt ([0, 2, 3, 0, 3, 0, 0, 0] ++ zeros 128) 0 && r.holders.contains 2) custodyUp.msh.restores = some aRestore ∧
    (aRestore.shares.any fun d => d.x == 2 + 1) = false ∧ leAt ([0, 2, 3, 0, 3, 0, 0, 0] ++ zeros 128) 2 2 = 2 + 1 ∧
    (aRestore.wanted = 0 ∨ aRestore.wanted = leAt ([0, 2, 3, 0, 3, 0, 0, 0] ++ zeros 128) 4 4) ∧ keeperAbsent custodyUp = false ∧
    devState custodyUp = DevState.service ∧ (∀ e ∈ readable custodyUp, e.cab = byteAt ([1] ++ zeros 45) 0 → e.owner = 2 → False) :=
  by and_intros <;> decide

/-- States and operands that meet the hypotheses of DawnFailureAndWake, clause by clause. -/
theorem witness_DawnFailureAndWake :
    State.reset.glb.phase = Phase.off ∧ (State.reset.pwr.cause.isSome = true ∨ coldStart.cold = true) ∧ State.reset.tam.up = true ∧
    State.reset.tam.edges = 1024 ∧ dawning.glb.phase = Phase.dawn ∧ dawning.time.genRunning = true ∧ dawning.glb.counterWorn = false ∧
    dawning.wld.pair0.up = true ∧ (up.glb.phase = Phase.run ∨ up.glb.phase = Phase.dawn) ∧ nightNow.glb.phase = Phase.night ∧ 1 ≤ 2 ∧
    (1 = 1 → nightNow.pwr.wakeDelay ≠ 0 ∧ nightNow.pwr.wakeDelay ≤ 60) ∧ (nightNow.pwr.wakeDelay = 0 ∨ 59 < nightNow.pwr.wakeDelay) :=
  by and_intros <;> decide

/-- States and operands that meet the hypotheses of DebugAuthorizations, clause by clause. -/
theorem witness_DebugAuthorizations :
    openable (withJob certJob) 7 45058 = some certJob ∧ certFormOk certJob.input = true ∧
    rightsWithin (certRights certJob.input) (rightsObtainable (withJob certJob).lcs.code) = true ∧
    forcedZeroize (withJob certJob) (certRights certJob.input) = false ∧ openable responseUp 7 45060 = some responseJob ∧
    responseFormOk responseJob.input = true ∧ challengeOpen responseUp = some aChallenge ∧
    rightsWithin (responseRights responseJob.input) (rightsObtainable responseUp.lcs.code &&& aChallenge.rights) = true ∧
    forcedZeroize responseUp (responseRights responseJob.input) = false ∧ leAt responseJob.input 8 8 = serialOf responseUp ∧
    runnable (withJob challengeJob) 7 45059 = some challengeJob :=
  by and_intros <;> decide

/-- States and operands that meet the hypotheses of DigestMessages, for DIG_HASH to OUT and to a result slot, DIG_HMAC, DIG_KMAC and DIG_XOF. -/
theorem witness_DigestMessages :
    runnable (withJob hashJob) 7 8193 = some hashJob ∧ (hashJob.desc.handleA = noHandle ∨ (keyOf? (withJob hashJob) hashJob.desc.handleA).isSome = true) ∧
    (hashJob.desc.handleB = noHandle ∨ (keyOf? (withJob hashJob) hashJob.desc.handleB).isSome = true) ∧ gInit hashJob.desc = true ∧
    gFinish hashJob.desc = true ∧ (gMessage (withJob hashJob) hashJob.desc hashJob.input).length ≤ 2 ^ 61 - 1 ∧ gDest hashJob.desc = 0 ∧
    runnable (withJob slotJob) 7 8193 = some slotJob ∧ (slotJob.desc.handleA = noHandle ∨ (keyOf? (withJob slotJob) slotJob.desc.handleA).isSome = true) ∧
    (slotJob.desc.handleB = noHandle ∨ (keyOf? (withJob slotJob) slotJob.desc.handleB).isSome = true) ∧ gInit slotJob.desc = true ∧
    gFinish slotJob.desc = true ∧ (gMessage (withJob slotJob) slotJob.desc slotJob.input).length ≤ 2 ^ 61 - 1 ∧ gDest slotJob.desc = 1 ∧
    slotJob.gotSlot = some 3 ∧ runnable (keyed 16 1 16 hmacJob) 7 8194 = some hmacJob ∧
    (hmacJob.desc.handleA = noHandle ∨ (keyOf? (keyed 16 1 16 hmacJob) hmacJob.desc.handleA).isSome = true) ∧
    (hmacJob.desc.handleB = noHandle ∨ (keyOf? (keyed 16 1 16 hmacJob) hmacJob.desc.handleB).isSome = true) ∧ gInit hmacJob.desc = true ∧
    gFinish hmacJob.desc = true ∧ (gMessage (keyed 16 1 16 hmacJob) hmacJob.desc hmacJob.input).length ≤ 2 ^ 61 - 1 ∧ gDest hmacJob.desc = 0 ∧
    runnable (keyed 16 1 16 kmacJob) 7 8195 = some kmacJob ∧
    (kmacJob.desc.handleA = noHandle ∨ (keyOf? (keyed 16 1 16 kmacJob) kmacJob.desc.handleA).isSome = true) ∧
    (kmacJob.desc.handleB = noHandle ∨ (keyOf? (keyed 16 1 16 kmacJob) kmacJob.desc.handleB).isSome = true) ∧ gInit kmacJob.desc = true ∧
    gFinish kmacJob.desc = true ∧ (gMessage (keyed 16 1 16 kmacJob) kmacJob.desc kmacJob.input).length ≤ 2 ^ 61 - 1 ∧ gDest kmacJob.desc = 0 ∧
    runnable (withJob xofJob) 7 8196 = some xofJob ∧ (xofJob.desc.handleA = noHandle ∨ (keyOf? (withJob xofJob) xofJob.desc.handleA).isSome = true) ∧
    (xofJob.desc.handleB = noHandle ∨ (keyOf? (withJob xofJob) xofJob.desc.handleB).isSome = true) ∧ gInit xofJob.desc = true ∧ gFinish xofJob.desc = true ∧
    (gMessage (withJob xofJob) xofJob.desc xofJob.input).length ≤ 2 ^ 61 - 1 ∧ gDest xofJob.desc = 0 :=
  by and_intros <;> decide

/-- States and operands that meet the hypotheses of DigestRecordsAndSlots, clause by clause. -/
theorem witness_DigestRecordsAndSlots :
    runnable (withJob digSaveJob) 7 8197 = some digSaveJob ∧ leAt digSaveJob.input 8 4 = noHandle ∧ 1 ≤ byteAt digSaveJob.input 7 ∧
    byteAt digSaveJob.input 7 ≤ 11 ∧ runnable (withJob digRestoreJob) 7 8198 = some digRestoreJob ∧ leAt digRestoreJob.input 8 4 = noHandle ∧
    1 ≤ byteAt digRestoreJob.input 7 ∧ byteAt digRestoreJob.input 7 ≤ 11 ∧
    gOpenRecord (withJob digRestoreJob) (cabOfFn (withJob digRestoreJob) digRestoreJob.fn) 2 (byteAt digRestoreJob.input 7) noHandle digRestoreJob.input = Except.ok (zeros 204) ∧
    runnable (withResult releaseJob) 7 8199 = some releaseJob ∧ releaseJob.desc.par 40 4 < 64 ∧
    (withResult releaseJob).eng.results.has (64 * cabOfFn (withResult releaseJob) releaseJob.fn + releaseJob.desc.par 40 4) = true :=
  by and_intros <;> decide

/-- States and operands that meet the hypotheses of EphemeralPairs, clause by clause. -/
theorem witness_EphemeralPairs :
    ephemeralRoom (withJob pairJob) (cabOfFn (withJob pairJob) pairJob.fn) 1 = true ∧
    freeSpan (withJob pairJob) (cabOfFn (withJob pairJob) pairJob.fn) 1 = some (cabOfFn (withJob pairJob) pairJob.fn) ∧
    runnable (withJob pairJob) 7 12307 = some pairJob ∧ ephemeralRoom (withJob kemJob) (cabOfFn (withJob kemJob) kemJob.fn) 1 = true ∧
    freeSpan (withJob kemJob) (cabOfFn (withJob kemJob) kemJob.fn) 1 = some (cabOfFn (withJob pairJob) pairJob.fn) ∧
    runnable (withJob kemJob) 7 16385 = some kemJob :=
  by and_intros <;> decide

/-- States and operands that meet the hypotheses of EventsAreNumberedAndRead, clause by clause. -/
theorem witness_EventsAreNumberedAndRead :
    raised.glb.phase = Phase.run ∧ raised.evt.queue = [event 16402 7, event 4112 3] ∧ raised.evt.taken < 64 ∧ raised.evt.ring.length < 65536 ∧
    raised.evt.jQueue.length < 256 ∧ raised.hlk.up = true ∧ fnExists raised 0 = true ∧ journalling.glb.phase = Phase.run ∧
    journalling.evt.jQueue = [record 5, record 6] :=
  by and_intros <;> decide

/-- States and operands that meet the hypotheses of FirmwareIsStagedAndCommitted, clause by clause. -/
theorem witness_FirmwareIsStagedAndCommitted :
    runnable (withJob fwJob) 7 53264 = some fwJob ∧ (withJob fwJob).pwr.write = none ∧
    runnable (withJob (fwCommitJob true)) 7 53265 = some (fwCommitJob true) ∧ (withJob (fwCommitJob true)).pwr.write = none ∧
    awaiting (withJob (fwCommitJob true)) 7 = false ∧ ((fwCommitJob true).approved = true ∨ (withJob (fwCommitJob true)).car.site = none) ∧
    runnable (siteUp (fwCommitJob false)) 7 53265 = some (fwCommitJob false) ∧ (siteUp (fwCommitJob false)).pwr.write = none ∧
    awaiting (siteUp (fwCommitJob false)) 7 = false ∧ (fwCommitJob false).approved = false ∧ (siteUp (fwCommitJob false)).car.site ≠ none ∧
    openRequests (siteUp (fwCommitJob false)) (cabOfFn (siteUp (fwCommitJob false)) (fwCommitJob false).fn) < 16 ∧ resetUp.pwr.resetAtOrbit = true ∧
    resetUp.time.genRunning = true ∧ resetUp.time.L % 2 ^ 20 = 0 :=
  by and_intros <;> decide

/-- States and operands that meet the hypotheses of FrameAndOrbitBoundaries, clause by clause. -/
theorem witness_FrameAndOrbitBoundaries :
    atFrame.time.genRunning = true ∧ atFrame.time.L % 128 = 0 ∧ atFrame.time.aonL ≠ atFrame.time.L ∧ atOrbit.time.genRunning = true ∧
    atOrbit.time.L % 2 ^ 20 = 0 :=
  by and_intros <;> decide

/-- States and operands that meet the hypotheses of FunctionRegistersOfTheirOwn, clause by clause. -/
theorem witness_FunctionRegistersOfTheirOwn :
    attended.hlk.up = true ∧ fnExists attended 0 = true ∧ (ringless.fnOf 0).bootPage % 2 ^ 20 < 6 ∧ ringless.hlk.up = true ∧ fnExists ringless 0 = true ∧
    bit ((ringless.fnOf 0).bootPage % 2 ^ 20) 0 = true ∧ bound ringless 0 = true ∧
    bootWindow ringless 0 ((ringless.fnOf 0).bootPage % 2 ^ 20) = some window0 ∧ ringActive (ringless.fnOf 0) = false ∧
    pagePinned ringless ((ringless.fnOf 0).bootPage % 2 ^ 20) = false ∧ (ringless.fnOf 0).bootMade < 64 ∧ (∀ e ∈ liveJobs ringless, e.2.park = none) :=
  by and_intros <;> decide

/-- States and operands that meet the hypotheses of FunctionResetsTurnRingsOff, clause by clause. -/
theorem witness_FunctionResetsTurnRingsOff :
    vfBusy.hlk.up = true ∧ fnExists vfBusy 1 = true ∧ committing vfBusy ≠ [] ∧ withVf.hlk.up = true ∧ fnExists withVf 1 = true ∧ committing withVf = [] ∧
    (withVf.fnOf 1).d3hot = false ∧ vfAsleep.hlk.up = true ∧ fnExists vfAsleep 1 = true ∧ committing vfAsleep = [] ∧ (vfAsleep.fnOf 1).d3hot = true :=
  by and_intros <;> decide

/-- States and operands that meet the hypotheses of GovernedCommandsOpenTheirRequest, for each of the governed commands it names (APPLET_LOAD: witness_applet), and for one with 16 requests open. -/
theorem witness_GovernedCommandsOpenTheirRequest :
    openable (keyed 1 1 16 (mgmt 28676 [] ha)) 7 28676 = some (mgmt 28676 [] ha) ∧
    openRequests (keyed 1 1 16 (mgmt 28676 [] ha)) (cabOfFn (keyed 1 1 16 (mgmt 28676 [] ha)) (mgmt 28676 [] ha).fn) < 16 ∧
    openable (busyDov (keyed 1 1 16 (mgmt 28676 [] ha))) 7 28676 = some (mgmt 28676 [] ha) ∧
    16 ≤ openRequests (busyDov (keyed 1 1 16 (mgmt 28676 [] ha))) (cabOfFn (busyDov (keyed 1 1 16 (mgmt 28676 [] ha))) (mgmt 28676 [] ha).fn) ∧
    openable (withJob (mgmt 28673)) 7 28673 = some (mgmt 28673) ∧ openRequests (withJob (mgmt 28673)) (cabOfFn (withJob (mgmt 28673)) (mgmt 28673).fn) < 16 ∧
    openable (withJob (mgmt 28675)) 7 28675 = some (mgmt 28675) ∧ openRequests (withJob (mgmt 28675)) (cabOfFn (withJob (mgmt 28675)) (mgmt 28675).fn) < 16 ∧
    openable (withJob (mgmt 28690)) 7 28690 = some (mgmt 28690) ∧ openRequests (withJob (mgmt 28690)) (cabOfFn (withJob (mgmt 28690)) (mgmt 28690).fn) < 16 ∧
    openable (withJob (mgmt 36880)) 7 36880 = some (mgmt 36880) ∧ openRequests (withJob (mgmt 36880)) (cabOfFn (withJob (mgmt 36880)) (mgmt 36880).fn) < 16 ∧
    openable (withJob (mgmt 36881)) 7 36881 = some (mgmt 36881) ∧ openRequests (withJob (mgmt 36881)) (cabOfFn (withJob (mgmt 36881)) (mgmt 36881).fn) < 16 ∧
    openable (withJob (mgmt 45072)) 7 45072 = some (mgmt 45072) ∧ openRequests (withJob (mgmt 45072)) (cabOfFn (withJob (mgmt 45072)) (mgmt 45072).fn) < 16 ∧
    openable (withJob (mgmt 28674)) 7 28674 = some (mgmt 28674) :=
  by and_intros <;> decide

/-- States and operands that meet the hypotheses of HandlesAreAdoptedReadAndFreed, clause by clause. -/
theorem witness_HandlesAreAdoptedReadAndFreed :
    runnable (heState heDecJob [(5, heRec)]) 7 16417 = some heDecJob ∧ runnable (heState heFreeJob [(5, heRec)]) 7 16424 = some heFreeJob ∧
    heOf? (heState heFreeJob [(5, heRec)]) heFreeJob.desc.handleA = some heRec ∧
    (∀ e ∈ liveJobs (heState heFreeJob [(5, heRec)]), namesHe e.2 heRec.handle = false) :=
  by and_intros <;> decide

/-- States and operands that meet the hypotheses of LaneCyclesRun, clause by clause. -/
theorem witness_LaneCyclesRun :
    lanesPolled starting = true ∧ lanePolled starting 2 = true ∧ starting.time.L % 128 = 2 * 2 ∧ (starting.lane 2).cycle = none ∧
    (asking.lane 2).cycle = some aCycle ∧ aCycle.failed = false ∧ aCycle.resp = none ∧ (failed.lane 2).cycle = some lostCycle ∧ lanesPolled failed = true ∧
    lanePolled failed 2 = true ∧ lostCycle.failed = true ∧ lostCycle.attempt = 1 ∧ failed.time.L = lostCycle.frame * 128 + 2 * 2 + 64 :=
  by and_intros <;> decide

/-- States and operands that meet the hypotheses of LanesAreDecidedJoinedAndFrozen, clause by clause. -/
theorem witness_LanesAreDecidedJoinedAndFrozen :
    2 < 48 ∧ lanesPolled (decided (some (aPayload 0)) 0) = true ∧ (decided (some (aPayload 0)) 0).time.genStopped = false ∧
    ((decided (some (aPayload 0)) 0).lane 2).cycle = some (heard0 0) ∧ (decided (some (aPayload 0)) 0).time.L = (heard0 0).frame * 128 + 2 * 2 + 96 ∧
    (heard0 0).identify = false ∧ (laneLdg (decided (some (aPayload 0)) 0) 2).closeDue = none ∧ laneGood (decided (some (aPayload 0)) 0) 2 = true ∧
    (heard0 0).resp = some (aPayload 0) ∧ ((decided (some (aPayload 0)) 0).lane 2).power = some (leAt (aPayload 0) 18 4) ∧
    ((decided (some (aPayload 0)) 0).lane 2).st = LaneState.live ∧ hasJoined ((decided (some (aPayload 0)) 0).lane 2) = true ∧
    readingCause (laneLdg (decided (some (aPayload 0)) 0) 2).view ((decided (some (aPayload 0)) 0).lane 2) (heard0 0) (leAt (aPayload 0) 0 2) (leAt (aPayload 0) 2 8) (leAt (aPayload 0) 10 8) true = none ∧
    lanesPolled (decided (some (aPayload 1)) 0) = true ∧ (decided (some (aPayload 1)) 0).time.genStopped = false ∧
    ((decided (some (aPayload 1)) 0).lane 2).cycle = some (heard0 1) ∧ (decided (some (aPayload 1)) 0).time.L = (heard0 1).frame * 128 + 2 * 2 + 96 ∧
    (heard0 1).identify = false ∧ (laneLdg (decided (some (aPayload 1)) 0) 2).closeDue = none ∧ (heard0 1).resp = some (aPayload 1) ∧
    ((decided (some (aPayload 1)) 0).lane 2).power = some (leAt (aPayload 1) 18 4) ∧ ((decided (some (aPayload 1)) 0).lane 2).st = LaneState.live ∧
    readingCause (laneLdg (decided (some (aPayload 1)) 0) 2).view ((decided (some (aPayload 1)) 0).lane 2) (heard0 1) (leAt (aPayload 1) 0 2) (leAt (aPayload 1) 2 8) (leAt (aPayload 1) 10 8) (hasJoined ((decided (some (aPayload 1)) 0).lane 2)) = some 22 ∧
    lanesPolled (decided none 6) = true ∧ (decided none 6).time.genStopped = false ∧ ((decided none 6).lane 2).cycle = some aCycle ∧
    (decided none 6).time.L = aCycle.frame * 128 + 2 * 2 + 96 ∧ aCycle.identify = false ∧ (laneLdg (decided none 6) 2).closeDue = none ∧ aCycle.resp = none ∧
    ((decided none 6).lane 2).st = LaneState.live ∧ lanesPolled joining = true ∧ (joining.lane 2).joinFrom = some 40000 ∧ (laneRec? joining 2).isSome = true ∧
    40000 ≤ joining.time.L / 128 ∧ joining.time.L % 128 = 2 * 2 ∧ lanesPolled asking = true ∧ (laneRec? asking 2).isSome = true ∧
    isFrozen asking 4 2 = false ∧ (asking.lane 2).joinFrom = none :=
  by and_intros <;> decide

/-- States and operands that meet the hypotheses of LanesReportAndCount, clause by clause. -/
theorem witness_LanesReportAndCount :
    (asking.lane 2).cycle = some aCycle ∧ aCycle.failed = false ∧ aCycle.resp = none ∧
    checkResponse 2 (((asking.lane 2).seq + 65535) % 65536) aCycle.identify reading = Except.ok (aPayload 0) ∧ aCycle.identify = false ∧
    (askingId.lane 2).cycle = some idCycle ∧ idCycle.failed = false ∧ idCycle.resp = none ∧
    checkResponse 2 (((askingId.lane 2).seq + 65535) % 65536) idCycle.identify identity = Except.ok (zeros 16 ++ [3, 0, 4, 0]) ∧ idCycle.identify = true ∧
    pulseUsed pulsing 2 = true ∧ lanesPolled pulsing = true ∧ (pulsing.lane 2).counting = true ∧ pulseUsed (laneUp 5 { }) 3 = false :=
  by and_intros <;> decide

/-- States and operands that meet the hypotheses of LatticeKeysAndSignatures, clause by clause. -/
theorem witness_LatticeKeysAndSignatures :
    keyOf? (keyed 72 1 800 (bigJob 16386 [1])) (bigJob 16386 [1]).desc.handleA = some (theKey 72 800) ∧
    runnable (keyed 72 1 800 (bigJob 16386 [1])) 7 16386 = some (bigJob 16386 [1]) ∧ (bigJob 16386 [1]).desc.handleA ≠ noHandle ∧
    (theKey 72 800).material.length = kemEk (pSet (bigJob 16386 [1]).desc) ∧ pDest (bigJob 16386 [1]).desc = 0 ∧
    keyOf? (keyed 64 1 96 (bigJob 16387 [1])) (bigJob 16387 [1]).desc.handleA = some (theKey 64 96) ∧
    runnable (keyed 64 1 96 (bigJob 16387 [1])) 7 16387 = some (bigJob 16387 [1]) ∧ pDest (bigJob 16387 [1]).desc = 0 ∧
    keyOf? (keyed 80 1 32 (bigJob 16400 [1])) (bigJob 16400 [1]).desc.handleA = some (theKey 80 32) ∧
    runnable (keyed 80 1 32 (bigJob 16400 [1])) 7 16400 = some (bigJob 16400 [1]) :=
  by and_intros <;> decide

/-- States and operands that meet the hypotheses of LifecycleTransitions, clause by clause. -/
theorem witness_LifecycleTransitions :
    runnable (lcsUp 3 (transitionJob true)) 7 45057 = some (transitionJob true) ∧ 4 = (transitionJob true).desc.par 40 1 ∧
    awaiting (lcsUp 3 (transitionJob true)) 7 = false ∧ (lcsUp 3 (transitionJob true)).lcs.pendingReset = false ∧ (transitionJob true).approved = true ∧
    runnable (lcsUp 2 transition3) 7 45057 = some transition3 ∧ 3 = transition3.desc.par 40 1 ∧ awaiting (lcsUp 2 transition3) 7 = false ∧
    (lcsUp 2 transition3).lcs.pendingReset = false ∧ nextStep (lcsUp 2 transition3) 3 = some 2 ∧ transition3.approved = false ∧
    ((lcsUp 2 transition3).lcs.code ≠ 3 ∨ (lcsUp 2 transition3).car.active.bare = true) ∧
    runnable (lcsUp 3 (transitionJob false)) 7 45057 = some (transitionJob false) ∧ 4 = (transitionJob false).desc.par 40 1 ∧
    awaiting (lcsUp 3 (transitionJob false)) 7 = false ∧ (lcsUp 3 (transitionJob false)).lcs.pendingReset = false ∧
    nextStep (lcsUp 3 (transitionJob false)) 4 = some 3 ∧ (transitionJob false).approved = false ∧ (lcsUp 3 (transitionJob false)).lcs.code = 3 ∧
    (lcsUp 3 (transitionJob false)).car.active.bare = false ∧
    openRequests (lcsUp 3 (transitionJob false)) (cabOfFn (lcsUp 3 (transitionJob false)) (transitionJob false).fn) < 16 ∧
    nextStep (lcsUp 3 (transitionJob true)) 4 = some 3 ∧ runnable (lcsUp 1 (transitionJob false)) 7 45057 = some (transitionJob false) ∧
    awaiting (lcsUp 1 (transitionJob false)) 7 = false ∧ (lcsUp 1 (transitionJob false)).lcs.pendingReset = false ∧
    nextStep (lcsUp 1 (transitionJob false)) 4 = none :=
  by and_intros <;> decide

/-- States and operands that meet the hypotheses of LimitsCeilingsAndFlash, clause by clause. -/
theorem witness_LimitsCeilingsAndFlash :
    allTiles.contains 33 = true ∧ 128 ≤ (tileHot.tile 33).hot ∧ (tileHot.tile 33).limit < 3 ∧ allTiles.contains 34 = true ∧ (tileHot.tile 34).hot < 128 ∧
    (tileHot.tile 34).margin < 16 ∧ 2 ^ 20 ≤ (tileHot.tile 34).clean ∧ i2cUp tileHot = true ∧ [1].length ≠ 4 ∧ writingUp.pwr.write = some aWrite ∧
    writingUp.jobOf aWrite.job = some fwJob ∧ fwJob.finished = false ∧ [1, 2] ≠ aWrite.image :=
  by and_intros <;> decide

/-- States and operands that meet the hypotheses of MessagesAreAnswered, clause by clause. -/
theorem witness_MessagesAreAnswered :
    calls answering 4 = true ∧ 0 < 4 ∧ 4 ≤ 4088 ∧ (answering.world 4).awaiting = [aMsg] ∧ answering.jobOf aMsg.job = some awaitingJob ∧
    awaitingJob.finished = false ∧ 4 ≤ awaitingJob.desc.outCap ∧ 4088 < 4089 ∧ calls world4 4 = true ∧ (world4.world 4).awaiting = [] :=
  by and_intros <;> decide

/-- States and operands that meet the hypotheses of ModularArithmetic, clause by clause. -/
theorem witness_ModularArithmetic :
    runnable (withJob modJob3) 7 12336 = some modJob3 ∧ beNat (List.take (8 * bMod modJob3.desc) modJob3.input) % 2 = 1 ∧
    3 ≤ beNat (List.take (8 * bMod modJob3.desc) modJob3.input) ∧ allZero (List.take 8 modJob3.input) = false ∧
    runnable (withJob modEven) 7 12336 = some modEven ∧ beNat (List.take (8 * bMod modEven.desc) modEven.input) % 2 = 0 :=
  by and_intros <;> decide

/-- States and operands that meet the hypotheses of MonitorCalls, clause by clause. -/
theorem witness_MonitorCalls :
    calls world4 4 = true ∧ calls inMsg 4 = true ∧ (inMsg.world 4).inbox = some aMsg ∧ (inMsg.world 4).taken = false ∧
    ((world4.world 4).inbox = none ∨ (world4.world 4).taken = true) ∧ bufferOk world4 4 4096 32 = true ∧ bufferOk world4 4 4096 64 = true ∧
    (world4.car.active.lanes.any fun l => l.lane == 2 && some l.cab == Option.map (fun x => x.cab) (appletRec? world4 4)) = true ∧
    (world4.car.active.lanes.any fun l => l.lane == 4 && some l.cab == Option.map (fun x => x.cab) (appletRec? world4 4)) = false :=
  by and_intros <;> decide

/-- States and operands that meet the hypotheses of PageCommands, for PAGE_MAP, PAGE_UNMAP and PAGE_PROTECT, on pages that are pinned and on pages that are not. -/
theorem witness_PageCommands :
    runnable (withJob nopJob) 7 1 = some nopJob ∧ runnable (withJob (pageJob 57345 1 3)) 7 57345 = some (pageJob 57345 1 3) ∧
    (57345 = 57345 → bit ((pageJob 57345 1 3).desc.par 59 1) 0 = true → ∀ f ∈ mapFrames (pageJob 57345 1 3), f < 2 ^ 48) ∧
    List.find? (pagePinned (withJob (pageJob 57345 1 3))) (cmdPages (pageJob 57345 1 3)) = some 1 ∧
    runnable (withJob (pageJob 57345 20 2)) 7 57345 = some (pageJob 57345 20 2) ∧
    (57345 = 57345 → bit ((pageJob 57345 20 2).desc.par 59 1) 0 = true → ∀ f ∈ mapFrames (pageJob 57345 20 2), f < 2 ^ 48) ∧
    List.find? (pagePinned (withJob (pageJob 57345 20 2))) (cmdPages (pageJob 57345 20 2)) = none ∧
    runnable (withJob (pageJob 57346 1 3)) 7 57346 = some (pageJob 57346 1 3) ∧
    (57346 = 57345 → bit ((pageJob 57346 1 3).desc.par 59 1) 0 = true → ∀ f ∈ mapFrames (pageJob 57346 1 3), f < 2 ^ 48) ∧
    List.find? (pagePinned (withJob (pageJob 57346 1 3))) (cmdPages (pageJob 57346 1 3)) = some 1 ∧
    runnable (withJob (pageJob 57346 20 2)) 7 57346 = some (pageJob 57346 20 2) ∧
    (57346 = 57345 → bit ((pageJob 57346 20 2).desc.par 59 1) 0 = true → ∀ f ∈ mapFrames (pageJob 57346 20 2), f < 2 ^ 48) ∧
    List.find? (pagePinned (withJob (pageJob 57346 20 2))) (cmdPages (pageJob 57346 20 2)) = none ∧
    runnable (withJob (pageJob 57347 1 3)) 7 57347 = some (pageJob 57347 1 3) ∧
    (57347 = 57345 → bit ((pageJob 57347 1 3).desc.par 59 1) 0 = true → ∀ f ∈ mapFrames (pageJob 57347 1 3), f < 2 ^ 48) ∧
    List.find? (pagePinned (withJob (pageJob 57347 1 3))) (cmdPages (pageJob 57347 1 3)) = some 1 ∧
    runnable (withJob (pageJob 57347 20 2)) 7 57347 = some (pageJob 57347 20 2) ∧
    (57347 = 57345 → bit ((pageJob 57347 20 2).desc.par 59 1) 0 = true → ∀ f ∈ mapFrames (pageJob 57347 20 2), f < 2 ^ 48) ∧
    List.find? (pagePinned (withJob (pageJob 57347 20 2))) (cmdPages (pageJob 57347 20 2)) = none ∧
    runnable (withJob (pageJob 57348 1 1)) 7 57348 = some (pageJob 57348 1 1) :=
  by and_intros <;> decide

/-- States and operands that meet the hypotheses of ParkedPagesRepeatAndEnd, clause by clause. -/
theorem witness_ParkedPagesRepeatAndEnd :
    List.find? (fun w => w.fn == 0 && w.page == 5) wantedState.job.wanted = some aWanted ∧ aWanted.lastL + 1024 ≤ wantedState.time.L ∧
    wantedState.job.pot.get? 5 = none ∧ parkedOn wantedState 0 5 ≠ [] ∧ (withJob bulkParked).jobOf 7 = some bulkParked ∧
    bulkParked.park = some (5, 1, 5000000 - 2 ^ 20) ∧ bulkParked.finished = false ∧ (bulkParked.desc.cls = 2 ∨ bulkParked.desc.cls = 3) ∧
    5000000 - 2 ^ 20 + 2 ^ 20 ≤ (withJob bulkParked).time.L ∧ (withJob timelyParked).jobOf 7 = some timelyParked ∧ timelyParked.park = some (5, 1, 4000000) ∧
    timelyParked.desc.cls < 2 :=
  by and_intros <;> decide

/-- States and operands that meet the hypotheses of PlanningAndStaging, clause by clause. -/
theorem witness_PlanningAndStaging :
    (withJob lateTimely).jobOf 7 = some lateTimely ∧ lateTimely.finished = false ∧ lateTimely.staged = false ∧ lateTimely.park = none ∧
    (lateTimely.desc.cls = 0 ∨ lateTimely.st ≠ SlotState.queued) ∧ stagePages lateTimely [1, 2, 3] [] [] = [(5, 20480)] ∧
    meetPage (withJob lateTimely) lateTimely.fn 1 5 = PageMeet.fault ∧ (withJob readJob).time.genRunning = true ∧ (withJob readJob).glb.phase = Phase.run ∧
    (withJob readJob).jobOf 7 = some readJob ∧ readJob.finished = false ∧ readJob.staged = false ∧ readJob.park = none ∧
    (readJob.desc.cls = 0 ∨ readJob.st ≠ SlotState.queued) ∧ readJob.desc.opcode ≠ 28677 ∧
    (∀ p ∈ stagePages readJob (zeros 40) (zeros 4) [], meetPage (withJob readJob) readJob.fn 1 p.1 = PageMeet.ok) ∧ (withJob lateJob).jobOf 7 = some lateJob ∧
    lateJob.finished = false ∧ lateJob.staged = false ∧ lateJob.park = none ∧ (lateJob.desc.cls = 0 ∨ lateJob.st ≠ SlotState.queued) ∧
    stagePages lateJob [1, 2, 3] [] [] = [(5, 20480)] ∧ meetPage (withJob lateJob) lateJob.fn 1 5 = PageMeet.fault ∧
    (withJob ferriedJob).jobOf 7 = some ferriedJob ∧ ferriedJob.finished = false ∧ ferriedJob.staged = false ∧ ferriedJob.park = none ∧
    (ferriedJob.desc.cls = 0 ∨ ferriedJob.st ≠ SlotState.queued) ∧
    (stageBytes (withJob ferriedJob).time.L [1, 2, 3, 4, 5, 6, 9] [] [] ferriedJob).staged = true ∧ ferriedJob.answer = none ∧
    ferriedJob.desc.opcode = 28677 ∧
    leAt (stageBytes (withJob ferriedJob).time.L [1, 2, 3, 4, 5, 6, 9] [] [] ferriedJob).input 6 1 ≠ cabOfFn (withJob ferriedJob) ferriedJob.fn ∧
    (∀ p ∈ stagePages ferriedJob [1, 2, 3, 4, 5, 6, 9] [] [], meetPage (withJob ferriedJob) ferriedJob.fn 1 p.1 = PageMeet.ok) :=
  by and_intros <;> decide

/-- States and operands that meet the hypotheses of RandomBytesAreRead, clause by clause. -/
theorem witness_RandomBytesAreRead :
    runnable (withJob (rngJob 1 0 40) blockedUp) 7 20481 = some (rngJob 1 0 40) ∧ (rngJob 1 0 40).desc.par 40 1 ≠ 0 ∧
    runnable (withJob (rngJob 0 0 40)) 7 20481 = some (rngJob 0 0 40) ∧ (rngJob 0 0 40).desc.par 40 1 = 0 ∧ drbgServes (withJob (rngJob 0 0 40)) = true ∧
    bit ((rngJob 0 0 40).desc.par 41 1) 0 = false ∧ runnable (withJob (rngJob 0 1 40)) 7 20481 = some (rngJob 0 1 40) ∧ (rngJob 0 1 40).desc.par 40 1 = 0 ∧
    drbgServes (withJob (rngJob 0 1 40)) = true ∧ bit ((rngJob 0 1 40).desc.par 41 1) 0 = true ∧
    runnable (withJob (rngJob 0 0 40) blockedUp) 7 20481 = some (rngJob 0 0 40) ∧ drbgServes (withJob (rngJob 0 0 40) blockedUp) = false :=
  by and_intros <;> decide

/-- States and operands that meet the hypotheses of RecordsAreRead, clause by clause. -/
theorem witness_RecordsAreRead :
    min 4096 (maxOutput (recordsUp (snapshotJob 1))) = min (snapshotJob 1).desc.outCap (maxOutput (recordsUp (snapshotJob 1))) ∧
    runnable (recordsUp (snapshotJob 1)) 7 49153 = some (snapshotJob 1) ∧ bit ((snapshotJob 1).desc.par 44 1) 1 = false ∧
    min 4096 (maxOutput (recordsUp (snapshotJob 1))) = min (journalJob 1).desc.outCap (maxOutput (recordsUp (journalJob 1))) ∧
    runnable (recordsUp (journalJob 1)) 7 49154 = some (journalJob 1) :=
  by and_intros <;> decide

/-- States and operands that meet the hypotheses of RegisterAccesses, clause by clause. -/
theorem witness_RegisterAccesses :
    up.hlk.up = true ∧ fnExists up 0 = true ∧ 3211300 % 4 = 0 ∧ 0 ≠ dapPath ∧ hostReaches up 0 = true ∧ inBar 0 3211300 = true ∧
    accessOn 0 3211300 = RegAccess.rw 4294963200 ∧ readReaches up 0 3211300 = true ∧ 4 % 4 = 0 :=
  by and_intros <;> decide

/-- States and operands that meet the hypotheses of RequestsAreReadAndLapse, clause by clause. -/
theorem witness_RequestsAreReadAndLapse :
    runnable (withRequests queryJob) 7 28689 = some queryJob ∧ List.find? (fun r => r.num == 3) lapseUp.dov.reqs = some oldRequest ∧
    oldRequest.openL + 2 ^ 20 ≤ lapseUp.time.L ∧ lateApproval lapseUp oldRequest = false :=
  by and_intros <;> decide

/-- States and operands that meet the hypotheses of RingsAreDisabled, clause by clause. -/
theorem witness_RingsAreDisabled :
    up.hlk.up = true ∧ fnExists up 0 = true ∧ (up.sqOf 0 1).st = RingState.active ∧ cqFault.hlk.up = true ∧ fnExists cqFault 0 = true ∧
    (cqFault.cqOf 0 1).st = RingState.fault ∧ (up.cqOf 0 1).st = RingState.active ∧
    (List.any (up.fnOf 0).sqs fun e => e.2.cq == 1 && e.2.st != RingState.off) = true :=
  by and_intros <;> decide

/-- States and operands that meet the hypotheses of RingsAreEnabled, clause by clause. -/
theorem witness_RingsAreEnabled :
    sqOff.hlk.up = true ∧ fnExists sqOff 0 = true ∧ (sqOff.sqOf 0 0).st = RingState.off ∧ (sqOff.cqOf 0 7).st = RingState.off :=
  by and_intros <;> decide

/-- States and operands that meet the hypotheses of RunsEnd, for each of the ways a run ends. -/
theorem witness_RunsEnd :
    (Instr.warmReset = Instr.warmReset ∧ 1 = 1 ∧ (up.glb.phase = Phase.run ∨ up.glb.phase = Phase.dawn ∨ up.glb.phase = Phase.backoff ∨ up.glb.phase = Phase.pwrfail) ∨ Instr.warmReset = Instr.bootRetry ∧ 1 = 6 ∧ up.glb.phase = Phase.backoff ∨ Instr.warmReset = Instr.powerRecovered ∧ 1 = 4 ∧ up.glb.phase = Phase.pwrfail ∧ up.tam.disarmed = true) ∧
    (Instr.warmReset = Instr.warmReset ∧ 1 = 1 ∧ (failing.glb.phase = Phase.run ∨ failing.glb.phase = Phase.dawn ∨ failing.glb.phase = Phase.backoff ∨ failing.glb.phase = Phase.pwrfail) ∨ Instr.warmReset = Instr.bootRetry ∧ 1 = 6 ∧ failing.glb.phase = Phase.backoff ∨ Instr.warmReset = Instr.powerRecovered ∧ 1 = 4 ∧ failing.glb.phase = Phase.pwrfail ∧ failing.tam.disarmed = true) ∧
    (Instr.bootRetry = Instr.warmReset ∧ 6 = 1 ∧ (waitingUp.glb.phase = Phase.run ∨ waitingUp.glb.phase = Phase.dawn ∨ waitingUp.glb.phase = Phase.backoff ∨ waitingUp.glb.phase = Phase.pwrfail) ∨ Instr.bootRetry = Instr.bootRetry ∧ 6 = 6 ∧ waitingUp.glb.phase = Phase.backoff ∨ Instr.bootRetry = Instr.powerRecovered ∧ 6 = 4 ∧ waitingUp.glb.phase = Phase.pwrfail ∧ waitingUp.tam.disarmed = true) ∧
    (Instr.powerRecovered = Instr.warmReset ∧ 4 = 1 ∧ (heldDown.glb.phase = Phase.run ∨ heldDown.glb.phase = Phase.dawn ∨ heldDown.glb.phase = Phase.backoff ∨ heldDown.glb.phase = Phase.pwrfail) ∨ Instr.powerRecovered = Instr.bootRetry ∧ 4 = 6 ∧ heldDown.glb.phase = Phase.backoff ∨ Instr.powerRecovered = Instr.powerRecovered ∧ 4 = 4 ∧ heldDown.glb.phase = Phase.pwrfail ∧ heldDown.tam.disarmed = true) :=
  by and_intros <;> decide

/-- States and operands that meet the hypotheses of SecretAgreement, clause by clause. -/
theorem witness_SecretAgreement :
    keyOf? (keyed 32 1 32 (bigJob 12306 [] (4 :: seqBytes 64))) (bigJob 12306 [] (4 :: seqBytes 64)).desc.handleA = some (theKey 32 32) ∧
    bDest (bigJob 12306 [] (4 :: seqBytes 64)).desc = 0 ∧
    runnable (keyed 32 1 32 (bigJob 12306 [] (4 :: seqBytes 64))) 7 12306 = some (bigJob 12306 [] (4 :: seqBytes 64)) ∧
    peerOf (keyed 32 1 32 (bigJob 12306 [] (4 :: seqBytes 64))) (bigJob 12306 [] (4 :: seqBytes 64)) = some (4 :: seqBytes 64) ∧
    keyOf? (keyed 50 1 32 (bigJob 12322 [] (seqBytes 31))) (bigJob 12322 [] (seqBytes 31)).desc.handleA = some (theKey 50 32) ∧
    bDest (bigJob 12322 [] (seqBytes 31)).desc = 0 ∧ runnable (keyed 50 1 32 (bigJob 12322 [] (seqBytes 31))) 7 12322 = some (bigJob 12322 [] (seqBytes 31)) ∧
    peerOf (keyed 50 1 32 (bigJob 12322 [] (seqBytes 31))) (bigJob 12322 [] (seqBytes 31)) = some (seqBytes 31) ∧
    (seqBytes 31).length ≠ xLen (theKey 50 32).attr.type ∧
    keyOf? (keyed 50 1 32 (bigJob 12322 [] (seqBytes 32))) (bigJob 12322 [] (seqBytes 32)).desc.handleA = some (theKey 50 32) ∧
    bDest (bigJob 12322 [] (seqBytes 32)).desc = 0 ∧ runnable (keyed 50 1 32 (bigJob 12322 [] (seqBytes 32))) 7 12322 = some (bigJob 12322 [] (seqBytes 32)) ∧
    peerOf (keyed 50 1 32 (bigJob 12322 [] (seqBytes 32))) (bigJob 12322 [] (seqBytes 32)) = some (seqBytes 32) ∧
    (seqBytes 32).length = xLen (theKey 50 32).attr.type ∧
    keyOf? (keyed 16 1 456 (bigJob 12292 [] [0, 0])) (bigJob 12292 [] [0, 0]).desc.handleA = some (theKey 16 456) ∧ bDest (bigJob 12292 [] [0, 0]).desc = 0 ∧
    runnable (keyed 16 1 456 (bigJob 12292 [] [0, 0])) 7 12292 = some (bigJob 12292 [] [0, 0]) ∧
    beNat (bigJob 12292 [] [0, 0]).input < rsaModulus (theKey 16 456) ∧
    keyOf? (keyed 16 1 456 (bigJob 12292 [] bigInput)) (bigJob 12292 [] bigInput).desc.handleA = some (theKey 16 456) ∧
    bDest (bigJob 12292 [] bigInput).desc = 0 ∧ runnable (keyed 16 1 456 (bigJob 12292 [] bigInput)) 7 12292 = some (bigJob 12292 [] bigInput) ∧
    rsaModulus (theKey 16 456) ≤ beNat (bigJob 12292 [] bigInput).input :=
  by and_intros <;> decide

/-- States and operands that meet the hypotheses of SelfTestsRun, clause by clause. -/
theorem witness_SelfTestsRun :
    testingLast.bst.running = some lastRun ∧ lastRun.todo = [5] ∧ 0 < lastRun.endL ∧ lastRun.endL ≤ testingLast.time.L ∧ bit dapBusy.lcs.rights 3 = true ∧
    dapBusy.time.genRunning = true ∧ dapBusy.bst.running.isSome = true ∧ bit dapTest.lcs.rights 3 = true ∧ dapTest.time.genRunning = true ∧
    dapTest.bst.running = none ∧ dapTest.bst.waiting = [] ∧ 1 ≤ dapTest.bst.dapScope ∧ dapTest.bst.dapScope ≤ 3 ∧ mapParts dapTest.bst.dapMap ≠ [] ∧
    bit testing.lcs.rights 3 = false :=
  by and_intros <;> decide

/-- States and operands that meet the hypotheses of Sha3IsTheDigest, clause by clause. -/
theorem witness_Sha3IsTheDigest :
    runnable (withJob hashJob) 7 8193 = some hashJob ∧ hashJob.desc.opcode = 8193 ∧ gAlg hashJob.desc = 7 ∧ gInit hashJob.desc = true ∧
    gFinish hashJob.desc = true ∧ gDest hashJob.desc = 0 ∧ (gMessage (withJob hashJob) hashJob.desc hashJob.input).length ≤ 2 ^ 61 - 1 :=
  by and_intros <;> decide

/-- States and operands that meet the hypotheses of SignatureVerdicts, clause by clause. -/
theorem witness_SignatureVerdicts :
    keyOf? (keyed 17 1 264 (bigJob 12290)) (bigJob 12290).desc.handleA = some (theKey 17 264) ∧
    runnable (keyed 17 1 264 (bigJob 12290)) 7 12290 = some (bigJob 12290) ∧
    keyOf? (keyed 40 1 65 (bigJob 12305)) (bigJob 12305).desc.handleA = some (theKey 40 65) ∧
    runnable (keyed 40 1 65 (bigJob 12305)) 7 12305 = some (bigJob 12305) ∧
    keyOf? (keyed 56 1 32 (bigJob 12321)) (bigJob 12321).desc.handleA = some (theKey 56 32) ∧
    runnable (keyed 56 1 32 (bigJob 12321)) 7 12321 = some (bigJob 12321) ∧
    keyOf? (keyed 88 1 32 (bigJob 16401 [1])) (bigJob 16401 [1]).desc.handleA = some (theKey 88 32) ∧
    runnable (keyed 88 1 32 (bigJob 16401 [1])) 7 16401 = some (bigJob 16401 [1]) :=
  by and_intros <;> decide

/-- States and operands that meet the hypotheses of StepIdlesOnAnEmptyQueue, clause by clause. -/
theorem witness_StepIdlesOnAnEmptyQueue :
    (withJob nopJob).pending = [] :=
  by decide

/-- States and operands that meet the hypotheses of SubmissionDoorbells, clause by clause. -/
theorem witness_SubmissionDoorbells :
    up.hlk.up = true ∧ fnExists up 0 = true ∧ (up.sqOf 0 1).st = RingState.active ∧ 0 ≤ diff32 266 (up.sqOf 0 1).head ∧
    diff32 266 (up.sqOf 0 1).head ≤ ↑(2 ^ (up.sqOf 0 1).sizeLog2) ∧ diff32 0 (up.sqOf 0 1).head < 0 ∧ (up.sqOf 0 0).st ≠ RingState.active :=
  by and_intros <;> decide

/-- States and operands that meet the hypotheses of SuppliesAndZeroization, clause by clause. -/
theorem witness_SuppliesAndZeroization :
    up.tam.up = true ∧ 2399 < 2400 ∧ up.glb.phase ≠ Phase.night ∧ 2400 ≤ 5000000 - 256 ∧ darkAon.tam.up = false ∧ failing.glb.phase = Phase.pwrfail ∧
    failing.tam.disarmed = false ∧ zeroing.tam.zeroDue = some (5000000 - 256) ∧ 5000000 - 256 + 256 ≤ zeroing.time.L :=
  by and_intros <;> decide

/-- States and operands that meet the hypotheses of TamperSamples, clause by clause. -/
theorem witness_TamperSamples :
    tripped.tam.up = true ∧ darkAon.tam.up = false :=
  by and_intros <;> decide

/-- States and operands that meet the hypotheses of TestsCeilingsAndNight, clause by clause. -/
theorem witness_TestsCeilingsAndNight :
    runnable (withJob (testJob 4)) 7 53249 = some (testJob 4) ∧ (testJob 4).desc.par 40 1 = 4 ∧ runnable (withJob (testJob 2)) 7 53249 = some (testJob 2) ∧
    (testJob 2).desc.par 40 1 ≠ 4 ∧ ((withJob (testJob 2)).bst.waiting.any fun r => r.job == some 7) = false ∧
    Option.any (fun r => r.job == some 7) (withJob (testJob 2)).bst.running = false ∧ (withJob (testJob 2)).bst.waiting.length < 8 ∧
    runnable (withJob ceilingJob) 7 53250 = some ceilingJob ∧ runnable busyNight 7 53251 = some nightJob ∧ nightBusy busyNight = true ∧
    runnable nightUp 7 53251 = some nightJob ∧ nightBusy nightUp = false :=
  by and_intros <;> decide

/-- States and operands that meet the hypotheses of TheDrbgIsSeededAndBlocked, clause by clause. -/
theorem witness_TheDrbgIsSeededAndBlocked :
    seedless.rng.running = true ∧ seedless.rng.ready = false ∧ seedless.rng.katFailed = false ∧ 384 ≤ poolFree seedless ∧ reseedUp.rng.ready = true ∧
    reseedUp.rng.katFailed = false ∧ reseedUp.rng.lastReseedL ≠ reseedUp.time.L ∧ (reseedUp.time.L % 64 = 0 ∨ reseedUp.rng.blocked = true) ∧
    384 ≤ poolFree reseedUp ∧ dryUp.rng.ready = true ∧ dryUp.rng.katFailed = false ∧ dryUp.rng.lastReseedL ≠ dryUp.time.L ∧
    (dryUp.time.L % 64 = 0 ∨ dryUp.rng.blocked = true) ∧ poolFree dryUp < 384 ∧ dryUp.time.L % 64 = 0 ∧ reseedUp.rng.blocked = false ∧
    reseedUp.rng.lastReseedL + 1024 ≤ reseedUp.time.L ∧ freshUp.rng.ready = true ∧ freshUp.rng.blocked = false ∧
    freshUp.time.L < freshUp.rng.lastReseedL + 1024 ∧ seedless.glb.phase = Phase.run :=
  by and_intros <;> decide

/-- States and operands that meet the hypotheses of TheLinkGoesDownAndUp, clause by clause. -/
theorem witness_TheLinkGoesDownAndUp :
    withVf.hlk.up = true ∧ linkOff.hlk.up = false ∧ (linkOff.glb.phase = Phase.dawn ∨ linkOff.glb.phase = Phase.run) ∧ linkOff.lcs.code ≠ 0 :=
  by and_intros <;> decide

/-- States and operands that meet the hypotheses of TilesAndSourcesFail, clause by clause. -/
theorem witness_TilesAndSourcesFail :
    tileUp.glb.phase = Phase.run ∧ allTiles.contains 33 = true ∧ (tileUp.tile 33).parityOut = false ∧ windowUp.glb.phase = Phase.run ∧
    sourceNumbers.contains 17 = true ∧ windowUp.rng.running = true ∧ (sourceOf windowUp 17).failed = false ∧ (sourceOf windowUp 17).tap = none ∧
    (16 ≤ 17 ∧ true = true ∨ 17 < 16 ∧ ∃ a c, (sourceOf windowUp 17).half = some a ∧ (sourceOf windowUp 17).vn = some c ∧ a ≠ true ∧ true = (c != a)) ∧
    sampleFault 17 (addSample true (sourceOf windowUp 17)) = none ∧ (sourceOf windowUp 17).win.length = 1023 ∧ (sourceOf windowUp 17).tainted = false ∧
    ((sourceOf windowUp 17).passed = true ∨ 17 < 16 ∨ 16 ≤ (sourceOf windowUp 17).transits) ∧ faultUp.glb.phase = Phase.run ∧ faultUp.rng.running = true ∧
    (sourceOf faultUp 17).failed = false ∧ (sourceOf faultUp 17).tap = none ∧
    (16 ≤ 17 ∧ true = true ∨ 17 < 16 ∧ ∃ a c, (sourceOf faultUp 17).half = some a ∧ (sourceOf faultUp 17).vn = some c ∧ a ≠ true ∧ true = (c != a)) ∧
    sampleFault 17 (addSample true (sourceOf faultUp 17)) = some 1 ∧ halfUp.glb.phase = Phase.run ∧ 2 < 4 ∧ halfUp.rng.running = true ∧
    (sourceOf halfUp 2).half = some true ∧ false ≠ true ∧ (sourceOf halfUp 2).vn = none :=
  by and_intros <;> decide

/-- States and operands that meet the hypotheses of TransitBoundaryBeginsTheNextTransit, clause by clause. -/
theorem witness_TransitBoundaryBeginsTheNextTransit :
    up.time.genRunning = true ∧ (¬((up.time.L + 1) % orbitL = 0 ∧ counterValue (counterOf up 0) < (up.time.L + 1) / orbitL)) ∧
    atOrbitEnd.time.genRunning = true ∧ ((atOrbitEnd.time.L + 1) % orbitL = 0 ∧ counterValue (counterOf atOrbitEnd 0) < (atOrbitEnd.time.L + 1) / orbitL) ∧
    (counterOf atOrbitEnd 0).worn = false :=
  by and_intros <;> decide

/-- States and operands that meet the hypotheses of TunnelsAndAggregation, clause by clause. -/
theorem witness_TunnelsAndAggregation :
    runnable (withJob tunnelJob) 7 36865 = some tunnelJob ∧ ((withJob tunnelJob).car.active.members.any fun r => r.path == 4) = true ∧
    runnable tunnelUp 7 36866 = some tunnelOutJob ∧ runnable (withJob (roundJob 1 2 ([31] ++ zeros 31))) 7 36896 = some (roundJob 1 2 ([31] ++ zeros 31)) ∧
    meshSelf (withJob (roundJob 1 2 ([31] ++ zeros 31))) = some 1 ∧ (bitmapMembers (roundJob 1 2 ([31] ++ zeros 31)).aux).contains 1 = true ∧
    3 ≤ (bitmapMembers (roundJob 1 2 ([31] ++ zeros 31)).aux).length ∧
    ((bitmapMembers (roundJob 1 2 ([31] ++ zeros 31)).aux).all fun m => m == 1 || (meshRec? (withJob (roundJob 1 2 ([31] ++ zeros 31))) m).isSome) = true ∧
    (withJob (roundJob 1 2 ([31] ++ zeros 31))).roundOf ((roundJob 1 2 ([31] ++ zeros 31)).desc.par 48 8) = none ∧
    (roundJob 1 2 ([31] ++ zeros 31)).desc.par 40 1 = 1 ∧
    runnable (heState (roundJob 2 0 ([31] ++ zeros 31) (mkHe 0 5 0)) [(5, heRec)]) 7 36896 = some (roundJob 2 0 ([31] ++ zeros 31) (mkHe 0 5 0)) ∧
    meshSelf (heState (roundJob 2 0 ([31] ++ zeros 31) (mkHe 0 5 0)) [(5, heRec)]) = some 1 ∧
    (bitmapMembers (roundJob 2 0 ([31] ++ zeros 31) (mkHe 0 5 0)).aux).contains 1 = true ∧
    3 ≤ (bitmapMembers (roundJob 2 0 ([31] ++ zeros 31) (mkHe 0 5 0)).aux).length ∧
    ((bitmapMembers (roundJob 2 0 ([31] ++ zeros 31) (mkHe 0 5 0)).aux).all fun m => m == 1 || (meshRec? (heState (roundJob 2 0 ([31] ++ zeros 31) (mkHe 0 5 0)) [(5, heRec)]) m).isSome) = true ∧
    (heState (roundJob 2 0 ([31] ++ zeros 31) (mkHe 0 5 0)) [(5, heRec)]).roundOf ((roundJob 2 0 ([31] ++ zeros 31) (mkHe 0 5 0)).desc.par 48 8) = none ∧
    (roundJob 2 0 ([31] ++ zeros 31) (mkHe 0 5 0)).desc.par 40 1 = 2 ∧
    heOf? (heState (roundJob 2 0 ([31] ++ zeros 31) (mkHe 0 5 0)) [(5, heRec)]) (roundJob 2 0 ([31] ++ zeros 31) (mkHe 0 5 0)).desc.handleA = some heRec ∧
    heRec.kind = 0 ∧ runnable (withJob (roundJob 1 2 ([3] ++ zeros 31))) 7 36896 = some (roundJob 1 2 ([3] ++ zeros 31)) ∧
    (bitmapMembers (roundJob 1 2 ([3] ++ zeros 31)).aux).length < 3 :=
  by and_intros <;> decide

/-- States and operands that meet the hypotheses of WorldViolationsFreeze, clause by clause. -/
theorem witness_WorldViolationsFreeze :
    calls world4 4 = true ∧ isFrozen world4 2 4 = false ∧ (0 = 0 ∨ 7 < 0) ∧ permits world4 4 Access.write 64 = false ∧
    permits world4 4 Access.exec 64 = true :=
  by and_intros <;> decide

/-- States and operands that meet the hypotheses of WorldsRunAndStop, clause by clause. -/
theorem witness_WorldsRunAndStop :
    monitorUp loaded = true ∧ runBoundary loaded 0 = true ∧ (loaded.world 4).st = WorldState.loading ∧ (loaded.world 4).stored = true ∧
    loaded.time.L % 128 = 0 ∧ loaded.time.genRunning = true ∧ keeperAbsent loaded = false ∧ isFrozen loaded 2 4 = false ∧ (stopping.world 4).stopDue = true ∧
    stopping.time.L % 128 = 0 ∧ stopping.time.genRunning = true ∧ waiting delivering 4 = [7] ∧ (delivering.world 4).inbox = none ∧
    keeperAbsent delivering = false ∧ (delivering.world 4).st = WorldState.running ∧ aMsg ∈ (answering.world 4).awaiting ∧
    aMsg.L + 2 ^ 20 ≤ answering.time.L :=
  by and_intros <;> decide

/-! ### Hypotheses over more than one fixed value, and statements over every command -/

/-- CipherMessages: the message lies within what its mode still takes. -/
theorem witness_CipherMessages_length :
    (cRemain encJob.desc (initCtx encJob.desc (seqBytes 16) (zeros 16) [])).all (fun r => decide (encJob.input.length ≤ r)) = true ∧
    (cRemain sealJob.desc (initCtx sealJob.desc (seqBytes 16) (zeros 12) (zeros 16))).all (fun r => decide (sealJob.input.length ≤ r)) = true ∧
    cRemain decJob.desc (initCtx decJob.desc (seqBytes 16) (zeros 16) []) = none ∧ cIv (keyed 1 1 16 encJob) encJob.desc encJob.aux = zeros 16 :=
  ⟨rfl, rfl, rfl, by decide⟩

/-- HandlesAreAdoptedReadAndFreed: bytes of the length ADOPT asks for, and its outcome by the records. -/
theorem witness_adopt : runnable (heState adoptJob) 7 0x4020 = some adoptJob ∧ pAdopt adoptJob.desc = true ∧ adoptJob.gotHe = some 2 ∧
    heOutcome (heState adoptJob) adoptJob.desc = .ok adopted ∧ (zeros (heBytes heSet1 1 3)).length = heBytes adopted.set adopted.kind adopted.level :=
  ⟨by decide, by decide, by decide, rfl, by unfold zeros; rw [List.length_replicate]; decide⟩

/-- The pages of the backing ranges of the homomorphic jobs, mapped for function 0. -/
def heMapped (s : State) : State := { s with job := { s.job with pot := (List.range 130).map (fun k => (k, { rights := 3, cab := 0, fn := 0, frame := 100 + k })) } }

/-- HomomorphicCommandsMakeHandles: an encryption whose first backing page is not mapped, one whose pages are, and an addition. -/
theorem witness_HomomorphicCommandsMakeHandles :
    runnable (heState heEncJob) 7 0x4020 = some heEncJob ∧ pAdopt heEncJob.desc = false ∧ heEncJob.gotHe = some 2 ∧
    heReady (heState heEncJob) heEncJob [] = .ok adopted ∧
    firstMeet (heState heEncJob) 0 2 (pagesOf (pBack heEncJob.desc) (heBytes adopted.set adopted.kind adopted.level)) = some (4, .fault) ∧
    heEncJob.desc.cls ≠ 0 ∧ heEncJob.plane ≠ 1 ∧ runnable (heMapped (heState heEncJob)) 7 0x4020 = some heEncJob ∧
    (∀ o, heReady (heMapped (heState heEncJob)) heEncJob [] = .ok o →
      firstMeet (heMapped (heState heEncJob)) 0 2 (pagesOf (pBack heEncJob.desc) (heBytes o.set o.kind o.level)) = none) ∧
    runnable (heMapped (heState heAddJob [(5, heRec)])) 7 0x4022 = some heAddJob ∧ pAdopt heAddJob.desc = false ∧ heAddJob.gotHe = some 2 ∧
    ∀ o, heReady (heMapped (heState heAddJob [(5, heRec)])) heAddJob [zeros 10, zeros 10] = .ok o →
      firstMeet (heMapped (heState heAddJob [(5, heRec)])) 0 2 (pagesOf (pBack heAddJob.desc) (heBytes o.set o.kind o.level)) = none := by
  refine ⟨by decide, by decide, by decide, rfl, by decide +kernel, by decide, by decide, by decide, fun o h => ?_, by decide, by decide, by decide, fun o h => ?_⟩
  · have e : heReady (heMapped (heState heEncJob)) heEncJob [] = .ok adopted := rfl
    rw [e] at h
    cases h
    decide +kernel
  · have e : heOutcome (heMapped (heState heAddJob [(5, heRec)])) heAddJob.desc =
        .ok { kind := 0, set := heSet1, keyId := ha, level := 3, noise := 9472, scale := 0 } := rfl
    unfold heReady at h
    rw [e] at h
    simp only at h
    split at h
    · cases h
    · split at h
      · cases h
      · cases h
        decide +kernel

/-- GovernedCommandsOpenTheirRequest: an applet image that its APPLET record names passes the checks of APPLET_LOAD. -/
def appletBytes : List Byte := [0x4B, 0x47, 0x41, 0x50, 1, 0, 0, 0, 0, 0, 1, 0, 0, 0, 0, 0, 16, 0, 0, 0] ++ zeros 60
def appletJob : Job := mgmt 0xA001 [4] noHandle noHandle appletBytes
def appletUp : State := { withJob appletJob with car := { up.car with active := { image with
  applets := [{ world := 4, cab := 0, pages := 8, share := 8, digest := Config.sha3 appletBytes }] } } }
theorem witness_applet : openable appletUp 7 0xA001 = some appletJob ∧ appletBad appletUp appletJob = none := by
  refine ⟨by decide, ?_⟩
  have h1 : appletRec? appletUp (appletJob.desc.par 40 1) = some { world := 4, cab := 0, pages := 8, share := 8, digest := Config.sha3 appletBytes } := rfl
  have h2 : appletFormatOk appletJob.input = true := by decide
  have h3 : appletJob.input = appletBytes := rfl
  have h4 : cabOfFn appletUp appletJob.fn = 0 := by decide
  have h5 : pagesNeeded appletBytes ≤ 8 := by decide
  unfold appletBad
  rw [h1]
  simp only [h3, h4]
  simp [h3 ▸ h2, h5]

/-- MeshFramesHaveTheirEffect: a HELLO in the clear, and sealed heartbeats of a known and of an unknown epoch. -/
theorem witness_hello_arrives : Arrives meshLive 1 2 1 helloFrame liveMember :=
  ⟨by decide, by decide, by decide, by decide, by decide, by decide, by decide, by decide, by decide +kernel, by decide +kernel, by decide, by decide⟩
theorem witness_heartbeat_arrives : Arrives meshLive 1 2 0x10 (beat 4 11) liveMember :=
  ⟨by decide, by decide, by decide, by decide, by decide, by decide, by decide, by decide, by decide +kernel, by decide +kernel, by decide, by decide⟩
theorem witness_stranger_arrives : Arrives meshLive 1 2 0x10 (beat 5 11) liveMember :=
  ⟨by decide, by decide, by decide, by decide, by decide, by decide, by decide, by decide, by decide +kernel, by decide +kernel, by decide, by decide⟩

/-- AQuietMeshHearsAndSendsNothing, NoLaneIsPolledInTheDark: a device without a MESH section, under the bare carcass, in NIGHT and in UMBRA, and a port without a member. -/
def meshless : State := { meshLive with car := { meshLive.car with active := { image with meshSelf := none } } }
def bareMesh : State := { meshLive with car := { meshLive.car with active := { image with bare := true } } }
def darkMesh : State := { meshLive with glb := { meshLive.glb with umbra := true } }
theorem witness_quiet : meshless.car.active.meshSelf = none ∧ bareMesh.car.active.bare = true ∧ devState nightNow = .night ∧ devState darkMesh = .umbra ∧
    (∀ r ∈ meshLive.car.active.members, r.path ≠ 3) ∧ meshUp meshLive = true ∧ darkMesh.glb.umbra = true ∧ nightNow.glb.phase = .night ∧ failing.glb.phase = .pwrfail :=
  ⟨by decide, by decide, by decide, by decide, by decide, by decide, by decide, by decide, by decide⟩

/-- WorldMemoryFrame: TIME writes the world's data page; byte 9 of the memory, of another page, lies outside what it writes. -/
theorem witness_world_write : Memory.wf world4.wld.mem = true ∧ exec (.time 4 4100) world4 = .next (after (.time 4 4100) world4) ∧
    ∀ i p e, i < 32 → vpageEntry world4 4 ((4100 + i) / 4096) = some (p, e) → p * 4096 + (4100 + i) % 4096 ≠ 9 := by
  have h : ∀ i < 32, (vpageEntry world4 4 ((4100 + i) / 4096)).all (fun q => q.1 * 4096 + (4100 + i) % 4096 != 9) = true := by decide
  refine ⟨by decide, rfl, fun i p e hi he => ?_⟩
  have hq := h i hi
  rw [he] at hq
  simpa using hq

/-- AStepRunsTheFrontCommand, FuseBitsOnlyGoFromZeroToOne, FuseFormIsKept: a step with a command at the front of the queue and a fuse set. -/
def fused : State := { up with pending := [.nop 7, .warmReset], lcs := { up.lcs with otp := [(0, 255), (10, 0x48320100)] } }
theorem witness_fuses : fused.pending = .nop 7 :: [.warmReset] ∧ FuseForm fused ∧ Fuse fused 0 7 ∧ step fused = .next (after (.nop 7) (fused.withPending [.warmReset])) :=
  ⟨rfl, ⟨by decide, by decide⟩, by unfold Fuse; decide, rfl⟩

/-- The frames: commands that go on, of each of the groups the statements name. -/
theorem witness_frames : leavesStores (.nop 7) = true ∧ exec (.nop 7) (withJob nopJob) = .next (after (.nop 7) (withJob nopJob)) ∧
    leavesStores (.hello 1 []) = true ∧ worksOnMesh (.hello 1 []) = true ∧ exec (.laneCycleStart 2) starting = .next (after (.laneCycleStart 2) starting) ∧
    exec (.decisionPoint 2) (decided none 7) = .next (after (.decisionPoint 2) (decided none 7)) ∧
    exec (.carryCompletion 0x13 0) openCells = .next (after (.carryCompletion 0x13 0) openCells) ∧
    exec (.laneRecordWrite 2 true) openCells = .next (after (.laneRecordWrite 2 true) openCells) ∧
    exec (.pulse 2) asking = .next (after (.pulse 2) asking) ∧ exec (.yield 4) world4 = .next (after (.yield 4) world4) ∧
    exec .eventIntake raised = .next (after .eventIntake raised) ∧ exec .ppsIntervalTimeout up = .next (after .ppsIntervalTimeout up) ∧
    exec (.sourceWindowClose ⟨17, [true]⟩) windowUp = .next (after (.sourceWindowClose ⟨17, [true]⟩) windowUp) ∧
    exec (.linkTraining 8 16 false) linkOff = .next (after (.linkTraining 8 16 false) linkOff) := by
  and_intros <;> rfl

/-! ### Effects on fixed states, with values the spec gives -/

theorem test_transit_boundary : (after (.transitBoundary noInput) up).time.L = 5000001 := by decide +kernel
theorem test_orbit_waits_for_its_number : (after (.transitBoundary noInput) atOrbitEnd).time.L = 2 ^ 20 - 1 := by decide +kernel
theorem test_pps_eighth_qualifies : (after (.ppsEdge 3000000005 0) onePps).time.ppsQualified = true := by decide +kernel
theorem test_pps_fourth_miss_loses : (after .ppsIntervalTimeout { onePps with time := { onePps.time with ppsQualified := true } }).time.ppsQualified = false := by decide +kernel
theorem test_doorbell_full_ring : ((after (.sqDoorbell 0 1 266 9) up).sqOf 0 1).tail = 266 := by decide +kernel
theorem test_doorbell_beyond_ring : (((after (.sqDoorbell 0 1 267 9) up).sqOf 0 1).st, ((after (.sqDoorbell 0 1 267 9) up).sqOf 0 1).error) = (.fault, 0x0C) := by decide +kernel
theorem test_sq_enable : ((after (.sqEnable 0 1 0x10106) sqOff).sqOf 0 1).st = .active := by decide +kernel
theorem test_fetch_makes_a_job : ((after (.descriptorFetch 0 1 nopBytes) up).jobOf 8).map (fun x => (x.desc.opcode, x.desc.tag)) = some (1, 9) := by decide +kernel
theorem test_attention_clears_ones : ((after (.fnAttnClear 0 0x9) attended).fnOf 0).attn = 0x24 := by decide +kernel
theorem test_page_map_frame : (Tab.get? (after (.pageMap 7) (withJob (pageJob 0xE001 20 2))).job.pot 21).map (·.frame) = some 501 := by decide +kernel
theorem test_modarith : ((after (.bigModarith 7) (withJob modJob3)).jobOf 7).bind (·.result) = some { status := 0, output := zeros 7 ++ [2] } := by decide +kernel
theorem test_von_neumann_passes_the_first_of_two : (sourceOf (after (.sourceWindowClose ⟨2, [false]⟩) halfUp) 2).vn = some true := by decide +kernel
theorem test_class_code_and_device_ids : (configWord up 0 8 / 256, configWord up 0 0 / 65536) = (0x108000, 0x4832) := by decide +kernel
theorem test_final_entry_words : ((endJob 7 3 1 2 3 (withJob nopJob2)).cqOf 0 1).reserved = 2 := by decide +kernel
theorem test_request_on_the_wire : ((requestFrame 2 0xFFFF false).take 8) = [0x55, 0x55, 0xD5, 1, 2, 0xFF, 0xFF, 0] := by decide
theorem test_missed_cycles_silence : ((after (.decisionPoint 2) (decided none 7)).lane 2).st = .suspect := by decide +kernel
theorem test_reading_accepted : (laneLdg (after (.decisionPoint 2) (decided (some (aPayload 0)) 0)) 2).view.meterImp = 700 := by decide +kernel
theorem test_reading_fault_bit : ((after (.decisionPoint 2) (decided (some (aPayload 1)) 0)).lane 2).cause = 0x16 := by decide +kernel
theorem test_world_time : ((after (.lNow 4) world4).world 4).a1 = 5000000 := by decide +kernel
theorem test_write_to_code_freezes : isFrozen (after (.worldViolation 4 (some .write) 64) world4) 2 4 = true := by decide +kernel
theorem test_sensor_alarm_is_umbra : (after (.sensorAlarm 4 6) up).glb.umbra = true ∧ (after (.sensorAlarm 4 6) up).tam.count = 1 := by decide +kernel
theorem test_brownout_reset_keeps_fuses : (after .powerRecovered heldDown).pwr.cause = some 4 := by decide +kernel
theorem test_wake_timer : (after (.wake 1 60) nightNow).pwr.cause = some 5 ∧ (after (.wake 1 59) nightNow).glb.phase = .night := by decide +kernel
theorem test_event_numbers : (after .eventIntake raised).evt.next = 10 := by decide +kernel
theorem test_late_ack_ignored : (after (.evtAckSeq 5) recorded).evt.ack = 6 := by decide +kernel
theorem test_reset_value_of_the_rate : readWord State.reset 0 0x00C0F010 = 0x7D0000 := by decide +kernel

/-! ### WellFormed: a term that each check refuses -/

theorem test_wf_refuses_1 :
    ([
      .ppsEdge 0 24576, .carryCompletion 4 0, .carryCompletion 64 0, .carryCompletion 0 3, .laneRecordWrite 48 true, .sqDoorbell 65 0 0 0,
      .sqDoorbell 0 16 0 0, .sqDoorbell 0 0 0 24576, .cqDoorbell 65 0 0, .cqDoorbell 0 16 0, .descriptorFetch 65 0 (List.replicate 64 0),
      .descriptorFetch 0 16 (List.replicate 64 0), .descriptorFetch 0 0 [], .creditlessAnswer 65 0 (List.replicate 64 0),
      .creditlessAnswer 0 16 (List.replicate 64 0), .creditlessAnswer 0 0 [], .sqEnable 65 0 0, .sqEnable 0 16 0, .sqEnable 0 0 (2 ^ 32),
      .sqDisable 65 0 0, .sqDisable 0 16 0, .sqDisable 0 0 (2 ^ 32), .cqEnable 65 0 0, .cqEnable 0 16 0, .cqEnable 0 0 (2 ^ 32),
      .cqDisable 65 0 0, .cqDisable 0 16 0, .cqDisable 0 0 (2 ^ 32), .statusBlockEnable 65 0, .statusBlockEnable 0 (2 ^ 32)] : List Instr).all (fun c => !c.wf) = true := by decide

theorem test_wf_refuses_2 :
    ([
      .fnAttnClear 65 0, .fnAttnClear 0 (2 ^ 32), .noticeWrite 65, .hostReadFailure none 65 0 0 2, .hostReadFailure none 0 16 0 2, .hostReadFailure none 0 0 0 4,
      .hostReadFailure none 0 0 (2 ^ 32) 2, .flr 65, .busMasterEnableCleared 65, .d3hotEntry 65, .d3hotToD0 65, .badAccess 65 0 0 true,
      .badAccess 0 (2 ^ 26) 0 true, .badAccess 0 0 4096 true, .registerWrite 65 0 0, .registerWrite 0 (2 ^ 26) 0,
      .registerWrite 0 0 (2 ^ 32), .registerWrite 255 0 0, .registerWrite 321 0 0, .latchingRead 65 0, .latchingRead 0 (2 ^ 26), .keyGenerate 0 24 0, .dovetailLapse (2 ^ 32),
      .lcsTransition 0 9, .pageWantedRepeat 65 0, .pageWantedRepeat 0 (2 ^ 20), .tileParityError 24 0, .tileParityError 0 2,
      .sourceWindowClose ⟨4, []⟩, .rngHealthIntermittent 4 [], .drbgKatFailed 2, .laneCycleStart 48] : List Instr).all (fun c => !c.wf) = true := by decide

theorem test_wf_refuses_3 :
    ([
      .reading 48 true [], .identity 48 true [], .laneResponseTimeout 48, .laneRetry 48, .decisionPoint 48, .pulse 48, .laneBabbling 48,
      .laneJoin 48, .worldSwitch 257, .yield 0, .yield 16, .msgRecv 0, .msgRecv 16, .msgDone 0, .msgDone 16, .msgSend 0 0 [],
      .msgSend 16 0 [], .ledgerView 0 0 0, .ledgerView 16 0 0, .ledgerView 1 0 (2 ^ 32), .time 0 0, .time 16 0, .time 1 (2 ^ 32), .lNow 0,
      .lNow 16, .badCall 0 0 0, .badCall 16 0 0, .badCall 1 (2 ^ 32) 0, .badCall 1 0 (2 ^ 32), .worldViolation 0 none 0] : List Instr).all (fun c => !c.wf) = true := by decide

theorem test_wf_refuses_4 :
    ([
      .worldViolation 16 none 0, .worldViolation 1 none (2 ^ 32), .appletRun 0, .appletRun 16, .worldStop 0, .worldStop 16,
      .messageDelivery 0, .messageDelivery 16, .messageTimeout 0, .messageTimeout 16, .lockstepMismatch 2 0, .comparatorDead 2 0,
      .comparatorDead 0 2, .comparatorProbe 2 0 0, .comparatorProbe 0 4 0, .pairRestart 2, .pairRestartComplete 2 [], .pairRestartTimeout 2,
      .portLockChange 4 true true, .hello 4 [], .keyInit 4 [], .keyReply 4 [], .keyConfirm 4 [], .heartbeat 4 0 [], .heartbeat 0 24576 [],
      .credit 4 [], .sharePut 4 [], .shareAck 4 [], .shareCommit 4 [], .shareRequest 4 []] : List Instr).all (fun c => !c.wf) = true := by decide

theorem test_wf_refuses_5 :
    ([
      .shareRelease 4 [], .shareRefuse 4 [], .shareProbe 4 [], .shareDrop 4 [], .aggOffer 4 [], .aggShare 4 [], .aggPartial 4 [],
      .aggCipher 4 [], .helloTimer 256, .memberLost 256, .rekey 256, .creditReturn 256, .messageResend 256, .shareSetCommit 64,
      .rotationTimeout 64, .aggRoundTimeout (2 ^ 64), .inputTripped 8, .inputDiscrepancy 8, .discrepancyBrief 8, .escutcheon 2,
      .sensorAlarm 3 0, .sensorAlarm 9 0, .linkTraining 3 16 true, .linkTraining 8 3 true, .wake 3 0, .bootMap 65 0, .bootMap 0 (2 ^ 32),
      .tileLimitChange 24, .tapInstruction 256, .lcsDapDoorbell 9] : List Instr).all (fun c => !c.wf) = true := by decide

theorem test_wf_refuses_6 :
    ([
      .bistRunComplete 18 [], .tamperMonitorSample 256 0 (true, true) (true, true) 0 0 0,
      .tamperMonitorSample 0 256 (true, true) (true, true) 0 0 0, .keyBankErased 512, .appletStoreWritten 0 true,
      .appletStoreWritten 16 true, .meshFrameRejected 4 true [], .debugPairHalt 2, .debugPairResume 2] : List Instr).all (fun c => !c.wf) = true := by decide

theorem test_wf_accepts : ([.sqDoorbell 64 15 0 24575, .registerWrite 100 0x3FFFFFC 0xFFFFFFFF, .registerWrite 320 0x48 0, .sourceWindowClose ⟨19, [true]⟩, .decisionPoint 47, .yield 15, .linkTraining 8 16 true,
    .keyGenerate 7 103 0, .sensorAlarm 8 0, .lcsTransition 7 8, .hello 3 [], .carryCompletion 63 2] : List Instr).all (·.wf) = true := by decide

/-- No word spells a command (the table gives no bits), and withFetchWord then leaves the state as it is. -/
theorem test_no_word_is_a_command : decodeTableWord 16 7 = none ∧ State.reset.withFetchWord 16 7 = State.reset := ⟨rfl, rfl⟩

end Sys2Proof.Tests
end

section
/-! PROOFS. 1PPS (R42, R49): what an edge and the end of an interval do in each case, and the obligation on them. -/

namespace Sys2Proof.Machine

/-! ### From a command's effect to what it yields -/

/-- A command whose meaning is `done` of an effect does that effect. -/
theorem does_of_exec_eq_done {c : Instr} {s u : State} (h : exec c s = done s u) : Does c s u := h.trans (done_eq s u)

/-- A command whose meaning is `done` of an effect yields what the effect satisfies but for its queue. -/
theorem yields_of_exec_eq_done {c : Instr} {s u : State} {P : State → Prop} (h : exec c s = done s u) (hP : P (u.withPending s.pending)) :
    Yields c s P :=
  ⟨u.withPending s.pending, does_of_exec_eq_done h, State.withPending_pending u s.pending, hP⟩

theorem exec_ppsEdge (instant cycle : Nat) (s : State) : exec (.ppsEdge instant cycle) s = done s (ppsEdge instant cycle s) := rfl

theorem exec_ppsIntervalTimeout (s : State) : exec .ppsIntervalTimeout s = done s (ppsIntervalTimeout s) := rfl

/-! ### The parts of the clock that 1PPS moves -/

theorem ppsAccepts_iff (interval : Nat) : ppsAccepts interval = true ↔ 2999400000 ≤ interval ∧ interval ≤ 3000600000 := by
  simp [ppsAccepts]

@[simp] theorem ppsMiss_ppsRun (t : TimeState) : (ppsMiss t).ppsRun = 0 := rfl
@[simp] theorem ppsMiss_ppsMissed (t : TimeState) : (ppsMiss t).ppsMissed = t.ppsMissed + 1 := rfl
@[simp] theorem ppsMiss_ppsQualified (t : TimeState) :
    (ppsMiss t).ppsQualified = (t.ppsQualified && decide (t.ppsMissed + 1 < 4)) := rfl
@[simp] theorem ppsMiss_ledgerUs (t : TimeState) : (ppsMiss t).ledgerUs = t.ledgerUs := rfl
@[simp] theorem ppsMiss_slewPs (t : TimeState) : (ppsMiss t).slewPs = t.slewPs := rfl

/-- An interval that no timeout has counted is counted by the edge that ends it (R42). -/
theorem ppsReject_of_not_late {t : TimeState} (h : t.ppsLate = false) : ppsReject t = ppsMiss t := by simp [ppsReject, h]

/-- The interval an edge ends is counted once: by its timeout or by the edge (R42). -/
@[simp] theorem ppsReject_ppsMissed (t : TimeState) : (ppsReject t).ppsMissed = t.ppsMissed + (if t.ppsLate = true then 0 else 1) := by
  unfold ppsReject; split <;> rfl

@[simp] theorem ppsReject_ledgerUs (t : TimeState) : (ppsReject t).ledgerUs = t.ledgerUs := by
  unfold ppsReject; split <;> rfl

@[simp] theorem ppsReject_slewPs (t : TimeState) : (ppsReject t).slewPs = t.slewPs := by
  unfold ppsReject; split <;> rfl

/-- The clock with one more pulse accepted, captured at `stamp` after one at `prev` (R42). -/
def ppsAccepted (prev stamp : Nat) (t : TimeState) : TimeState :=
  { t with
    ppsLast := some stamp
    ppsRun := t.ppsRun + 1
    ppsMissed := 0
    ppsLate := false
    ppsIntervals := (t.ppsIntervals ++ [stamp - prev]).drop (t.ppsIntervals.length + 1 - 8)
    ppsQualified := t.ppsQualified || decide (8 ≤ t.ppsRun + 1) }

/-- The phase correction of R49, at a pulse captured at a cycle of the transit under way. Ledger time inside a transit is the
model's choice (log 64). -/
def ppsCorrected (cycle : Nat) (t : TimeState) : TimeState :=
  if t.ppsQualified ∧ t.quality = .set ∧ t.stmtSlew = false then { t with slewPs := -(ppsPhase (ledgerAt t cycle)) * 1000000 } else t

/-- The phase correction touches nothing but the slew. -/
theorem ppsCorrected_eq (cycle : Nat) (t : TimeState) :
    ppsCorrected cycle t = { t with slewPs :=
      if t.ppsQualified = true ∧ t.quality = .set ∧ t.stmtSlew = false then -(ppsPhase (ledgerAt t cycle)) * 1000000 else t.slewPs } := by
  unfold ppsCorrected
  split <;> rfl

/-! ### The cases of an edge -/

section
variable {instant cycle prev : Nat} {s : State} (hrun : s.time.genRunning = true)
include hrun

/-- The first edge is only held. -/
theorem ppsEdge_first (hlast : s.time.ppsLast = none) :
    ppsEdge instant cycle s = { s with time := { s.time with ppsLast := some (captured instant), ppsLate := false } } := by
  simp [ppsEdge, running, hrun, hlast]

/-- An edge an accepted interval after the last is counted, then corrects the phase. -/
theorem ppsEdge_of_accepts (hlast : s.time.ppsLast = some prev) (hacc : ppsAccepts (captured instant - prev) = true) :
    ppsEdge instant cycle s =
      { s with time := ppsCorrected (captured cycle) (ppsAccepted prev (captured instant) s.time) } := by
  simp [ppsEdge, running, hrun, hlast, hacc, ppsCorrected, ppsAccepted]

/-- Any other edge ends its interval as missed. -/
theorem ppsEdge_of_not_accepts (hlast : s.time.ppsLast = some prev) (hacc : ppsAccepts (captured instant - prev) = false) :
    ppsEdge instant cycle s =
      { s with time := { ppsReject s.time with ppsLast := some (captured instant), ppsLate := false } } := by
  simp [ppsEdge, running, hrun, hlast, hacc]

theorem ppsIntervalTimeout_of_running : ppsIntervalTimeout s = { s with time := { ppsMiss s.time with ppsLate := true } } := by
  simp [ppsIntervalTimeout, running, hrun]

end

/-- Settles O7: each clause is the case lemma of `ppsEdge` or of `ppsIntervalTimeout`, read field by field. Ledger time at a
pulse is the model's `ledgerAt` (log 64). -/
theorem onePpsIsAcceptedQualifiedAndLost : Obligations.OnePpsIsAcceptedQualifiedAndLost := by
  intro s hrun
  refine ⟨?first, ?accepted, ?rejected, ?timeout⟩
  case first =>
    rintro instant cycle _ rfl hlast
    exact does_of_exec_eq_done ((exec_ppsEdge instant cycle s).trans (congrArg (done s) (ppsEdge_first hrun hlast)))
  case accepted =>
    rintro instant cycle _ prev _ rfl hlast hlow hhigh rfl
    have hacc : ppsAccepts (captured instant - prev) = true := (ppsAccepts_iff _).2 ⟨hlow, hhigh⟩
    apply yields_of_exec_eq_done (exec_ppsEdge instant cycle s)
    rw [ppsEdge_of_accepts hrun hlast hacc, ppsCorrected_eq]
    exact ⟨rfl, rfl, rfl, rfl, rfl, rfl, rfl⟩
  case rejected =>
    rintro instant cycle _ prev _ rfl hlast hout rfl
    have hacc : ppsAccepts (captured instant - prev) = false := Bool.eq_false_iff.2 (mt (ppsAccepts_iff _).1 hout)
    apply yields_of_exec_eq_done (exec_ppsEdge instant cycle s)
    rw [ppsEdge_of_not_accepts hrun hlast hacc]
    refine ⟨rfl, ppsReject_ppsMissed s.time, rfl, fun hlate => ?_, ppsReject_L s.time, ppsReject_ledgerUs s.time, ppsReject_slewPs s.time⟩
    simp [ppsReject_of_not_late hlate, hlate]
  case timeout =>
    apply yields_of_exec_eq_done (exec_ppsIntervalTimeout s)
    rw [ppsIntervalTimeout_of_running hrun]
    exact ⟨rfl, rfl, ppsMiss_ppsRun s.time, ppsMiss_ppsMissed s.time, ppsMiss_ppsQualified s.time, ppsMiss_L s.time,
      ppsMiss_ledgerUs s.time, ppsMiss_slewPs s.time⟩

end Sys2Proof.Machine
end

section
/-! PROOFS. Silent members (R410): what MEMBER_LOST does to a LIVE member, its notice and its record of loss, and the obligation
on them. -/

namespace Sys2Proof.Machine

/-! ### Notices (R151): what holding one leaves alone, and that it is held -/

@[simp] theorem signal_evt (f v : Nat) (s : State) : (signal f v s).evt = s.evt := by
  unfold signal
  repeat' split
  all_goals rfl

@[simp] theorem setAttn_evt (b f : Nat) (s : State) : (setAttn b f s).evt = s.evt := by
  unfold setAttn
  split
  · rfl
  · dsimp only
    split
    · exact signal_evt f 16 _
    · rfl

@[simp] theorem holdNotice_evt (f : Nat) (n : Notice) (s : State) : (holdNotice f n s).evt = s.evt := by
  unfold holdNotice
  dsimp only
  repeat' split
  · rfl
  · rfl
  · exact setAttn_evt 4 f _

@[simp] theorem notify_evt (type subject p0 p1 p2 p3 f : Nat) (s : State) : (notify type subject p0 p1 p2 p3 f s).evt = s.evt :=
  holdNotice_evt f _ s

/-- A notice that takes the place of an earlier one is held (R174). -/
theorem mem_of_replaceHeld {n : Notice} {l h : List Notice} (hr : replaceHeld n l = some h) : n ∈ h := by
  induction l generalizing h with
  | nil => cases hr
  | cons a t ih =>
    unfold replaceHeld at hr
    split at hr
    · cases hr
      exact .head _
    · obtain ⟨u, hu, rfl⟩ := Option.map_eq_some_iff.1 hr
      exact .tail _ (ih hu)

/-- A function that holds fewer than 256 notices holds the next one too, in an earlier one's place or behind them all. -/
theorem mem_held_holdNotice {f : Nat} (n : Notice) {s : State} (hroom : (s.fnOf f).held.length < 256) :
    n ∈ ((holdNotice f n s).fnOf f).held := by
  unfold holdNotice
  dsimp only
  split
  next h hr => simpa using mem_of_replaceHeld hr
  next => simp [hroom]

/-! ### Events (R465): what raising one leaves alone, and that it is queued -/

@[simp] theorem raiseEv_hlk (code sev p1 p2 p3 : Nat) (s : State) : (raiseEv code sev p1 p2 p3 s).hlk = s.hlk := by
  unfold raiseEv raiseFrom
  split <;> rfl

/-- With room in the intake queue an event is queued behind the others. -/
theorem raiseEv_queue_of_room (code sev p1 p2 p3 : Nat) {s : State} (hroom : s.evt.queue.length < 1024) :
    (raiseEv code sev p1 p2 p3 s).evt.queue = s.evt.queue ++
      [{ code := code, sev := sev, source := eventAgent code p1 p2 p3, L := eventL s % 2 ^ 64, p1 := p1 % 2 ^ 32, p2 := p2 % 2 ^ 32,
         p3 := p3 % 2 ^ 32 }] := by
  simp [raiseEv, raiseFrom, hroom]

/-- Without room it is only counted as lost. -/
theorem raiseEv_queue_of_full (code sev p1 p2 p3 : Nat) {s : State} (hfull : ¬ s.evt.queue.length < 1024) :
    (raiseEv code sev p1 p2 p3 s).evt.queue = s.evt.queue := by
  simp [raiseEv, raiseFrom, hfull, countLost]

/-- Raising an event drops none that waits. -/
theorem queue_subset_raiseEv (code sev p1 p2 p3 : Nat) (s : State) : s.evt.queue ⊆ (raiseEv code sev p1 p2 p3 s).evt.queue := by
  by_cases hroom : s.evt.queue.length < 1024
  · rw [raiseEv_queue_of_room code sev p1 p2 p3 hroom]
    exact List.subset_append_left _ _
  · rw [raiseEv_queue_of_full code sev p1 p2 p3 hroom]
    exact List.Subset.refl _

/-- With room in the intake queue an event with its code and its first parameter is there once it is raised. -/
theorem exists_event_raiseEv (code sev p1 p2 p3 : Nat) {s : State} (hroom : s.evt.queue.length < 1024) :
    ∃ e ∈ (raiseEv code sev p1 p2 p3 s).evt.queue, e.code = code ∧ e.p1 = p1 % 2 ^ 32 := by
  rw [raiseEv_queue_of_room code sev p1 p2 p3 hroom]
  exact ⟨_, List.mem_append_right _ (List.mem_singleton_self _), rfl, rfl⟩

/-! ### Members: what an event, a notice and the choice of the reference leave alone -/

@[simp] theorem memberOf_raiseEv (code sev p1 p2 p3 : Nat) (s : State) (k : Nat) :
    (raiseEv code sev p1 p2 p3 s).memberOf k = s.memberOf k := by
  simp [State.memberOf]

@[simp] theorem memberOf_notify (type subject p0 p1 p2 p3 f : Nat) (s : State) (k : Nat) :
    (notify type subject p0 p1 p2 p3 f s).memberOf k = s.memberOf k := by
  simp [State.memberOf]

/-- The block with a reference, a parent and HOPS. -/
def withRef (c : Option Nat × Option Nat × Nat) (s : State) : State :=
  { s with msh := { s.msh with ref := c.1, parent := c.2.1, hops := c.2.2 } }

/-- Choosing the reference again sets it, and then raises at most the event of its change (R411). -/
theorem updateRef_cases (s : State) :
    ∃ c, updateRef s = withRef c s ∨ updateRef s = raiseEv 0xE013 3 (c.1.getD 0) (c.2.1.getD 0) c.2.2 (withRef c s) := by
  refine ⟨if meshUp s then chooseRef s else (none, none, 255), ?_⟩
  by_cases hsame : (if meshUp s then chooseRef s else (none, none, 255)).1 = s.msh.ref
  · exact .inl (if_pos hsame)
  · exact .inr (if_neg hsame)

@[simp] theorem memberOf_updateRef (s : State) (k : Nat) : (updateRef s).memberOf k = s.memberOf k := by
  obtain ⟨c, h | h⟩ := updateRef_cases s
  · rw [h]; rfl
  · rw [h, memberOf_raiseEv]; rfl

@[simp] theorem updateRef_hlk (s : State) : (updateRef s).hlk = s.hlk := by
  obtain ⟨c, h | h⟩ := updateRef_cases s
  · rw [h]; rfl
  · rw [h, raiseEv_hlk]; rfl

/-- Choosing the reference again drops no event that waits. -/
theorem queue_subset_updateRef (s : State) : s.evt.queue ⊆ (updateRef s).evt.queue := by
  obtain ⟨c, h | h⟩ := updateRef_cases s
  · rw [h]; exact List.Subset.refl _
  · rw [h]; exact queue_subset_raiseEv _ _ _ _ _ (withRef c s)

/-! ### Closing a link and scheduling its HELLOs (R405) -/

/-- A member whose link has been closed: its keys, its keying, its HELLOs, its queued frames and what it advertised are gone. -/
def Member.closed (st : MemberState) (x : Member) : Member :=
  { x with
    st := st, link := none, old := none, keying := none, queue := [], helloSent := false, helloAt := none, resendAt := none,
    lastMsg := none, adv := none }

@[simp] theorem closeLink_hlk (m : Nat) (st : MemberState) (s : State) : (closeLink m st s).hlk = s.hlk := rfl
@[simp] theorem closeLink_evt (m : Nat) (st : MemberState) (s : State) : (closeLink m st s).evt = s.evt := rfl

theorem memberOf_closeLink (m k : Nat) (st : MemberState) (s : State) :
    (closeLink m st s).memberOf k = if k = m then (s.memberOf k).map (Member.closed st) else s.memberOf k :=
  memberOf_modMember m k (Member.closed st) s

@[simp] theorem scheduleHello_hlk (h0 m : Nat) (s : State) : (scheduleHello h0 m s).hlk = s.hlk := by
  unfold scheduleHello
  repeat' split
  all_goals rfl

@[simp] theorem scheduleHello_evt (h0 m : Nat) (s : State) : (scheduleHello h0 m s).evt = s.evt := by
  unfold scheduleHello
  repeat' split
  all_goals rfl

/-- The first HELLO of R405 is due 64 transits per member number and the member's stagger after `h0`; nothing else of the member changes. -/
theorem memberOf_scheduleHello {m : Nat} {s : State} {x : Member} (hx : s.memberOf m = some x) (h0 : Nat) :
    ∃ r, (scheduleHello h0 m s).memberOf m =
      some { x with stagger := some r, helloAt := some (h0 + 64 * (meshSelf s).getD 0 + r) } := by
  unfold scheduleHello
  simp only [hx]
  split
  next r hr => exact ⟨r, by simp [hx, hr]⟩
  next => exact ⟨leAt (freeBytes s 1) 0 1 % 64, (memberOf_modMember m m _ s).trans (by simp [hx])⟩

/-! ### MEMBER_LOST -/

theorem exec_memberLost (m : Nat) (s : State) : exec (.memberLost m) s = done s (memberLost m s) := rfl

/-- The block when a member is lost, before the loss is logged: its link is closed and MESH_MEMBER_LOST is held for function 0. -/
def lostNoticed (m : Nat) (x : Member) (s : State) : State :=
  notify 0x000A m (pathOf s m) (lo32 x.heardL) (hi32 x.heardL) 0 0 (closeLink m .lost s)

section
variable {m : Nat} {s : State} {x : Member} (hx : s.memberOf m = some x)
include hx

/-- A LIVE member silent for 1,024 transits: its link is closed, the notice held, the loss logged, its HELLOs scheduled and the
reference chosen again. -/
theorem memberLost_of_silent (hup : meshUp s = true) (hlive : x.st = .live) (hsilent : x.heardL + 1024 ≤ s.time.L) :
    memberLost m s =
      updateRef (scheduleHello (lostNoticed m x s).time.L m
        (raiseEv 0xE012 4 m (pathOf (lostNoticed m x s) m) 0 (lostNoticed m x s))) := by
  unfold memberLost
  simp only [hx, hup, hlive, hsilent, beq_self_eq_true, decide_true, Bool.and_self, if_true]
  rfl

/-- A member heard within 1,024 transits is left alone. -/
theorem memberLost_of_heard (hheard : s.time.L < x.heardL + 1024) : memberLost m s = s := by
  simp [memberLost, hx, Nat.not_le.2 hheard]

theorem memberOf_lostNoticed : (lostNoticed m x s).memberOf m = some (x.closed .lost) := by
  simp [lostNoticed, memberOf_closeLink, hx]

end

theorem lostNoticed_evt (m : Nat) (x : Member) (s : State) : (lostNoticed m x s).evt = s.evt := by
  simp [lostNoticed]

/-- Function 0, where it has room, holds MESH_MEMBER_LOST with the member's path and the L it was last heard. -/
theorem exists_notice_lostNoticed (m : Nat) (x : Member) {s : State} (hroom : (s.fnOf 0).held.length < 256) :
    ∃ n ∈ ((lostNoticed m x s).fnOf 0).held, n.type = 0x000A ∧ n.subject = m ∧ n.p0 = pathOf s m % 2 ^ 32 ∧
      n.p1 = x.heardL % 2 ^ 32 ∧ n.p2 = x.heardL / 2 ^ 32 % 2 ^ 32 :=
  ⟨_, mem_held_holdNotice (s := closeLink m .lost s) _ hroom, rfl, rfl, rfl, Nat.mod_mod _ _, Nat.mod_mod _ _⟩

/-- Settles O27: a silent LIVE member goes through the five parts of `memberLost_of_silent`; the later parts keep what the earlier
ones did. -/
theorem silentMembersAreLost : Obligations.SilentMembersAreLost := by
  intro s m x hx hup hlive
  refine ⟨fun hsilent => ?silent, fun hheard => ?heard⟩
  case heard =>
    exact does_of_exec_eq_done ((exec_memberLost m s).trans (congrArg (done s) (memberLost_of_heard hx hheard)))
  case silent =>
    apply yields_of_exec_eq_done (exec_memberLost m s)
    rw [memberLost_of_silent hx hup hlive hsilent]
    refine ⟨?member, fun hroom => ?notice, fun hroom => ?event⟩
    case member =>
      have hlost := memberOf_lostNoticed hx
      obtain ⟨r, hy⟩ := memberOf_scheduleHello ((memberOf_raiseEv 0xE012 4 m (pathOf (lostNoticed m x s) m) 0 _ m).trans hlost)
        (lostNoticed m x s).time.L
      exact ⟨_, (memberOf_updateRef _ m).trans hy, rfl, rfl, rfl, rfl⟩
    case notice =>
      simpa [State.fnOf] using exists_notice_lostNoticed m x hroom
    case event =>
      obtain ⟨e, he, hcode, hp1⟩ := exists_event_raiseEv 0xE012 4 m (pathOf (lostNoticed m x s) m) 0
        (s := lostNoticed m x s) (by rwa [lostNoticed_evt])
      exact ⟨e, queue_subset_updateRef _ (by rwa [scheduleHello_evt]), hcode, hp1⟩

end Sys2Proof.Machine
end

section
/-! PROOFS. Read points of the recorder (R468, R471, R477): where an acknowledgement moves one, what a snapshot with ACK asks for, and
the obligation on them. -/

namespace Sys2Proof.Machine

/-! ### What a runnable job and a command of function 0 meet -/

/-- A runnable job stands under its number and names the opcode its routine is run for. -/
theorem jobOf_and_opcode_of_runnable {s : State} {j op : Nat} {x : Job} (h : runnable s j op = some x) :
    s.jobOf j = some x ∧ x.desc.opcode = op := by
  unfold runnable at h
  split at h
  next => cases h
  next y hy =>
    split at h
    next hrun =>
      obtain ⟨_, hop, _⟩ := hrun
      cases h
      exact ⟨hy, hop⟩
    next => cases h

/-- A job that runs under one of two opcodes runs under the one it names. -/
theorem runnable_of_or {s : State} {j op op' : Nat} {x : Job} (h : runnable s j op = some x ∨ runnable s j op' = some x) :
    runnable s j x.desc.opcode = some x := by
  obtain h | h := h <;> rwa [(jobOf_and_opcode_of_runnable h).2]

/-- Function 0 exists whatever the host has enabled: its commands reach the device while the link is up. -/
theorem onHost_zero_of_up {s : State} (hup : s.hlk.up = true) (g : State → State) : onHost 0 g s = g s := by
  simp [onHost, fnExists, hup]

theorem exec_evtAckSeq (w : Word) (s : State) : exec (.evtAckSeq w) s = done s (onHost 0 (ackRing w) s) := rfl

theorem exec_eventSnapshot (j : Nat) (s : State) : exec (.eventSnapshot j) s = done s (eventSnapshot j s) := rfl

theorem exec_journalRead (j : Nat) (s : State) : exec (.journalRead j) s = done s (journalRead j s) := rfl

/-! ### Moving a read point (R468) -/

/-- The ring's read point moves only to a later sequence. -/
theorem ackRing_ack (w : Word) (s : State) : (ackRing w s).evt.ack = if 0 < diff32 w s.evt.ack then w else s.evt.ack := by
  by_cases hlater : 0 < diff32 w s.evt.ack <;> simp [ackRing, seqBefore, hlater]

/-- The journal's read point moves only to a later sequence. -/
theorem ackJournal_jAck (w : Word) (s : State) : (ackJournal w s).evt.jAck = if 0 < diff32 w s.evt.jAck then w else s.evt.jAck := by
  by_cases hlater : 0 < diff32 w s.evt.jAck <;> simp [ackJournal, seqBefore, hlater]

theorem applyEffect_ackRing (k : Nat) (bitOk : Bool) (w : Word) (s : State) : applyEffect k bitOk (.ackRing w) s = ackRing w s := rfl

theorem applyEffect_ackJournal (k : Nat) (bitOk : Bool) (w : Word) (s : State) :
    applyEffect k bitOk (.ackJournal w) s = ackJournal w s := rfl

/-! ### What a snapshot with ACK asks for (R471, R477) -/

/-- The sequence after the last of the records a snapshot wrote; FROM where it wrote none. -/
def seqAfterLast (from_ : Word) (recs : List Record) : Word :=
  match recs.getLast? with
  | some q => q.seq + 1
  | none => from_

/-- A snapshot's result with ACK puts out records, and its W1, the sequence after the last of them, is the read point it asks for. -/
theorem exists_records_snapshotResult (held wanted : List Record) (from_ : Word) (room : Nat) (f : Word → Effect) :
    ∃ recs, (snapshotResult held wanted from_ room (some f)).output = recs.flatMap recordBytes ∧
      (snapshotResult held wanted from_ room (some f)).w1 = (seqAfterLast from_ recs).toNat ∧
      (snapshotResult held wanted from_ room (some f)).effects = [f (seqAfterLast from_ recs)] :=
  ⟨wanted.take (room / 32), rfl, rfl, rfl⟩

/-- EVENT_SNAPSHOT with ACK records a snapshot's result that acknowledges in the ring. -/
theorem eventSnapshot_of_ack {s : State} {j : Nat} {x : Job} (hrun : runnable s j 0xC001 = some x) (hack : bit (x.desc.par 44 1) 0 = true) :
    ∃ held wanted room, eventSnapshot j s =
      setResult j (snapshotResult held wanted (BitVec.ofNat 32 (x.desc.par 40 4)) room (some .ackRing)) s := by
  simp only [eventSnapshot, hrun, hack, if_true]
  exact ⟨_, _, _, rfl⟩

/-- JOURNAL_READ with ACK records a snapshot's result that acknowledges in the journal. -/
theorem journalRead_of_ack {s : State} {j : Nat} {x : Job} (hrun : runnable s j 0xC002 = some x) (hack : bit (x.desc.par 44 1) 0 = true) :
    ∃ held wanted room, journalRead j s =
      setResult j (snapshotResult held wanted (BitVec.ofNat 32 (x.desc.par 40 4)) room (some .ackJournal)) s := by
  simp only [journalRead, hrun, hack, if_true]
  exact ⟨_, _, _, rfl⟩

/-- A command that records a snapshot's result with ACK leaves the job asking, through `f`, for its W1 as the read point. -/
theorem yields_snapshot_ack {c : Instr} {s : State} {j : Nat} {x : Job} {held wanted : List Record} {from_ : Word} {room : Nat}
    {f : Word → Effect} (hjob : s.jobOf j = some x)
    (hexec : exec c s = done s (setResult j (snapshotResult held wanted from_ room (some f)) s)) :
    Yields c s (fun t => ∃ (r : Result) (recs : List Record) (v : Word), Recorded j r t ∧ r.output = recs.flatMap recordBytes ∧
      r.w1 = v.toNat ∧ v = seqAfterLast from_ recs ∧ r.effects = [f v]) := by
  obtain ⟨recs, hout, hw1, heff⟩ := exists_records_snapshotResult held wanted from_ room f
  exact yields_of_exec_eq_done hexec ⟨_, recs, _, setResult_result hjob, hout, hw1, rfl, heff⟩

/-- Settles O26: the two read points by where an acknowledgement moves each, the two snapshots by the one result they both record. -/
theorem readPointsOnlyMoveForward : Obligations.ReadPointsOnlyMoveForward := by
  refine ⟨fun s w hup => ?register, fun s j k x w hrun hack => ⟨fun hop => ?snapshot, fun hop => ?journal, ?ring, ?journalPoint⟩⟩
  case register =>
    apply yields_of_exec_eq_done (exec_evtAckSeq w s)
    rw [onHost_zero_of_up hup]
    exact ackRing_ack w s
  case snapshot =>
    have hrun := hop ▸ runnable_of_or hrun
    obtain ⟨held, wanted, room, heq⟩ := eventSnapshot_of_ack hrun hack
    exact yields_snapshot_ack (jobOf_and_opcode_of_runnable hrun).1 ((exec_eventSnapshot j s).trans (congrArg (done s) heq))
  case journal =>
    have hrun := hop ▸ runnable_of_or hrun
    obtain ⟨held, wanted, room, heq⟩ := journalRead_of_ack hrun hack
    exact yields_snapshot_ack (jobOf_and_opcode_of_runnable hrun).1 ((exec_journalRead j s).trans (congrArg (done s) heq))
  case ring =>
    rw [applyEffect_ackRing]
    exact ackRing_ack w s
  case journalPoint =>
    rw [applyEffect_ackJournal]
    exact ackJournal_jAck w s

end Sys2Proof.Machine
end

section
/-! PROOFS. Every command: what a step runs, and that each command goes on with the queue as it was. -/

namespace Sys2Proof.Machine

/-- Every command's meaning is `done` of an effect (log 4): no command ends in a fault or a refusal. -/
theorem exists_exec_eq_done (c : Instr) (s : State) : ∃ u, exec c s = done s u := by
  cases c <;> exact ⟨_, rfl⟩

/-- Settles O1: `done` goes on with the queue as it was. -/
theorem everyCommandGoesOn : Obligations.EveryCommandGoesOn := by
  intro c s
  obtain ⟨u, hu⟩ := exists_exec_eq_done c s
  exact ⟨_, hu, rfl⟩

theorem step_of_pending_cons {c : Instr} {rest : List Instr} {s : State} (h : s.pending = c :: rest) :
    step s = exec c (s.withPending rest) := by
  unfold step
  rw [h]

theorem step_of_pending_nil {s : State} (h : s.pending = []) : step s = .next s := by
  unfold step
  rw [h]

/-- Settles O31, by the two cases of the queue. -/
theorem aStepRunsTheFrontCommand : Obligations.AStepRunsTheFrontCommand :=
  ⟨fun _ _ _ => step_of_pending_cons, fun _ => step_of_pending_nil⟩

/-- Settles O4: the table of fuse words is empty at reset (log 1). -/
theorem fuseFormAtReset : Obligations.FuseFormAtReset :=
  ⟨rfl, fun _ h => nomatch h⟩

end Sys2Proof.Machine
end

section
/-! PROOFS. What each of a large family of commands leaves alone: L (R33), the fuse words (R446) and the stores, each one the
law of every routine read off once over the commands. -/

namespace Sys2Proof.Machine

/-- Settles O6: by the law of each routine that it keeps L. -/
theorem lMovesOnlyAtBoundariesAndRuns : Obligations.LMovesOnlyAtBoundariesAndRuns := by
  intro c s t h htransit hgood hcommit hretry hfirmware hrecovered htap hwarm
  cases c
  case transitBoundary inp => exact absurd rfl (htransit inp)
  case powerGood inp => exact absurd rfl (hgood inp)
  case commitPhase j n ok => exact absurd rfl (hcommit j n ok)
  case bootRetry => exact absurd rfl hretry
  case firmwareReset => exact absurd rfl hfirmware
  case powerRecovered => exact absurd rfl hrecovered
  case tapInstruction k => exact absurd rfl (htap k)
  case warmReset => exact absurd rfl hwarm
  all_goals
    rw [done_next h]
    simp

/-- A command that is none of the five that program fuses leaves the fuse words as they were. -/
theorem otp_of_exec {c : Instr} {s t : State} (h : exec c s = .next t) (hgood : ∀ inp, c ≠ .powerGood inp)
    (hcommit : ∀ j n ok, c ≠ .commitPhase j n ok) (htransit : ∀ inp, c ≠ .transitBoundary inp) (herased : ∀ g, c ≠ .keyBankErased g)
    (hmailbox : ∀ bits, c ≠ .lcsDapDoorbell bits) : t.lcs.otp = s.lcs.otp := by
  cases c
  case powerGood inp => exact absurd rfl (hgood inp)
  case commitPhase j n ok => exact absurd rfl (hcommit j n ok)
  case transitBoundary inp => exact absurd rfl (htransit inp)
  case keyBankErased g => exact absurd rfl (herased g)
  case lcsDapDoorbell bits => exact absurd rfl (hmailbox bits)
  all_goals
    rw [done_next h]
    simp

/-- Settles O5, by `otp_of_exec`. -/
theorem onlyPowerUpAndTransitionsProgramFuses : Obligations.OnlyPowerUpAndTransitionsProgramFuses := by
  intro c s t h hgood hcommit htransit herased hmailbox w
  unfold otpWord
  rw [otp_of_exec h hgood hcommit htransit herased hmailbox]

/-! ### The stores -/

@[simp] theorem withPending_still (s : State) (q : List Instr) : (s.withPending q).still = s.still := rfl

/-- The listed commands leave the stores as they were. -/
theorem still_of_exec {c : Instr} {s t : State} (hc : leavesStores c = true) (h : exec c s = .next t) : t.still = s.still := by
  cases c
  all_goals first
    | exact absurd hc Bool.false_ne_true
    | rw [done_next h]; simp

/-- Of the listed commands those that do not work on the mesh leave it as it was. -/
theorem msh_of_exec {c : Instr} {s t : State} (hc : leavesStores c = true) (hm : worksOnMesh c = false) (h : exec c s = .next t) :
    t.msh = s.msh := by
  cases c
  all_goals first
    | exact absurd hc Bool.false_ne_true
    | exact absurd hm Bool.false_ne_true.symm
    | rw [done_next h]; simp

/-- Settles O22: `still` read group by group, and the mesh. -/
theorem jobsAndLinksLeaveTheStoresAlone : Obligations.JobsAndLinksLeaveTheStoresAlone := by
  intro c s t hc h
  have hstill := still_of_exec hc h
  simp only [State.still, Prod.mk.injEq] at hstill
  obtain ⟨hglb, hwld, hkey, hlcs, heng, hrng, hpwr, hmtr, hldg, htam, hbst, hbar0, hdap⟩ := hstill
  exact ⟨hglb, hwld, hkey, hlcs, heng, hrng, hpwr, hmtr, hldg, htam, hbst, hbar0, hdap, fun hm => msh_of_exec hc hm h⟩

/-! ### The registers at reset -/

/-- Settles O28: a finite table of registers of one given state (logs 1 and 26). -/
theorem registersAtReset : Obligations.RegistersAtReset := by
  refine ⟨rfl, rfl, rfl, rfl, rfl, ?registers⟩
  case registers => decide +kernel

end Sys2Proof.Machine
end

section
/-! PROOFS. Fuse words (R446): every step programs them, bit by bit from 0 to 1, and keeps their form. -/

namespace Sys2Proof.Machine

/-- The fuse words that programming words, one after another, makes of `o`. -/
inductive Programmed (o : Tab Nat) : Tab Nat → Prop
  | refl : Programmed o o
  | program {o' : Tab Nat} (w v : Nat) (hv : v < 2 ^ 32) (h : Programmed o o') : Programmed o (programWord w v o')

theorem Programmed.trans {a b c : Tab Nat} (hab : Programmed a b) (hbc : Programmed b c) : Programmed a c := by
  induction hbc with
  | refl => exact hab
  | program w v hv _ ih => exact .program w v hv ih

/-- Programming sets bits and clears none. -/
theorem testBit_programWord {o : Tab Nat} {k b : Nat} (w v : Nat) (h : (Tab.getD o k 0).testBit b = true) :
    (Tab.getD (programWord w v o) k 0).testBit b = true := by
  rw [Tab.getD_programWord]
  split
  next hk => simp [← hk, h]
  next => exact h

theorem Programmed.testBit {o o' : Tab Nat} (h : Programmed o o') {k b : Nat} (hb : (Tab.getD o k 0).testBit b = true) :
    (Tab.getD o' k 0).testBit b = true := by
  induction h with
  | refl => exact hb
  | program w v _ _ ih => exact testBit_programWord w v ih

/-- The form of a table of fuse words: in order, no word 0, none wider than 32 bits. -/
def FuseTable (o : Tab Nat) : Prop := Tab.ok o = true ∧ ∀ e ∈ o, 0 < e.2 ∧ e.2 < 2 ^ 32

/-- A word of a table of the form fits 32 bits; one that is not listed reads 0. -/
theorem FuseTable.getD_lt {o : Tab Nat} (h : FuseTable o) (w : Nat) : Tab.getD o w 0 < 2 ^ 32 := by
  unfold Tab.getD
  cases hw : Tab.get? o w with
  | none => decide
  | some v => exact (h.2 _ (Tab.mem_of_get? hw)).2

theorem FuseTable.programWord {o : Tab Nat} (h : FuseTable o) {w v : Nat} (hv : v < 2 ^ 32) : FuseTable (programWord w v o) := by
  unfold Machine.programWord
  dsimp only
  split
  next => exact h
  next hne =>
    refine ⟨Tab.ok_put w _ h.1, fun e he => ?_⟩
    obtain rfl | he := Tab.mem_put he
    · exact ⟨Nat.pos_of_ne_zero hne, Nat.or_lt_two_pow (h.getD_lt w) hv⟩
    · exact h.2 e he

theorem Programmed.fuseTable {o o' : Tab Nat} (h : Programmed o o') (ho : FuseTable o) : FuseTable o' := by
  induction h with
  | refl => exact ho
  | program w v hv _ ih => exact ih.programWord hv

/-! ### Routines that program fuses -/

/-- A routine programs fuse words at most. -/
def Programs (f : State → State) : Prop := ∀ s, Programmed s.lcs.otp (f s).lcs.otp

/-- A routine that leaves the fuse words as they were programs none. -/
theorem Programmed.of_eq {o o' : Tab Nat} (h : o' = o) : Programmed o o' := h ▸ .refl

theorem Programmed.ite {o a b : Tab Nat} {c : Prop} [Decidable c] (ha : Programmed o a) (hb : Programmed o b) :
    Programmed o (if c then a else b) := by
  split
  · exact ha
  · exact hb

theorem programmed_foldl {α : Type} {f : State → α → State} (hf : ∀ a, Programs (f · a)) (l : List α) : Programs (l.foldl f) := by
  induction l with
  | nil => exact fun s => .refl
  | cons a l ih => exact fun s => (hf a s).trans (ih (f s a))

theorem programs_forEach {α : Type} {f : α → State → State} (hf : ∀ a, Programs (f a)) (l : List α) : Programs (forEach l f) :=
  programmed_foldl (f := fun s a => f a s) hf l

/-- A step byte lies in one word of 32 bits. -/
theorem programmed_programStep (i v : Nat) (o : Tab Nat) : Programmed o (programStep i v o) := by
  refine .program _ _ ?_ .refl
  have hbyte : v % 256 < 256 := Nat.mod_lt _ (by decide)
  have hplace : 256 ^ (i % 4) ≤ 256 ^ 3 := Nat.pow_le_pow_right (by decide) (by omega)
  calc v % 256 * 256 ^ (i % 4) ≤ 255 * 256 ^ 3 := Nat.mul_le_mul (by omega) hplace
    _ < 2 ^ 32 := by decide

theorem programs_runTransition (but : Option Nat) (to_ bits : Nat) : Programs (runTransition but to_ bits) := by
  intro s
  unfold runTransition
  split
  next => exact .refl
  next i _ =>
    dsimp only
    rw [eraseFor_otp, withdrawAll_otp]
    exact programmed_programStep i _ _

/-- Of the effects of a job only a life-cycle transition programs fuses. -/
theorem programs_applyEffect (j : Nat) (ok : Bool) (e : Effect) : Programs (applyEffect j ok e) := by
  intro s
  cases e with
  | transition to_ bits => exact programs_runTransition (some j) to_ bits s
  | openRights rights src zeroize =>
    refine .of_eq ?_
    cases zeroize <;> simp [applyEffect]
  | _ => exact .of_eq (by simp [applyEffect])

/-! ### Commit phases -/

@[simp] theorem finishCommit_otp (j : Nat) (x : Job) (r : Result) (s : State) : (finishCommit j x r s).lcs.otp = s.lcs.otp := by
  unfold finishCommit
  refine (foldl_otp _ (fun s e => ?_) _ _).trans (by simp)
  cases e <;> simp

@[simp] theorem advanceBurst_otp (j n : Nat) (x : Job) (r : Result) (b : Burst) (s : State) :
    (advanceBurst j n x r b s).lcs.otp = s.lcs.otp := by
  unfold advanceBurst
  dsimp only
  split <;> simp

theorem programs_beginCommit (j n : Nat) (ok : Bool) (x : Job) (r : Result) : Programs (beginCommit j n ok x r) := by
  intro s
  unfold beginCommit
  split
  next => exact .of_eq (by simp)
  next =>
    split
    · exact .of_eq (by simp)
    · exact .of_eq (by simp)
  next => exact .of_eq (by simp)
  next =>
    dsimp only
    rw [advanceBurst_otp]
    have h := fun b => programmed_foldl (fun e => programs_applyEffect j ok e) r.effects (modJob j b s)
    simpa using h _

theorem programs_commitPhase (j n : Nat) (ok : Bool) : Programs (commitPhase j n ok) := by
  intro s
  unfold commitPhase
  split
  next => exact .refl
  next x _ =>
    split
    next => exact .refl
    next r _ =>
      split
      next b _ => exact .of_eq (by split <;> simp)
      next =>
        extract_lets s1
        have hprep : s1.lcs.otp = s.lcs.otp := by simp [s1, ite_otp]
        rw [← hprep]
        split
        · exact programs_beginCommit j n ok x r s1
        · exact .refl

theorem programs_commitNow (j n : Nat) (ok : Bool) : Programs (commitNow j n ok) := by
  intro s
  unfold commitNow
  dsimp only
  split
  · rw [enterNight_otp]
    exact programs_commitPhase j n ok s
  · exact programs_commitPhase j n ok s

theorem programs_bankErased (g : Nat) : Programs (bankErased g) := by
  intro s
  unfold bankErased
  have h := programs_forEach (fun j => programs_commitPhase j 0 true)
    ((s.key.eraseDue.filter (fun e => e.2 == g)).map (·.1)) (keyBankErased g s)
  rwa [keyBankErased_otp] at h

/-! ### Boundaries, the mailbox and power-up -/

theorem programs_endBursts : Programs endBursts := by
  intro s
  refine programs_forEach (fun e s => ?_) (liveJobs s) s
  split
  · split
    · exact programs_commitPhase _ _ _ _
    · exact .refl
  · split
    · exact .refl
    · exact programs_commitPhase _ _ _ _

theorem programs_transitEnd (inp : TransitInput) : Programs (transitEnd inp) := by
  intro s
  unfold transitEnd
  have h := programs_endBursts (forEach inp.dma dmaRequest s)
  simpa using h

/-- A pending entry into NIGHT ends its job's commit phase or enters NIGHT. -/
theorem programs_nightGoesOn : Programs nightGoesOn := by
  intro s
  unfold nightGoesOn
  split
  next => exact .refl
  next j t _ =>
    split
    · split
      · exact .of_eq (enterNight_otp _ _ s)
      · exact .refl
    · split
      · exact programs_commitNow j (2 ^ 32) true s
      · exact .refl

theorem programs_transitBegin : Programs transitBegin := by
  intro s
  have h := programs_nightGoesOn (inOneCycle boundaryWork s)
  rwa [inOneCycle_otp _ boundaryWork_otp s] at h

theorem programs_transitBoundary (inp : TransitInput) : Programs (transitBoundary inp) := by
  intro s
  unfold transitBoundary
  extract_lets next held s1
  have h1 : Programmed s.lcs.otp s1.lcs.otp := by
    refine (programs_transitEnd inp s).trans (.of_eq ?_)
    exact (forEach_otp _ tileReading_otp inp.tiles _).trans (noiseSamples_otp inp _)
  split
  · exact .refl
  · split
    · exact .refl
    · split
      · rwa [stopGenerator_otp]
      · exact h1.trans (programs_transitBegin s1)

/-- The mailbox programs what its transition does. -/
theorem programs_lcsDapDoorbell (bits : Nat) : Programs (lcsDapDoorbell bits) := by
  intro s
  have hstep := programs_runTransition none ((Desc.parse s.lcs.dapDesc).par 40 1) bits s
  have hdone : ∀ d e from_ to_ (u : State), (mailboxEntry d e (transitionDone from_ to_ u)).lcs.otp = u.lcs.otp :=
    fun d e from_ to_ u => (mailboxEntry_otp d e _).trans (transitionDone_otp from_ to_ u)
  unfold lcsDapDoorbell
  dsimp only
  generalize runTransition none ((Desc.parse s.lcs.dapDesc).par 40 1) bits s = u at hstep
  split
  next => exact .refl
  next =>
    generalize mailboxBad s (Desc.parse s.lcs.dapDesc) (s.lcs.dapToken ++ zeros (32 - s.lcs.dapToken.length)) = bad
    have hrun : Programmed s.lcs.otp (match bad with
        | some e => mailboxEntry (Desc.parse s.lcs.dapDesc) e
            (if e.1 = 0x5040 then raiseFrom (source 7 0) 0x0411 5 ((Desc.parse s.lcs.dapDesc).par 40 1) 0 0 s else s)
        | none => if bits < 8 then u else mailboxEntry (Desc.parse s.lcs.dapDesc)
            (0, (Desc.parse s.lcs.dapDesc).par 40 1, lo32 (alarmInstantL u))
            (transitionDone s.lcs.code ((Desc.parse s.lcs.dapDesc).par 40 1) u)).lcs.otp := by
      cases bad with
      | some e => exact .of_eq (by simp [ite_otp])
      | none =>
        dsimp only
        rw [ite_otp, hdone, ite_self]
        exact hstep
    split
    next => exact hrun
    next => exact hrun
    next => exact .refl

theorem programs_factoryWords (ws : List (Nat × Nat)) : Programs (factoryWords ws) := by
  intro s
  unfold factoryWords
  split
  · dsimp only
    generalize ws.filter (fun e => decide (8 ≤ e.1 ∧ e.1 ≤ 96)) = own
    suffices h : ∀ o, Programmed o (own.foldl (fun o e => programWord e.1 (e.2 % 2 ^ 32) o) o) from h _
    induction own with
    | nil => exact fun o => .refl
    | cons e l ih => exact fun o => (Programmed.program e.1 _ (Nat.mod_lt _ (by decide)) .refl).trans (ih _)
  · exact .refl

theorem programs_otpStep (agree : Bool) : Programs (otpStep agree) := by
  intro s
  unfold otpStep
  split
  next => exact .refl
  next => simpa using programmed_programStep _ _ _
  next => exact .of_eq (by simp)

theorem otp_withOrr (s : State) (o : OrrState) : ({ s with orr := o } : State).lcs.otp = s.lcs.otp := rfl

theorem otp_withGlbPwr (s : State) (g : GlbState) (p : PwrState) : ({ s with glb := g, pwr := p } : State).lcs.otp = s.lcs.otp := rfl

/-- The block with the debug rights its life-cycle state opens without a grant (R454, R455). -/
def withDefaultRights (s : State) : State :=
  { s with lcs := { s.lcs with
      rights := rightsDefault s.lcs.code, rightsSource := if rightsDefault s.lcs.code = 0 then 0 else 1 } }

@[simp] theorem withDefaultRights_otp (s : State) : (withDefaultRights s).lcs.otp = s.lcs.otp := rfl

/-- The steps of a Dawn program the factory's words and the byte of a torn transition. -/
theorem programs_earlyDawn (inp : DawnInput) : Programs (earlyDawn inp) := by
  intro s
  unfold earlyDawn
  extract_lets cause kept before last s1 orr s2 glb pwr s3 s4 s5 s6 lcs s7 s8
  have h2 : s2.lcs.otp = s.lcs.otp := by
    have h1 : s1.lcs.otp = s.lcs.otp := resetVolatile_otp s
    rw [← h1]
    exact (ite_otp _ _ _).trans (by rw [otp_withOrr, ite_self])
  have h4 : Programmed s.lcs.otp s4.lcs.otp := by
    have h := programs_factoryWords inp.factory (forEach inp.flash dawnFlash s3)
    rwa [forEach_otp _ dawnFlash_otp, otp_withGlbPwr s2 _ _, h2] at h
  have h6 : Programmed s.lcs.otp s6.lcs.otp := by
    have h5 : s5.lcs.otp = s4.lcs.otp := (logAlwaysOn_otp _).trans (alwaysOnCheck_otp _ _)
    exact h4.trans (h5 ▸ programs_otpStep inp.otpAgree s5)
  have h7 : Programmed s.lcs.otp s7.lcs.otp := by
    rw [show s7 = withDefaultRights s6 from rfl, withDefaultRights_otp]
    exact h6
  have h8 : Programmed s.lcs.otp s8.lcs.otp := by
    rw [show s8 = selectPair (checkFirmware s7) from rfl, selectPair_otp, checkFirmware_otp]
    exact h7
  rw [ite_otp, ite_otp, ite_otp, failAttempt_otp, failAttempt_otp, laterDawn_otp]
  exact .ite h7 (.ite h7 (.ite h8 h8))

theorem programs_powerGood (inp : DawnInput) : Programs (powerGood inp) := by
  intro s
  unfold powerGood
  split
  · exact programs_earlyDawn inp s
  · exact .refl

/-! ### Every command and every step -/

/-- Every command programs fuse words at most: five through their routines, every other leaves them alone. -/
theorem programmed_of_exec {c : Instr} {s t : State} (h : exec c s = .next t) : Programmed s.lcs.otp t.lcs.otp := by
  have of_done {f : State → State} (hf : Programs f) (hdone : done s (f s) = .next t) : Programmed s.lcs.otp t.lcs.otp := by
    rw [done_next hdone]
    exact hf s
  by_cases hgood : ∃ inp, c = .powerGood inp
  · obtain ⟨inp, rfl⟩ := hgood
    exact of_done (programs_powerGood inp) h
  by_cases hcommit : ∃ j n ok, c = .commitPhase j n ok
  · obtain ⟨j, n, ok, rfl⟩ := hcommit
    exact of_done (programs_commitNow j n ok) h
  by_cases htransit : ∃ inp, c = .transitBoundary inp
  · obtain ⟨inp, rfl⟩ := htransit
    exact of_done (programs_transitBoundary inp) h
  by_cases herased : ∃ g, c = .keyBankErased g
  · obtain ⟨g, rfl⟩ := herased
    exact of_done (programs_bankErased g) h
  by_cases hmailbox : ∃ bits, c = .lcsDapDoorbell bits
  · obtain ⟨bits, rfl⟩ := hmailbox
    exact of_done (programs_lcsDapDoorbell bits) h
  exact .of_eq (otp_of_exec h (not_exists.1 hgood) (fun j n ok hc => hcommit ⟨j, n, ok, hc⟩) (not_exists.1 htransit)
    (not_exists.1 herased) (not_exists.1 hmailbox))

/-- A step programs fuse words at most. -/
theorem programmed_of_step {s t : State} (h : step s = .next t) : Programmed s.lcs.otp t.lcs.otp := by
  cases hq : s.pending with
  | nil =>
    rw [step_of_pending_nil hq] at h
    cases h
    exact .refl
  | cons c rest =>
    rw [step_of_pending_cons hq] at h
    exact programmed_of_exec (s := s.withPending rest) h

/-- Settles O2: programming clears no bit. -/
theorem fuseBitsOnlyGoFromZeroToOne : Obligations.FuseBitsOnlyGoFromZeroToOne :=
  fun _ _ _ _ h hb => (programmed_of_step h).testBit hb

/-- Settles O3: programming keeps the form. -/
theorem fuseFormIsKept : Obligations.FuseFormIsKept :=
  fun _ _ hform h => (programmed_of_step h).fuseTable hform

end Sys2Proof.Machine
end

section
/-! PROOFS. Rules of the shared operations: what a function, a ring and a job hold after an output, an event, a signal, an entry and
the end of a job. -/

namespace Sys2Proof.Machine

/-! ### Outputs and events leave the functions and the rings alone -/

@[simp] theorem fnOf_emit (o : Out) (s : State) (f : Nat) : (emit o s).fnOf f = s.fnOf f := rfl
@[simp] theorem sqOf_emit (o : Out) (s : State) (f n : Nat) : (emit o s).sqOf f n = s.sqOf f n := rfl
@[simp] theorem cqOf_emit (o : Out) (s : State) (f n : Nat) : (emit o s).cqOf f n = s.cqOf f n := rfl
@[simp] theorem emit_out (o : Out) (s : State) : (emit o s).out = s.out ++ [o] := rfl

@[simp] theorem raiseFrom_hlk (src code sev p1 p2 p3 : Nat) (s : State) : (raiseFrom src code sev p1 p2 p3 s).hlk = s.hlk := by simp

@[simp] theorem fnOf_raiseFrom (src code sev p1 p2 p3 : Nat) (s : State) (f : Nat) :
    (raiseFrom src code sev p1 p2 p3 s).fnOf f = s.fnOf f := by simp [State.fnOf]
@[simp] theorem sqOf_raiseFrom (src code sev p1 p2 p3 : Nat) (s : State) (f n : Nat) :
    (raiseFrom src code sev p1 p2 p3 s).sqOf f n = s.sqOf f n := by simp [State.sqOf]
@[simp] theorem cqOf_raiseFrom (src code sev p1 p2 p3 : Nat) (s : State) (f n : Nat) :
    (raiseFrom src code sev p1 p2 p3 s).cqOf f n = s.cqOf f n := by simp [State.cqOf]
@[simp] theorem fnOf_raiseEv (code sev p1 p2 p3 : Nat) (s : State) (f : Nat) :
    (raiseEv code sev p1 p2 p3 s).fnOf f = s.fnOf f := by simp [State.fnOf]

/-- A function's field that an operation keeps keeps its rings where the field is both tables. -/
theorem sqOf_modFn (f : Nat) (g : Fn → Fn) (hg : ∀ x, (g x).sqs = x.sqs) (s : State) (k m : Nat) : (modFn f g s).sqOf k m = s.sqOf k m := by
  by_cases hk : k = f <;> simp [State.sqOf, hk, hg]

theorem cqOf_modFn (f : Nat) (g : Fn → Fn) (hg : ∀ x, (g x).cqs = x.cqs) (s : State) (k m : Nat) : (modFn f g s).cqOf k m = s.cqOf k m := by
  by_cases hk : k = f <;> simp [State.cqOf, hk, hg]

/-! ### A signal (R155) and an attention bit (R8) leave the rings alone -/

@[simp] theorem sqOf_signal (f v : Nat) (s : State) (k m : Nat) : (signal f v s).sqOf k m = s.sqOf k m := by
  unfold signal
  split
  · rfl
  · split
    · exact sqOf_modFn f (fun x => { x with msixPba := if bit x.msixPba v then x.msixPba else x.msixPba + 2 ^ v }) (fun _ => rfl) s k m
    · rfl

@[simp] theorem cqOf_signal (f v : Nat) (s : State) (k m : Nat) : (signal f v s).cqOf k m = s.cqOf k m := by
  unfold signal
  split
  · rfl
  · split
    · exact cqOf_modFn f (fun x => { x with msixPba := if bit x.msixPba v then x.msixPba else x.msixPba + 2 ^ v }) (fun _ => rfl) s k m
    · rfl

@[simp] theorem sqOf_setAttn (b f : Nat) (s : State) (k m : Nat) : (setAttn b f s).sqOf k m = s.sqOf k m := by
  have h := sqOf_modFn f (fun x => { x with attn := x.attn + 2 ^ b }) (fun _ => rfl) s k m
  unfold setAttn
  dsimp only
  split
  · rfl
  · split
    · rw [sqOf_signal, h]
    · exact h

@[simp] theorem cqOf_setAttn (b f : Nat) (s : State) (k m : Nat) : (setAttn b f s).cqOf k m = s.cqOf k m := by
  have h := cqOf_modFn f (fun x => { x with attn := x.attn + 2 ^ b }) (fun _ => rfl) s k m
  unfold setAttn
  dsimp only
  split
  · rfl
  · split
    · rw [cqOf_signal, h]
    · exact h

/-- A signal sends at most one message. -/
theorem signal_out (f v : Nat) (s : State) : ∃ o, (signal f v s).out = s.out ++ o := by
  unfold signal
  split
  · exact ⟨[], (List.append_nil _).symm⟩
  · split
    · exact ⟨[], by simp⟩
    · exact ⟨_, rfl⟩

/-! ### Entries of completion queues (R168, R146) -/

@[simp] theorem cqOf_entryWritten (f n : Nat) (s : State) (k m : Nat) :
    (entryWritten f n s).cqOf k m =
      if k = f ∧ m = n then
        { s.cqOf f n with
          written := (s.cqOf f n).written + 1
          armed := if ((s.cqOf f n).armed && (s.cqOf f n).intEn) = true then false else (s.cqOf f n).armed }
      else s.cqOf k m := by
  unfold entryWritten
  dsimp only
  split
  next harmed => by_cases h : k = f ∧ m = n <;> simp [h]
  next harmed => by_cases h : k = f ∧ m = n <;> simp [h]

@[simp] theorem sqOf_entryWritten (f n : Nat) (s : State) (k m : Nat) : (entryWritten f n s).sqOf k m = s.sqOf k m := by
  unfold entryWritten
  dsimp only
  split <;> simp

theorem entryWritten_out (f n : Nat) (s : State) : ∃ o, (entryWritten f n s).out = s.out ++ o := by
  unfold entryWritten
  dsimp only
  split
  · obtain ⟨o, ho⟩ := signal_out f n (modCq f n (fun q => { q with armed := false }) (modCq f n (fun q => { q with written := q.written + 1 }) s))
    exact ⟨o, by simpa using ho⟩
  · exact ⟨[], by simp⟩

/-- An entry of an ACTIVE completion queue is put out and counted. -/
theorem writeEntry_of_active {f n : Nat} {s : State} (h : (s.cqOf f n).st = .active) (e : Bool → Completion) :
    writeEntry f n e s = entryWritten f n (emit (.entry f n (cqIndex (s.cqOf f n))
      (hostAddr s ((s.cqOf f n).base * 4096 + cqIndex (s.cqOf f n) * 32)) (e (cqPhase (s.cqOf f n)))
      (completionBytes (e (cqPhase (s.cqOf f n))))) s) := by
  simp [writeEntry, h]

/-- What an entry of an ACTIVE completion queue puts out first. -/
theorem writeEntry_out {f n : Nat} {s : State} (h : (s.cqOf f n).st = .active) (e : Bool → Completion) :
    ∃ i a p o, (writeEntry f n e s).out = s.out ++ Out.entry f n i a (e p) (completionBytes (e p)) :: o := by
  rw [writeEntry_of_active h]
  obtain ⟨o, ho⟩ := entryWritten_out f n (emit (.entry f n (cqIndex (s.cqOf f n))
      (hostAddr s ((s.cqOf f n).base * 4096 + cqIndex (s.cqOf f n) * 32)) (e (cqPhase (s.cqOf f n)))
      (completionBytes (e (cqPhase (s.cqOf f n))))) s)
  exact ⟨_, _, _, o, by simpa using ho⟩

@[simp] theorem sqOf_writeEntry (f n : Nat) (e : Bool → Completion) (s : State) (k m : Nat) : (writeEntry f n e s).sqOf k m = s.sqOf k m := by
  unfold writeEntry
  dsimp only
  split <;> simp

theorem cqOf_writeEntry_of_active {f n : Nat} {s : State} (h : (s.cqOf f n).st = .active) (e : Bool → Completion) (k m : Nat) :
    (writeEntry f n e s).cqOf k m =
      if k = f ∧ m = n then
        { s.cqOf f n with
          written := (s.cqOf f n).written + 1
          armed := if ((s.cqOf f n).armed && (s.cqOf f n).intEn) = true then false else (s.cqOf f n).armed }
      else s.cqOf k m := by
  rw [writeEntry_of_active h]
  simp

/-- Reserved places are given back to a completion queue that still stands as it did (R146). -/
theorem cqOf_giveBack (f n k : Nat) (s : State) (h m : Nat) :
    (giveBack f n k s).cqOf h m =
      if cqStands s f n = true ∧ h = f ∧ m = (s.sqOf f n).cq then { s.cqOf h m with reserved := (s.cqOf h m).reserved - k }
      else s.cqOf h m := by
  unfold giveBack
  split
  next hs =>
    rw [cqOf_modCq]
    by_cases hk : h = f ∧ m = (s.sqOf f n).cq
    · obtain ⟨rfl, rfl⟩ := hk
      simp [hs]
    · simp [hk]
  next hs => simp [hs]

@[simp] theorem sqOf_giveBack (f n k : Nat) (s : State) (h m : Nat) : (giveBack f n k s).sqOf h m = s.sqOf h m := by
  unfold giveBack
  split <;> simp

@[simp] theorem giveBack_out (f n k : Nat) (s : State) : (giveBack f n k s).out = s.out := by simp

/-! ### Jobs: what changing one leaves alone -/

@[simp] theorem fnOf_modJob (j : Nat) (g : Job → Job) (s : State) (f : Nat) : (modJob j g s).fnOf f = s.fnOf f := rfl
@[simp] theorem sqOf_modJob (j : Nat) (g : Job → Job) (s : State) (f n : Nat) : (modJob j g s).sqOf f n = s.sqOf f n := rfl
@[simp] theorem cqOf_modJob (j : Nat) (g : Job → Job) (s : State) (f n : Nat) : (modJob j g s).cqOf f n = s.cqOf f n := rfl
@[simp] theorem sqOf_markFinished (j : Nat) (s : State) (f n : Nat) : (markFinished j s).sqOf f n = s.sqOf f n := rfl
@[simp] theorem cqOf_markFinished (j : Nat) (s : State) (f n : Nat) : (markFinished j s).cqOf f n = s.cqOf f n := rfl

theorem jobOf_markFinished (j k : Nat) (s : State) :
    (markFinished j s).jobOf k =
      if k = j then (s.jobOf k).map (fun x => { x with finished := true, plan := [], park := none, bank := {} }) else s.jobOf k :=
  jobOf_modJob j k _ s

/-- An operation that keeps the jobs' group keeps every job. -/
theorem jobOf_of_job_eq {s t : State} (h : t.job = s.job) (k : Nat) : t.jobOf k = s.jobOf k := by
  rw [State.jobOf, h]
  rfl

@[simp] theorem jobOf_writeEntry (f n : Nat) (e : Bool → Completion) (s : State) (k : Nat) : (writeEntry f n e s).jobOf k = s.jobOf k :=
  jobOf_of_job_eq (by simp) k

@[simp] theorem jobOf_giveBack (f n m : Nat) (s : State) (k : Nat) : (giveBack f n m s).jobOf k = s.jobOf k := jobOf_of_job_eq (by simp) k

@[simp] theorem jobOf_emit (o : Out) (s : State) (k : Nat) : (emit o s).jobOf k = s.jobOf k := rfl

@[simp] theorem jobOf_drawFree (n : Nat) (s : State) (k : Nat) : (drawFree n s).jobOf k = s.jobOf k := rfl

@[simp] theorem jobOf_raiseFrom (src code sev p1 p2 p3 : Nat) (s : State) (k : Nat) :
    (raiseFrom src code sev p1 p2 p3 s).jobOf k = s.jobOf k := jobOf_of_job_eq (by simp) k

@[simp] theorem jobOf_raiseEv (code sev p1 p2 p3 : Nat) (s : State) (k : Nat) : (raiseEv code sev p1 p2 p3 s).jobOf k = s.jobOf k :=
  jobOf_of_job_eq (by simp) k

@[simp] theorem jobOf_setAttn (b f : Nat) (s : State) (k : Nat) : (setAttn b f s).jobOf k = s.jobOf k := jobOf_of_job_eq (by simp) k

@[simp] theorem jobOf_notify (type subject p0 p1 p2 p3 f : Nat) (s : State) (k : Nat) :
    (notify type subject p0 p1 p2 p3 f s).jobOf k = s.jobOf k := jobOf_of_job_eq (by simp) k

/-! ### The end of a job -/

/-- A job as its FINAL entry leaves it. -/
def Job.ended (x : Job) : Job := { x with finished := true, plan := [], park := none, bank := {}, reserve := 0 }

theorem endJob_of_live {s : State} {j : Nat} {x : Job} (hx : s.jobOf j = some x) (hlive : x.finished = false) (status w0 w1 w2 : Nat) :
    endJob j status w0 w1 w2 s =
      markFinished j (releaseReserve j (jobEntry j x (finalEntry s x status (outputLength x status) w0 w1 w2) s)) := by
  simp [endJob, hx, hlive]

/-- A job that has ended gets nothing more. -/
theorem endJob_of_finished {s : State} {j : Nat} {x : Job} (hx : s.jobOf j = some x) (hend : x.finished = true) (status w0 w1 w2 : Nat) :
    endJob j status w0 w1 w2 s = s := by
  simp [endJob, hx, hend]

/-- An entry of a job takes one of the places reserved for it at most. -/
theorem jobOf_jobEntry {s : State} {j : Nat} {x : Job} (hx : s.jobOf j = some x) (e : Bool → Completion) :
    ∃ r, (jobEntry j x e s).jobOf j = some { x with reserve := r } := by
  unfold jobEntry
  split
  · exact ⟨x.reserve, hx⟩
  · exact ⟨x.reserve - 1, by simp [hx]⟩

theorem jobOf_jobEntry_of_ne {j k : Nat} (h : k ≠ j) (x : Job) (e : Bool → Completion) (s : State) :
    (jobEntry j x e s).jobOf k = s.jobOf k := by
  unfold jobEntry
  split
  · rfl
  · simp [h]

theorem jobOf_releaseReserve (j k : Nat) (s : State) :
    (releaseReserve j s).jobOf k = if k = j then (s.jobOf k).map (fun x => { x with reserve := 0 }) else s.jobOf k := by
  unfold releaseReserve
  split
  next hx =>
    split
    next h => rw [h, hx]; rfl
    next => rfl
  next x hx => split <;> simp

/-- A job that ends is as `Job.ended` says. -/
theorem jobOf_endJob {s : State} {j : Nat} {x : Job} (hx : s.jobOf j = some x) (hlive : x.finished = false) (status w0 w1 w2 : Nat) :
    (endJob j status w0 w1 w2 s).jobOf j = some x.ended := by
  rw [endJob_of_live hx hlive, jobOf_markFinished, jobOf_releaseReserve]
  obtain ⟨r, hr⟩ := jobOf_jobEntry hx (finalEntry s x status (outputLength x status) w0 w1 w2)
  simp [hr, Job.ended]

theorem jobOf_endJob_of_ne {j k : Nat} (h : k ≠ j) (status w0 w1 w2 : Nat) (s : State) :
    (endJob j status w0 w1 w2 s).jobOf k = s.jobOf k := by
  unfold endJob
  split
  next => rfl
  next x _ =>
    split
    · rfl
    · rw [jobOf_markFinished, if_neg h, jobOf_releaseReserve, if_neg h, jobOf_jobEntry_of_ne h]

theorem ended_of_jobOf {s : State} {j : Nat} {x : Job} (hx : s.jobOf j = some x) (hend : x.finished = true) : Ended j s := by
  simp [Ended, hx, hend]

/-- A job that is listed has ended after its end. -/
theorem ended_endJob {s : State} {j : Nat} {x : Job} (hx : s.jobOf j = some x) (status w0 w1 w2 : Nat) :
    Ended j (endJob j status w0 w1 w2 s) := by
  cases hlive : x.finished with
  | false => exact ended_of_jobOf (jobOf_endJob hx hlive status w0 w1 w2) rfl
  | true => rw [endJob_of_finished hx hlive]; exact ended_of_jobOf hx hlive

theorem recorded_setResult {s : State} {j : Nat} {x : Job} (hx : s.jobOf j = some x) (r : Result) : Recorded j r (setResult j r s) :=
  setResult_result hx

/-! ### The one FINAL entry of a job (R146, R168, R169, R172) -/

section
variable {s : State} {j status w0 w1 w2 : Nat} {x : Job} (hx : s.jobOf j = some x) (hlive : x.finished = false) (hring : x.orphan = false)
  (hsq : (s.sqOf x.fn x.sq).st ≠ .fault) (hcq : (s.cqOf x.fn x.cq).st = .active) (hname : (s.sqOf x.fn x.sq).cq = x.cq)
  (hstands : cqStands s x.fn x.sq = true)

include hring hsq in
theorem jobEntry_of_ring (e : Bool → Completion) :
    jobEntry j x e s = modJob j (fun y => { y with reserve := y.reserve - 1 }) (giveBack x.fn x.sq 1 (writeEntry x.fn x.cq e s)) := by
  simp [jobEntry, hring, hsq]

include hcq hname hstands in
/-- The entry takes one place and is counted. -/
theorem cqOf_entry_of_ring (e : Bool → Completion) :
    ((giveBack x.fn x.sq 1 (writeEntry x.fn x.cq e s)).cqOf x.fn x.cq).written = (s.cqOf x.fn x.cq).written + 1 ∧
      ((giveBack x.fn x.sq 1 (writeEntry x.fn x.cq e s)).cqOf x.fn x.cq).reserved = (s.cqOf x.fn x.cq).reserved - 1 ∧
      cqStands (giveBack x.fn x.sq 1 (writeEntry x.fn x.cq e s)) x.fn x.sq = true := by
  have hstands' : cqStands (writeEntry x.fn x.cq e s) x.fn x.sq = true := by
    unfold cqStands at hstands ⊢
    rw [sqOf_writeEntry, hname, cqOf_writeEntry_of_active hcq]
    simpa [hname] using hstands
  refine ⟨?_, ?_, ?_⟩
  · rw [cqOf_giveBack, if_pos ⟨hstands', rfl, by rw [sqOf_writeEntry, hname]⟩, cqOf_writeEntry_of_active hcq, if_pos ⟨rfl, rfl⟩]
  · rw [cqOf_giveBack, if_pos ⟨hstands', rfl, by rw [sqOf_writeEntry, hname]⟩, cqOf_writeEntry_of_active hcq, if_pos ⟨rfl, rfl⟩]
  · unfold cqStands at hstands' ⊢
    rw [sqOf_giveBack, cqOf_giveBack]
    split <;> exact hstands'

include hx hlive hring hsq hcq hname hstands in
theorem cqOf_endJob_of_ring (hreserve : 0 < x.reserve) :
    ((endJob j status w0 w1 w2 s).cqOf x.fn x.cq).written = (s.cqOf x.fn x.cq).written + 1 ∧
      ((endJob j status w0 w1 w2 s).cqOf x.fn x.cq).reserved = (s.cqOf x.fn x.cq).reserved - x.reserve := by
  rw [endJob_of_live hx hlive, jobEntry_of_ring hring hsq, cqOf_markFinished]
  obtain ⟨hwritten, hreserved, hstill⟩ :=
    cqOf_entry_of_ring hcq hname hstands (finalEntry s x status (outputLength x status) w0 w1 w2)
  generalize hu : giveBack x.fn x.sq 1 (writeEntry x.fn x.cq (finalEntry s x status (outputLength x status) w0 w1 w2) s) = u
    at hwritten hreserved hstill
  have hjob : (modJob j (fun y => { y with reserve := y.reserve - 1 }) u).jobOf j = some { x with reserve := x.reserve - 1 } := by
    simp [← hu, hx]
  have hcqName : (u.sqOf x.fn x.sq).cq = x.cq := by simp [← hu, hname]
  have hrelease : (releaseReserve j (modJob j (fun y => { y with reserve := y.reserve - 1 }) u)).cqOf x.fn x.cq =
      { u.cqOf x.fn x.cq with reserved := (u.cqOf x.fn x.cq).reserved - (x.reserve - 1) } := by
    unfold releaseReserve
    rw [hjob]
    simp only [hring, Bool.false_eq_true, if_false, cqOf_modJob, cqOf_giveBack, sqOf_modJob, hcqName, and_true]
    exact if_pos hstill
  rw [hrelease]
  refine ⟨hwritten, ?_⟩
  show (u.cqOf x.fn x.cq).reserved - (x.reserve - 1) = _
  omega

include hx hlive hring hsq hcq in
theorem endJob_out_of_ring :
    ∃ i a p o, (endJob j status w0 w1 w2 s).out = s.out ++ Out.entry x.fn x.cq i a
      (finalEntry s x status (outputLength x status) w0 w1 w2 p)
      (completionBytes (finalEntry s x status (outputLength x status) w0 w1 w2 p)) :: o := by
  rw [endJob_of_live hx hlive, jobEntry_of_ring hring hsq]
  obtain ⟨i, a, p, o, ho⟩ := writeEntry_out hcq (finalEntry s x status (outputLength x status) w0 w1 w2)
  exact ⟨i, a, p, o, by simpa using ho⟩

end

/-- Settles O25: the entry's place and the places given back by `cqOf_endJob_of_ring`, the entry itself by `endJob_out_of_ring`. -/
theorem jobsEndWithOneFinalEntry : Obligations.JobsEndWithOneFinalEntry := by
  intro s j status w0 w1 w2 x hx
  refine ⟨fun hend => endJob_of_finished hx hend status w0 w1 w2, fun hlive hring hsq hcq hname hstands hreserve hstatus => ?_⟩
  obtain ⟨hwritten, hreserved⟩ := cqOf_endJob_of_ring (status := status) (w0 := w0) (w1 := w1) (w2 := w2) hx hlive hring hsq hcq hname
    hstands hreserve
  obtain ⟨i, a, p, o, ho⟩ := endJob_out_of_ring (status := status) (w0 := w0) (w1 := w1) (w2 := w2) hx hlive hring hsq hcq
  exact ⟨ended_endJob hx status w0 w1 w2, hwritten, hreserved, i, a, _, o, ho, rfl, rfl, rfl, rfl, rfl, if_neg hstatus, rfl, rfl, rfl⟩

end Sys2Proof.Machine
end

section
/-! PROOFS. Rings and descriptors of the host link (R139 to R158): doorbells, enabling and disabling, fetches, notices and failed
reads. -/

namespace Sys2Proof.Machine

/-- A command of a function that exists reaches the device while the link is up. -/
theorem onHost_of_exists {s : State} {f : Nat} (hup : s.hlk.up = true) (hf : fnExists s f = true) (g : State → State) :
    onHost f g s = g s := by
  simp [onHost, hup, hf]

@[simp] theorem fnOf_noteReserved (f a w m : Nat) (s : State) (k : Nat) : (noteReserved f a w m s).fnOf k = s.fnOf k := by
  unfold noteReserved
  split <;> simp [State.fnOf]

@[simp] theorem sqOf_noteReserved (f a w m : Nat) (s : State) (k n : Nat) : (noteReserved f a w m s).sqOf k n = s.sqOf k n := by
  simp [State.sqOf]

@[simp] theorem cqOf_noteReserved (f a w m : Nat) (s : State) (k n : Nat) : (noteReserved f a w m s).cqOf k n = s.cqOf k n := by
  simp [State.cqOf]

/-! ### Doorbells (R141, R142, R155) -/

section
variable {s : State} {f n : Nat} {count : Word} {cycle : Nat}

theorem sqDoorbell_of_count (hactive : (s.sqOf f n).st = .active) (hlow : 0 ≤ diff32 count (s.sqOf f n).head)
    (hhigh : diff32 count (s.sqOf f n).head ≤ (2 ^ (s.sqOf f n).sizeLog2 : Nat)) :
    sqDoorbell f n count cycle s =
      modSq f n (fun q => { q with tail := count, bells := q.bells ++ [(count, s.time.L * 24576 + cycle)] }) s := by
  simp only [sqDoorbell, hactive, if_true, transitCycles, ringSize]
  exact if_neg (not_or.2 ⟨Int.not_lt.2 hlow, Int.not_lt.2 hhigh⟩)

theorem sqDoorbell_of_below (hactive : (s.sqOf f n).st = .active) (hbelow : diff32 count (s.sqOf f n).head < 0) :
    sqDoorbell f n count cycle s = faultSq f n 0x0C s := by
  simp [sqDoorbell, hactive, hbelow]

/-- A ring that is not ACTIVE only notes that it ignored the doorbell. -/
theorem sqDoorbell_of_not_active (hst : (s.sqOf f n).st ≠ .active) :
    ((sqDoorbell f n count cycle s).sqOf f n).tail = (s.sqOf f n).tail ∧ ((sqDoorbell f n count cycle s).sqOf f n).st = (s.sqOf f n).st := by
  have hlog : (logIgnored f n (ringCode (s.sqOf f n).st) (s.sqOf f n).ignoredLogged s).sqOf f n = s.sqOf f n := by
    unfold logIgnored
    split <;> simp
  simp [sqDoorbell, hst, hlog]

theorem cqDoorbell_of_below (hactive : (s.cqOf f n).st = .active) (hbelow : diff32 count (s.cqOf f n).consumed < 0) :
    cqDoorbell f n count s = faultCq f n 0x0C s := by
  simp [cqDoorbell, hactive, hbelow]

/-- A count between the consumed and the written one is taken, and the ring armed unless its vector is signalled. -/
theorem cqOf_cqDoorbell (hactive : (s.cqOf f n).st = .active) (hlow : 0 ≤ diff32 count (s.cqOf f n).consumed)
    (hhigh : 0 ≤ diff32 (s.cqOf f n).written count) :
    (cqDoorbell f n count s).cqOf f n =
      { s.cqOf f n with consumed := count, armed := !((s.cqOf f n).intEn && count != (s.cqOf f n).written) } := by
  have hin : ¬(diff32 count (s.cqOf f n).consumed < 0 ∨ diff32 (s.cqOf f n).written count < 0) :=
    not_or.2 ⟨Int.not_lt.2 hlow, Int.not_lt.2 hhigh⟩
  unfold cqDoorbell
  dsimp only
  rw [if_pos hactive, if_neg hin]
  split
  next hwait =>
    have harmed : ((s.cqOf f n).intEn && count != (s.cqOf f n).written) = true := by
      simpa using hwait
    rw [cqOf_signal, cqOf_modCq, if_pos ⟨rfl, rfl⟩, cqOf_modCq, if_pos ⟨rfl, rfl⟩, harmed]
    rfl
  next hwait =>
    have harmed : ((s.cqOf f n).intEn && count != (s.cqOf f n).written) = false :=
      Bool.eq_false_iff.2 fun h => hwait (by simpa using h)
    rw [cqOf_modCq, if_pos ⟨rfl, rfl⟩, harmed]
    rfl

end

/-- Settles O35, case by case of the two doorbells. -/
theorem doorbellsOfBothRings : Obligations.DoorbellsOfBothRings := by
  refine ⟨fun s f n count cycle hup hf => ⟨?taken, ?below, ?idle⟩, fun s f n count hup hf hactive => ⟨?consumed, ?outside⟩⟩
  case taken =>
    intro hactive hlow hhigh
    refine does_of_exec_eq_done (congrArg (done s) ?_)
    rw [onHost_of_exists hup hf, sqDoorbell_of_count hactive hlow hhigh]
  case below =>
    intro hactive hbelow
    refine does_of_exec_eq_done (congrArg (done s) ?_)
    rw [onHost_of_exists hup hf, sqDoorbell_of_below hactive hbelow]
  case idle =>
    intro hst
    apply yields_of_exec_eq_done rfl
    rw [onHost_of_exists hup hf]
    exact sqDoorbell_of_not_active hst
  case consumed =>
    intro hlow hhigh
    apply yields_of_exec_eq_done rfl
    rw [onHost_of_exists hup hf, cqOf_withPending, cqOf_cqDoorbell hactive hlow hhigh]
    exact ⟨rfl, hactive, rfl⟩
  case outside =>
    intro hbelow
    refine does_of_exec_eq_done (congrArg (done s) ?_)
    rw [onHost_of_exists hup hf, cqDoorbell_of_below hactive hbelow]

/-! ### Rings go on and off (R139 to R141) -/

section
variable {s : State} {f n : Nat} {w : Nat}

/-- Enabling a submission ring that is OFF: ACTIVE with its counts at 0, or OFF with the error of the first check that fails. -/
theorem sqOf_sqEnable (hoff : (s.sqOf f n).st = .off) {e : Nat}
    (he : e = sqEnableError s f n { sqWithCtrl (s.sqOf f n) w with error := 0, enableBit := true }) :
    ((sqEnable f n w s).sqOf f n).st = (if e = 0 then .active else .off) ∧ ((sqEnable f n w s).sqOf f n).error = e ∧
      (e = 0 → ((sqEnable f n w s).sqOf f n).limit = 0 ∧ ((sqEnable f n w s).sqOf f n).head = 0 ∧
        ((sqEnable f n w s).sqOf f n).tail = 0) := by
  have hcase : sqEnable f n w s =
      if e = 0 then modSq f n (fun _ => { sqWithCtrl (s.sqOf f n) w with
        enableBit := true, error := 0, st := .active, limit := 0, head := 0, tail := 0, withheld := ringSize (bits w 4 0), bells := [],
        offDue := false, cqGen := (s.cqOf f (bits w 19 16)).gen }) s
      else modSq f n (fun _ => { sqWithCtrl (s.sqOf f n) w with error := e, enableBit := false }) s := by
    rw [he]
    exact if_pos hoff
  rw [hcase]
  by_cases hgood : e = 0
  · simp [hgood]
  · simp [hgood, sqWithCtrl, hoff]

theorem cqOf_cqEnable (hoff : (s.cqOf f n).st = .off) {e : Nat}
    (he : e = cqEnableError s f n { cqWithCtrl (s.cqOf f n) w with error := 0, enableBit := true }) :
    ((cqEnable f n w s).cqOf f n).st = (if e = 0 then .active else .off) ∧ ((cqEnable f n w s).cqOf f n).error = e ∧
      (e = 0 → ((cqEnable f n w s).cqOf f n).written = 0 ∧ ((cqEnable f n w s).cqOf f n).consumed = 0 ∧
        ((cqEnable f n w s).cqOf f n).reserved = 0) := by
  have hcase : cqEnable f n w s =
      if e = 0 then modCq f n (fun _ => { cqWithCtrl (s.cqOf f n) w with
        enableBit := true, error := 0, st := .active, written := 0, consumed := 0, reserved := 0, armed := false,
        gen := (s.cqOf f n).gen + 1 }) s
      else modCq f n (fun _ => { cqWithCtrl (s.cqOf f n) w with error := e, enableBit := false }) s := by
    rw [he]
    exact if_pos hoff
  rw [hcase]
  by_cases hgood : e = 0
  · simp [hgood]
  · simp [hgood, cqWithCtrl, hoff]

theorem sqOff_sqOf (f n : Nat) (s : State) : ((sqOff f n s).sqOf f n).st = .off ∧ ((sqOff f n s).sqOf f n).enableBit = false := by
  simp [sqOff]

/-- A DRAINING ring goes OFF once its jobs are gone. -/
theorem sqOf_settleSq_of_draining (hst : (s.sqOf f n).st = .draining) (hbit : (s.sqOf f n).enableBit = false) :
    (((settleSq f n s).sqOf f n).st = .draining ∨ ((settleSq f n s).sqOf f n).st = .off) ∧
      ((settleSq f n s).sqOf f n).enableBit = false := by
  unfold settleSq
  dsimp only
  split
  · exact ⟨.inr (sqOff_sqOf f n s).1, (sqOff_sqOf f n s).2⟩
  · exact ⟨.inl hst, hbit⟩

theorem sqOf_sqDisable_of_active (hactive : (s.sqOf f n).st = .active) :
    (((sqDisable f n w s).sqOf f n).st = .draining ∨ ((sqDisable f n w s).sqOf f n).st = .off) ∧
      ((sqDisable f n w s).sqOf f n).enableBit = false := by
  have hcase : sqDisable f n w s =
      settleSq f n (modSq f n (fun q => { sqCtrlKept q w with st := .draining, enableBit := false }) s) := by
    simp [sqDisable, hactive]
  rw [hcase]
  exact sqOf_settleSq_of_draining (by simp) (by simp)

theorem cqOf_cqDisable_of_fault (hfault : (s.cqOf f n).st = .fault) :
    ((cqDisable f n w s).cqOf f n).st = .off ∧ ((cqDisable f n w s).cqOf f n).reserved = 0 := by
  simp [cqDisable, hfault]

theorem cqOf_cqDisable_of_named (hactive : (s.cqOf f n).st = .active)
    (hnamed : (s.fnOf f).sqs.any (fun e => e.2.cq == n && e.2.st != .off) = true) :
    ((cqDisable f n w s).cqOf f n).st = .active ∧ ((cqDisable f n w s).cqOf f n).error = 0x07 := by
  have hkept : (cqCtrlKept (s.cqOf f n) w).st = .active := by
    unfold cqCtrlKept
    dsimp only
    split <;> exact hactive
  simp [cqDisable, hactive, hnamed, hkept]

end

/-- Settles O36, ring by ring. -/
theorem ringsGoOnAndOff : Obligations.RingsGoOnAndOff := by
  refine ⟨fun s f n w hup hf => ⟨?sqOn, ?cqOn⟩, fun s f n w hup hf => ⟨?sqOff, ?cqFault, ?cqNamed⟩⟩
  case sqOn =>
    intro hoff e he
    apply yields_of_exec_eq_done rfl
    rw [onHost_of_exists hup hf]
    exact sqOf_sqEnable (by rwa [sqOf_noteReserved]) (by rwa [sqOf_noteReserved])
  case cqOn =>
    intro hoff e he
    apply yields_of_exec_eq_done rfl
    rw [onHost_of_exists hup hf]
    exact cqOf_cqEnable (by rwa [cqOf_noteReserved]) (by rwa [cqOf_noteReserved])
  case sqOff =>
    intro hactive
    apply yields_of_exec_eq_done rfl
    rw [onHost_of_exists hup hf]
    exact sqOf_sqDisable_of_active (by rwa [sqOf_noteReserved])
  case cqFault =>
    intro hfault
    apply yields_of_exec_eq_done rfl
    rw [onHost_of_exists hup hf]
    exact cqOf_cqDisable_of_fault (by rwa [cqOf_noteReserved])
  case cqNamed =>
    intro hactive hnamed
    apply yields_of_exec_eq_done rfl
    rw [onHost_of_exists hup hf]
    exact cqOf_cqDisable_of_named (by rwa [cqOf_noteReserved]) (by rwa [fnOf_noteReserved])

/-! ### Descriptors (R144, R150, R166) -/

@[simp] theorem passTurn_job (f n : Nat) (s : State) : (passTurn f n s).job = s.job := by simp [passTurn]
@[simp] theorem passTurn_time (f n : Nat) (s : State) : (passTurn f n s).time = s.time := by simp [passTurn]

theorem fnOf_passTurn (f n : Nat) (s : State) (k : Nat) :
    (passTurn f n s).fnOf k = if k = f then { s.fnOf f with fetchSq := (n + 1) % 16 } else s.fnOf k :=
  fnOf_modFn f k (fun x => { x with fetchSq := (n + 1) % 16 }) s

theorem sqOf_passTurn (f n : Nat) (s : State) (k m : Nat) : (passTurn f n s).sqOf k m = s.sqOf k m :=
  sqOf_modFn f (fun x => { x with fetchSq := (n + 1) % 16 }) (fun _ => rfl) s k m

theorem cqOf_passTurn (f n : Nat) (s : State) (k m : Nat) : (passTurn f n s).cqOf k m = s.cqOf k m :=
  cqOf_modFn f (fun x => { x with fetchSq := (n + 1) % 16 }) (fun _ => rfl) s k m

/-- The block with one more job, under the next number. -/
def withJobAdded (x : Job) (s : State) : State :=
  { s with job := { s.job with jobs := Tab.put s.job.jobs s.job.nextJob x, nextJob := s.job.nextJob + 1 } }

theorem jobOf_withJobAdded (x : Job) (s : State) : (withJobAdded x s).jobOf s.job.nextJob = some x := by
  simp [State.jobOf, withJobAdded, Tab.get?_put]

section
variable {s : State} {f n : Nat} {bytes : List Byte} (hnext : nextFetch s = some (f, n))
include hnext

/-- A descriptor no check refuses makes a job of the next number, and its ring and function pass the turn on. -/
theorem descriptorFetch_of_good (hlimit : withinLimit (s.sqOf f n) = true) (hgen : s.time.genStopped = false)
    (hgood : firstRefusal (passTurn f n s) f (Desc.parse bytes) = none) :
    descriptorFetch f n bytes s =
      withJobAdded (newJob (passTurn f n s) f n (Desc.parse bytes) ((opInfo (passTurn f n s) f (Desc.parse bytes)).getD unknownInfo))
        (modSq f n fetched (passTurn f n s)) := by
  simp [descriptorFetch, hnext, hlimit, hgen, hgood, withJobAdded]

theorem creditlessAnswer_of_beyond (hlimit : withinLimit (s.sqOf f n) = false) :
    creditlessAnswer f n bytes s =
      writeEntry f (s.sqOf f n).cq
        (plainAnswer (passTurn f n (modSq f n (fun q => { fetched q with limit := q.limit + 1 }) s)) (BitVec.ofNat 32 (leAt bytes 4 4)) n
          (creditlessStatus s) true)
        (passTurn f n (modSq f n (fun q => { fetched q with limit := q.limit + 1 }) s)) := by
  simp [creditlessAnswer, hnext, hlimit]

end

theorem creditlessStatus_eq (s : State) :
    creditlessStatus s = if served s = false ∨ s.time.genStopped = true then 0x1002 else 0x2020 := by
  simp [creditlessStatus]

/-- Settles O8: the fetched job by `descriptorFetch_of_good`, the answer without credit by `creditlessAnswer_of_beyond`. -/
theorem descriptorsAreFetchedOrAnswered : Obligations.DescriptorsAreFetchedOrAnswered := by
  intro s f n bytes hnext
  refine ⟨fun hlimit hgen hgood => ?fetched, fun hlimit hactive => ?answered⟩
  case fetched =>
    apply yields_of_exec_eq_done rfl
    rw [descriptorFetch_of_good hnext hlimit hgen hgood]
    refine ⟨rfl, ?_, ?_, ?_, rfl⟩
    · have hjob := jobOf_withJobAdded (newJob (passTurn f n s) f n (Desc.parse bytes)
        ((opInfo (passTurn f n s) f (Desc.parse bytes)).getD unknownInfo)) (modSq f n fetched (passTurn f n s))
      rw [jobOf_withPending]
      exact (congrArg (Option.map _) hjob).trans rfl
    · have hsq : (modSq f n fetched (passTurn f n s)).sqOf f n = fetched (s.sqOf f n) := by simp [sqOf_passTurn]
      exact hsq
    · have hfn : ((modSq f n fetched (passTurn f n s)).fnOf f).fetchSq = (n + 1) % 16 := by simp [modSq, fnOf_passTurn]
      exact hfn
  case answered =>
    apply yields_of_exec_eq_done rfl
    rw [creditlessAnswer_of_beyond hnext hlimit]
    generalize hu : passTurn f n (modSq f n (fun q => { fetched q with limit := q.limit + 1 }) s) = u
    have hcq : u.cqOf f (s.sqOf f n).cq = s.cqOf f (s.sqOf f n).cq := by rw [← hu, cqOf_passTurn, cqOf_modSq]
    have hst : (u.cqOf f (s.sqOf f n).cq).st = .active := by rw [hcq, hactive]
    refine ⟨?_, ?_⟩
    · rw [cqOf_withPending, cqOf_writeEntry_of_active hst, if_pos ⟨rfl, rfl⟩, hcq]
    · obtain ⟨i, a, p, o, ho⟩ := writeEntry_out hst
        (plainAnswer u (BitVec.ofNat 32 (leAt bytes 4 4)) n (creditlessStatus s) true)
      refine ⟨i, a, plainAnswer u (BitVec.ofNat 32 (leAt bytes 4 4)) n (creditlessStatus s) true p, _, ?_, rfl, rfl, rfl,
        creditlessStatus_eq s⟩
      rw [State.withPending_out, ho]
      exact List.mem_append_right _ (.head _)

/-! ### Notices and failed reads (R151, R156, R173) -/

/-- The block when a function's oldest held notice has been taken from those it holds. -/
def noticeTaken (f : Nat) (rest : List Notice) (s : State) : State := setFn f { s.fnOf f with held := rest, lostSince := 0 } s

section
variable {s : State} {f : Nat} {n : Notice} {rest : List Notice} (hheld : (s.fnOf f).held = n :: rest)
  (hactive : (s.cqOf f 0).st = .active) (hroom : 0 < noticeRoom (s.cqOf f 0)) (hreset : resetting s f = false)
include hheld hactive hroom hreset

/-- The oldest held notice goes to CQ 0, with the count of notices lost before it. -/
theorem writeNotice_of_held :
    writeNotice f s = entryWritten f 0 (emit (.notice f (cqIndex (s.cqOf f 0))
      (hostAddr (noticeTaken f rest s) ((s.cqOf f 0).base * 4096 + cqIndex (s.cqOf f 0) * 32)) (s.fnOf f).lostSince (cqPhase (s.cqOf f 0)) n
      (noticeBytes n (s.fnOf f).lostSince (cqPhase (s.cqOf f 0)))) (noticeTaken f rest s)) := by
  unfold writeNotice
  dsimp only
  rw [hheld]
  exact if_pos ⟨hactive, hroom, hreset⟩

end

@[simp] theorem signal_held (f v : Nat) (s : State) (k : Nat) :
    ((signal f v s).fnOf k).held = (s.fnOf k).held ∧ ((signal f v s).fnOf k).lostSince = (s.fnOf k).lostSince := by
  unfold signal
  split
  · exact ⟨rfl, rfl⟩
  · split
    · rw [fnOf_modFn]
      split
      next hk => rw [hk]; exact ⟨rfl, rfl⟩
      next => exact ⟨rfl, rfl⟩
    · exact ⟨rfl, rfl⟩

/-- An entry of a completion queue leaves its function's notices alone. -/
theorem entryWritten_held (f n : Nat) (s : State) :
    ((entryWritten f n s).fnOf f).held = (s.fnOf f).held ∧ ((entryWritten f n s).fnOf f).lostSince = (s.fnOf f).lostSince := by
  unfold entryWritten
  dsimp only
  split <;> simp [modCq]

/-- What is put out before an entry is counted stays. -/
theorem mem_entryWritten_emit (f n : Nat) (o : Out) (s : State) : o ∈ (entryWritten f n (emit o s)).out := by
  obtain ⟨l, hl⟩ := entryWritten_out f n (emit o s)
  rw [hl]
  exact List.mem_append_left _ (List.mem_append_right _ (.head _))

/-- Settles O9: the notice by `writeNotice_of_held`, the failed reads by the two arms of HOST_READ_FAILURE (log 77). -/
theorem noticesAndReadFailures : Obligations.NoticesAndReadFailures := by
  refine ⟨fun s f n rest hheld hactive hroom hreset htail => ?notice, fun s j f n addr cause x hx hlive hburst hanswer => ?operand,
    fun s f n addr cause hnext => ?descriptor⟩
  case notice =>
    apply yields_of_exec_eq_done rfl
    have hcase : noticeWrite f s = writeNotice f s := by simp [noticeWrite, htail]
    have hcq : (noticeTaken f rest s).cqOf f 0 = s.cqOf f 0 := by simp [noticeTaken, State.cqOf]
    have hfn : (noticeTaken f rest s).fnOf f = { s.fnOf f with held := rest, lostSince := 0 } := by simp [noticeTaken]
    rw [hcase, writeNotice_of_held hheld hactive hroom hreset]
    refine ⟨?_, ?_, ?_, _, _, _, mem_entryWritten_emit f 0 _ _⟩
    · rw [fnOf_withPending, (entryWritten_held f 0 _).1, fnOf_emit, hfn]
    · rw [fnOf_withPending, (entryWritten_held f 0 _).2, fnOf_emit, hfn]
    · rw [cqOf_withPending, cqOf_entryWritten, if_pos ⟨rfl, rfl⟩, cqOf_emit, hcq]
  case operand =>
    refine does_of_exec_eq_done (congrArg (done s) ?_)
    simp [hostReadFailure, hx, hlive, hburst, hanswer, inCommit, failJob]
  case descriptor =>
    exact does_of_exec_eq_done (congrArg (done s) (if_pos hnext))

end Sys2Proof.Machine
end

section
/-! PROOFS. Function resets and the link (R157, R158): what a job table with one number twice does to the wait of R77. -/

namespace Sys2Proof.Machine

/-- A job of function 0 outside its commit phase. -/
def plainJob : Job := { fn := 0, sq := 0, cq := 0, desc := Desc.parse [], bellD := 0 }

/-- A state whose job table lists the number 0 twice: once in a commit phase, once outside it. No step produces such a table, but the
statement speaks of every state. -/
def jobNumberTwice : State :=
  { State.reset with
    hlk := { State.reset.hlk with up := true }
    job := { State.reset.job with jobs := [(0, { plainJob with burst := some { beganL := 0, issued := 0 } }), (0, plainJob)] } }

/-- The reset drops job 0 for its second entry, and with it the first one, whose commit phase then holds nothing back. -/
theorem resetting_flr_jobNumberTwice : resetting ((onHost 0 (flr 0) jobNumberTwice).withPending jobNumberTwice.pending) 0 = false := by decide +kernel

/-- Refutes O37: the function reset of a device whose job table lists a number twice ends the job in its commit phase with its twin, so
it does not wait though a commit phase was in progress. -/
theorem not_functionResetsAndTheLink : ¬ Obligations.FunctionResetsAndTheLink := by
  rintro ⟨hresets, -⟩
  have hcommitting : committing jobNumberTwice ≠ [] := by decide
  obtain ⟨t, hexec, -, hreset⟩ := (hresets jobNumberTwice 0 0 rfl rfl).1 hcommitting
  rw [done_next hexec, resetting_flr_jobNumberTwice] at hreset
  exact Bool.noConfusion hreset

end Sys2Proof.Machine
end

section
/-! PROOFS. Registers of a function and register accesses (R8, R136, R152, R486, R536, R538). -/

namespace Sys2Proof.Machine

section
variable (s : State) (f w a m : Nat)

@[simp] theorem noteReserved_car : (noteReserved f a w m s).car = s.car := by
  unfold noteReserved
  split <;> simp

@[simp] theorem noteReserved_job : (noteReserved f a w m s).job = s.job := by
  unfold noteReserved
  split <;> simp

@[simp] theorem fns_noteReserved : (noteReserved f a w m s).hlk.fns = s.hlk.fns := by
  unfold noteReserved
  split <;> simp

@[simp] theorem vfEnable_noteReserved : (noteReserved f a w m s).hlk.vfEnable = s.hlk.vfEnable := by
  unfold noteReserved
  split <;> simp

end

/-! ### Sums of flags -/

/-- The word whose bits are the flags `b 0`, …, `b (n - 1)`. -/
def flagWord (b : Nat → Bool) (n : Nat) : Nat := (List.range n).foldl (fun a i => a + flag (b i) * 2 ^ i) 0

theorem flagWord_succ (b : Nat → Bool) (n : Nat) : flagWord b (n + 1) = flagWord b n + flag (b n) * 2 ^ n := by
  simp [flagWord, List.range_succ]

theorem flagWord_lt (b : Nat → Bool) (n : Nat) : flagWord b n < 2 ^ n := by
  induction n with
  | zero => simp [flagWord]
  | succ n ih =>
    rw [flagWord_succ, Nat.pow_succ]
    cases b n <;> simp [flag] <;> omega

theorem bit_flagWord (b : Nat → Bool) {n i : Nat} (h : i < n) : bit (flagWord b n) i = b i := by
  induction n with
  | zero => omega
  | succ n ih =>
    have hsum : flagWord b (n + 1) = 2 ^ n * flag (b n) + flagWord b n := by
      rw [flagWord_succ, Nat.mul_comm, Nat.add_comm]
    rw [bit, hsum, Nat.testBit_two_pow_mul_add _ (flagWord_lt b n)]
    by_cases hi : i < n
    · rw [if_pos hi]
      exact ih hi
    · obtain rfl : i = n := by omega
      cases hb : b i <;> simp [flag]

/-! ### STATUS_BLOCK_ENABLE, FN_ATTN_CLEAR and BOOT_MAP -/

theorem bits_page (w : Nat) : bits w 31 12 = w % 2 ^ 32 / 4096 := by
  simp only [bits, Nat.shiftRight_eq_div_pow]
  omega

section
variable {s : State} {f w : Nat}

theorem fnOf_statusBlockEnable : (statusBlockEnable f w s).fnOf f =
    { s.fnOf f with
      sbPage := w % 2 ^ 32 / 4096
      sbEnabled := bit w 0 && bound s f && pageGood s f 2 (w % 2 ^ 32 / 4096)
      sbLast := if (bit w 0 && bound s f && pageGood s f 2 (w % 2 ^ 32 / 4096)) && (s.fnOf f).sbEnabled && (s.fnOf f).sbPage == w % 2 ^ 32 / 4096
        then (s.fnOf f).sbLast else statusWords s f } := by
  simp only [statusBlockEnable, bits_page, fnOf_modFn, if_true]

/-- Exactly the attention bits written 1 are cleared. -/
theorem bit_attn_fnAttnClear {i : Nat} (hi : i < 6) :
    bit ((fnAttnClear f w s).fnOf f).attn i = (bit (s.fnOf f).attn i && !bit w i) := by
  simp only [fnAttnClear, fnOf_modFn, if_true]
  exact bit_flagWord (fun i => bit (s.fnOf f).attn i && !bit w i) hi

@[simp] theorem fnOf_pruneWanted (k : Nat) : (pruneWanted s).fnOf k = s.fnOf k := rfl

/-- Where no job is parked, no page releases one. -/
theorem releasePages_of_none_parked {pages : List Nat} (h : ∀ e ∈ liveJobs s, e.2.park = none) :
    releasePages pages s = pruneWanted s := by
  have hnone : parkedAmong s pages = [] := by
    rw [parkedAmong, List.filter_eq_nil_iff]
    intro e he
    simp [h e he]
  rw [releasePages, releaseCounted, hnone]
  rfl

/-- The entry BOOT_MAP makes of the selected page, in a window's rights. -/
def bootEntry (s : State) (f : Nat) (v : Window) : PageEntry where
  rights := v.rights % 4
  cab := cabOfFn s f
  fn := f
  frame := (s.fnOf f).bootFrameLo / 4096 % 2 ^ 20 + (s.fnOf f).bootFrameHi % 2 ^ 28 * 2 ^ 20

theorem bootMap_of_window {v : Window} (hf : fnExists s f = true) (hw : bit w 0 = true) (hbound : bound s f = true)
    (hv : bootWindow s f ((s.fnOf f).bootPage % 2 ^ 20) = some v) (hring : ringActive (s.fnOf f) = false)
    (hpin : pagePinned s ((s.fnOf f).bootPage % 2 ^ 20) = false) (hmade : (s.fnOf f).bootMade < 64)
    (hpark : ∀ e ∈ liveJobs s, e.2.park = none) :
    bootMap f w s = pruneWanted (modFn f (fun x => { x with bootResult := 0, bootMade := x.bootMade + 1 })
      (potChange ((s.fnOf f).bootPage % 2 ^ 20) (some (bootEntry s f v)) s)) := by
  rw [← releasePages_of_none_parked (pages := [(s.fnOf f).bootPage % 2 ^ 20]) (by exact hpark)]
  simp only [bootMap, hf, hw, hbound, hv, hring, hpin, Nat.not_le.2 hmade, Bool.not_true, Bool.or_self, Bool.false_eq_true, if_false]
  rfl

end

/-- STATUS_BLOCK_ENABLE, FN_ATTN_CLEAR and BOOT_MAP act on their own function, after the note of reserved bits. -/
theorem functionRegistersOfTheirOwn : Claims.FunctionRegistersOfTheirOwn := by
  refine fun s f w hup hf => ⟨?block, fun i hi => ?attn, fun v hw hbound hv hring hpin hmade hpark => ?map⟩
  case block =>
    apply yields_of_exec_eq_done rfl
    rw [onHost_of_exists hup hf, fnOf_withPending, fnOf_statusBlockEnable]
    simp [bound, fnRec?, pageGood, cabOfFn]
  case attn =>
    apply yields_of_exec_eq_done rfl
    rw [onHost_of_exists hup hf, fnOf_withPending, bit_attn_fnAttnClear hi, fnOf_noteReserved]
  case map =>
    apply yields_of_exec_eq_done rfl
    have hmap := bootMap_of_window (s := noteReserved f (windowBase f + 0x2C) w 1 s) (f := f) (w := w) (v := v)
    simp only [fnOf_noteReserved] at hmap
    rw [onHost_of_exists hup hf, hmap (by simpa [fnExists] using hf) hw (by simpa [bound, fnRec?] using hbound)
      (by simpa [bootWindow, cabOfFn, fnRec?] using hv) hring (by simpa [pagePinned] using hpin) hmade
      (by simpa [liveJobs] using hpark)]
    refine ⟨?_, ?_⟩
    · simp
    · simp [pruneWanted, potChange, bootEntry, cabOfFn, fnRec?, Tab.get?_put]

/-! ### Register accesses -/

section
variable {s : State} {f : Nat}

theorem lt_cfgPath_of_reaches (h : hostReaches s f = true) : f ≤ 64 := by
  simp only [hostReaches, fnExists, Bool.and_eq_true, decide_eq_true_eq] at h
  exact h.2.1

theorem lt_cfgPath_of_readReaches {path a : Nat} (h : readReaches s path a = true) : path < cfgPath := by
  rw [readReaches, Bool.and_eq_true] at h
  obtain ⟨-, h⟩ := h
  by_cases hp : path = dapPath
  · rw [hp]
    decide
  · rw [if_neg hp] at h
    exact Nat.lt_of_le_of_lt (lt_cfgPath_of_reaches h) (by decide)

/-- Only the pending bits of the vectors change. -/
theorem cfg_flushPending (k : Nat) : ((flushPending f s).fnOf k).cfg = (s.fnOf k).cfg := by
  refine forEach_keeps (fun t => (t.fnOf k).cfg) _ _ (fun v t => ?_) s
  dsimp only
  split
  · by_cases hk : k = f <;> simp [hk]
  · rfl

theorem fnOf_badAccess (offset size : Nat) : ((badAccess f offset size false s).fnOf f).badLogged = true := by
  unfold badAccess
  simp only [Bool.false_eq_true, if_false, fnOf_emit]
  split
  next h => exact h
  next => simp

theorem readData_mem_badAccess (offset size : Nat) : Out.readData f offset 0 ∈ (badAccess f offset size false s).out := by
  simp [badAccess]

end

/-- Register accesses take or return what their path and address say. -/
theorem registerAccesses : Claims.RegisterAccesses := by
  refine ⟨fun s f offset size hup hf => ?bad, fun s path a w m ha hdap hreach hbar hrw => ?write, fun s path a hreach ha => ?read,
    fun s f off w hreach hoff => ⟨?cfgRead, ?cfgWrite⟩⟩
  case bad =>
    apply yields_of_exec_eq_done rfl
    rw [onHost_of_exists hup hf]
    exact ⟨fnOf_badAccess offset size, readData_mem_badAccess offset size⟩
  case write =>
    refine does_of_exec_eq_done (congrArg (done s) ?_)
    have hpath : ¬cfgPath ≤ path := Nat.not_le.2 (Nat.lt_of_le_of_lt (lt_cfgPath_of_reaches hreach) (by decide))
    simp [registerWrite, ha, hpath, hdap, hreach, hbar, hrw]
  case read =>
    apply yields_of_exec_eq_done rfl
    simp [latchingRead, hreach, ha, Nat.not_le.2 (lt_cfgPath_of_readReaches hreach)]
  case cfgRead =>
    apply yields_of_exec_eq_done rfl
    simp [latchingRead, hreach, hoff]
  case cfgWrite =>
    apply yields_of_exec_eq_done rfl
    have hwrite : registerWrite (cfgPath + f) 0x48 w s =
        flushPending f (modCfg f (fun c => { c with msixMask := bit w 14, msixEnable := bit w 15 }) s) := by
      simp [registerWrite, hreach, configWrite]
    rw [hwrite, fnOf_withPending, cfg_flushPending]
    simp [modCfg]

/-- Settles O38: the registers of a function, then the accesses by path. -/
theorem registersOfFunctionsAndPaths : Obligations.RegistersOfFunctionsAndPaths :=
  ⟨functionRegistersOfTheirOwn, registerAccesses⟩

end Sys2Proof.Machine
end

section
/-! PROOFS. Cipher lanes and digest engines (R233 to R241, R253 to R260): what their routines give. -/

namespace Sys2Proof.Machine

/-! ### Cipher parts (R238, R240) -/

section
variable {s : State} {j : Nat} {x : Job} {k : KeySlot} {c : CtxState}

/-- A whole cipher message gives its text and, where it has a tag, the tag. -/
theorem runPart_of_whole (hk : keyOf? s x.desc.handleA = some k) (hinit : cInit x.desc = true) (hfin : cFinish x.desc = true)
    (hiv : cIvHelper x.desc = false) (haux : auxBad x.desc x.aux = none)
    (hc : c = initCtx x.desc k.material (cIv s x.desc x.aux) (x.aux.drop 16))
    (hroom : ∀ r, cRemain x.desc c = some r → x.input.length ≤ r) (text ct tag : List Byte)
    (htext : text = if cMode x.desc = 7 then [] else cText x.desc x.desc.opcode k.material c x.input)
    (hct : ct = if x.desc.opcode = 0x1002 then x.input else text)
    (htag : tag = if cTagLen x.desc = 0 then []
      else cTag x.desc k.material (if cMode x.desc = 7 then c else nextCtx x.desc k.material c x.input ct) x.input) :
    runPart j x s = setResult j (okBytes (text ++ tag)) s := by
  have hfilter : (cRemain x.desc c).filter (fun r => decide (r < x.input.length)) = none := by
    cases hr : cRemain x.desc c with
    | none => rfl
    | some r => simp [hroom r hr]
  subst htext hct htag
  by_cases hlen : cTagLen x.desc = 0 <;>
    simp [runPart, hk, hinit, hfin, hiv, haux, ← hc, hfilter, cWrites, hlen, okBytes]

end

theorem cipherMessages : Claims.CipherMessages := by
  refine fun s j x k c hk hinit hfin hiv haux hc hroom =>
    ⟨fun hrun hop hmode htag => ?encrypt, fun hrun hop hmode htag => ?decrypt, fun hrun hop hccm hmode htag => ?aead, fun hrun hop hmode htag => ?cmac⟩
  case encrypt =>
    refine does_of_exec_eq_done (congrArg (done s) ?_)
    simp only [symEncrypt, hrun]
    rw [runPart_of_whole hk hinit hfin hiv haux hc hroom _ _ _ rfl rfl rfl]
    simp [hop, hmode, htag]
  case decrypt =>
    refine does_of_exec_eq_done (congrArg (done s) ?_)
    simp only [symDecrypt, hrun]
    rw [runPart_of_whole hk hinit hfin hiv haux hc hroom _ _ _ rfl rfl rfl]
    simp [hop, hmode, htag]
  case aead =>
    refine does_of_exec_eq_done (congrArg (done s) ?_)
    simp only [symAeadEncrypt, hrun, if_neg hccm]
    rw [runPart_of_whole hk hinit hfin hiv haux hc hroom _ _ _ rfl rfl rfl]
    simp [hop, hmode, htag]
  case cmac =>
    refine does_of_exec_eq_done (congrArg (done s) ?_)
    simp only [symCmac, hrun]
    rw [runPart_of_whole hk hinit hfin hiv haux hc hroom _ _ _ rfl rfl rfl]
    simp [hmode, htag]

theorem authenticatedOpening : Claims.AuthenticatedOpening := by
  refine fun s j x k hk => ⟨fun hrun haux => ?decrypt, fun hrun => ?unwrap, fun hrun hop hmode => ?wrap⟩
  case decrypt =>
    refine does_of_exec_eq_done (congrArg (done s) ?_)
    simp only [symAeadDecrypt, hrun, hk, haux]
    rfl
  case unwrap =>
    refine does_of_exec_eq_done (congrArg (done s) ?_)
    simp only [symKeyUnwrap, hrun, hk]
    rfl
  case wrap =>
    refine does_of_exec_eq_done (congrArg (done s) ?_)
    simp only [symKeyWrap, hrun, hk, cOutLen, hop, hmode, if_true]
    rfl

/-! ### Context records (R239, R241) -/

section
variable {s : State} {j m : Nat} {x : Job} {k : KeySlot} (hk : keyOf? s x.desc.handleA = some k) (hm : m = byteAt x.input 7)
  (hgood : cKeyBad s x.desc.handleA m = false) (hmode : m = 1 ∨ m = 2 ∨ m = 3 ∨ m = 6 ∨ m = 7)
include hk hm hgood hmode

/-- A record whose key serves its mode is converted where its fields hold. -/
theorem convertRecord_eq (fromForm : Nat) : convertRecord j x fromForm s =
    match openRecord s (cabOfFn s x.fn) fromForm m x.desc.handleA x.input with
    | .ok body => if ctxSizes m (byteAt body 49) (byteAt body 50) = true ∧ ctxZeros body = true then
        setResult j { status := 0, w0 := 128, output := sealRecord s (cabOfFn s x.fn) (3 - fromForm) m x.desc.handleA (leAt x.input 16 8) (leAt x.input 24 8) body }
          (if fromForm = 2 then drawFree 12 s else s)
      else endJob j 0x2001 48 0 0 s
    | .error e => endJob j e (if e = 0x2001 then 48 else 0) 0 0 s := by
  have hlisted : [1, 2, 3, 6, 7].contains m = true := by simpa using hmode
  simp only [convertRecord, hk, Option.isNone_some, Bool.false_eq_true, if_false, ← hm]
  cases openRecord s (cabOfFn s x.fn) fromForm m x.desc.handleA x.input with
  | error e => rfl
  | ok body =>
    by_cases hfields : ctxSizes m (byteAt body 49) (byteAt body 50) = true ∧ ctxZeros body = true
    · simp only [hgood, hlisted, hfields.1, hfields.2]
      rfl
    · simp only [hgood, hlisted, if_neg hfields]
      refine if_pos ?_
      cases hsizes : ctxSizes m (byteAt body 49) (byteAt body 50) <;> cases hzeros : ctxZeros body <;> simp_all

end

/-- XTS sets no limit to what a message may still take. -/
theorem cRemain_xts {d : Desc} (h : cMode d = 5) (c : CtxState) : cRemain d c = none := by simp [cRemain, h]

theorem contextRecordsAndReencryption : Claims.ContextRecordsAndReencryption := by
  refine fun s j x k m hk hm => ⟨fun hrun hgood hmode => ?save, fun body hrun hopen hgood hmode hsizes hzeros => ?restore,
    fun b hrun hb hmode => ?reencrypt⟩
  case save =>
    refine does_of_exec_eq_done (congrArg (done s) ?_)
    simp only [symContextSave, hrun]
    exact convertRecord_eq hk hm hgood hmode 1
  case restore =>
    refine does_of_exec_eq_done (congrArg (done s) ?_)
    simp only [symContextRestore, hrun]
    rw [convertRecord_eq hk hm hgood hmode 2, hopen]
    exact if_pos ⟨hsizes, hzeros⟩
  case reencrypt =>
    refine does_of_exec_eq_done (congrArg (done s) ?_)
    simp only [symReencrypt, hrun, hk, hb, cRemain_xts hmode, hmode, if_true]
    rfl

/-- Settles O39: whole messages, then what opens or wraps, then the records and re-encryption. -/
theorem cipherJobs : Obligations.CipherJobs := ⟨cipherMessages, authenticatedOpening, contextRecordsAndReencryption⟩

/-! ### Digests (R253 to R260) -/

section
variable {s : State} {j op : Nat} {x : Job} {key msg r : List Byte}

/-- The keys a keyed digest names are there: the refusal 0x5022 does not apply. -/
theorem keys_present {h : Nat} (hkey : gKeyed x.desc.opcode = true → h = noHandle ∨ (keyOf? s h).isSome) :
    ¬(h ≠ noHandle ∧ gKeyed x.desc.opcode ∧ (keyOf? s h).isNone) := by
  rintro ⟨hne, hkeyed, hnone⟩
  rcases hkey hkeyed with hnamed | hsome
  · exact hne hnamed
  · rw [Option.isNone_iff_eq_none.1 hnone] at hsome
    exact Bool.noConfusion hsome

/-- A whole digest message is delivered under its DEST. -/
theorem digestPart_of_whole (ha : gKeyed x.desc.opcode = true → x.desc.handleA = noHandle ∨ (keyOf? s x.desc.handleA).isSome)
    (hb : gKeyed x.desc.opcode = true → x.desc.handleB = noHandle ∨ (keyOf? s x.desc.handleB).isSome)
    (hinit : gInit x.desc = true) (hfin : gFinish x.desc = true) (hlen : (gMessage s x.desc x.input).length ≤ 2 ^ 61 - 1) :
    digestPart j x s = gDeliver j x (gResult x.desc (gKey s x.desc x.aux) (if x.desc.opcode = 0x2003 then x.aux.drop (gKeyLen x.desc) else [])
      (zeros 200) (gMessage s x.desc x.input) (gMessage s x.desc x.input).length) s := by
  have hroom : ¬gRemain 0 < (gMessage s x.desc x.input).length := Nat.not_lt.2 hlen
  unfold digestPart
  dsimp only
  rw [if_neg (not_or.2 ⟨keys_present ha, keys_present hb⟩), if_pos hinit]
  dsimp only
  rw [if_neg hroom, if_pos hfin, Nat.zero_add]

theorem gDeliver_out (h : gDest x.desc = 0) : gDeliver j x r s = setResult j (okBytes r) s := by
  rw [gDeliver, if_pos h]
  rfl

theorem gDeliver_slot {i : Nat} (h : gDest x.desc = 1) (hi : x.gotSlot = some i) :
    gDeliver j x r s = setResult j { status := 0, w0 := i, w1 := r.length, effects := [.putResult (cabOfFn s x.fn) i (r ++ zeros (64 - r.length))] } s := by
  simp [gDeliver, h, hi]

end

theorem digestMessages : Claims.DigestMessages := by
  intro s j op x key msg r c hc hrun ha hb hinit hfin hkey hmsg hlen hr
  subst hkey hmsg hr
  have hexec : exec c s = done s (digestPart j x s) := by
    rcases hc with ⟨rfl, rfl⟩ | ⟨rfl, rfl⟩ | ⟨rfl, rfl⟩ | ⟨rfl, rfl⟩
    · exact congrArg (done s) (by simp only [digHash, hrun])
    · exact congrArg (done s) (by simp only [digHmac, hrun])
    · exact congrArg (done s) (by simp only [digKmac, hrun])
    · exact congrArg (done s) (by simp only [digXof, hrun])
  rw [digestPart_of_whole (fun _ => ha) (fun _ => hb) hinit hfin hlen] at hexec
  refine ⟨fun hdest => ?_, fun i hdest hi => ?_⟩
  · rw [gDeliver_out hdest] at hexec
    exact does_of_exec_eq_done hexec
  · rw [gDeliver_slot hdest hi] at hexec
    exact does_of_exec_eq_done hexec

/-- The digest of a whole SHA3-256 message is that of the message itself. -/
theorem gResult_sha3 {d : Desc} (hop : d.opcode = 0x2001) (halg : gAlg d = 7) (hinit : gInit d = true) (hfin : gFinish d = true)
    (key custom st msg : List Byte) (n : Nat) : gResult d key custom st msg n = digestBytes (Config.sha3 msg) := by
  rw [gResult, if_pos ⟨hop, halg, by rw [gWhole, hinit, hfin]; rfl⟩]

theorem sha3IsTheDigest : Claims.Sha3IsTheDigest := by
  intro s j x hrun hop halg hinit hfin hdest hlen
  refine does_of_exec_eq_done (congrArg (done s) ?_)
  have hunkeyed : ¬gKeyed x.desc.opcode = true := by rw [hop]; decide
  simp only [digHash, hrun]
  rw [digestPart_of_whole (fun h => absurd h hunkeyed) (fun h => absurd h hunkeyed) hinit hfin hlen, gDeliver_out hdest,
    gResult_sha3 hop halg hinit hfin]

section
variable {s : State} {j : Nat} {x : Job} (hfree : leAt x.input 8 4 = noHandle) (hlow : 1 ≤ byteAt x.input 7) (hhigh : byteAt x.input 7 ≤ 11)
include hfree hlow hhigh

/-- The record of an unkeyed algorithm is converted where it opens. -/
theorem gConvert_eq (fromForm : Nat) : gConvert j x fromForm s =
    match gOpenRecord s (cabOfFn s x.fn) fromForm (byteAt x.input 7) noHandle x.input with
    | .ok body => setResult j (okBytes (gSealRecord s (cabOfFn s x.fn) (3 - fromForm) (byteAt x.input 7) noHandle (leAt x.input 16 8) body))
        (if fromForm = 2 then drawFree 12 s else s)
    | .error e => endJob j e (if e = 0x2001 then 48 else 0) 0 0 s := by
  have hkeyed : ¬(leAt x.input 0 4 = 0x4443474B ∧ leAt x.input 4 2 = 1 ∧ leAt x.input 8 4 ≠ noHandle) := fun h => h.2.2 hfree
  have halg : ¬(byteAt x.input 7 = 0 ∨ 11 < byteAt x.input 7) := by omega
  simp only [gConvert, if_neg hkeyed, if_neg halg]
  cases gOpenRecord s (cabOfFn s x.fn) fromForm (byteAt x.input 7) noHandle x.input <;> rfl

end

theorem digestRecordsAndSlots : Claims.DigestRecordsAndSlots := by
  refine fun s j x => ⟨fun hrun hfree hlow hhigh => ?save, fun body hrun hfree hlow hhigh hopen => ?restore, fun hrun hslot hheld => ?release⟩
  case save =>
    refine does_of_exec_eq_done (congrArg (done s) ?_)
    simp only [digContextSave, hrun]
    exact gConvert_eq hfree hlow hhigh 1
  case restore =>
    refine does_of_exec_eq_done (congrArg (done s) ?_)
    simp only [digContextRestore, hrun]
    rw [gConvert_eq hfree hlow hhigh 2, hopen]
    rfl
  case release =>
    refine does_of_exec_eq_done (congrArg (done s) ?_)
    simp only [digResultRelease, hrun]
    exact if_pos ⟨hslot, hheld⟩

/-- Settles O40: whole messages, SHA3-256, then the records and the result slots. -/
theorem digestJobs : Obligations.DigestJobs := ⟨digestMessages, sha3IsTheDigest, digestRecordsAndSlots⟩

end Sys2Proof.Machine
end

section
/-! PROOFS. Big numbers and lattices (R266 to R276, R285 to R288): what their routines give. -/

namespace Sys2Proof.Machine

/-! ### Checks on a tile (R271) -/

@[simp] theorem jobOf_modTile (t : Nat) (g : Tile → Tile) (s : State) (k : Nat) : (modTile t g s).jobOf k = s.jobOf k := rfl

section
variable {s : State} {j op : Nat} {x : Job} {k : KeySlot}

theorem checked_true (x : Job) (run : State → State) (s : State) : checked true j x run s = run s := rfl

theorem pqChecked_zero (x : Job) (run : State → State) (s : State) : pqChecked 0 j x run s = run s := rfl

theorem verdict_eq (p : Prop) [Decidable p] (ok : Bool) (h : ok = true ↔ p) :
    verdict j ok s = if p then setResult j { status := 0 } s else endJob j 0x5021 0 0 0 s := by
  by_cases hp : p
  · rw [verdict, if_pos (h.2 hp), if_pos hp]
  · rw [verdict, if_neg (mt h.1 hp), if_neg hp]
    rfl

/-- A failed check ends its job and counts against the tile only. -/
theorem jobOf_verifyFailed (t o : Nat) (tag : Word) (i : Nat) :
    (verifyFailed j t o tag s).jobOf i = (endJob j 0x5020 0 0 0 s).jobOf i := by
  unfold verifyFailed
  dsimp only
  rw [apply_ite (fun u : State => u.jobOf i)]
  simp [failJob]

theorem ended_verifyFailed (hx : s.jobOf j = some x) (t o : Nat) (tag : Word) : Ended j (verifyFailed j t o tag s) := by
  have h := ended_endJob hx 0x5020 0 0 0
  unfold Ended at h ⊢
  rwa [jobOf_verifyFailed]

/-- A result that fails its check on the tile ends its job. -/
theorem ended_checked_false (hrun : runnable s j op = some x) (run : State → State) : Ended j (checked false j x run s) :=
  ended_verifyFailed (jobOf_and_opcode_of_runnable hrun).1 _ _ _

end

/-! ### Signing and verifying (R266, R269, R271) -/

theorem bignumSigning : Claims.BignumSigning := by
  refine fun s j x k hk => ⟨fun hrun => ?rsa, fun hrun => ?encrypt, fun hrun => ?ecdsa, fun hrun => ?eddsa, fun hrun => ?rsaBad,
    fun hrun => ?ecdsaBad, fun hrun => ?eddsaBad⟩
  case rsa =>
    refine does_of_exec_eq_done (congrArg (done s) ?_)
    simp only [bigRsaSign, hrun, hk, checked_true]
    rfl
  case encrypt =>
    refine does_of_exec_eq_done (congrArg (done s) ?_)
    simp only [bigRsaEncrypt, hrun, hk]
    rfl
  case ecdsa =>
    refine does_of_exec_eq_done (congrArg (done s) ?_)
    simp only [bigEcdsaSign, hrun, hk, checked_true]
    rfl
  case eddsa =>
    refine does_of_exec_eq_done (congrArg (done s) ?_)
    simp only [bigEddsaSign, hrun, hk, checked_true]
    rfl
  case rsaBad =>
    apply yields_of_exec_eq_done rfl
    simp only [bigRsaSign, hrun, hk]
    exact ended_checked_false hrun _
  case ecdsaBad =>
    apply yields_of_exec_eq_done rfl
    simp only [bigEcdsaSign, hrun, hk]
    exact ended_checked_false hrun _
  case eddsaBad =>
    apply yields_of_exec_eq_done rfl
    simp only [bigEddsaSign, hrun, hk]
    exact ended_checked_false hrun _

theorem signatureVerdicts : Claims.SignatureVerdicts := by
  refine fun s j x k hk => ⟨fun hrun => ?rsa, fun hrun => ?ecdsa, fun hrun => ?eddsa, fun hrun => ?mldsa⟩
  case rsa =>
    refine does_of_exec_eq_done (congrArg (done s) ?_)
    simp only [bigRsaVerify, hrun, hk]
    exact verdict_eq _ _ (by rw [Bool.and_eq_true, decide_eq_true_eq])
  case ecdsa =>
    refine does_of_exec_eq_done (congrArg (done s) ?_)
    simp only [bigEcdsaVerify, hrun, hk]
    exact verdict_eq _ _ Iff.rfl
  case eddsa =>
    refine does_of_exec_eq_done (congrArg (done s) ?_)
    simp only [bigEddsaVerify, hrun, hk]
    exact verdict_eq _ _ Iff.rfl
  case mldsa =>
    refine does_of_exec_eq_done (congrArg (done s) ?_)
    simp only [polMldsaVerify, hrun, hk, pqChecked_zero]
    exact verdict_eq _ _ Iff.rfl

/-- Settles O41: what is made, then the verdicts. -/
theorem signaturesAreMadeAndVerified : Obligations.SignaturesAreMadeAndVerified := ⟨bignumSigning, signatureVerdicts⟩

/-! ### Agreed secrets and modular arithmetic (R268, R269, R276) -/

theorem bDeliver_out {s : State} {j : Nat} {x : Job} (h : bDest x.desc = 0) (r : List Byte) :
    bDeliver j x r s = setResult j (okBytes r) s := by
  rw [bDeliver, if_pos h]
  rfl

theorem secretAgreement : Claims.SecretAgreement := by
  refine fun s j x k p hk hdest => ⟨fun hrun hpeer => ?ecdh, fun hrun hpeer hlen ok => ?xdhLength, fun hrun hpeer hlen => ?xdh,
    fun hrun hlow => ?decrypt, fun hrun hhigh ok => ?decryptHigh⟩
  case ecdh =>
    refine does_of_exec_eq_done (congrArg (done s) ?_)
    simp only [bigEcdh, hrun, hk, hpeer, checked_true, bDeliver_out hdest]
    cases peerOk k.attr.type p <;> rfl
  case xdhLength =>
    refine does_of_exec_eq_done (congrArg (done s) ?_)
    simp only [bigXdh, hrun, hk, hpeer, if_pos hlen]
    rfl
  case xdh =>
    refine does_of_exec_eq_done (congrArg (done s) ?_)
    simp only [bigXdh, hrun, hk, hpeer, if_neg (not_not.2 hlen), checked_true, bDeliver_out hdest]
    rfl
  case decrypt =>
    refine does_of_exec_eq_done (congrArg (done s) ?_)
    simp only [bigRsaDecrypt, hrun, hk, if_neg (Nat.not_le.2 hlow), checked_true, bDeliver_out hdest, hdest]
    cases Config.standardHolds 0x3004 [bHash x.desc] [k.material, x.input, x.aux] <;> rfl
  case decryptHigh =>
    refine does_of_exec_eq_done (congrArg (done s) ?_)
    simp only [bigRsaDecrypt, hrun, hk, if_pos hhigh]
    rfl

theorem modularArithmetic : Claims.ModularArithmetic := by
  refine fun s j x hrun => ⟨fun hodd hthree hwidth => ?result, fun heven => ?refused⟩
  case result =>
    refine does_of_exec_eq_done (congrArg (done s) ?_)
    simp only [bigModarith, hrun]
    exact if_neg (by simp only [hwidth, Bool.false_eq_true, or_false]; omega)
  case refused =>
    refine does_of_exec_eq_done (congrArg (done s) ?_)
    simp only [bigModarith, hrun]
    exact if_pos (Or.inl heven)

/-- Settles O42: agreed secrets, then modular arithmetic. -/
theorem secretsAreAgreedAndComputed : Obligations.SecretsAreAgreedAndComputed := ⟨secretAgreement, modularArithmetic⟩

/-! ### Ephemeral pairs and lattice keys (R206, R268, R285 to R288) -/

theorem recorded_drawFree {s : State} {j : Nat} {r : Result} (n : Nat) (h : Recorded j r s) : Recorded j r (drawFree n s) := h

theorem ephemeralPairs : Claims.EphemeralPairs := by
  refine fun s j slot x hroom hspan => ⟨fun hrun => ?ec, fun hrun => ?kem⟩
  case ec =>
    apply yields_of_exec_eq_done rfl
    simp only [bigEcEphemeral, hrun, checked_true, hroom, hspan, if_true]
    exact ⟨_, recorded_drawFree 74 (recorded_setResult (jobOf_and_opcode_of_runnable hrun).1 _), rfl, rfl, _, _, rfl, rfl, rfl, rfl⟩
  case kem =>
    apply yields_of_exec_eq_done rfl
    simp only [polMlkemKeypair, hrun, pqChecked_zero, hroom, hspan, if_true]
    exact ⟨_, recorded_drawFree 64 (recorded_setResult (jobOf_and_opcode_of_runnable hrun).1 _), rfl, rfl, _, _, rfl, rfl, rfl, rfl⟩

theorem kemDeliver_out {s : State} {j : Nat} {x : Job} (h : pDest x.desc = 0) (ct k : List Byte) :
    kemDeliver j x ct k s = setResult j (okBytes (ct ++ k)) s := by
  rw [kemDeliver, if_pos h]
  rfl

theorem latticeKeysAndSignatures : Claims.LatticeKeysAndSignatures := by
  refine fun s j x k hk => ⟨fun hrun hkey hlen hdest => ?encaps, fun hrun hdest => ?decaps, fun hrun => ?sign⟩
  case encaps =>
    refine does_of_exec_eq_done (congrArg (done s) ?_)
    simp only [polMlkemEncaps, hrun, if_neg hkey, hk, Option.map_some, hlen, pqChecked_zero, kemDeliver_out hdest]
    cases Config.standardHolds 0x4002 [pSet x.desc] [k.material] <;> simp [failJob]
  case decaps =>
    refine does_of_exec_eq_done (congrArg (done s) ?_)
    simp only [polMlkemDecaps, hrun, hk, pqChecked_zero, kemDeliver_out hdest, List.nil_append]
  case sign =>
    refine does_of_exec_eq_done (congrArg (done s) ?_)
    simp only [polMldsaSign, hrun, hk, pqChecked_zero]
    rfl

/-- Settles O43: the pairs that take a slot, then the lattice routines. -/
theorem pairsAndLatticeKeys : Obligations.PairsAndLatticeKeys := ⟨ephemeralPairs, latticeKeysAndSignatures⟩

end Sys2Proof.Machine
end

section
/-! PROOFS. Jobs of the ledger and of the keys (R206, R216, R218, R223, R351, R367, R372, R373), and jobs ended together. -/

namespace Sys2Proof.Machine

/-! ### Several jobs end -/

theorem forEach_cons {α : Type} (a : α) (l : List α) (g : α → State → State) (s : State) : forEach (a :: l) g s = forEach l g (g a s) := rfl

section
variable {α : Type} {num status : α → Nat} {s : State} {l : List α} {w0 w1 w2 : Nat}

theorem ended_endJob_of_ended {j k st : Nat} (h : Ended k s) : Ended k (endJob j st w0 w1 w2 s) := by
  by_cases hk : k = j
  · subst hk
    obtain ⟨x, hx, -⟩ := Option.map_eq_some_iff.1 h
    exact ended_endJob hx _ _ _ _
  · unfold Ended at h ⊢
    rwa [jobOf_endJob_of_ne hk]

theorem ended_endJobs_of_ended {k : Nat} (h : Ended k s) : Ended k (forEach l (fun e => endJob (num e) (status e) w0 w1 w2) s) := by
  induction l generalizing s with
  | nil => exact h
  | cons a l ih => exact ih (ended_endJob_of_ended h)

/-- Jobs outside the list stay as they are. -/
theorem jobOf_endJobs_of_not_mem {k : Nat} (h : ∀ e ∈ l, num e ≠ k) :
    (forEach l (fun e => endJob (num e) (status e) w0 w1 w2) s).jobOf k = s.jobOf k := by
  induction l generalizing s with
  | nil => rfl
  | cons a l ih =>
    rw [forEach_cons, ih fun e he => h e (.tail _ he)]
    exact jobOf_endJob_of_ne (Ne.symm (h a (.head _))) _ _ _ _ s

/-- Every job of a list that exists ends. -/
theorem ended_endJobs {e : α} {x : Job} (he : e ∈ l) (hx : s.jobOf (num e) = some x) :
    Ended (num e) (forEach l (fun e => endJob (num e) (status e) w0 w1 w2) s) := by
  induction l generalizing s with
  | nil => cases he
  | cons a l ih =>
    rw [forEach_cons]
    by_cases ha : num e = num a
    · rw [ha] at hx ⊢
      exact ended_endJobs_of_ended (ended_endJob hx (status a) w0 w1 w2)
    · refine ih ?_ (by rw [jobOf_endJob_of_ne ha, hx])
      exact (List.mem_cons.1 he).resolve_left fun h => ha (h ▸ rfl)

end

theorem Tab.get?_isSome_of_mem {α : Type} {t : Tab α} {e : Nat × α} (h : e ∈ t) : ∃ x, Tab.get? t e.1 = some x := by
  induction t with
  | nil => cases h
  | cons a t ih =>
    obtain ⟨i, y⟩ := a
    rw [Tab.get?_cons]
    rcases List.mem_cons.1 h with rfl | h
    · exact ⟨y, if_pos rfl⟩
    · split
      · exact ⟨y, rfl⟩
      · exact ih h

theorem Tab.get?_del_self {α : Type} (t : Tab α) (k : Nat) : Tab.get? (Tab.del t k) k = none := by
  cases h : Tab.get? (Tab.del t k) k with
  | none => rfl
  | some x => simpa [Tab.del] using Tab.mem_of_get? h

/-- A live job is listed under its number. -/
theorem jobOf_of_mem_liveJobs {s : State} {e : Nat × Job} (h : e ∈ liveJobs s) : ∃ x, s.jobOf e.1 = some x :=
  Tab.get?_isSome_of_mem (List.mem_of_mem_filter h)

/-! ### Jobs of the ledger (R351, R367, R372, R373) -/

theorem recorded_of_jobOf_eq {s t : State} {j : Nat} {r : Result} (h : t.jobOf j = s.jobOf j) (hr : Recorded j r s) : Recorded j r t := by
  unfold Recorded at hr ⊢
  rwa [h]

/-- Preparing a lane's record writes cells of the ledger only. -/
theorem jobOf_prepareLane (n : Nat) (r : LaneRecord) (s : State) (k : Nat) : (prepareLane n r s).jobOf k = s.jobOf k :=
  jobOf_of_job_eq (by simp [prepareLane]) k

theorem recorded_withPending {s : State} {j : Nat} {r : Result} {q : List Instr} (h : Recorded j r s) : Recorded j r (s.withPending q) := h

theorem recorded_prepareLane {s : State} {j : Nat} {x : Job} (hx : s.jobOf j = some x) (n : Nat) (p : LaneRecord) (r : Result) :
    Recorded j r (drawFree 74 (prepareLane n p (setResult j r s))) :=
  recorded_of_jobOf_eq (by rw [jobOf_drawFree, jobOf_prepareLane]) (recorded_setResult hx r)

/-- Settles O10: three records read, and a seal that passes every check. -/
theorem ledgerJobs : Obligations.LedgerJobs := by
  refine fun s j x => ⟨fun hrun => ?status, fun hrun => ?read, fun hrun => ?identity,
    fun n q k body hn hrun hsnap hk hlane hgood hprep hwait hbody => ?sealed⟩
  case status =>
    refine does_of_exec_eq_done (congrArg (done s) ?_)
    simp only [laneStatus, hrun]
    rfl
  case read =>
    refine does_of_exec_eq_done (congrArg (done s) ?_)
    simp only [ledgerRead, hrun]
    rfl
  case identity =>
    refine does_of_exec_eq_done (congrArg (done s) ?_)
    simp only [ledgerIdentity, hrun]
    rfl
  case sealed =>
    apply yields_of_exec_eq_done rfl
    simp only [sealRequest, hrun, ← hn, hsnap, hk, hlane, hgood, hprep, hwait, checked_true, Bool.not_true, Bool.false_eq_true, if_false,
      List.isEmpty_nil, Bool.or_self]
    exact ⟨_, recorded_withPending (recorded_prepareLane (jobOf_and_opcode_of_runnable hrun).1 _ _ _), rfl,
      by rw [hbody]; exact List.take_left, rfl, rfl, rfl, rfl⟩

/-! ### Keys loaded, read and freed (R206, R216, R218, R223) -/

theorem ferriedHeaderOk_of_fields {gen : Nat} {b : List Byte} (hmagic : leAt b 0 4 = 0x4B46474B) (hversion : leAt b 4 2 = 1) (hzero : leAt b 7 1 = 0)
    (hgen : leAt b 8 4 = gen) (htype : typeKnown (leAt b 12 2) = true) (hres : leAt b 20 4 = 0) (hlen : b.length = 60 + leAt b 14 2) :
    ferriedHeaderOk gen b = true := by
  simp [ferriedHeaderOk, hmagic, hversion, hzero, hgen, htype, hres, hlen]

@[simp] theorem jobOf_removeKey (slot : Nat) (s : State) (k : Nat) : (removeKey slot s).jobOf k = s.jobOf k := by
  unfold removeKey
  split <;> rfl

/-- A removed key's slot is free. -/
theorem slots_removeKey (slot : Nat) (s : State) : Tab.get? (removeKey slot s).key.slots slot = none := by
  unfold removeKey
  split
  next h => exact h
  next => simp [advanceGens, Tab.get?_del_self]

section
variable {s : State} {j h : Nat}

theorem jobOf_withdrawNaming_self : (withdrawNaming h j s).jobOf j = s.jobOf j := by
  refine jobOf_endJobs_of_not_mem fun e he => ?_
  have hkept := (List.mem_filter.1 he).2
  simp only [Bool.and_eq_true, bne_iff_ne] at hkept
  exact hkept.1.1

theorem ended_withdrawNaming {e : Nat × Job} (he : e ∈ liveJobs s) (hne : e.1 ≠ j) (hnames : namesKeyHandle e.2.desc h = true)
    (hcommit : inCommit e.2 = false) : Ended e.1 (withdrawNaming h j s) := by
  obtain ⟨x, hx⟩ := jobOf_of_mem_liveJobs he
  exact ended_endJobs (List.mem_filter.2 ⟨he, by simp [hne, hnames, hcommit]⟩) hx

end

/-- Settles O11: what each of the four jobs leaves. -/
theorem keysAreLoadedReadAndFreed : Obligations.KeysAreLoadedReadAndFreed := by
  refine fun s j x => ⟨fun c slot hrun hcab hcsk hmagic hversion hzero hgen htype hres hlen hspan => ?ferried,
    fun slot hrun hspan => ?pub, fun k out hrun hk hout => ?info, fun k hrun hk hclass => ?free⟩
  case ferried =>
    apply yields_of_exec_eq_done rfl
    have hheader := ferriedHeaderOk_of_fields hmagic hversion hzero hgen htype hres hlen
    have hx := (jobOf_and_opcode_of_runnable hrun).1
    simp only [keyLoadFerried, hrun, hcab, ne_eq, not_true, if_false, hcsk, hheader, true_and]
    by_cases hopens : gcmOpens c.key (slice x.input 32 12) (x.input.take 32) (x.input.drop 44) = true
    · simp only [hopens, if_true, hspan]
      exact ⟨_, _, _, recorded_setResult hx _, rfl, rfl, rfl, rfl, rfl, rfl, rfl⟩
    · simp only [hopens]
      exact ended_endJob hx _ _ _ _
  case pub =>
    apply yields_of_exec_eq_done rfl
    have hx := (jobOf_and_opcode_of_runnable hrun).1
    cases hvalid : publicValid (x.desc.par 40 2) (sizeParam x.desc) x.input with
    | true =>
      simp only [keyLoadPublic, hrun, hvalid, hspan, Bool.not_true, Bool.false_eq_true, if_false, if_true]
      exact ⟨_, _, recorded_setResult hx _, rfl, rfl, rfl, rfl, rfl⟩
    | false =>
      simp only [keyLoadPublic, hrun, hvalid, Bool.not_false, Bool.false_eq_true, if_false, if_true]
      exact ended_endJob hx _ _ _ _
  case info =>
    subst hout
    refine does_of_exec_eq_done (congrArg (done s) ?_)
    simp only [keyInfo, hrun, hk]
    rfl
  case free =>
    apply yields_of_exec_eq_done rfl
    have hx := (jobOf_and_opcode_of_runnable hrun).1
    have hfree : keyEphemeralFree j s = setResult j { status := 0 } (removeKey (hSlot x.desc.handleA) (withdrawNaming x.desc.handleA j s)) := by
      simp only [keyEphemeralFree, hrun, hk]
      exact if_pos (by tauto)
    rw [hfree]
    refine ⟨recorded_setResult (x := x) (by rw [jobOf_removeKey, jobOf_withdrawNaming_self, hx]) _, slots_removeKey _ _,
      fun e he hne hnames hcommit => ?_⟩
    have hend := ended_withdrawNaming he hne hnames hcommit
    unfold Ended at hend ⊢
    rwa [jobOf_withPending, jobOf_setResult, if_neg hne, jobOf_removeKey]

end Sys2Proof.Machine
end

section
/-! PROOFS. Pages (R183 to R197): the page commands, and the timers of jobs parked on a page. -/

namespace Sys2Proof.Machine

/-! ### The page owner table and the numbers of the jobs -/

/-- The page owner table and the numbers of the jobs listed: what the end and the release of jobs leave as they are. -/
def pagesAndNumbers (s : State) : Tab PageEntry × List Nat := (s.job.pot, s.job.jobs.map (·.1))

theorem pagesAndNumbers_of_job_eq {s t : State} (h : t.job = s.job) : pagesAndNumbers t = pagesAndNumbers s := by
  rw [pagesAndNumbers, h]
  rfl

section
variable (s : State)

@[simp] theorem pagesAndNumbers_modJob (j : Nat) (g : Job → Job) : pagesAndNumbers (modJob j g s) = pagesAndNumbers s := by
  refine Prod.ext rfl ?_
  show (Tab.update s.job.jobs j g).map (·.1) = s.job.jobs.map (·.1)
  rw [Tab.update, List.map_map]
  refine List.map_congr_left fun e _ => ?_
  show (if e.1 = j then (e.1, g e.2) else e).1 = e.1
  split <;> rfl

@[simp] theorem pagesAndNumbers_writeEntry (f n : Nat) (e : Bool → Completion) : pagesAndNumbers (writeEntry f n e s) = pagesAndNumbers s :=
  pagesAndNumbers_of_job_eq (by simp)

@[simp] theorem pagesAndNumbers_giveBack (f n k : Nat) : pagesAndNumbers (giveBack f n k s) = pagesAndNumbers s :=
  pagesAndNumbers_of_job_eq (by simp)

@[simp] theorem pagesAndNumbers_markFinished (j : Nat) : pagesAndNumbers (markFinished j s) = pagesAndNumbers s :=
  pagesAndNumbers_modJob s j _

@[simp] theorem pagesAndNumbers_jobEntry (j : Nat) (x : Job) (e : Bool → Completion) : pagesAndNumbers (jobEntry j x e s) = pagesAndNumbers s := by
  unfold jobEntry
  split <;> simp

@[simp] theorem pagesAndNumbers_releaseReserve (j : Nat) : pagesAndNumbers (releaseReserve j s) = pagesAndNumbers s := by
  unfold releaseReserve
  split
  · rfl
  · split <;> simp

@[simp] theorem pagesAndNumbers_endJob (j status w0 w1 w2 : Nat) : pagesAndNumbers (endJob j status w0 w1 w2 s) = pagesAndNumbers s := by
  unfold endJob
  split
  · rfl
  · split
    · rfl
    · simp

@[simp] theorem pagesAndNumbers_raiseFrom (src code sev p1 p2 p3 : Nat) : pagesAndNumbers (raiseFrom src code sev p1 p2 p3 s) = pagesAndNumbers s :=
  pagesAndNumbers_of_job_eq (by simp)

@[simp] theorem pagesAndNumbers_setAttn (b f : Nat) : pagesAndNumbers (setAttn b f s) = pagesAndNumbers s :=
  pagesAndNumbers_of_job_eq (by simp)

@[simp] theorem pagesAndNumbers_notifyZeroAndCab (type subject p0 p1 p2 p3 c : Nat) :
    pagesAndNumbers (notifyZeroAndCab type subject p0 p1 p2 p3 c s) = pagesAndNumbers s :=
  pagesAndNumbers_of_job_eq (by simp)

@[simp] theorem pagesAndNumbers_freezeMaster (kind number cause addr : Nat) (tag : Word) (offender : Option Nat) :
    pagesAndNumbers (freezeMaster kind number cause addr tag offender s) = pagesAndNumbers s := by
  have hkeep : ∀ (l : List (Nat × Job)) (u : State),
      pagesAndNumbers (forEach l (fun e => endJob e.1 (frozenStatus kind offender e) 0 0 0) u) = pagesAndNumbers u :=
    fun l u => forEach_keeps pagesAndNumbers l (fun e => endJob e.1 (frozenStatus kind offender e) 0 0 0)
      (fun e u => pagesAndNumbers_endJob u e.1 _ 0 0 0) u
  unfold freezeMaster
  split
  · rfl
  · dsimp only
    rw [pagesAndNumbers_raiseFrom]
    split
    · rw [pagesAndNumbers_setAttn, pagesAndNumbers_notifyZeroAndCab, hkeep]
      rfl
    · rw [pagesAndNumbers_notifyZeroAndCab, hkeep]
      rfl

@[simp] theorem pagesAndNumbers_releaseJob (j : Nat) : pagesAndNumbers (releaseJob j s) = pagesAndNumbers s := by
  unfold releaseJob
  split
  · rfl
  · split
    · rfl
    · split <;> simp

theorem pagesAndNumbers_releaseCounted (pages : List Nat) : pagesAndNumbers (releaseCounted pages s).1 = pagesAndNumbers s := by
  have hfold : ∀ (l : List (Nat × Job)) (a : State × Nat),
      pagesAndNumbers (l.foldl (fun (a : State × Nat) e => if leavesPark a.1 e.1 then (releaseJob e.1 a.1, a.2 + 1) else a) a).1 =
        pagesAndNumbers a.1 := by
    intro l
    induction l with
    | nil => exact fun a => rfl
    | cons e l ih =>
      intro a
      rw [List.foldl_cons, ih]
      split
      · exact pagesAndNumbers_releaseJob a.1 e.1
      · rfl
  exact hfold _ _

end

/-- A number that is listed has its job. -/
theorem jobOf_of_mem_numbers {s : State} {j : Nat} (h : j ∈ s.job.jobs.map (·.1)) : ∃ x, s.jobOf j = some x := by
  obtain ⟨e, he, rfl⟩ := List.mem_map.1 h
  exact Tab.get?_isSome_of_mem he

/-- A job stays listed while the numbers do. -/
theorem jobOf_of_pagesAndNumbers {s t : State} {j : Nat} {x : Job} (h : pagesAndNumbers t = pagesAndNumbers s) (hx : s.jobOf j = some x) :
    ∃ y, t.jobOf j = some y := by
  refine jobOf_of_mem_numbers ?_
  rw [show t.job.jobs.map (·.1) = s.job.jobs.map (·.1) from congrArg Prod.snd h]
  exact List.mem_map_of_mem (Tab.mem_of_get? hx)

/-! ### The page commands (R185 to R188) -/

theorem Tab.get?_del_of_ne {α : Type} (t : Tab α) {k i : Nat} (h : i ≠ k) : Tab.get? (Tab.del t k) i = Tab.get? t i := by
  induction t with
  | nil => rfl
  | cons e t ih =>
    obtain ⟨m, v⟩ := e
    have hdel : Tab.del ((m, v) :: t) k = if m = k then Tab.del t k else (m, v) :: Tab.del t k := by
      by_cases hm : m = k <;> simp [Tab.del, hm]
    rw [hdel, Tab.get?_cons]
    by_cases hm : m = k
    · rw [if_pos hm, ih, if_neg fun hi => h (hi.trans hm)]
    · rw [if_neg hm, Tab.get?_cons, ih]

theorem pot_potChange (page : Nat) (e : Option PageEntry) (s : State) (p : Nat) :
    Tab.get? (potChange page e s).job.pot p = if p = page then e else Tab.get? s.job.pot p := by
  cases e with
  | some v => exact Tab.get?_put _ _ _ _
  | none =>
    by_cases hp : p = page
    · subst hp
      rw [if_pos rfl]
      exact Tab.get?_del_self _ _
    · rw [if_neg hp]
      exact Tab.get?_del_of_ne _ hp

/-- A page no change names keeps its entry. -/
theorem pot_potChanges_of_not_mem {l : List (Nat × Option PageEntry)} {p : Nat} (h : ∀ e ∈ l, e.1 ≠ p) (s : State) :
    Tab.get? (forEach l (fun e => potChange e.1 e.2) s).job.pot p = Tab.get? s.job.pot p := by
  induction l generalizing s with
  | nil => rfl
  | cons a l ih =>
    rw [forEach_cons, ih (fun e he => h e (.tail _ he)), pot_potChange, if_neg (Ne.symm (h a (.head _)))]

/-- Each of several pages named once gets its new value. -/
theorem pot_potChanges_of_mem {l : List (Nat × Option PageEntry)} (hnodup : (l.map (·.1)).Nodup) {e : Nat × Option PageEntry} (he : e ∈ l)
    (s : State) : Tab.get? (forEach l (fun e => potChange e.1 e.2) s).job.pot e.1 = e.2 := by
  induction l generalizing s with
  | nil => cases he
  | cons a l ih =>
    rw [List.map_cons, List.nodup_cons] at hnodup
    obtain ⟨ha, hl⟩ := hnodup
    rw [forEach_cons]
    rcases List.mem_cons.1 he with rfl | he
    · rw [pot_potChanges_of_not_mem fun d hd hde => ha (List.mem_map.2 ⟨d, hd, hde⟩), pot_potChange, if_pos rfl]
    · exact ih hl he _

/-- The new entries a page command asks for. -/
def newEntries (s : State) (x : Job) : List (Nat × Option PageEntry) :=
  ((cmdPages x).zip (mapFrames x ++ (cmdPages x).map (fun _ => 0))).map (fun pf => (pf.1, newEntry s x pf.1 pf.2))

section
variable {s : State} {x : Job}

@[simp] theorem length_cmdPages (x : Job) : (cmdPages x).length = x.desc.par 44 4 := by simp [cmdPages]

@[simp] theorem length_mapFrames (x : Job) : (mapFrames x).length = x.desc.par 44 4 := by
  unfold mapFrames
  dsimp only
  split <;> simp

theorem newEntries_pages : (newEntries s x).map (·.1) = cmdPages x := by
  rw [newEntries, List.map_map]
  exact List.map_fst_zip (by simp)

theorem nodup_cmdPages : (cmdPages x).Nodup := List.nodup_range.map fun a b h => by simpa using h

theorem mem_newEntries {i : Nat} (hi : i < x.desc.par 44 4) :
    (x.desc.par 40 4 + i, newEntry s x (x.desc.par 40 4 + i) ((mapFrames x).getD i 0)) ∈ newEntries s x := by
  refine List.mem_map.2 ⟨(x.desc.par 40 4 + i, (mapFrames x).getD i 0), ?_, rfl⟩
  refine List.mem_iff_getElem?.2 ⟨i, List.getElem?_zip_eq_some.2 ⟨?_, ?_⟩⟩
  · simp [cmdPages, hi, Nat.add_comm]
  · have hlen : i < (mapFrames x).length := by simpa using hi
    rw [List.getElem?_append_left hlen, List.getD_eq_getElem?_getD, List.getElem?_eq_getElem hlen]
    rfl

end

section
variable {s : State} {j op : Nat} {x : Job} (hrun : runnable s j op = some x)
  (hframes : op = 0xE001 → bit (x.desc.par 59 1) 0 = true → ∀ f ∈ mapFrames x, f < 2 ^ 48)
include hrun hframes

theorem pageCommand_of_frames : pageCommand j op s =
    match (cmdPages x).find? (pagePinned s) with
    | some p => endJob j 0x3010 p 0 0 s
    | none => setResult j
        { status := 0, w0 := ((newEntries s x).filter (fun e => decide (Tab.get? s.job.pot e.1 ≠ e.2))).length
          w1 := (releaseCounted (cmdPages x) (forEach (newEntries s x) (fun e => potChange e.1 e.2) s)).2 }
        (pruneWanted (releaseCounted (cmdPages x) (forEach (newEntries s x) (fun e => potChange e.1 e.2) s)).1) := by
  have hgood : (if op = 0xE001 ∧ bit (x.desc.par 59 1) 0 then (mapFrames x).findIdx? (fun f => decide (2 ^ 48 ≤ f)) else none) = none := by
    split
    next h =>
      rw [List.findIdx?_eq_none_iff]
      intro f hf
      exact decide_eq_false (Nat.not_le.2 (hframes h.1 h.2 f hf))
    next => rfl
  simp only [pageCommand, hrun, hgood]
  rfl

end

/-- The lowest bit of a word of flags is the first flag. -/
theorem bit_zero_flags (a b : Bool) (n : Nat) : bit (flag a + 2 * flag b + n * 65536) 0 = a := by
  cases a <;> cases b <;> simp [bit, flag, Nat.testBit_zero] <;> omega

theorem pageCommands : Claims.PageCommands := by
  refine fun s j op x c => ⟨fun hrun => ?nop, fun hc hrun hframes => ?command, fun hrun => ?query⟩
  case nop =>
    refine does_of_exec_eq_done (congrArg (done s) ?_)
    simp only [nopJob, hrun]
  case command =>
    have hexec : exec c s = done s (pageCommand j op s) := by
      rcases hc with ⟨rfl, rfl⟩ | ⟨rfl, rfl⟩ | ⟨rfl, rfl⟩ <;> rfl
    rw [pageCommand_of_frames hrun hframes] at hexec
    refine ⟨fun p hp => ?_, fun hfree => ?_⟩
    · rw [hp] at hexec
      exact does_of_exec_eq_done hexec
    · rw [hfree] at hexec
      refine yields_of_exec_eq_done hexec ?_
      generalize hu : forEach (newEntries s x) (fun e => potChange e.1 e.2) s = u
      have hkept := pagesAndNumbers_releaseCounted u (cmdPages x)
      have hpot : (releaseCounted (cmdPages x) u).1.job.pot = u.job.pot := congrArg Prod.fst hkept
      refine ⟨fun i hi => ?_, fun p hp => ?_, ?_⟩
      · show Tab.get? (releaseCounted (cmdPages x) u).1.job.pot _ = _
        rw [hpot, ← hu]
        exact pot_potChanges_of_mem (by rw [newEntries_pages]; exact nodup_cmdPages) (mem_newEntries hi) s
      · show Tab.get? (releaseCounted (cmdPages x) u).1.job.pot _ = _
        rw [hpot, ← hu]
        refine pot_potChanges_of_not_mem (fun e he hep => hp ?_) s
        rw [← newEntries_pages (s := s), ← hep]
        exact List.mem_map_of_mem he
      · have hjobs : ∀ (l : List (Nat × Option PageEntry)) (v : State), (forEach l (fun e => potChange e.1 e.2) v).jobOf j = v.jobOf j :=
          fun l v => forEach_keeps (fun t => t.jobOf j) l (fun e => potChange e.1 e.2) (fun e t => rfl) v
        have hx : u.jobOf j = some x := by rw [← hu, hjobs, (jobOf_and_opcode_of_runnable hrun).1]
        obtain ⟨y, hy⟩ := jobOf_of_pagesAndNumbers hkept hx
        exact ⟨_, recorded_withPending (recorded_setResult (x := y) (by exact hy) _), rfl⟩
  case query =>
    apply yields_of_exec_eq_done rfl
    simp only [pageQuery, hrun]
    refine ⟨_, recorded_withPending (recorded_setResult (jobOf_and_opcode_of_runnable hrun).1 _), rfl, rfl, rfl, ?_⟩
    exact bit_zero_flags _ _ _

/-! ### Parked jobs (R195, R197) -/

section
variable {s : State} {j page : Nat} {x : Job}

theorem ended_abandonJob (hx : s.jobOf j = some x) : Ended j (abandonJob j page s) := by
  simp only [abandonJob, hx]
  exact ended_endJob (x := x) (by simpa using hx) 0x7005 page 0 0

end

/-- The notice for a page is given again now. -/
def wantedAgain (f page : Nat) (s : State) : State :=
  { s with job := { s.job with wanted := s.job.wanted.map (fun v =>
    if v.fn = f ∧ v.page = page then { v with lastL := s.time.L } else v) } }

theorem parkedPagesRepeatAndEnd : Claims.ParkedPagesRepeatAndEnd := by
  refine ⟨fun s f page w hw hlast hpot hparked => ?again, fun s j page right since x hx hpark hlive hcls hold => ?timeout,
    fun s j page right since x hx hpark hcls => ?prompt⟩
  case again =>
    have hrepeat : pageWantedRepeat f page s = pageWanted f page w.tag (wantedAgain f page s) := by
      simp only [pageWantedRepeat, hw]
      exact if_pos ⟨hlast, hpot, by simpa using hparked⟩
    apply yields_of_exec_eq_done rfl
    rw [hrepeat]
    have hjob : (pageWanted f page w.tag (wantedAgain f page s)).job = (wantedAgain f page s).job := by simp [pageWanted]
    refine ⟨fun v hv hf hp => ?_, wantedAgain f page s, congrArg JobState.wanted hjob, rfl, rfl⟩
    have hv' : v ∈ (wantedAgain f page s).job.wanted := hjob ▸ hv
    obtain ⟨o, -, rfl⟩ := List.mem_map.1 hv'
    by_cases ho : o.fn = f ∧ o.page = page
    · rw [if_pos ho]
    · rw [if_neg ho] at hf hp
      exact absurd ⟨hf, hp⟩ ho
  case timeout =>
    apply yields_of_exec_eq_done rfl
    have hend : pageAbandonTimeout j s = abandonJob j page s := by
      simp only [pageAbandonTimeout, hx, hpark]
      exact if_pos ⟨hlive, hcls.imp (fun h => ⟨h, hold⟩) (fun h => ⟨h, Or.inl hold⟩)⟩
    rw [hend]
    exact ended_abandonJob hx
  case prompt =>
    refine does_of_exec_eq_done (congrArg (done s) ?_)
    simp only [pageAbandonTimeout, hx, hpark]
    exact if_neg (by omega)

/-- Settles O45: the page commands, then the timers. -/
theorem pagesAreMappedAndParkedOn : Obligations.PagesAreMappedAndParkedOn := ⟨pageCommands, parkedPagesRepeatAndEnd⟩

end Sys2Proof.Machine
end

section
/-! PROOFS. Homomorphic commands (R291 to R302): handles made, adopted, read and freed. -/

namespace Sys2Proof.Machine

section
variable {s : State} {j op i : Nat} {x : Job} {o : HeOut} {back : List (List Byte)} {bytes : List Byte}

/-- An operation that keeps the job table keeps every job. -/
theorem jobOf_of_jobs_eq {s t : State} (h : t.job.jobs = s.job.jobs) (k : Nat) : t.jobOf k = s.jobOf k := by
  rw [State.jobOf, h]
  rfl

/-- The record of the handle a job makes. -/
def heRecord (s : State) (x : Job) (i : Nat) (o : HeOut) (bytes : List Byte) : HeRec where
  handle := mkHe (cabOfFn s x.fn) i (Tab.getD s.eng.heGens i 0)
  cab := cabOfFn s x.fn
  kind := o.kind
  set := o.set.id
  keyId := o.keyId
  level := o.level
  back := pBack x.desc
  backLen := bytes.length
  digest := heDigest bytes
  noise := o.noise.toNat
  scale := if o.set.ckks && o.kind == 0 then o.scale.toNat else 0
  target := o.target

/-- The result of a job that makes a handle. -/
def heResult (s : State) (x : Job) (i : Nat) (o : HeOut) (bytes : List Byte) : Result where
  status := 0
  w0 := mkHe (cabOfFn s x.fn) i (Tab.getD s.eng.heGens i 0)
  w1 := o.noise.toNat
  w2 := o.level % 256 + (if o.set.ckks && o.kind == 0 then o.scale.toNat else 0) * 256
  effects := [.putHandle i (heRecord s x i o bytes)]

theorem heMake_eq (hi : x.gotHe = some i) : heMake j x o bytes s = setResult j (heResult s x i o bytes) s := by
  simp only [heMake, hi]
  rfl

theorem ended_heRefuse (hx : s.jobOf j = some x) (y : Job) (e : Nat × Nat × Nat × Nat) : Ended j (heRefuse j y e s) := by
  unfold heRefuse
  split
  · exact ended_endJob (x := x) (by rw [jobOf_raiseFrom, hx]) _ _ _ _
  · exact ended_endJob hx _ _ _ _

/-- The bytes a homomorphic routine makes. -/
def heVector (s : State) (x : Job) (op : Nat) (back : List (List Byte)) (o : HeOut) : List Byte :=
  standardBytes op [pSet x.desc, o.set.id, pX x.desc, o.level]
    ([skBytes s x.desc.handleA, skBytes s x.desc.handleB, x.input, freeBytes s 32] ++ back) (heBytes o.set o.kind o.level)

/-- A routine that is ready writes its vector to its backing range, then makes its handle. -/
theorem heRun_of_ready (hrun : runnable s j op = some x) (hadopt : pAdopt x.desc = false) (ho : heReady s x back = .ok o) :
    heRun j op back s = writeBacking j x (pBack x.desc) (heVector s x op back o) (heMake j x o (heVector s x op back o)) (drawFree 32 s) := by
  simp only [heRun, hrun, hadopt, ho, Bool.false_eq_true, if_false]
  rfl

theorem heRun_of_refused {e : Nat × Nat × Nat × Nat} (hrun : runnable s j op = some x) (hadopt : pAdopt x.desc = false)
    (he : heReady s x back = .error e) : heRun j op back s = heRefuse j x e s := by
  simp only [heRun, hrun, hadopt, he, Bool.false_eq_true, if_false]

@[simp] theorem length_standardBytes (o : Nat) (ps : List Nat) (bs : List (List Byte)) (n : Nat) : (standardBytes o ps bs n).length = n := by
  simp [standardBytes]

/-- What a request meets depends on the page owner table only. -/
theorem firstMeet_of_pot_eq {u v : State} (h : v.job.pot = u.job.pot) (f right : Nat) (l : List Nat) :
    firstMeet v f right l = firstMeet u f right l := by
  have hmeet : ∀ p, meetPage v f right p = meetPage u f right p := fun p => by rw [meetPage, meetPage, h]
  induction l with
  | nil => rfl
  | cons p l ih => rw [firstMeet, firstMeet, hmeet, ih]

/-- A backing range whose pages may all be written takes its bytes. -/
theorem writeBacking_of_writable {u : State} {a : Nat} {k : State → State} (h : firstMeet u x.fn 2 (pagesOf a bytes.length) = none) :
    writeBacking j x a bytes k u = k (writeHost a bytes u) := by
  simp only [writeBacking, h]

/-- An absent backing page parks an engine's job. -/
theorem writeBacking_of_absent {u : State} {a page : Nat} {k : State → State}
    (h : firstMeet u x.fn 2 (pagesOf a bytes.length) = some (page, .fault)) (hcls : x.desc.cls ≠ 0) (hplane : x.plane ≠ 1) :
    writeBacking j x a bytes k u = parkJob j page 2 0 (writeHost a (bytes.take (page * 4096 - a)) u) := by
  simp only [writeBacking, h]
  exact if_neg (by simp [hcls, hplane])

/-- A job parked on a page after the cycles it ran. -/
def Job.parkedOn (L page right ran : Nat) (x : Job) : Job :=
  { keepRan L ran x with st := .parked, park := some (page, right, L), plan := [] }

/-- The first job of its function that parks on a page asks for it. -/
def askPage (x : Job) (page L : Nat) (s : State) : State :=
  pageWanted x.fn page x.desc.tag
    { s with job := { s.job with wanted := s.job.wanted ++ [{ fn := x.fn, page := page, tag := x.desc.tag, lastL := L }] } }

theorem parkJob_eq {u : State} (hx : u.jobOf j = some x) (page right ran : Nat) :
    parkJob j page right ran u =
      if (parkedOn u x.fn page).isEmpty then askPage x page u.time.L (modJob j (Job.parkedOn u.time.L page right ran) u)
      else modJob j (Job.parkedOn u.time.L page right ran) u := by
  simp only [parkJob, hx]
  rfl

@[simp] theorem jobOf_askPage (y : Job) (page L : Nat) (u : State) (k : Nat) : (askPage y page L u).jobOf k = u.jobOf k := by
  rw [askPage, pageWanted, jobOf_notify]
  rfl

@[simp] theorem eng_askPage (y : Job) (page L : Nat) (u : State) : (askPage y page L u).eng = u.eng := by
  simp [askPage, pageWanted]

theorem park_parkJob {u : State} (hx : u.jobOf j = some x) (page right ran : Nat) :
    ((parkJob j page right ran u).jobOf j).map (·.park) = some (some (page, right, u.time.L)) := by
  rw [parkJob_eq hx]
  split <;> simp [hx, Job.parkedOn]

theorem eng_parkJob {u : State} (hx : u.jobOf j = some x) (page right ran : Nat) : (parkJob j page right ran u).eng = u.eng := by
  rw [parkJob_eq hx]
  split
  · exact eng_askPage _ _ _ _
  · rfl

end

theorem homomorphicCommandsMakeHandles : Claims.HomomorphicCommandsMakeHandles := by
  intro s j op i back x c hc hrun hadopt hi
  have hx := (jobOf_and_opcode_of_runnable hrun).1
  have hexec : exec c s = done s (heRun j op back s) := by
    rcases hc with ⟨rfl, rfl⟩ | ⟨rfl, rfl⟩ | ⟨rfl, rfl⟩ | ⟨rfl, rfl⟩ | ⟨rfl, rfl⟩ | ⟨rfl, rfl⟩ | ⟨rfl, rfl⟩ <;> rfl
  refine ⟨fun o page ho habsent hcls hplane => yields_of_exec_eq_done hexec ?_, fun hwritable => yields_of_exec_eq_done hexec ?_⟩
  · rw [heRun_of_ready hrun hadopt ho, writeBacking_of_absent (by rw [heVector, length_standardBytes, firstMeet_of_pot_eq (u := s) (v := drawFree 32 s) rfl]; exact habsent) hcls hplane]
    generalize hu : writeHost (pBack x.desc) _ (drawFree 32 s) = u
    have hxu : u.jobOf j = some x := hu ▸ hx
    refine ⟨(park_parkJob hxu page 2 0).trans ?_, (congrArg EngState.handles (eng_parkJob hxu page 2 0)).trans ?_⟩
    · rw [← hu]
      rfl
    · rw [← hu]
      rfl
  · cases ho : heReady s x back with
    | error e =>
      rw [heRun_of_refused hrun hadopt ho]
      exact ended_heRefuse hx x e
    | ok o =>
      rw [heRun_of_ready hrun hadopt ho, writeBacking_of_writable (by rw [heVector, length_standardBytes, firstMeet_of_pot_eq (u := s) (v := drawFree 32 s) rfl]; exact hwritable o ho), heMake_eq hi]
      refine ⟨_, _, recorded_withPending (recorded_setResult (x := x) hx _), rfl, rfl, rfl, ?_, rfl, rfl, rfl, rfl⟩
      show (o.level % 256 + _ * 256) % 256 = o.level % 256
      omega

theorem handlesAreAdoptedReadAndFreed : Claims.HandlesAreAdoptedReadAndFreed := by
  refine ⟨fun s j i bytes x o hrun hadopt ho hi hlen => ?adopt, fun s j back x hrun => ?decrypt, fun s j x r hrun hr hnone => ?free⟩
  case adopt =>
    have hx := (jobOf_and_opcode_of_runnable hrun).1
    apply yields_of_exec_eq_done rfl
    simp only [adopt, hrun, hadopt, ho, hlen, true_and, Bool.not_true, Bool.false_eq_true, if_false]
    by_cases hres : residuesOk o.set (if o.kind = 0 then o.level else o.set.lmax + o.set.k) bytes = true
    · rw [if_pos hres, if_pos hres, heMake_eq hi]
      exact ⟨_, _, recorded_withPending (recorded_setResult hx _), rfl, rfl, rfl, hlen⟩
    · rw [if_neg hres, if_neg hres]
      exact ended_endJob hx _ _ _ _
  case decrypt =>
    refine does_of_exec_eq_done (congrArg (done s) ?_)
    simp only [polHeDecrypt, hrun]
    rfl
  case free =>
    refine does_of_exec_eq_done (congrArg (done s) ?_)
    have hnaming : (liveJobs s).filter (fun e => namesHe e.2 r.handle && !inCommit e.2) = [] := by
      rw [List.filter_eq_nil_iff]
      intro e he
      simp [hnone e he]
    simp only [polHandleFree, hrun, hr, hnaming]
    rfl

/-- Settles O44: the commands that make a vector, then those that adopt, read and free. -/
theorem homomorphicJobs : Obligations.HomomorphicJobs := ⟨homomorphicCommandsMakeHandles, handlesAreAdoptedReadAndFreed⟩

end Sys2Proof.Machine
end

section
/-! PROOFS. Random numbers (R250, R310 to R328): tiles and sources that fail, the DRBG, and RNG_READ. -/

namespace Sys2Proof.Machine

theorem whenAwake_of_run {s : State} (h : s.glb.phase = .run) (g : State → State) : whenAwake g s = g s := by
  simp [whenAwake, h]

theorem ended_of_jobOf_eq {s t : State} {j : Nat} (h : t.jobOf j = s.jobOf j) (he : Ended j s) : Ended j t := by
  unfold Ended at he ⊢
  rwa [h]

/-! ### Tiles (R250) -/

section
variable {s : State} {t bank : Nat}

/-- The jobs that run on a tile and have not reached their commit phase. -/
def runningOn (s : State) (t : Nat) : List (Nat × Job) :=
  (liveJobs s).filter (fun e => e.2.tile == some t && e.2.st == .running && !inCommit e.2)

/-- The tile is out and its jobs have ended: what the events that follow leave as it is. -/
def tileTakenOut (t : Nat) (s : State) : State :=
  modTile t (fun y => { y with parityOut := true }) (forEach (runningOn s t) (fun e => endJob e.1 0x7001 0 0 0) s)

/-- A parity error is that, but for events. -/
theorem tileParityError_of_in (h : allTiles.contains t = true) (hin : (s.tile t).parityOut = false) (p : State → Prop)
    (hevents : ∀ src code sev a b c u, p u → p (raiseFrom src code sev a b c u)) (hp : p (tileTakenOut t s)) :
    p (tileParityError t bank s) := by
  have hopen : (allTiles.contains t && !(s.tile t).parityOut) = true := by
    rw [h, hin]
    rfl
  unfold tileParityError
  rw [if_pos hopen]
  dsimp only
  split
  · exact hevents _ _ _ _ _ _ _ (hevents _ _ _ _ _ _ _ hp)
  · split
    · exact hevents _ _ _ _ _ _ _ (hevents _ _ _ _ _ _ _ hp)
    · exact hevents _ _ _ _ _ _ _ hp

theorem parityOut_tileTakenOut : ((tileTakenOut t s).tile t).parityOut = true := by
  rw [tileTakenOut, tile_modTile, if_pos rfl]

theorem ended_tileTakenOut {e : Nat × Job} (he : e ∈ liveJobs s) (htile : e.2.tile = some t) (hst : e.2.st = .running)
    (hcommit : inCommit e.2 = false) : Ended e.1 (tileTakenOut t s) := by
  obtain ⟨x, hx⟩ := jobOf_of_mem_liveJobs he
  exact ended_endJobs (List.mem_filter.2 ⟨he, by simp [htile, hst, hcommit]⟩) hx

end

/-! ### Samples of a source (R310 to R317) -/

section
variable {s : State} {n : Nat} {b o : Bool} {x y : Source}

/-- Setting a source's record. -/
theorem modSource_eq (g : Source → Source) : modSource n g s = modSource n (fun _ => g (sourceOf s n)) s := rfl

/-- What of a source a sample is tested against, and what its window then gives. -/
def SameTests (x y : Source) : Prop :=
  y.failed = x.failed ∧ y.tap = x.tap ∧ y.last = x.last ∧ y.rep = x.rep ∧ y.cnt = x.cnt ∧ y.win = x.win ∧ y.passed = x.passed ∧
    y.transits = x.transits ∧ y.tainted = x.tainted ∧ y.faults = x.faults

/-- A raw bit that makes a sample hands it on, the source otherwise as it was for the tests. -/
theorem rawBit_of_sample (hx : x = sourceOf s n)
    (ho : (16 ≤ n ∧ o = b) ∨ (n < 16 ∧ ∃ a c, x.half = some a ∧ x.vn = some c ∧ a ≠ b ∧ o = (c != a))) :
    ∃ y, SameTests x y ∧ rawBit n b s = takeSample n o (modSource n (fun _ => y) s) := by
  subst hx
  rcases ho with ⟨hn, rfl⟩ | ⟨hn, a, c, hhalf, hvn, hne, rfl⟩
  · exact ⟨{ sourceOf s n with bits := o :: (sourceOf s n).bits }, ⟨rfl, rfl, rfl, rfl, rfl, rfl, rfl, rfl, rfl, rfl⟩,
      if_neg (Nat.not_lt.2 hn)⟩
  · refine ⟨{ sourceOf s n with half := none, vn := none, live := (sourceOf s n).live + 1 },
      ⟨rfl, rfl, rfl, rfl, rfl, rfl, rfl, rfl, rfl, rfl⟩, ?_⟩
    simp only [rawBit, if_pos hn, debias, hhalf, hvn, if_neg hne]

/-- A source that nobody reads and that has not failed tests the sample. -/
theorem takeSample_modSource (htap : y.tap = none) (hfailed : y.failed = false) :
    takeSample n o (modSource n (fun _ => y) s) =
      match sampleFault n (addSample o y) with
      | some t => healthIntermittent n t (modSource n (addSample o) (modSource n (fun _ => y) s))
      | none => if 1024 ≤ (addSample o y).win.length then windowClose n (modSource n (addSample o) (modSource n (fun _ => y) s))
        else modSource n (addSample o) (modSource n (fun _ => y) s) := by
  have hy : sourceOf (modSource n (fun _ => y) s) n = y := by simp
  have hyo : sourceOf (modSource n (addSample o) (modSource n (fun _ => y) s)) n = addSample o y := by simp
  have htapped : tapSample n o (modSource n (fun _ => y) s) = modSource n (fun _ => y) s := by simp [tapSample, htap]
  simp only [takeSample, htapped, hy, hfailed, hyo, Bool.false_eq_true, if_false] <;> rfl

/-- The tests of a sample do not see the rest of the source. -/
theorem sampleFault_of_sameTests (h : SameTests x y) : sampleFault n (addSample o y) = sampleFault n (addSample o x) := by
  obtain ⟨-, -, hlast, hrep, hcnt, hwin, -⟩ := h
  unfold sampleFault addSample
  dsimp only
  rw [hlast, hrep, hcnt, hwin]

/-- A full window of a source whose start-up is over, with every test passed (R312, R316). -/
theorem windowClose_of_passed (hx : sourceOf s n = x) (htaint : x.tainted = false)
    (hpass : x.passed = true ∨ n < 16 ∨ 16 ≤ x.transits) :
    (sourceOf (windowClose n s) n).passed = true ∧ (sourceOf (windowClose n s) n).win = [] ∧
      (windowClose n s).rng.credits = s.rng.credits ++ conditioned n x.win.reverse := by
  have hover : (x.passed || decide (n < 16) || decide (16 ≤ x.transits)) = true := by simpa [or_assoc] using hpass
  unfold windowClose
  dsimp only
  rw [hx, if_pos hover, htaint, if_neg Bool.false_ne_true]
  exact ⟨by simp [sourceOf, modSource], by simp [sourceOf, modSource], rfl⟩

@[simp] theorem credits_modSource (k : Nat) (g : Source → Source) (u : State) : (modSource k g u).rng.credits = u.rng.credits := rfl

@[simp] theorem sourceOf_raiseEv (code sev p1 p2 p3 : Nat) (s : State) (k : Nat) :
    sourceOf (raiseEv code sev p1 p2 p3 s) k = sourceOf s k := by
  simp [sourceOf]

/-- A failed test counts, and the third of an orbit, or one before the start-up has passed, fails the source (R317). -/
theorem healthIntermittent_of_live (test : Nat) (hx : sourceOf s n = x) (hfailed : x.failed = false) :
    (sourceOf (healthIntermittent n test s) n).faults = x.faults + 1 ∧ (sourceOf (healthIntermittent n test s) n).lastTest = test ∧
      (sourceOf (healthIntermittent n test s) n).win = [] ∧ (healthIntermittent n test s).rng.credits = s.rng.credits ∧
      (sourceOf (healthIntermittent n test s) n).failed = decide (3 ≤ x.faults + 1 ∨ x.passed = false) := by
  unfold healthIntermittent
  dsimp only
  rw [hx, sourceOf_raiseEv, sourceOf_modSource, if_pos rfl, hx]
  by_cases hfail : 3 ≤ x.faults + 1 ∨ x.passed = false
  · rw [if_pos hfail, decide_eq_true hfail]
    unfold failSource
    rw [sourceOf_raiseEv, sourceOf_modSource, if_pos rfl, hx, hfailed, if_neg Bool.false_ne_true]
    refine ⟨?_, ?_, ?_, ?_, ?_⟩ <;> simp [hx]
  · rw [if_neg hfail, decide_eq_false hfail]
    refine ⟨?_, ?_, ?_, ?_, ?_⟩ <;> simp [hx, hfailed]

end

theorem takeRaw_one {s : State} {n : Nat} (hn : sourceNumbers.contains n = true) (hrun : s.rng.running = true) (b : Bool) :
    takeRaw n [b] s = rawBit n b s := by
  rw [takeRaw, hn, hrun]
  rfl

theorem sourceNumbers_contains_channel {n : Nat} (h : n < 4) : sourceNumbers.contains n = true := by
  interval_cases n <;> decide

theorem tilesAndSourcesFail : Claims.TilesAndSourcesFail := by
  refine fun s hphase => ⟨fun t bank ht hin => ?tile, fun n b o x hn hrun hx hfailed htap ho => ⟨fun hgood hlen htaint hpass => ?closes, fun test hbad => ?counts⟩,
    fun n b a hn hrun hhalf => ⟨fun hba => ?same, fun hba hvn => ?first⟩⟩
  case tile =>
    apply yields_of_exec_eq_done rfl
    rw [whenAwake_of_run hphase]
    refine ⟨?_, fun e he htile hst hcommit => ?_⟩
    · rw [tile_withPending]
      exact tileParityError_of_in ht hin (fun u => (u.tile t).parityOut = true) (fun _ _ _ _ _ _ u hu => by simpa [State.tile] using hu)
        parityOut_tileTakenOut
    · exact tileParityError_of_in ht hin (Ended e.1) (fun _ _ _ _ _ _ u hu => ended_of_jobOf_eq (jobOf_raiseFrom _ _ _ _ _ _ u e.1) hu)
        (ended_tileTakenOut he htile hst hcommit)
  case closes =>
    apply yields_of_exec_eq_done rfl
    obtain ⟨y, htests, hbit⟩ := rawBit_of_sample hx ho
    have hfault := sampleFault_of_sameTests (n := n) (o := o) htests
    obtain ⟨hyfailed, hytap, -, -, -, hywin, hypassed, hytransits, hytaint, -⟩ := htests
    have hfull : 1024 ≤ (addSample o y).win.length := by
      show 1024 ≤ (o :: y.win).length
      rw [hywin, List.length_cons, hlen]
    rw [whenAwake_of_run hphase, takeRaw_one hn hrun, hbit, takeSample_modSource (hytap.trans htap) (hyfailed.trans hfailed), hfault, hgood]
    dsimp only
    rw [if_pos hfull]
    obtain ⟨hp, hw, hc⟩ := windowClose_of_passed (s := modSource n (addSample o) (modSource n (fun _ => y) s)) (n := n) (x := addSample o y)
      (by simp) (hytaint.trans htaint) (by rw [← hypassed, ← hytransits] at hpass; exact hpass)
    refine ⟨hp, hw, hc.trans ?_⟩
    show s.rng.credits ++ conditioned n (o :: y.win).reverse = _
    rw [hywin]
  case counts =>
    apply yields_of_exec_eq_done rfl
    obtain ⟨y, htests, hbit⟩ := rawBit_of_sample hx ho
    have hfault := sampleFault_of_sameTests (n := n) (o := o) htests
    obtain ⟨hyfailed, hytap, -, -, -, -, hypassed, -, -, hyfaults⟩ := htests
    rw [whenAwake_of_run hphase, takeRaw_one hn hrun, hbit, takeSample_modSource (hytap.trans htap) (hyfailed.trans hfailed), hfault, hbad]
    obtain ⟨hf, hl, hw, hc, hd⟩ := healthIntermittent_of_live (s := modSource n (addSample o) (modSource n (fun _ => y) s)) (n := n)
      (x := addSample o y) test (by simp) (hyfailed.trans hfailed)
    rw [← hyfaults, ← hypassed]
    exact ⟨hf, hl, hw, hc, hd⟩
  case same =>
    subst hba
    refine does_of_exec_eq_done (congrArg (done s) ?_)
    rw [whenAwake_of_run hphase, takeRaw_one (sourceNumbers_contains_channel hn) hrun]
    simp only [rawBit, if_pos (show n < 16 by omega), debias, hhalf, if_true]
    rfl
  case first =>
    refine does_of_exec_eq_done (congrArg (done s) ?_)
    rw [whenAwake_of_run hphase, takeRaw_one (sourceNumbers_contains_channel hn) hrun]
    simp only [rawBit, if_pos (show n < 16 by omega), debias, hhalf, if_neg (Ne.symm hba), hvn]
    rfl

/-! ### The DRBG (R319 to R322) -/

section
variable (s : State)

theorem resume_rng : (resume s).rng = { s.rng with blocked := false } := by
  unfold resume
  split
  next => simp
  next h => rw [← Bool.eq_false_iff.2 h]

@[simp] theorem drawsLost_rng : (drawsLost s).rng = s.rng := by
  have hjobs : ∀ (l : List (Nat × Job)) (u : State), (forEach l (fun e => if e.2.desc.cls = 0 then endJob e.1 0x7001 0 0 0
      else modJob e.1 (fun x => { x with plan := [], st := if x.st = .running then .saved else x.st })) u).rng = u.rng :=
    fun l u => forEach_keeps State.rng l _ (fun e u => by split <;> simp) u
  unfold drawsLost
  dsimp only
  split
  · exact hjobs _ _
  · exact hjobs _ _

@[simp] theorem drawsLost_glb : (drawsLost s).glb = s.glb := by
  have hjobs : ∀ (l : List (Nat × Job)) (u : State), (forEach l (fun e => if e.2.desc.cls = 0 then endJob e.1 0x7001 0 0 0
      else modJob e.1 (fun x => { x with plan := [], st := if x.st = .running then .saved else x.st })) u).glb = u.glb :=
    fun l u => forEach_keeps State.glb l _ (fun e u => by split <;> simp) u
  unfold drawsLost
  dsimp only
  split
  · exact hjobs _ _
  · exact hjobs _ _

end

theorem theDrbgIsSeededAndBlocked : Claims.TheDrbgIsSeededAndBlocked := by
  refine fun s => ⟨fun hrun hready hkat hpool => ?instantiate, fun hready hkat hlast hwhen => ⟨fun hpool => ?reseed, fun hpool hL => ?overdue⟩,
    fun hready hblocked => ⟨fun hlast => ?blocks, fun hlast => ?early⟩, fun cause hphase hkat => ?kat⟩
  case instantiate =>
    apply yields_of_exec_eq_done rfl
    have hcase : drbgInstantiate s = resume { takeSeed s with rng := { (takeSeed s).rng with ready := true, reseeds := 0 } } := by
      simp [drbgInstantiate, hrun, hready, hkat, hpool]
    rw [hcase]
    simp [State.withPending, resume_rng, takeSeed]
  case reseed =>
    apply yields_of_exec_eq_done rfl
    have hcase : drbgReseed s = resume (takeSeed s) := by
      have hlast' : (s.rng.lastReseedL == s.time.L) = false := beq_false_of_ne hlast
      simp [drbgReseed, hready, hkat, hlast', hpool, hwhen]
    rw [hcase]
    simp [State.withPending, resume_rng, takeSeed]
  case overdue =>
    apply yields_of_exec_eq_done rfl
    have hlast' : (s.rng.lastReseedL == s.time.L) = false := beq_false_of_ne hlast
    have hshort : ¬384 ≤ poolFree s := by omega
    cases hover : s.rng.overdue with
    | true =>
      have hcase : drbgReseed s = s := by simp [drbgReseed, hready, hkat, hlast', hshort, hover]
      rw [hcase]
      exact ⟨hover, rfl⟩
    | false =>
      have hcase : drbgReseed s = raiseEv 0xA012 4 (poolFree s) (s.time.L - s.rng.lastReseedL) 0 { s with rng := { s.rng with overdue := true } } := by
        simp [drbgReseed, hready, hkat, hlast', hshort, hover, hL]
      rw [hcase]
      simp [State.withPending]
  case blocks =>
    apply yields_of_exec_eq_done rfl
    have hcase : drbgBlocked s = drawsLost (raiseEv 0xA013 6 0 (poolFree s) 0 (block s)) := by simp [drbgBlocked, hready, hblocked, hlast]
    rw [hcase]
    simp [State.withPending, block]
  case early =>
    refine does_of_exec_eq_done (congrArg (done s) ?_)
    simp [drbgBlocked, hready, hblocked, Nat.not_le.2 hlast]
  case kat =>
    apply yields_of_exec_eq_done rfl
    rw [whenAwake_of_run hphase]
    simp [State.withPending, drbgKatFailed, hkat, block]

/-! ### RNG_READ (R327, R328) -/

theorem length_freeBytes (s : State) (n : Nat) : (freeBytes s n).length = n := by simp [freeBytes]

theorem randomBytesAreRead : Claims.RandomBytesAreRead := by
  refine fun s j x hrun => ⟨fun hmode => ?copied, fun hmode hserves hflag => ?fresh, fun hmode hserves hflag => ?reseeded, fun hmode hserves => ?refused⟩
  case copied =>
    refine does_of_exec_eq_done (congrArg (done s) ?_)
    simp [rngRead, hrun, hmode]
  case fresh =>
    refine does_of_exec_eq_done (congrArg (done s) ?_)
    simp [rngRead, hrun, hmode, hserves, hflag]
  case reseeded =>
    apply yields_of_exec_eq_done rfl
    have hcase : rngRead j s = drawFree (x.desc.par 44 4) (setResult j
        { status := 0, output := freeBytes (takeSeed s) (x.desc.par 44 4), w0 := (takeSeed s).rng.reseeds } (takeSeed s)) := by
      simp [rngRead, hrun, hmode, hserves, hflag]
    rw [hcase]
    exact ⟨rfl, rfl, _, recorded_withPending (recorded_drawFree _ (recorded_setResult (x := x) (jobOf_and_opcode_of_runnable hrun).1 _)), rfl,
      length_freeBytes _ _⟩
  case refused =>
    refine does_of_exec_eq_done (congrArg (done s) ?_)
    simp [rngRead, hrun, hmode, hserves]

/-- Settles O46: tiles and sources, the DRBG, then RNG_READ. -/
theorem randomNumbers : Obligations.RandomNumbers := ⟨tilesAndSourcesFail, theDrbgIsSeededAndBlocked, randomBytesAreRead⟩

end Sys2Proof.Machine
end

section
/-! PROOFS. Meter lanes (R332 to R349): a lane's cycle, its responses, its decision point, its join and its freezing. -/

namespace Sys2Proof.Machine

/-! ### What leaves the lanes and their ledgers alone -/

section
variable (s : State) (k : Nat)

theorem lane_of_mtr_eq {s t : State} (h : t.mtr = s.mtr) (k : Nat) : t.lane k = s.lane k := by rw [State.lane, h, State.lane]

theorem laneLdg_of_ldg_eq {s t : State} (h : t.ldg = s.ldg) (k : Nat) : laneLdg t k = laneLdg s k := by rw [laneLdg, h, laneLdg]

@[simp] theorem lane_emit (o : Out) : (emit o s).lane k = s.lane k := rfl

@[simp] theorem lane_raiseFrom (src code sev a b c : Nat) : (raiseFrom src code sev a b c s).lane k = s.lane k :=
  lane_of_mtr_eq (by simp) k

@[simp] theorem laneLdg_raiseFrom (src code sev a b c : Nat) : laneLdg (raiseFrom src code sev a b c s) k = laneLdg s k :=
  laneLdg_of_ldg_eq (by simp) k

@[simp] theorem lane_laneNotice (n cause p1 p2 : Nat) : (laneNotice n cause p1 p2 s).lane k = s.lane k :=
  lane_of_mtr_eq (by simp [laneNotice]) k

@[simp] theorem laneLdg_laneNotice (n cause p1 p2 : Nat) : laneLdg (laneNotice n cause p1 p2 s) k = laneLdg s k :=
  laneLdg_of_ldg_eq (by simp [laneNotice]) k

@[simp] theorem lane_modLaneLdg (n : Nat) (g : LaneLedger → LaneLedger) : (modLaneLdg n g s).lane k = s.lane k := rfl

@[simp] theorem laneLdg_modLane (n : Nat) (g : Lane → Lane) : laneLdg (modLane n g s) k = laneLdg s k := rfl

@[simp] theorem lane_checkpoint (n kind : Nat) : (checkpoint n kind s).lane k = s.lane k := rfl

@[simp] theorem lane_taint (n : Nat) : (taint n s).lane k = s.lane k := by
  unfold taint
  dsimp only
  split <;> rfl

@[simp] theorem lane_handOver (n imp exp : Nat) (c : Cycle) : (handOver n imp exp c s).lane k = s.lane k := by
  unfold handOver
  split <;> rfl

/-- A taint marks the baseline; nothing else of the lane's volatile ledger moves. -/
theorem laneLdg_taint (n : Nat) : (laneLdg (taint n s) n).view = { (laneLdg s n).view with tainted := true } ∧
    (laneLdg (taint n s) n).closeDue = (laneLdg s n).closeDue := by
  unfold taint checkpoint
  dsimp only
  split <;> simp

end

/-! ### Suspect lanes (R342, R345, R346) -/

section
variable (s : State) (n cause p1 p2 : Nat)

/-- A lane that stands in no integrity SUSPECT takes the new cause. -/
theorem lane_enterSuspect (h : ¬((s.lane n).st = .suspect ∧ integrity (s.lane n).cause = true)) :
    (enterSuspect n cause p1 p2 s).lane n = { s.lane n with st := .suspect, cause := cause, logged := [cause] } := by
  unfold enterSuspect
  dsimp only
  rw [if_neg h, lane_raiseFrom, lane_laneNotice]
  split <;> simp

/-- A suspicion may taint the lane's ledger; its meter values and its close stay. -/
theorem laneLdg_enterSuspect : (laneLdg (enterSuspect n cause p1 p2 s) n).view.meterImp = (laneLdg s n).view.meterImp ∧
    (laneLdg (enterSuspect n cause p1 p2 s) n).view.meterExp = (laneLdg s n).view.meterExp ∧
    (laneLdg (enterSuspect n cause p1 p2 s) n).closeDue = (laneLdg s n).closeDue := by
  unfold enterSuspect
  dsimp only
  split
  · split <;> simp
  · rw [laneLdg_raiseFrom, laneLdg_laneNotice]
    split
    · obtain ⟨hview, hclose⟩ := laneLdg_taint (modLane n (fun l => { l with st := .suspect, cause := cause, logged := [cause] }) s) n
      rw [hview, hclose]
      exact ⟨rfl, rfl, rfl⟩
    · exact ⟨rfl, rfl, rfl⟩

end

theorem not_integrity_of_live {l : Lane} (h : l.st = .live) : ¬(l.st = .suspect ∧ integrity l.cause = true) := fun hs => by
  rw [h] at hs
  exact LaneState.noConfusion hs.1

/-! ### The cross-check and the acceptance (R341, R343) -/

section
variable (s : State) (n imp : Nat) (c : Cycle)

/-- The cross-check keeps the lane's cycle, its last frame and its count of missed cycles. -/
theorem lane_crossCheck (h : (s.lane n).st = .live) : ((crossCheck n imp c s).lane n).cycle = (s.lane n).cycle ∧
    ((crossCheck n imp c s).lane n).lastFrame = (s.lane n).lastFrame ∧ ((crossCheck n imp c s).lane n).missed = (s.lane n).missed := by
  have hfree := not_integrity_of_live h
  unfold crossCheck
  split
  · exact ⟨rfl, rfl, rfl⟩
  · split
    · simp
    · dsimp only
      split
      · exact ⟨rfl, rfl, rfl⟩
      · rw [lane_modLane, if_pos rfl]
        split
        · rw [lane_enterSuspect s n _ _ _ hfree]
          exact ⟨rfl, rfl, rfl⟩
        · exact ⟨rfl, rfl, rfl⟩

theorem laneLdg_crossCheck : (laneLdg (crossCheck n imp c s) n).view.meterImp = (laneLdg s n).view.meterImp ∧
    (laneLdg (crossCheck n imp c s) n).view.meterExp = (laneLdg s n).view.meterExp ∧
    (laneLdg (crossCheck n imp c s) n).closeDue = (laneLdg s n).closeDue := by
  unfold crossCheck
  split
  · exact ⟨rfl, rfl, rfl⟩
  · split
    · exact ⟨rfl, rfl, rfl⟩
    · dsimp only
      split
      · exact ⟨rfl, rfl, rfl⟩
      · rw [laneLdg_modLane]
        split
        · exact laneLdg_enterSuspect _ _ _ _ _
        · exact ⟨rfl, rfl, rfl⟩

end

/-- A hand-over to a good ledger sets its meter values. -/
theorem laneLdg_handOver {s : State} {n : Nat} (hgood : laneGood s n = true) (imp exp : Nat) (c : Cycle) :
    (laneLdg (handOver n imp exp c s) n).view.meterImp = imp ∧ (laneLdg (handOver n imp exp c s) n).view.meterExp = exp ∧
      (laneLdg (handOver n imp exp c s) n).closeDue = (laneLdg s n).closeDue := by
  simp [handOver, hgood]

/-- The record of a lane whose reading is accepted. -/
def Lane.accepted (c : Cycle) (l : Lane) : Lane := { l with st := .live, cause := 0, missed := 0, lastFrame := some c.frame, logged := [] }

/-- The reading of a LIVE lane that has joined is accepted: it is handed over and cross-checked. -/
theorem acceptReading_of_live {s : State} {n : Nat} (hst : (s.lane n).st = .live) (imp exp : Nat) (c : Cycle) :
    acceptReading n imp exp c s = crossCheck n imp c (modLane n (Lane.accepted c) (handOver n imp exp c s)) := by
  unfold acceptReading
  dsimp only
  rw [if_neg (by rw [hst]; exact LaneState.noConfusion)]
  rfl

/-! ### LANE_CYCLE_START, LANE_RETRY and the failed attempts (R334 to R336) -/

theorem laneCyclesRun : Claims.LaneCyclesRun := by
  refine fun s n => ⟨fun hpolled hlane hslot hidle => ?start, fun c bs hc hlive hresp => ⟨?timeout, fun m hm => ?broken⟩,
    fun c hc hpolled hlane hfailed hattempt hL => ?retry⟩
  case start =>
    apply yields_of_exec_eq_done rfl
    have hcase : laneCycleStart n s = modLane n (fun l => { l with
        cycle := some { frame := s.time.L / frameL, reqL := s.time.L, identify := identifyCycle s n, latch := l.pulses }
        seq := (l.seq + 1) % 65536, lastSeq := l.seq }) (sendRequest n (identifyCycle s n) s) := by
      have hslot' : (s.time.L % frameL == 2 * n) = true := beq_iff_eq.2 hslot
      simp only [laneCycleStart, hpolled, hlane, hslot', hidle]
      rfl
    rw [hcase, lane_withPending, lane_modLane, if_pos rfl]
    exact ⟨rfl, rfl, List.mem_append_right _ (.head _)⟩
  case timeout =>
    apply yields_of_exec_eq_done rfl
    have hcase : laneResponseTimeout n s = modLane n (countError 0) s := by
      simp [laneResponseTimeout, awaitingResponse, hc, hlive, hresp]
    rw [hcase, lane_withPending, lane_modLane, if_pos rfl]
    exact ⟨by simp [countError, hc], by simp [countError]⟩
  case broken =>
    have hexec : exec m s = done s (laneResponse n false bs s) := by
      rcases hm with rfl | rfl <;> rfl
    have hcase : laneResponse n false bs s = modLane n (countError 1) s := by
      simp [laneResponse, hc, hlive, hresp]
    rw [hcase] at hexec
    refine yields_of_exec_eq_done hexec ?_
    rw [lane_withPending, lane_modLane, if_pos rfl]
    exact ⟨by simp [countError, hc], by simp [countError]⟩
  case retry =>
    apply yields_of_exec_eq_done rfl
    have hcase : laneRetry n s = modLane n (fun l => { l with
        cycle := some { c with attempt := 2, failed := false, latch := l.pulses }
        seq := (l.seq + 1) % 65536, lastSeq := l.seq }) (sendRequest n c.identify s) := by
      have hL' : (s.time.L == c.frame * frameL + 2 * n + 64) = true := beq_iff_eq.2 hL
      simp only [laneRetry, hc, hpolled, hlane, hfailed, hattempt, hL']
      rfl
    rw [hcase, lane_withPending, lane_modLane, if_pos rfl]
    exact ⟨rfl, rfl, List.mem_append_right _ (.head _)⟩

/-! ### Responses and pulses (R336, R340) -/

/-- A clean response that passes the checks is kept for the decision point. -/
theorem laneResponse_of_checked {s : State} {n : Nat} {c : Cycle} {bs p : List Byte} (hc : (s.lane n).cycle = some c) (hlive : c.failed = false)
    (hresp : c.resp = none) (hp : checkResponse n (((s.lane n).seq + 65535) % 65536) c.identify bs = .ok p) :
    (laneResponse n true bs s).lane n =
      if c.identify = true then { s.lane n with cycle := some { c with resp := some p }, repId := slice p 0 16, repFw := leAt p 16 2, repPc := leAt p 18 2 }
      else { s.lane n with cycle := some { c with resp := some p }, repImp := leAt p 2 8, repExp := leAt p 10 8 } := by
  simp only [laneResponse, hc, hlive, hresp, hp, Bool.not_true, Bool.false_eq_true, if_false, Option.isSome_none, Bool.or_self,
    lane_modLane, if_true]

theorem lanesReportAndCount : Claims.LanesReportAndCount := by
  refine fun s n => ⟨fun c bs p hc hlive hresp hp => ⟨fun hid => ?reading, fun hid => ?identity⟩, fun hused hpolled hcounting => ?counts,
    fun hunused => ?ignored⟩
  case reading =>
    apply yields_of_exec_eq_done rfl
    rw [lane_withPending, reading, laneResponse_of_checked hc hlive hresp hp, if_neg (by rw [hid]; exact Bool.false_ne_true)]
    exact ⟨rfl, rfl, rfl⟩
  case identity =>
    apply yields_of_exec_eq_done rfl
    rw [lane_withPending, identity, laneResponse_of_checked hc hlive hresp hp, if_pos hid]
    exact ⟨rfl, rfl, rfl, rfl⟩
  case counts =>
    apply yields_of_exec_eq_done rfl
    simp [pulse, hused, hpolled, hcounting]
  case ignored =>
    refine does_of_exec_eq_done (congrArg (done s) ?_)
    simp [pulse, hunused]

/-! ### The decision point (R337, R341, R345) -/

section
variable {s : State} {n : Nat} {c : Cycle}

/-- With no close due the decision point only decides. -/
theorem closeAtDecision_of_none {u : State} (h : (laneLdg u n).closeDue = none) : closeAtDecision n u = u := by
  simp [closeAtDecision, h]

/-- The lane's cycle is over. -/
def cycleOver (n : Nat) (s : State) : State := modLane n (fun l => { l with cycle := none }) s

@[simp] theorem lane_cycleOver : (cycleOver n s).lane n = { s.lane n with cycle := none } := by simp [cycleOver]

/-- The decision point of a POLL cycle. -/
theorem decisionPoint_of_poll (hn : n < 48) (hpolled : lanesPolled s = true) (hgo : s.time.genStopped = false) (hc : (s.lane n).cycle = some c)
    (hL : s.time.L = c.frame * 128 + 2 * n + 96) (hpoll : c.identify = false) :
    decisionPoint n s = closeAtDecision n (match c.resp with
      | some p => decideReading n c p (cycleOver n s)
      | none => decideMissed n c (cycleOver n s)) := by
  have hslot : (s.time.L % frameL != (2 * n + 96) % frameL) = false := by
    rw [bne_eq_false_iff_eq, hL, frameL]
    omega
  have hdue : s.time.L = c.frame * frameL + 2 * n + 96 := hL
  unfold decisionPoint
  rw [if_neg (by simp [hgo, hpolled, hslot, hn]), hc]
  dsimp only
  rw [if_pos hdue]
  cases c.resp with
  | none => rfl
  | some p =>
    dsimp only
    rw [if_neg (by rw [hpoll]; exact Bool.false_ne_true)]
    rfl

/-- A missed POLL cycle of a LIVE lane counts, and the eighth in a row silences it. -/
theorem decideMissed_of_live {u : State} (hpoll : c.identify = false) (hlive : (u.lane n).st = .live) :
    decideMissed n c u =
      if 8 ≤ ((modLane n (fun l => { l with missed := l.missed + 1 }) u).lane n).missed then
        enterSuspect n 0x01
          (((modLane n (fun l => { l with missed := l.missed + 1 }) u).lane n).repImp -
            (laneLdg (modLane n (fun l => { l with missed := l.missed + 1 }) u) n).view.meterImp)
          (windowPulses ((modLane n (fun l => { l with missed := l.missed + 1 }) u).lane n)
            ((modLane n (fun l => { l with missed := l.missed + 1 }) u).lane n).pulses)
          (modLane n (fun l => { l with missed := l.missed + 1 }) u)
      else modLane n (fun l => { l with missed := l.missed + 1 }) u := by
  have hst : ((modLane n (fun l => { l with missed := l.missed + 1 }) u).lane n).st = .live := by simp [hlive]
  unfold decideMissed
  rw [if_neg (by rw [hpoll]; exact Bool.false_ne_true)]
  dsimp only
  simp only [hst, true_or, and_true]

/-- A reading at the power the lane reported before. -/
theorem decideReading_of_power {p : List Byte} (hpower : (s.lane n).power = some (leAt p 18 4)) :
    decideReading n c p (cycleOver n s) =
      match readingCause (laneLdg s n).view { s.lane n with cycle := none } c (leAt p 0 2) (leAt p 2 8) (leAt p 10 8) (hasJoined (s.lane n)) with
      | some cause => enterSuspect n cause (leAt p 2 8 - (laneLdg s n).view.meterImp) (windowPulses { s.lane n with cycle := none } c.latch)
          (modLane n (fun l => { l with missed := 0 }) (modLane n (fun l => { l with power := some (leAt p 18 4) }) (cycleOver n s)))
      | none =>
        if !laneActive { s.lane n with cycle := none } then
          modLane n (fun l => { l with missed := 0 }) (modLane n (fun l => { l with power := some (leAt p 18 4) }) (cycleOver n s))
        else if hasJoined (s.lane n) then
          acceptReading n (leAt p 2 8) (leAt p 10 8) c (modLane n (fun l => { l with power := some (leAt p 18 4) }) (cycleOver n s))
        else endJoin n (leAt p 2 8) (leAt p 10 8) c (modLane n (fun l => { l with power := some (leAt p 18 4) }) (cycleOver n s)) := by
  have hsame : ((s.lane n).power.any (fun q => q != leAt p 18 4)) = false := by simp [hpower]
  unfold decideReading
  dsimp only
  rw [lane_cycleOver]
  dsimp only
  rw [hsame, if_neg Bool.false_ne_true]
  rfl

end

/-! ### Freezing a lane (R348) -/

theorem isFrozen_of_job_eq {u v : State} {kind number : Nat} (h : v.job = u.job) (hf : isFrozen u kind number = true) :
    isFrozen v kind number = true := by
  rwa [isFrozen, h]

theorem freezes_of_job_eq {u v : State} (h : v.job = u.job) : v.job.freezes = u.job.freezes := by rw [h]

theorem freezes_raiseFrom (src code sev a b c : Nat) (u : State) : (raiseFrom src code sev a b c u).job.freezes = u.job.freezes :=
  freezes_of_job_eq (by simp)

theorem freezes_setAttn (b f : Nat) (u : State) : (setAttn b f u).job.freezes = u.job.freezes := freezes_of_job_eq (by simp)

theorem freezes_notifyZeroAndCab (type subject p0 p1 p2 p3 cab : Nat) (u : State) :
    (notifyZeroAndCab type subject p0 p1 p2 p3 cab u).job.freezes = u.job.freezes := freezes_of_job_eq (by simp)

theorem freezes_giveBack (f n k : Nat) (u : State) : (giveBack f n k u).job.freezes = u.job.freezes := freezes_of_job_eq (by simp)

theorem freezes_writeEntry (f n : Nat) (e : Bool → Completion) (u : State) : (writeEntry f n e u).job.freezes = u.job.freezes :=
  freezes_of_job_eq (by simp)

/-- The end of a job keeps the freezes. -/
@[simp] theorem freezes_endJob (j status w0 w1 w2 : Nat) (u : State) : (endJob j status w0 w1 w2 u).job.freezes = u.job.freezes := by
  have hentry : ∀ (x : Job) (e : Bool → Completion) (v : State), (jobEntry j x e v).job.freezes = v.job.freezes := by
    intro x e v
    unfold jobEntry
    split
    · rfl
    · exact (freezes_giveBack _ _ _ _).trans (freezes_writeEntry _ _ _ _)
  have hrelease : ∀ v : State, (releaseReserve j v).job.freezes = v.job.freezes := by
    intro v
    unfold releaseReserve
    split
    · rfl
    · split
      · rfl
      · exact freezes_giveBack _ _ _ _
  unfold endJob
  split
  · rfl
  · split
    · rfl
    · exact (hrelease _).trans (hentry _ _ _)

/-- The freeze of a master is recorded once, with its cause and address. -/
theorem freezes_freezeMaster {kind number : Nat} {u : State} (h : isFrozen u kind number = false) (cause addr : Nat) (tag : Word)
    (offender : Option Nat) : (freezeMaster kind number cause addr tag offender u).job.freezes =
      u.job.freezes ++ [{ kind := kind, number := number, cause := cause, L := eventL u, addr := addr, tag := tag }] := by
  have hjobs : ∀ (l : List (Nat × Job)) (v : State),
      (forEach l (fun e => endJob e.1 (frozenStatus kind offender e) 0 0 0) v).job.freezes = v.job.freezes :=
    fun l v => forEach_keeps (fun t => t.job.freezes) l (fun e => endJob e.1 (frozenStatus kind offender e) 0 0 0)
      (fun e t => freezes_endJob e.1 _ 0 0 0 t) v
  unfold freezeMaster
  rw [if_neg (by rw [h]; exact Bool.false_ne_true)]
  dsimp only
  rw [freezes_raiseFrom]
  split
  · rw [freezes_setAttn, freezes_notifyZeroAndCab, hjobs]
  · rw [freezes_notifyZeroAndCab, hjobs]

theorem isFrozen_freezeMaster (kind number cause addr : Nat) (tag : Word) (offender : Option Nat) (u : State) :
    isFrozen (freezeMaster kind number cause addr tag offender u) kind number = true := by
  cases h : isFrozen u kind number with
  | true => simp [freezeMaster, h]
  | false => simp [isFrozen, freezes_freezeMaster h]

@[simp] theorem taint_job (n : Nat) (u : State) : (taint n u).job = u.job := by
  unfold taint
  dsimp only
  split <;> rfl

theorem lanesAreDecidedJoinedAndFrozen : Claims.LanesAreDecidedJoinedAndFrozen := by
  refine fun s n hn hpolled => ⟨fun c hgo hc hL hpoll hclose => ⟨fun p hgood hresp hpower hlive hjoined hcause => ?accepted,
    fun p cause hresp hpower hlive hcause => ?suspected, fun hresp hlive => ?missed⟩,
    fun f hf hrec hframe hslot => ?join, fun hrec hfrozen hjoin => ?babbling⟩
  case accepted =>
    apply yields_of_exec_eq_done rfl
    have hactive : laneActive { s.lane n with cycle := none } = true := by simp [laneActive, hlive]
    rw [decisionPoint_of_poll hn hpolled hgo hc hL hpoll, hresp]
    dsimp only
    rw [decideReading_of_power hpower, hjoined, show readingCause (laneLdg s n).view { s.lane n with cycle := none } c _ _ _ true = none from hcause]
    dsimp only
    rw [hactive, Bool.not_true, if_neg Bool.false_ne_true, if_pos rfl]
    generalize hu : modLane n (fun l => { l with power := some (leAt p 18 4) }) (cycleOver n s) = u
    have hlane : u.lane n = { s.lane n with cycle := none, power := some (leAt p 18 4) } := by rw [← hu]; simp
    have hldg : laneLdg u n = laneLdg s n := by rw [← hu]; rfl
    have hgoodu : laneGood u n = true := by rw [← hu]; exact hgood
    rw [acceptReading_of_live (by rw [hlane]; exact hlive)]
    generalize hv : modLane n (Lane.accepted c) (handOver n (leAt p 2 8) (leAt p 10 8) c u) = v
    have hlanev : v.lane n = Lane.accepted c { s.lane n with cycle := none, power := some (leAt p 18 4) } := by
      rw [← hv, lane_modLane, if_pos rfl, lane_handOver, hlane]
    have hldgv : laneLdg v n = laneLdg (handOver n (leAt p 2 8) (leAt p 10 8) c u) n := by rw [← hv]; rfl
    obtain ⟨himp, hexp, hdue⟩ := laneLdg_handOver hgoodu (leAt p 2 8) (leAt p 10 8) c
    obtain ⟨himp', hexp', hdue'⟩ := laneLdg_crossCheck v n (leAt p 2 8) c
    obtain ⟨hcycle, hframe, hmissed⟩ := lane_crossCheck v n (leAt p 2 8) c (by rw [hlanev]; rfl)
    rw [closeAtDecision_of_none (by rw [hdue', hldgv, hdue, hldg, hclose]), lane_withPending, laneLdg_withPending, hcycle, hframe, hmissed, himp',
      hexp', hldgv, himp, hexp, hlanev]
    exact ⟨rfl, rfl, rfl, rfl, rfl⟩
  case suspected =>
    apply yields_of_exec_eq_done rfl
    rw [decisionPoint_of_poll hn hpolled hgo hc hL hpoll, hresp]
    dsimp only
    rw [decideReading_of_power hpower,
      show readingCause (laneLdg s n).view { s.lane n with cycle := none } c _ _ _ (hasJoined (s.lane n)) = some cause from hcause]
    dsimp only
    generalize hu : modLane n (fun l => { l with missed := 0 }) (modLane n (fun l => { l with power := some (leAt p 18 4) }) (cycleOver n s)) = u
    have hlane : u.lane n = { s.lane n with cycle := none, power := some (leAt p 18 4), missed := 0 } := by rw [← hu]; simp
    have hldg : laneLdg u n = laneLdg s n := by rw [← hu]; rfl
    have hfree := not_integrity_of_live (show (u.lane n).st = .live by rw [hlane]; exact hlive)
    obtain ⟨himp, -, hdue⟩ := laneLdg_enterSuspect u n cause (leAt p 2 8 - (laneLdg s n).view.meterImp)
      (windowPulses { s.lane n with cycle := none } c.latch)
    rw [closeAtDecision_of_none (by rw [hdue, hldg, hclose]), lane_withPending, laneLdg_withPending, lane_enterSuspect u n _ _ _ hfree, himp, hldg, hlane]
    exact ⟨rfl, rfl, rfl, rfl⟩
  case missed =>
    apply yields_of_exec_eq_done rfl
    rw [decisionPoint_of_poll hn hpolled hgo hc hL hpoll, hresp]
    dsimp only
    generalize hu : modLane n (fun l => { l with missed := l.missed + 1 }) (cycleOver n s) = u
    have hlane : u.lane n = { s.lane n with cycle := none, missed := (s.lane n).missed + 1 } := by rw [← hu]; simp
    have hldg : laneLdg u n = laneLdg s n := by rw [← hu]; rfl
    have hliveu : (u.lane n).st = .live := by rw [hlane]; exact hlive
    rw [decideMissed_of_live hpoll (by rw [lane_cycleOver]; exact hlive), hu]
    by_cases hlast : 8 ≤ (s.lane n).missed + 1
    · obtain ⟨-, -, hdue⟩ := laneLdg_enterSuspect u n 0x01 ((u.lane n).repImp - (laneLdg u n).view.meterImp) (windowPulses (u.lane n) (u.lane n).pulses)
      rw [if_pos (by rw [hlane]; exact hlast), closeAtDecision_of_none (by rw [hdue, hldg, hclose]), lane_withPending,
        lane_enterSuspect u n _ _ _ (not_integrity_of_live hliveu), hlane]
      exact ⟨rfl, rfl, fun hfew => absurd hlast (Nat.not_le.2 hfew), fun _ => ⟨rfl, rfl⟩⟩
    · rw [if_neg (by rw [hlane]; exact hlast), closeAtDecision_of_none (by rw [hldg, hclose]), lane_withPending, hlane]
      exact ⟨rfl, rfl, fun _ => hlive, fun hmany => absurd hmany hlast⟩
  case join =>
    apply yields_of_exec_eq_done rfl
    have hcase : laneJoin n s = modLane n (fun l => { l with joinFrom := none, counting := true, st := .joining, cause := 0 }) s := by
      have hslot' : (s.time.L % frameL == 2 * n) = true := beq_iff_eq.2 hslot
      have hframe' : f ≤ s.time.L / frameL := hframe
      simp only [laneJoin, hf, hrec, hpolled, hslot', hframe', decide_true, Bool.and_self, if_true]
    rw [hcase, lane_withPending, lane_modLane, if_pos rfl]
  case babbling =>
    apply yields_of_exec_eq_done rfl
    have hcase : laneBabbling n s =
        taint n (modLane n (fun l => { l with st := .frozen, cause := 0x30, cycle := none }) (freezeMaster 4 n 0x30 0 0 none s)) := by
      rw [laneBabbling, if_neg]
      simp [hpolled, hfrozen, hjoin, Option.isSome_iff_ne_none.1 hrec]
    rw [hcase]
    obtain ⟨hview, -⟩ := laneLdg_taint (modLane n (fun l => { l with st := .frozen, cause := 0x30, cycle := none }) (freezeMaster 4 n 0x30 0 0 none s)) n
    refine ⟨?_, ?_, ?_⟩
    · rw [lane_withPending, lane_taint, lane_modLane, if_pos rfl]
    · exact isFrozen_of_job_eq (taint_job n _) (isFrozen_freezeMaster 4 n 0x30 0 0 none s)
    · rw [laneLdg_withPending, hview]

/-- Settles O53: the cycle and its failures, what a lane reports, then the decision, the join and the freezing. -/
theorem meterLanes : Obligations.MeterLanes := ⟨laneCyclesRun, lanesReportAndCount, lanesAreDecidedJoinedAndFrozen⟩

end Sys2Proof.Machine
end

section
/-! PROOFS. Worlds (R375 to R386): the monitor's calls, messages, violations, applets that start and stop, and world memory. -/

namespace Sys2Proof.Machine

/-! ### The worlds under the shared operations -/

theorem world_of_wld_eq {s t : State} (h : t.wld = s.wld) (w : Nat) : t.world w = s.world w := by rw [State.world, h, State.world]

section
variable (s : State)

@[simp] theorem world_worldWrite (w a : Nat) (bs : List Byte) (k : Nat) : (worldWrite w a bs s).world k = s.world k := rfl
@[simp] theorem jobOf_worldWrite (w a : Nat) (bs : List Byte) (k : Nat) : (worldWrite w a bs s).jobOf k = s.jobOf k := rfl
@[simp] theorem jobOf_modWorld (w : Nat) (g : World → World) (k : Nat) : (modWorld w g s).jobOf k = s.jobOf k := rfl
@[simp] theorem world_retStatus (w v : Nat) : (retStatus w v s).world w = { s.world w with a0 := v } := by simp [retStatus]
@[simp] theorem mem_retStatus (w v : Nat) : (retStatus w v s).wld.mem = s.wld.mem := rfl

@[simp] theorem world_endJob (j status w0 w1 w2 w : Nat) : (endJob j status w0 w1 w2 s).world w = s.world w := world_of_wld_eq (by simp) w
@[simp] theorem world_setResult (j : Nat) (r : Result) (w : Nat) : (setResult j r s).world w = s.world w := rfl
@[simp] theorem world_raiseFrom (src code sev a b c w : Nat) : (raiseFrom src code sev a b c s).world w = s.world w :=
  world_of_wld_eq (by simp) w

theorem wld_freezeMaster (kind number cause addr : Nat) (tag : Word) (offender : Option Nat) :
    (freezeMaster kind number cause addr tag offender s).wld = s.wld :=
  congrArg (fun p => p.2.1) (freezeMaster_still kind number cause addr tag offender s)

/-- The jobs of a world's messages end; the rest of the worlds' group is changed before. -/
theorem wld_endMessages (w : Nat) : (endMessages w s).wld =
    (modWorld w (fun x => { x with queue := [], inbox := none, taken := false, awaiting := [] }) s).wld :=
  forEach_keeps State.wld _ (fun j => endJob j 0x7001 0 0 0) (fun j u => by simp) _

@[simp] theorem freezes_endMessages (w : Nat) : (endMessages w s).job.freezes = s.job.freezes :=
  forEach_keeps (fun u => u.job.freezes) _ (fun j => endJob j 0x7001 0 0 0) (fun j u => freezes_endJob j 0x7001 0 0 0 u) _

theorem pagesAndNumbers_endMessages (w : Nat) : pagesAndNumbers (endMessages w s) = pagesAndNumbers s :=
  forEach_keeps pagesAndNumbers _ (fun j => endJob j 0x7001 0 0 0) (fun j u => pagesAndNumbers_endJob u j 0x7001 0 0 0) _

@[simp] theorem job_offPair (w : Nat) : (offPair w s).job = s.job := by
  unfold offPair
  split <;> rfl

@[simp] theorem world_offPair (w k : Nat) : (offPair w s).world k = s.world k := by
  unfold offPair
  split <;> rfl

@[simp] theorem mem_offPair (w : Nat) : (offPair w s).wld.mem = s.wld.mem := by
  unfold offPair
  split <;> rfl

/-! ### Violations (R375, R384) -/

theorem st_freezeWorld (w cause addr : Nat) : ((freezeWorld w cause addr s).world w).st = .frozen := by simp [freezeWorld]

/-- The freeze of a world is recorded with its cause and address. -/
theorem freezes_freezeWorld {s : State} {w : Nat} (h : isFrozen s 2 w = false) (cause addr : Nat) :
    (freezeWorld w cause addr s).job.freezes =
      s.job.freezes ++ [{ kind := 2, number := w, cause := cause, L := eventL s, addr := addr, tag := 0 }] := by
  rw [← freezes_freezeMaster h cause addr 0 none]
  show (offPair w (endMessages w (freezeMaster 2 w cause addr 0 none s))).job.freezes = _
  rw [job_offPair, freezes_endMessages]

/-- A frozen world's memory stays. -/
theorem mem_freezeWorld (w cause addr : Nat) : (freezeWorld w cause addr s).wld.mem = s.wld.mem := by
  show (offPair w (endMessages w (freezeMaster 2 w cause addr 0 none s))).wld.mem = _
  rw [mem_offPair, wld_endMessages]
  show (freezeMaster 2 w cause addr 0 none s).wld.mem = _
  rw [wld_freezeMaster]

end

theorem worldViolationsFreeze : Claims.WorldViolationsFreeze := by
  refine fun s w addr hcalls hfree => ⟨fun number hnumber => ?call, fun kind hdenied => ?access, fun kind hpermitted => ?permitted, ?misaligned⟩
  case call =>
    apply yields_of_exec_eq_done rfl
    have houtside : (!decide (1 ≤ number ∧ number ≤ 7)) = true := by
      rw [Bool.not_eq_true', decide_eq_false_iff_not]
      omega
    have hcase : badCall w number addr s = freezeWorld w 0x13 addr s := by rw [badCall, hcalls, houtside]; rfl
    rw [hcase]
    have hfreezes := freezes_freezeWorld hfree 0x13 addr
    refine ⟨st_freezeWorld s w 0x13 addr, ?_, { kind := 2, number := w, cause := 0x13, L := eventL s, addr := addr, tag := 0 }, ?_, rfl, rfl, rfl, rfl⟩
    · show (freezeWorld w 0x13 addr s).job.freezes.any _ = true
      simp [hfreezes]
    · show _ ∈ (freezeWorld w 0x13 addr s).job.freezes
      rw [hfreezes]
      exact List.mem_append_right _ (.head _)
  case access =>
    apply yields_of_exec_eq_done rfl
    have hcase : worldViolation w (some kind) addr s = freezeWorld w (accessCause kind) addr s := by simp [worldViolation, hcalls, hdenied]
    rw [hcase]
    refine ⟨st_freezeWorld s w _ addr, { kind := 2, number := w, cause := accessCause kind, L := eventL s, addr := addr, tag := 0 }, ?_,
      rfl, rfl, rfl, rfl⟩
    show _ ∈ (freezeWorld w (accessCause kind) addr s).job.freezes
    rw [freezes_freezeWorld hfree]
    exact List.mem_append_right _ (.head _)
  case permitted =>
    refine does_of_exec_eq_done (congrArg (done s) ?_)
    simp [worldViolation, hcalls, hpermitted]
  case misaligned =>
    apply yields_of_exec_eq_done rfl
    have hcase : worldViolation w none addr s = freezeWorld w 0x14 addr s := by simp [worldViolation, hcalls]
    rw [hcase]
    refine ⟨st_freezeWorld s w _ addr, { kind := 2, number := w, cause := 0x14, L := eventL s, addr := addr, tag := 0 }, ?_, rfl, rfl, rfl⟩
    show _ ∈ (freezeWorld w 0x14 addr s).job.freezes
    rw [freezes_freezeWorld hfree]
    exact List.mem_append_right _ (.head _)

/-! ### Calls and answers (R384 to R386) -/

section
variable {s : State} {w : Nat}

/-- The monitor's answer: the status is in A0, memory is as the call left it. -/
theorem answer_withPending {u : State} {v : Nat} {l : List Instr} : (((retStatus w v u).withPending l).world w).a0 = v ∧
    ((retStatus w v u).withPending l).wld.mem = u.wld.mem := by
  rw [world_withPending, world_retStatus]
  exact ⟨rfl, mem_retStatus u w v⟩

theorem timeCall_of_bufferOk (hcalls : calls s w = true) {buf : Nat} (hbuf : bufferOk s w buf 32 = true) : timeCall w buf s =
    retStatus w 0 (worldWrite w buf (leBytes 8 s.time.ledgerUs ++ leBytes 8 (timeStatus s.time) ++ leBytes 8 s.ldg.closed ++ leBytes 8 (periodUs s)) s) := by
  rw [timeCall, if_pos hcalls, hbuf]
  rfl

theorem ledgerViewCall_of_own (hcalls : calls s w = true) {lane buf : Nat} (hbuf : bufferOk s w buf 64 = true)
    (hown : s.car.active.lanes.any (fun l => l.lane == lane && some l.cab == (appletRec? s w).map (·.cab)) = true) :
    ledgerViewCall w lane buf s = retStatus w 0 (worldWrite w buf (ledgerView s lane) s) := by
  rw [ledgerViewCall, if_pos hcalls, hbuf, if_neg (by decide), if_pos hown]

theorem ledgerViewCall_of_other (hcalls : calls s w = true) {lane buf : Nat} (hbuf : bufferOk s w buf 64 = true)
    (hother : s.car.active.lanes.any (fun l => l.lane == lane && some l.cab == (appletRec? s w).map (·.cab)) = false) :
    ledgerViewCall w lane buf s = retStatus w 2 s := by
  rw [ledgerViewCall, if_pos hcalls, hbuf, if_neg (by decide), if_neg (Bool.eq_false_iff.1 hother)]

theorem length_leBytes (n v : Nat) : (leBytes n v).length = n := by
  induction n generalizing v with
  | zero => rfl
  | succ n ih => rw [leBytes, List.length_cons, ih]

end

theorem monitorCalls : Claims.MonitorCalls := by
  refine fun s w hcalls => ⟨?yield, fun m hm htaken => ?recv, fun hnone => ?empty, ?done, ?now, fun buf hbuf => ?time,
    fun lane buf hbuf => ⟨fun hown => ?view, fun hother => ?refused⟩⟩
  case yield =>
    apply yields_of_exec_eq_done rfl
    have hcase : yield w s = retStatus w 0 { s with wld := { s.wld with yielded := true } } := by rw [yield, if_pos hcalls]
    rw [hcase]
    exact ⟨rfl, by rw [world_withPending, world_retStatus]⟩
  case recv =>
    apply yields_of_exec_eq_done rfl
    simp [msgRecv, hcalls, hm, htaken]
  case empty =>
    apply yields_of_exec_eq_done rfl
    have hcase : msgRecv w s = retStatus w 1 s := by
      cases hm : (s.world w).inbox with
      | none => simp [msgRecv, hcalls, hm]
      | some m =>
        have htaken : (s.world w).taken = true := hnone.resolve_left (by simp [hm])
        simp [msgRecv, hcalls, hm, htaken]
    rw [hcase, world_withPending, world_retStatus]
    exact ⟨rfl, rfl⟩
  case done =>
    apply yields_of_exec_eq_done rfl
    simp [msgDone, hcalls]
  case now =>
    apply yields_of_exec_eq_done rfl
    simp [lNow, hcalls]
  case time =>
    apply yields_of_exec_eq_done rfl
    rw [timeCall_of_bufferOk hcalls hbuf]
    exact answer_withPending
  case view =>
    apply yields_of_exec_eq_done rfl
    rw [ledgerViewCall_of_own hcalls hbuf hown]
    exact answer_withPending
  case refused =>
    apply yields_of_exec_eq_done rfl
    rw [ledgerViewCall_of_other hcalls hbuf hother]
    exact answer_withPending

theorem messagesAreAnswered : Claims.MessagesAreAnswered := by
  refine fun s w len out hcalls => ⟨fun m rest x hpos hlen hawait hx hlive hcap => ?answer, fun hlong => ?long, fun hpos hlen hnone => ?none⟩
  case answer =>
    apply yields_of_exec_eq_done rfl
    have hcase : msgSend w len out s = setResult m.job { status := 0, output := (out ++ zeros len).take len, w0 := len }
        (modWorld w (fun x => { x with a0 := 0, awaiting := rest }) (worldWrite w (outboxAddr (s.world w)) (out.take 4096) s)) := by
      simp [msgSend, hcalls, Nat.not_lt.2 hlen, Nat.pos_iff_ne_zero.1 hpos, hawait, hx, hlive, Nat.not_lt.2 hcap]
    rw [hcase]
    refine ⟨?_, ?_, recorded_withPending (recorded_setResult (x := x) hx _)⟩ <;> simp
  case long =>
    apply yields_of_exec_eq_done rfl
    have hcase : msgSend w len out s = retStatus w 3 (worldWrite w (outboxAddr (s.world w)) (out.take 4096) s) := by
      simp [msgSend, hcalls, hlong]
    rw [hcase, world_withPending, world_retStatus]
    exact ⟨rfl, rfl⟩
  case none =>
    apply yields_of_exec_eq_done rfl
    have hcase : msgSend w len out s = retStatus w 2 (worldWrite w (outboxAddr (s.world w)) (out.take 4096) s) := by
      simp [msgSend, hcalls, Nat.not_lt.2 hlen, Nat.pos_iff_ne_zero.1 hpos, hnone]
    rw [hcase, world_withPending, world_retStatus]

/-- Settles O54: calls, answers, then violations. -/
theorem worldsCallTheMonitor : Obligations.WorldsCallTheMonitor := ⟨monitorCalls, messagesAreAnswered, worldViolationsFreeze⟩

/-! ### World memory -/

/-- Bytes written by a world's entries leave every place alone that none of them has. -/
theorem read_foldl_write (table : Nat → Option (Nat × WorldPage)) (base a : Nat) (l : List (Nat × Byte))
    (h : ∀ e ∈ l, ∀ p q, table ((base + e.1) / 4096) = some (p, q) → p * 4096 + (base + e.1) % 4096 ≠ a) (m : Memory) (hm : Memory.wf m = true) :
    Memory.read (l.foldl (fun m e => match table ((base + e.1) / 4096) with
      | some (p, _) => Memory.write m (p * 4096 + (base + e.1) % 4096) e.2
      | none => m) m) a = Memory.read m a := by
  induction l generalizing m with
  | nil => rfl
  | cons e l ih =>
    rw [List.foldl_cons]
    have htail := ih fun d hd => h d (.tail _ hd)
    have hhead := h e (.head _)
    cases hp : table ((base + e.1) / 4096) with
    | none => exact htail m hm
    | some pq =>
      obtain ⟨p, q⟩ := pq
      have hrise : risingFrom 0 m = true := by
        rw [Memory.wf, Bool.and_eq_true] at hm
        exact hm.1
      rw [hp] at hhead
      refine (htail _ (Memory.wf_write hm _ _)).trans ?_
      rw [Memory.read_write hrise, if_neg (Ne.symm (hhead p q rfl))]

/-- A world's write leaves every byte alone that is not the place of a byte written. -/
theorem read_worldWrite {s : State} {w base a : Nat} {bs : List Byte} (hm : Memory.wf s.wld.mem = true)
    (h : ∀ i p e, i < bs.length → vpageEntry s w ((base + i) / 4096) = some (p, e) → p * 4096 + (base + i) % 4096 ≠ a) :
    Memory.read (worldWrite w base bs s).wld.mem a = Memory.read s.wld.mem a := by
  refine read_foldl_write (vpageEntry s w) base a _ (fun e he p q hpq => h e.1 p q ?_ hpq) _ hm
  simpa using (List.of_mem_zip he).1

section
variable {s : State} {w : Nat}

theorem mem_timeCall (base : Nat) : (timeCall w base s).wld.mem = s.wld.mem ∨
    ∃ bs : List Byte, bs.length = 32 ∧ (timeCall w base s).wld.mem = (worldWrite w base bs s).wld.mem := by
  by_cases hcalls : calls s w = true
  · cases hbuf : bufferOk s w base 32 with
    | false =>
      refine Or.inl ?_
      rw [timeCall, if_pos hcalls, hbuf]
      exact mem_freezeWorld s w _ _
    | true =>
      rw [timeCall_of_bufferOk hcalls hbuf]
      exact Or.inr ⟨_, by simp [length_leBytes], mem_retStatus _ w 0⟩
  · rw [timeCall, if_neg hcalls]
    exact Or.inl rfl

theorem mem_ledgerViewCall (lane base : Nat) : (ledgerViewCall w lane base s).wld.mem = s.wld.mem ∨
    (ledgerViewCall w lane base s).wld.mem = (worldWrite w base (ledgerView s lane) s).wld.mem := by
  by_cases hcalls : calls s w = true
  · cases hbuf : bufferOk s w base 64 with
    | false =>
      refine Or.inl ?_
      rw [ledgerViewCall, if_pos hcalls, hbuf]
      exact mem_freezeWorld s w _ _
    | true =>
      cases hown : s.car.active.lanes.any (fun l => l.lane == lane && some l.cab == (appletRec? s w).map (·.cab)) with
      | true =>
        rw [ledgerViewCall_of_own hcalls hbuf hown]
        exact Or.inr (mem_retStatus _ w 0)
      | false =>
        rw [ledgerViewCall_of_other hcalls hbuf hown]
        exact Or.inl (mem_retStatus s w 2)
  · rw [ledgerViewCall, if_neg hcalls]
    exact Or.inl rfl

theorem mem_msgSend (n : Nat) (out : List Byte) : (msgSend w n out s).wld.mem = s.wld.mem ∨
    (msgSend w n out s).wld.mem = (worldWrite w (outboxAddr (s.world w)) (out.take 4096) s).wld.mem := by
  unfold msgSend
  split
  · right
    dsimp only
    split
    · rfl
    · split
      · rfl
      · split
        · rfl
        · split
          · rfl
          · split
            · rfl
            · split
              · simp [failJob]
                rfl
              · rfl
  · exact Or.inl rfl

theorem mem_messageDelivery {j : Nat} {rest : List Nat} (hwait : waiting s w = j :: rest) : (messageDelivery w s).wld.mem = s.wld.mem ∨
    (messageDelivery w s).wld.mem = (worldWrite w (inboxAddr (s.world w)) (((s.jobOf j).map (·.input)).getD []) s).wld.mem := by
  simp only [messageDelivery, hwait]
  split
  · exact Or.inl rfl
  · exact Or.inr rfl

end

/-- Settles O15: each of the four commands leaves memory or writes its range through the world's entries. -/
theorem worldMemoryFrame : Obligations.WorldMemoryFrame := by
  intro s t c w base len a hm hc hexec hplaces
  have hwrite : ∀ bs : List Byte, bs.length = len → Memory.read (worldWrite w base bs s).wld.mem a = Memory.read s.wld.mem a :=
    fun bs hbs => read_worldWrite hm fun i p e hi => hplaces i p e (hbs ▸ hi)
  rcases hc with ⟨rfl, hlen⟩ | ⟨lane, rfl, hlen⟩ | ⟨n, out, rfl, hbase, hlen⟩ | ⟨j, rest, rfl, hwait, hbase, hlen⟩
  · rw [done_next hexec]
    rcases mem_timeCall (s := s) (w := w) base with h | ⟨bs, hbs, h⟩
    · exact congrArg (Memory.read · a) h
    · exact (congrArg (Memory.read · a) h).trans (hwrite bs (hbs.trans hlen.symm))
  · rw [done_next hexec]
    rcases mem_ledgerViewCall (s := s) (w := w) lane base with h | h
    · exact congrArg (Memory.read · a) h
    · exact (congrArg (Memory.read · a) h).trans (hwrite _ hlen.symm)
  · rw [done_next hexec]
    rcases mem_msgSend (s := s) (w := w) n out with h | h
    · exact congrArg (Memory.read · a) h
    · rw [← hbase] at h
      exact (congrArg (Memory.read · a) h).trans (hwrite _ hlen.symm)
  · rw [done_next hexec]
    rcases mem_messageDelivery (s := s) (w := w) hwait with h | h
    · exact congrArg (Memory.read · a) h
    · rw [← hbase] at h
      exact (congrArg (Memory.read · a) h).trans (hwrite _ hlen.symm)

/-! ### Worlds start, stop and take messages (R381 to R386) -/

section
variable {s : State} {w : Nat}

theorem running_of_genRunning (h : s.time.genRunning = true) : running s = true := h

@[simp] theorem job_returnPages (w : Nat) (s : State) : (returnPages w s).job = s.job := rfl

theorem world_returnPages (w : Nat) (s : State) : (returnPages w s).world w = { s.world w with pages := [], codePages := 0, dataPages := 0 } := by
  rw [returnPages, world_modWorld, if_pos rfl]
  rfl

/-- A stopped world holds no pages and waits for no stop; the jobs stay listed. -/
theorem stopWorld_spec (cause : Nat) (s : State) : ((stopWorld w cause s).world w).st = .stopped ∧ ((stopWorld w cause s).world w).pages = [] ∧
    ((stopWorld w cause s).world w).stopDue = false ∧ pagesAndNumbers (stopWorld w cause s) = pagesAndNumbers s := by
  generalize hu : returnPages w (offPair w (endMessages w s)) = u
  have hpages : (u.world w).pages = [] := by rw [← hu, world_returnPages]
  have hjobs : pagesAndNumbers u = pagesAndNumbers s := by
    rw [← hu, ← pagesAndNumbers_endMessages s w]
    exact pagesAndNumbers_of_job_eq (by rw [job_returnPages, job_offPair])
  generalize hv : modWorld w (fun x => { x with st := .stopped, stopDue := false, stopJob := none, loadJob := none }) u = v
  have hworld : v.world w = { u.world w with st := .stopped, stopDue := false, stopJob := none, loadJob := none } := by rw [← hv]; simp
  have hstop : stopWorld w cause s = raiseFrom (source 3 w) 0xD015 3 w cause 0 { v with wld := { v.wld with store := Tab.del v.wld.store w } } := by
    rw [← hv, ← hu]
    rfl
  have hworld' : ({ v with wld := { v.wld with store := Tab.del v.wld.store w } } : State).world w = v.world w := rfl
  rw [hstop, world_raiseFrom, hworld', hworld]
  refine ⟨rfl, hpages, rfl, ?_⟩
  rw [pagesAndNumbers_raiseFrom, ← hjobs, ← hv]
  rfl

end

theorem worldsRunAndStop : Claims.WorldsRunAndStop := by
  refine fun s w => ⟨fun q hup hboundary => ?switch, fun hst hstored hL hrun hkeeper hfree => ?run, fun hstop hL hrun => ?stop,
    fun j rest hwait hinbox hkeeper hst => ?deliver, fun m hm hlate => ?timeout⟩
  case switch =>
    apply yields_of_exec_eq_done rfl
    simp [worldSwitch, hup, hboundary, State.withPending]
  case run =>
    apply yields_of_exec_eq_done rfl
    have hcond : (s.world w).st = .loading ∧ (s.world w).stored ∧ s.time.L % frameL = 0 ∧ running s ∧ keeperAbsent s = false :=
      ⟨hst, hstored, hL, hrun, hkeeper⟩
    generalize hu : raiseFrom (source 3 w) 0xD014 4 w (((appletRec? s w).map (·.cab)).getD 0) (s.world w).pages.length
      (modWorld w (fun x => { x with st := if isFrozen s 2 w then .frozen else .running, loadJob := none }) s) = u
    have hworld : u.world w = { s.world w with st := .running, loadJob := none } := by
      rw [← hu, world_raiseFrom, world_modWorld, if_pos rfl, hfree]
      rfl
    have hjob : ∀ k, u.jobOf k = s.jobOf k := fun k => by rw [← hu, jobOf_raiseFrom, jobOf_modWorld]
    have hcase : appletRun w s = match (s.world w).loadJob with
        | some j => setResult j { status := 0 } u
        | none => u := by
      rw [← hu]
      exact if_pos hcond
    rw [hcase]
    cases hload : (s.world w).loadJob with
    | none =>
      rw [world_withPending, hworld]
      exact ⟨rfl, rfl, fun j hj => nomatch hj⟩
    | some i =>
      refine ⟨?_, ?_, fun j hj hx => ?_⟩
      · rw [world_withPending, world_setResult, hworld]
      · rw [world_withPending, world_setResult, hworld]
      · obtain rfl : i = j := Option.some.inj hj
        obtain ⟨x, hx⟩ := Option.isSome_iff_exists.1 hx
        exact recorded_withPending (recorded_setResult (x := x) (by rw [hjob, hx]) _)
  case stop =>
    apply yields_of_exec_eq_done rfl
    have hcond : (s.world w).stopDue ∧ s.time.L % frameL = 0 ∧ running s := ⟨hstop, hL, hrun⟩
    obtain ⟨u, hjobs, hcase⟩ : ∃ u, pagesAndNumbers u = pagesAndNumbers s ∧ worldStop w s = match (s.world w).stopJob with
        | some j => setResult j { status := 0 } (stopWorld w 0 u)
        | none => stopWorld w 0 u := by
      cases hload : (s.world w).loadJob with
      | none => exact ⟨s, rfl, by simp only [worldStop, if_pos hcond, hload] <;> rfl⟩
      | some i => exact ⟨endJob i 0x7001 0 0 0 s, pagesAndNumbers_endJob _ _ _ _ _ _, by simp only [worldStop, if_pos hcond, hload] <;> rfl⟩
    obtain ⟨hst, hpages, hdue, hkept⟩ := stopWorld_spec (w := w) 0 u
    rw [hcase]
    cases hstopJob : (s.world w).stopJob with
    | none => exact ⟨hst, hpages, hdue, fun j hj => nomatch hj⟩
    | some i =>
      refine ⟨hst, hpages, hdue, fun j hj hx => ?_⟩
      obtain rfl : i = j := Option.some.inj hj
      obtain ⟨x, hx⟩ := Option.isSome_iff_exists.1 hx
      obtain ⟨y, hy⟩ := jobOf_of_pagesAndNumbers (hkept.trans hjobs) hx
      exact recorded_withPending (recorded_setResult hy _)
  case deliver =>
    apply yields_of_exec_eq_done rfl
    simp [messageDelivery, hwait, hinbox, hkeeper, hst]
  case timeout =>
    apply yields_of_exec_eq_done rfl
    refine ⟨?_, fun hx => ?_⟩
    · have hworld : (messageTimeout w s).world w =
          { s.world w with awaiting := (s.world w).awaiting.filter (fun m => decide (s.time.L < m.L + orbitL)) } := by
        refine (forEach_keeps (fun u => u.world w) _ (fun m : Msg => endJob m.job 0x7001 0 0 0) (fun m u => world_endJob u _ _ _ _ _ w) _).trans ?_
        simp
      rw [world_withPending, hworld]
      intro hin
      have hyoung := (List.mem_filter.1 hin).2
      rw [decide_eq_true_eq, orbitL] at hyoung
      omega
    · obtain ⟨x, hx⟩ := Option.isSome_iff_exists.1 hx
      exact ended_endJobs (num := Msg.job) (List.mem_filter.2 ⟨hm, decide_eq_true hlate⟩) (by rw [jobOf_modWorld, hx])

theorem appletJobs : Claims.AppletJobs := by
  rintro s j w x rfl
  refine ⟨fun hrun hstop => ?stop, fun hrun hqueued hawaiting => ⟨fun hroom => ?queue, fun hfull => ?full⟩⟩
  case stop =>
    apply yields_of_exec_eq_done rfl
    simp [appletStop, hrun, hstop]
  case queue =>
    apply yields_of_exec_eq_done rfl
    simp only [appletMessage, hrun, hqueued, hawaiting, Bool.or_self, Bool.false_eq_true, if_false, Nat.not_le.2 hroom]
    simp
  case full =>
    refine does_of_exec_eq_done (congrArg (done s) ?_)
    simp only [appletMessage, hrun, hqueued, hawaiting, Bool.or_self, Bool.false_eq_true, if_false, if_pos hfull]
    rfl

/-- Settles O55: worlds, then the jobs of their applets. -/
theorem worldsAndApplets : Obligations.WorldsAndApplets := ⟨worldsRunAndStop, appletJobs⟩

end Sys2Proof.Machine
end

section
/-! PROOFS. What is silent: lanes in the dark (R350) and a mesh without its section, in NIGHT, in UMBRA or under the bare carcass (R398). -/

namespace Sys2Proof.Machine

/-! ### Lanes in the dark -/

theorem lanesPolled_of_dark {s : State} (h : s.glb.umbra = true ∨ s.glb.phase = .night ∨ s.glb.phase = .pwrfail) : lanesPolled s = false := by
  rcases h with h | h | h <;> simp [lanesPolled, umbral, h]

/-- Settles O30: every one of the four commands is under the polling of the lanes. -/
theorem noLaneIsPolledInTheDark : Obligations.NoLaneIsPolledInTheDark := by
  intro s n hdark
  have hpoll := lanesPolled_of_dark hdark
  refine ⟨?start, ?retry, ?join, ?pulse⟩
  case start => exact does_of_exec_eq_done (congrArg (done s) (by simp [laneCycleStart, hpoll]))
  case retry =>
    refine does_of_exec_eq_done (congrArg (done s) ?_)
    cases hcycle : (s.lane n).cycle <;> simp [laneRetry, hcycle, hpoll]
  case join =>
    refine does_of_exec_eq_done (congrArg (done s) ?_)
    cases hjoin : (s.lane n).joinFrom <;> simp [laneJoin, hjoin, hpoll]
  case pulse => exact does_of_exec_eq_done (congrArg (done s) (by simp [pulse, hpoll]))

/-! ### A quiet mesh -/

theorem meshUp_of_quiet {s : State} (h : s.car.active.meshSelf = none ∨ s.car.active.bare = true ∨ devState s = .night ∨ devState s = .umbra) :
    meshUp s = false := by
  rcases h with h | h | h | h <;> simp [meshUp, meshSelf, h]

theorem mayKey_of_not_meshUp {s : State} (h : meshUp s = false) : mayKey s = false := by simp [mayKey, h]

theorem portFrame_of_not_meshUp {s : State} (h : meshUp s = false) (type : Option Nat) (p rx : Nat) (b : List Byte) :
    portFrame type p rx b s = (s, false) := by
  cases hm : memberOnPort s p <;> simp [portFrame, hm, h]

theorem memberOnPort_eq_none {s : State} {p : Nat} (h : ∀ r ∈ s.car.active.members, r.path ≠ p) : memberOnPort s p = none := by
  rw [memberOnPort, Option.map_eq_none_iff, List.find?_eq_none]
  intro r hr hport
  rw [Bool.and_eq_true, beq_iff_eq] at hport
  exact h r hr hport.1

theorem portFrame_of_no_member {s : State} {p : Nat} (h : memberOnPort s p = none) (type : Option Nat) (rx : Nat) (b : List Byte) :
    portFrame type p rx b s = (s, false) := by
  simp only [portFrame, h]

/-- Where neither a frame nor a rejected one is heard on a port, no frame command there changes anything. -/
theorem framesOn_of_unheard {s : State} {p : Nat} (hframe : ∀ type rx b, portFrame type p rx b s = (s, false))
    (hrejected : ∀ b, meshFrameRejected p true b s = s) (rx : Nat) (b : List Byte) : ∀ c ∈ Claims.framesOn p rx b, Does c s s := by
  have heard {c : Instr} {type : Nat} (h : exec c s = done s (meshFrame type p b s)) : Does c s s :=
    does_of_exec_eq_done (h.trans (congrArg (done s) (by rw [meshFrame, hframe])))
  have hbeat : meshHeartbeat p rx b s = s := by rw [meshHeartbeat, hframe]
  have hbad : meshFrameRejected p false b s = s := by simp [meshFrameRejected, hframe]
  simp only [Claims.framesOn, List.forall_mem_cons]
  exact ⟨heard rfl, heard rfl, heard rfl, heard rfl, does_of_exec_eq_done (congrArg (done s) hbeat), heard rfl, heard rfl, heard rfl, heard rfl,
    heard rfl, heard rfl, heard rfl, heard rfl, heard rfl, heard rfl, heard rfl, heard rfl, heard rfl,
    does_of_exec_eq_done (congrArg (done s) (hrejected b)), does_of_exec_eq_done (congrArg (done s) hbad), List.forall_mem_nil _⟩

/-- Settles O29: the frames first, then the timers, each under `meshUp`. -/
theorem aQuietMeshHearsAndSendsNothing : Obligations.AQuietMeshHearsAndSendsNothing := by
  intro s p rx b
  refine ⟨fun hquiet => ?quiet, fun hports => framesOn_of_unheard (portFrame_of_no_member (memberOnPort_eq_none hports) · · ·) (fun b => ?port) rx b⟩
  case port => simp [meshFrameRejected, memberOnPort_eq_none hports]
  have hup := meshUp_of_quiet hquiet
  have hkey := mayKey_of_not_meshUp hup
  refine ⟨framesOn_of_unheard (portFrame_of_not_meshUp hup · p · ·) (fun b => by simp [meshFrameRejected, hup]) rx b, ?beat, ?hello, ?rekey, ?credit, ?resend, ?lost⟩
  case beat => exact does_of_exec_eq_done (congrArg (done s) (by simp [heartbeatSend, hup]))
  case hello =>
    refine does_of_exec_eq_done (congrArg (done s) ?_)
    cases hm : s.memberOf p <;> simp [helloTimer, hm, hkey]
  case rekey =>
    refine does_of_exec_eq_done (congrArg (done s) ?_)
    cases hm : (s.memberOf p).bind (·.link) <;> simp [rekey, hm, hkey]
  case credit =>
    refine does_of_exec_eq_done (congrArg (done s) ?_)
    cases hm : s.memberOf p <;> simp [creditReturn, hm, hup]
  case resend =>
    refine does_of_exec_eq_done (congrArg (done s) ?_)
    cases hm : s.memberOf p with
    | none => simp [messageResend, hm]
    | some x => cases hlast : x.lastMsg <;> cases hat : x.resendAt <;> simp [messageResend, hm, hlast, hat, hup]
  case lost =>
    refine does_of_exec_eq_done (congrArg (done s) ?_)
    cases hm : s.memberOf p <;> simp [memberLost, hm, hup]

end Sys2Proof.Machine
end

section
/-! PROOFS. Tamper alarms (R434, R437 to R440): what an alarm latches, erases and brings down. -/

namespace Sys2Proof.Machine

/-! ### What an alarm leaves once it has latched -/

/-- What the latch of an alarm sets and the erasure after it keeps: the tamper state without its notices, the repeats it logged and its due erasure, the wrapping key,
the mesh's seed and the global state. -/
def alarmView (s : State) : TamState × Tab (TwoBank Csk) × Option (List Byte) × GlbState :=
  ({ s.tam with unseen := false, dawnNotice := none, zeroDue := none, repeats := [] }, s.key.cskBanks, s.msh.idSeed, s.glb)

theorem alarmView_of_still {s t : State} (h : t.still = s.still) (hseed : t.msh.idSeed = s.msh.idSeed) : alarmView t = alarmView s := by
  have htam : t.tam = s.tam := congrArg (·.2.2.2.2.2.2.2.2.2.1) h
  have hkey : t.key = s.key := congrArg (·.2.2.1) h
  have hglb : t.glb = s.glb := congrArg (·.1) h
  rw [alarmView, htam, hkey, hseed, hglb, alarmView]

section
variable (s : State)

@[simp] theorem alarmView_raiseEv (code sev a b c : Nat) : alarmView (raiseEv code sev a b c s) = alarmView s := by simp [alarmView]
@[simp] theorem alarmView_endJob (j status w0 w1 w2 : Nat) : alarmView (endJob j status w0 w1 w2 s) = alarmView s := by simp [alarmView]
@[simp] theorem alarmView_modJob (j : Nat) (g : Job → Job) : alarmView (modJob j g s) = alarmView s := rfl
@[simp] theorem alarmView_notify (type subject p0 p1 p2 p3 f : Nat) : alarmView (notify type subject p0 p1 p2 p3 f s) = alarmView s := by simp [alarmView]
@[simp] theorem alarmView_attnAll (b : Nat) : alarmView (attnAll b s) = alarmView s := by simp [alarmView]
@[simp] theorem alarmView_modPair (p : Nat) (g : Pair → Pair) : alarmView (modPair p g s) = alarmView s := by simp [alarmView]

@[simp] theorem alarmView_updateRef : alarmView (updateRef s) = alarmView s := by
  refine alarmView_of_still (updateRef_still s) ?_
  obtain ⟨c, hcase | hcase⟩ := updateRef_cases s
  · rw [hcase]
    rfl
  · rw [hcase, raiseEv_msh]
    rfl

@[simp] theorem alarmView_closeLink (m : Nat) (st : MemberState) : alarmView (closeLink m st s) = alarmView s := rfl

@[simp] theorem alarmView_underTest (p : Nat) (f : Option Nat) : alarmView (underTest p f s) = alarmView s :=
  forEach_keeps alarmView _ (fun t => modTile t (fun x => { x with bistRun := f })) (fun _ _ => rfl) s

@[simp] theorem alarmView_dropWaiting : alarmView (dropWaiting s) = alarmView s :=
  forEach_keeps alarmView _ (fun j => endJob j 0x7001 0 0 0) (fun j u => alarmView_endJob u j _ _ _ _) _

@[simp] theorem alarmView_abortBist (cause : Nat) : alarmView (abortBist cause s) = alarmView s := by
  unfold abortBist
  split
  · exact alarmView_dropWaiting s
  next r _ =>
    rw [alarmView_dropWaiting, alarmView_raiseEv]
    refine (forEach_keeps alarmView r.todo _ (fun q u => alarmView_underTest u q none) _).trans ?_
    refine forEach_keeps alarmView (scopeRuns r.scope) _ (fun k u => ?_) s
    rfl

@[simp] theorem alarmView_closeInvasive : alarmView (closeInvasive s) = alarmView s := rfl

@[simp] theorem alarmView_umbraLine : alarmView (umbraLine s) = alarmView s := by
  rw [umbraLine, alarmView_updateRef]
  refine (forEach_keeps alarmView _ _ (fun e u => ?_) _).trans ?_
  · exact alarmView_closeLink u e.1 .down
  · rfl

@[simp] theorem alarmView_breakJobs : alarmView (breakJobs s) = alarmView s := by
  refine forEach_keeps alarmView _ _ (fun e u => ?_) _
  dsimp only
  split <;> split <;> simp

@[simp] theorem alarmView_pairsDown : alarmView (pairsDown s) = alarmView s := by simp [pairsDown]

@[simp] theorem alarmView_clearSram : alarmView (clearSram s) = alarmView s :=
  forEach_keeps alarmView _ freeRecord (fun _ _ => rfl) _

@[simp] theorem alarmView_alarmNotice (cls src L : Nat) : alarmView (alarmNotice cls src L s) = alarmView s := by
  unfold alarmNotice
  split
  · exact forEach_keeps alarmView _ _ (fun f u => by simp) s
  · rfl

end

/-! ### The latch -/

theorem coreOn_of_run {s : State} (h : s.glb.phase = .run) : coreOn s = true := by simp [coreOn, h]

section
variable (s : State) (cls src : Nat)

/-- The tamper state an alarm leaves (R437, R440), seen by `alarmView`. -/
def latchedTam : TamState :=
  let counted := { s.tam with
    latched := true, vaultErased := true, count := saturate 32 (s.tam.count + 1), unseen := false, dawnNotice := none, zeroDue := none, repeats := [] }
  if s.tam.latched then counted
  else
    { counted with
      lastClass := cls, lastSource := src, alarmL := alarmInstantL s
      alarmLog := some (cls, src, alarmInstantL s, if s.time.genRunning then 0 else saturate 32 (s.tam.ticks - s.tam.aonTick)) }

theorem alarmView_latchAlarm : alarmView (latchAlarm cls src s) = (latchedTam s cls src, [], none, s.glb) := by
  cases hlatched : s.tam.latched with
  | false =>
    rw [latchAlarm, latchedTam, hlatched]
    rfl
  | true =>
    rw [latchedTam, hlatched, if_pos rfl]
    simp only [latchAlarm, hlatched, if_true]
    split <;> split
    · rfl
    · exact alarmView_raiseEv _ _ _ _ _ _
    · rfl
    · exact alarmView_raiseEv _ _ _ _ _ _

theorem latchAlarm_pwr : (latchAlarm cls src s).pwr = s.pwr := by
  simp only [latchAlarm]
  split <;> [(split <;> split <;> simp [eraseVault, eraseMeshVault]); rfl]

theorem coreOn_latchAlarm : coreOn (latchAlarm cls src s) = coreOn s := by
  have hglb : (latchAlarm cls src s).glb = s.glb := congrArg (·.2.2.2) (alarmView_latchAlarm s cls src)
  have hdisarmed : (latchAlarm cls src s).tam.disarmed = s.tam.disarmed := by
    refine (congrArg (·.1.disarmed) (alarmView_latchAlarm s cls src)).trans ?_
    simp only [latchedTam]
    split <;> rfl
  rw [coreOn, hglb, latchAlarm_pwr, hdisarmed, coreOn]

/-- The state of an alarm before the erasure of its volatile stores: the core is on, UMBRA has begun, the notice is given. -/
def alarmed : State :=
  let u := watched (fun s => { s with glb := { s.glb with umbra := true, dark := false } }) (closeInvasive (abortBist 0 (latchAlarm cls src s)))
  if !s.tam.latched then alarmNotice cls src (alarmInstantL s) u else u

/-- The volatile stores an alarm takes (R437), with the instant its erasure counts from. -/
def wiped (L : Nat) (u : State) : State :=
  let v := pairsDown (breakJobs (umbraLine u))
  let v := clearSram { v with msh := { v.msh with restores := [], rounds := [], tunnel := [] } }
  { v with tam := { v.tam with zeroDue := some L, unseen := false } }

theorem alarm_of_coreOn (h : coreOn s = true) : alarm cls src s = wiped (alarmInstantL s) (alarmed s cls src) := by
  simp only [alarm, coreOn_latchAlarm, h, if_true]
  rfl

theorem alarmView_zeroDue (L : Nat) : alarmView { s with tam := { s.tam with zeroDue := some L, unseen := false } } = alarmView s := rfl
theorem alarmView_dropRounds : alarmView { s with msh := { s.msh with restores := [], rounds := [], tunnel := [] } } = alarmView s := rfl

theorem alarmView_wiped (L : Nat) : alarmView (wiped L s) = alarmView s := by
  simp only [wiped]
  rw [alarmView_zeroDue, alarmView_clearSram, alarmView_dropRounds, alarmView_pairsDown, alarmView_breakJobs, alarmView_umbraLine]

theorem alarmView_watched (g : State → State) : alarmView (watched g s) = alarmView (g s) := by
  simp only [watched]
  split <;> split <;> simp only [alarmView_attnAll]

theorem alarmView_alarmed : alarmView (alarmed s cls src) = (latchedTam s cls src, [], none, { s.glb with umbra := true, dark := false }) := by
  have hview : alarmView (closeInvasive (abortBist 0 (latchAlarm cls src s))) = (latchedTam s cls src, [], none, s.glb) := by
    rw [alarmView_closeInvasive, alarmView_abortBist, alarmView_latchAlarm]
  have hglb : (closeInvasive (abortBist 0 (latchAlarm cls src s))).glb = s.glb := congrArg (·.2.2.2) hview
  simp only [alarmed]
  have hdark : alarmView (watched (fun s => { s with glb := { s.glb with umbra := true, dark := false } })
      (closeInvasive (abortBist 0 (latchAlarm cls src s)))) = (latchedTam s cls src, [], none, { s.glb with umbra := true, dark := false }) := by
    rw [alarmView_watched, ← hglb]
    exact congrArg (fun v => (v.1, v.2.1, v.2.2.1, { (closeInvasive (abortBist 0 (latchAlarm cls src s))).glb with umbra := true, dark := false })) hview
  split
  · rw [alarmView_alarmNotice, hdark]
  · exact hdark

theorem alarmView_alarm : alarmView (alarm cls src s) =
    (latchedTam s cls src, [], none, if coreOn s then { s.glb with umbra := true, dark := false } else s.glb) := by
  cases hcore : coreOn s with
  | false =>
    simp only [alarm, coreOn_latchAlarm, hcore, Bool.false_eq_true, if_false]
    exact alarmView_latchAlarm s cls src
  | true =>
    rw [alarm_of_coreOn s cls src hcore, if_pos rfl, alarmView_wiped, alarmView_alarmed]

theorem clearSram_stores : (clearSram s).key.slots = [] ∧ (clearSram s).eng.ctxKeys = s.eng.ctxKeys ∧ (clearSram s).wld.mem = [] :=
  ⟨forEach_keeps (·.key.slots) _ freeRecord (fun _ _ => rfl) _, forEach_keeps (·.eng.ctxKeys) _ freeRecord (fun _ _ => rfl) _, rfl⟩

theorem ctxKeys_umbraLine : (umbraLine s).eng.ctxKeys = [] := by
  have hlast : ∀ u, (updateRef u).eng.ctxKeys = u.eng.ctxKeys := fun u => congrArg (·.2.2.2.2.1.ctxKeys) (updateRef_still u)
  rw [umbraLine, hlast]
  refine (forEach_keeps (·.eng.ctxKeys) _ _ (fun e u => ?_) _).trans ?_
  · exact congrArg (·.2.2.2.2.1.ctxKeys) (closeLink_still e.1 .down u)
  · rfl

theorem ctxKeys_breakJobs : (breakJobs s).eng.ctxKeys = s.eng.ctxKeys := by
  refine forEach_keeps (·.eng.ctxKeys) _ _ (fun e u => ?_) _
  dsimp only
  split <;> split <;> simp

theorem wiped_stores (L : Nat) : (wiped L s).key.slots = [] ∧ (wiped L s).eng.ctxKeys = [] ∧ (wiped L s).wld.mem = [] ∧
    (wiped L s).tam.zeroDue = some L := by
  generalize hu : pairsDown (breakJobs (umbraLine s)) = u
  have hctx : u.eng.ctxKeys = [] := by
    rw [← hu]
    simp [pairsDown, ctxKeys_breakJobs, ctxKeys_umbraLine]
  obtain ⟨hslots, hkeys, hmem⟩ := clearSram_stores { u with msh := { u.msh with restores := [], rounds := [], tunnel := [] } }
  rw [wiped, hu]
  exact ⟨hslots, hkeys.trans hctx, hmem, rfl⟩

/-- What an alarm does, whatever raised it. -/
theorem alarmed_alarm : Alarmed cls src s (alarm cls src s) := by
  have hview := alarmView_alarm s cls src
  have hlatched : (latchedTam s cls src).latched = true ∧ (latchedTam s cls src).vaultErased = true ∧
      (latchedTam s cls src).count = saturate 32 (s.tam.count + 1) := by
    rw [latchedTam]
    split <;> exact ⟨rfl, rfl, rfl⟩
  obtain ⟨hset, herased, hcount⟩ := hlatched
  have hbanks : (alarm cls src s).key.cskBanks = [] := congrArg (·.2.1) hview
  refine ⟨(congrArg (·.1.latched) hview).trans hset, (congrArg (·.1.vaultErased) hview).trans herased, (congrArg (·.1.count) hview).trans hcount,
    by rw [KeyState.csk, hbanks]; rfl, congrArg (·.2.2.1) hview, fun hfirst => ?first, fun hrun => ?run⟩
  case first =>
    have hnew : (latchedTam s cls src).lastClass = cls ∧ (latchedTam s cls src).lastSource = src ∧ (latchedTam s cls src).alarmL = alarmInstantL s := by
      rw [latchedTam, hfirst]
      exact ⟨rfl, rfl, rfl⟩
    exact ⟨(congrArg (·.1.lastClass) hview).trans hnew.1, (congrArg (·.1.lastSource) hview).trans hnew.2.1, (congrArg (·.1.alarmL) hview).trans hnew.2.2⟩
  case run =>
    have hcore := coreOn_of_run hrun
    refine ⟨(congrArg (·.2.2.2.umbra) hview).trans (by rw [hcore]; rfl), ?_⟩
    rw [alarm_of_coreOn s cls src hcore]
    exact wiped_stores _ _

/-- An alarm raised after a change of the tamper state that touches none of what an alarm reads. -/
theorem alarmed_of_tam {t : TamState} (hlatched : t.latched = s.tam.latched) (hcount : t.count = s.tam.count) {u : State}
    (h : Alarmed cls src { s with tam := t } u) : Alarmed cls src s u := by
  obtain ⟨hset, herased, hc, hcsk, hseed, hfirst, hrun⟩ := h
  exact ⟨hset, herased, hcount ▸ hc, hcsk, hseed, fun h => hfirst (hlatched.trans h), hrun⟩

theorem tam_alarm_kept {β : Type} (p : TamState → β) (h : ∀ cls src u, p (latchedTam u cls src) = p u.tam)
    (hview : ∀ t : TamState, p { t with unseen := false, dawnNotice := none, zeroDue := none, repeats := [] } = p t) :
    p (alarm cls src s).tam = p s.tam := by
  rw [← hview (alarm cls src s).tam, ← h cls src s]
  exact congrArg (fun v => p v.1) (alarmView_alarm s cls src)

theorem tin_alarm (n : Nat) : (alarm cls src s).tin n = s.tin n :=
  congrArg (fun t : Tab TamInput => Tab.getD t n {}) (tam_alarm_kept s cls src (·.inputs) (fun _ _ _ => by rw [latchedTam]; split <;> rfl) fun _ => rfl)

theorem lid_alarm : (alarm cls src s).tam.lid = s.tam.lid :=
  tam_alarm_kept s cls src (·.lid) (fun _ _ _ => by rw [latchedTam]; split <;> rfl) fun _ => rfl

theorem board_alarm : (alarm cls src s).tam.board = s.tam.board :=
  tam_alarm_kept s cls src (·.board) (fun _ _ _ => by rw [latchedTam]; split <;> rfl) fun _ => rfl

end

theorem alarmed_withPending {cls src : Nat} {s u : State} {l : List Instr} (h : Alarmed cls src s u) : Alarmed cls src s (u.withPending l) := h

/-- Settles O20: every condition takes `alarm`. -/
theorem alarmsAreTaken : Obligations.AlarmsAreTaken := by
  refine fun s n => ⟨fun hn hdue => ?tripped, fun b hn hdue => ?discrepancy, fun hdue => ?lid, fun hdue => ?board, fun cls hup hsrc harmed => ?sensor,
    fun cls halways hmain => ?unarmed⟩
  case tripped =>
    apply yields_of_exec_eq_done rfl
    rw [inputTripped, if_pos ⟨hn, hdue⟩]
    refine ⟨alarmed_withPending (alarmed_of_tam s 1 n rfl rfl (alarmed_alarm _ 1 n)), ?_⟩
    show ((alarm 1 n _).tin n).trippedDue = false
    rw [tin_alarm, tin_modTin, if_pos rfl]
  case discrepancy =>
    apply yields_of_exec_eq_done rfl
    rw [inputDiscrepancy, if_neg (Nat.not_le.2 hn), hdue]
    refine ⟨alarmed_withPending (alarmed_of_tam s 2 (n + b) rfl rfl (alarmed_alarm _ 2 (n + b))), ?_⟩
    show ((alarm 2 (n + b) _).tin n).discDue = none
    rw [tin_alarm, tin_modTin, if_pos rfl]
  case lid =>
    apply yields_of_exec_eq_done rfl
    rw [escutcheon, if_pos ⟨rfl, hdue⟩]
    refine ⟨alarmed_withPending (alarmed_of_tam s 3 0 rfl rfl (alarmed_alarm _ 3 0)), ?_⟩
    show (alarm 3 0 _).tam.lid.due = false
    rw [lid_alarm]
  case board =>
    apply yields_of_exec_eq_done rfl
    rw [escutcheon, if_neg (by simp), if_pos ⟨rfl, hdue⟩]
    refine ⟨alarmed_withPending (alarmed_of_tam s 3 1 rfl rfl (alarmed_alarm _ 3 1)), ?_⟩
    show (alarm 3 1 _).tam.board.due = false
    rw [board_alarm]
  case sensor =>
    apply yields_of_exec_eq_done rfl
    have hcond : (s.tam.up && decide (n < sensorSources cls) && (alwaysArmed s cls n || (mainArmed s && !(cls == 6 && n == 2)))) = true := by
      rcases harmed with h | ⟨h, hother⟩
      · simp [hup, hsrc, h]
      · simp [hup, hsrc, h, not_and_or.1 hother]
    rw [sensorAlarm, if_pos hcond]
    exact alarmed_withPending (alarmed_alarm s cls n)
  case unarmed =>
    refine does_of_exec_eq_done (congrArg (done s) ?_)
    simp [sensorAlarm, halways, hmain]

end Sys2Proof.Machine
end

section
/-! PROOFS. Core pairs (R387 to R395), HOLD, and the relation of states whose jobs have only ended. -/

namespace Sys2Proof.Machine

/-! ### Jobs that have only ended -/

theorem mem_jobs_modJob_of_ne {s : State} {j : Nat} {e : Nat × Job} (he : e ∈ s.job.jobs) (hne : e.1 ≠ j) (g : Job → Job) :
    e ∈ (modJob j g s).job.jobs :=
  List.mem_map.2 ⟨e, he, if_neg hne⟩

/-- Ending a job leaves the entries of the others. -/
theorem mem_jobs_endJob_of_ne {s : State} {j : Nat} {e : Nat × Job} (he : e ∈ s.job.jobs) (hne : e.1 ≠ j) (status w0 w1 w2 : Nat) :
    e ∈ (endJob j status w0 w1 w2 s).job.jobs := by
  cases hx : s.jobOf j with
  | none => simpa [endJob, hx] using he
  | some x =>
    cases hlive : x.finished with
    | true => rwa [endJob_of_finished hx hlive]
    | false =>
      rw [endJob_of_live hx hlive]
      refine mem_jobs_modJob_of_ne ?_ hne _
      rw [releaseReserve]
      have hentry : e ∈ (jobEntry j x (finalEntry s x status (outputLength x status) w0 w1 w2) s).job.jobs := by
        rw [jobEntry]
        split
        · exact he
        · refine mem_jobs_modJob_of_ne ?_ hne _
          simpa using he
      split
      · exact hentry
      · refine mem_jobs_modJob_of_ne ?_ hne _
        split
        · exact hentry
        · simpa using hentry

theorem ended_of_job_eq {s t : State} {k : Nat} (h : t.job = s.job) (hend : Ended k s) : Ended k t := by
  rwa [Ended, jobOf_of_job_eq h k]

/-- From the first state to the second, jobs have only ended: a live one is as it was or has ended, an ended one stays so. -/
def JobsOnlyEnd (s t : State) : Prop := (∀ e ∈ liveJobs s, e ∈ liveJobs t ∨ Ended e.1 t) ∧ ∀ k, Ended k s → Ended k t

namespace JobsOnlyEnd

theorem of_job_eq {s t : State} (h : t.job = s.job) : JobsOnlyEnd s t := by
  have hof : ∀ k, t.jobOf k = s.jobOf k := fun k => jobOf_of_job_eq h k
  refine ⟨fun e he => Or.inl ?_, fun k hk => ?_⟩
  · rw [liveJobs, h]
    exact he
  · rw [Ended, hof]
    exact hk

theorem trans {s t u : State} (h : JobsOnlyEnd s t) (k : JobsOnlyEnd t u) : JobsOnlyEnd s u :=
  ⟨fun e he => (h.1 e he).elim (k.1 e) fun hend => Or.inr (k.2 _ hend), fun _ hj => k.2 _ (h.2 _ hj)⟩

theorem endJob (j status w0 w1 w2 : Nat) (s : State) : JobsOnlyEnd s (endJob j status w0 w1 w2 s) := by
  refine ⟨fun e he => ?_, fun k => ended_endJob_of_ended⟩
  by_cases hne : e.1 = j
  · obtain ⟨x, hx⟩ := jobOf_of_mem_liveJobs he
    rw [hne] at hx ⊢
    exact Or.inr (ended_endJob hx _ _ _ _)
  · obtain ⟨hmem, hlive⟩ := List.mem_filter.1 he
    exact Or.inl (List.mem_filter.2 ⟨mem_jobs_endJob_of_ne hmem hne _ _ _ _, hlive⟩)

theorem forEach {α : Type} (l : List α) (f : α → State → State) (h : ∀ a s, JobsOnlyEnd s (f a s)) (s : State) : JobsOnlyEnd s (forEach l f s) := by
  induction l generalizing s with
  | nil => exact of_job_eq rfl
  | cons a l ih => exact (h a s).trans (ih _)

/-- The jobs of a list that are live before end, where the list goes on to end them. -/
theorem ended {s t u : State} {e : Nat × Job} (h : JobsOnlyEnd s t) (he : e ∈ liveJobs s) (hlive : e ∈ liveJobs t → Ended e.1 u)
    (hkeep : ∀ k, Ended k t → Ended k u) : Ended e.1 u :=
  (h.1 e he).elim hlive (hkeep _)

end JobsOnlyEnd

theorem jobsOnlyEnd_dropWaiting (s : State) : JobsOnlyEnd s (dropWaiting s) :=
  (JobsOnlyEnd.of_job_eq (t := { s with bst := { s.bst with waiting := [] } }) rfl).trans (JobsOnlyEnd.forEach _ _ (fun j u => JobsOnlyEnd.endJob j 0x7001 0 0 0 u) _)

section
variable (s : State)

/-- What the end of a running self-test keeps, its waiting jobs apart. -/
def besideBist (s : State) : JobState × WldState × GlbState × TimeState × LcsState := (s.job, s.wld, s.glb, s.time, s.lcs)

theorem besideBist_underTest (p : Nat) (f : Option Nat) : besideBist (underTest p f s) = besideBist s :=
  forEach_keeps besideBist _ (fun t => modTile t (fun x => { x with bistRun := f })) (fun _ _ => rfl) s

/-- A running self-test is dropped (R519); then its waiting jobs end. -/
theorem abortBist_eq_dropWaiting (cause : Nat) : ∃ u, abortBist cause s = dropWaiting u ∧ besideBist u = besideBist s := by
  unfold abortBist
  split
  · exact ⟨s, rfl, rfl⟩
  next r _ =>
    refine ⟨_, rfl, ?_⟩
    have hraise : ∀ u : State, besideBist (raiseEv 0x0513 4 (r.todo.headD 0) cause (runSource r) u) = besideBist u := fun u => by simp [besideBist]
    rw [hraise]
    refine (forEach_keeps besideBist r.todo _ (fun q u => besideBist_underTest u q none) _).trans ?_
    refine forEach_keeps besideBist (scopeRuns r.scope) _ (fun k u => ?_) s
    rfl

@[simp] theorem wld_dropWaiting : (dropWaiting s).wld = s.wld := forEach_keeps (·.wld) _ (fun j => endJob j 0x7001 0 0 0) (fun j u => by simp) _

@[simp] theorem wld_abortBist (cause : Nat) : (abortBist cause s).wld = s.wld := by
  obtain ⟨u, hcase, hkept⟩ := abortBist_eq_dropWaiting s cause
  rw [hcase, wld_dropWaiting]
  exact congrArg (·.2.1) hkept

theorem jobsOnlyEnd_abortBist (cause : Nat) : JobsOnlyEnd s (abortBist cause s) := by
  obtain ⟨u, hcase, hkept⟩ := abortBist_eq_dropWaiting s cause
  rw [hcase]
  exact (JobsOnlyEnd.of_job_eq (congrArg (·.1) hkept)).trans (jobsOnlyEnd_dropWaiting u)

@[simp] theorem wld_withdrawAll (but : Option Nat) : (withdrawAll but s).wld = s.wld :=
  forEach_keeps (·.wld) _ (fun e : Nat × Job => endJob e.1 0x7001 0 0 0) (fun e u => by simp) s

/-- WITHDRAWN ends every live job that is not in its commit phase. -/
theorem ended_withdrawAll {e : Nat × Job} (he : e ∈ liveJobs s) (hcommit : inCommit e.2 = false) : Ended e.1 (withdrawAll none s) := by
  obtain ⟨x, hx⟩ := jobOf_of_mem_liveJobs he
  exact ended_endJobs (num := Prod.fst) (List.mem_filter.2 ⟨he, by simp [hcommit]⟩) hx

theorem ended_withdrawAll_of_ended (but : Option Nat) {k : Nat} (h : Ended k s) : Ended k (withdrawAll but s) := ended_endJobs_of_ended (num := Prod.fst) h

/-! ### Core pairs under the shared operations -/

theorem pairOf_of_wld_eq {s t : State} (h : t.wld = s.wld) (p : Nat) : pairOf t p = pairOf s p := by rw [pairOf, h, pairOf]

@[simp] theorem pairOf_withPending (l : List Instr) (p : Nat) : pairOf (s.withPending l) p = pairOf s p := rfl
@[simp] theorem pairOf_raiseEv (code sev a b c p : Nat) : pairOf (raiseEv code sev a b c s) p = pairOf s p := pairOf_of_wld_eq (by simp) p
@[simp] theorem pairOf_raiseFrom (src code sev a b c p : Nat) : pairOf (raiseFrom src code sev a b c s) p = pairOf s p := pairOf_of_wld_eq (by simp) p
@[simp] theorem pairOf_endJob (j status w0 w1 w2 p : Nat) : pairOf (endJob j status w0 w1 w2 s) p = pairOf s p := pairOf_of_wld_eq (by simp) p

theorem pairOf_modPair_self (p : Nat) (g : Pair → Pair) : pairOf (modPair p g s) p = g (pairOf s p) := by
  by_cases hp : p = 0 <;> simp [pairOf, modPair, hp]

theorem pairOf_modPair_zero_of_ne {p : Nat} (hp : p ≠ 0) (g : Pair → Pair) : pairOf (modPair 0 g s) p = pairOf s p := by
  rw [pairOf, if_neg hp, pairOf, if_neg hp, modPair, if_pos rfl]

@[simp] theorem pairOf_modWorld (w : Nat) (g : World → World) (p : Nat) : pairOf (modWorld w g s) p = pairOf s p := rfl
@[simp] theorem pairOf_returnPages (w p : Nat) : pairOf (returnPages w s) p = pairOf s p := rfl
@[simp] theorem pairOf_clearPages (ps : List Nat) (p : Nat) : pairOf (clearPages ps s) p = pairOf s p := rfl
@[simp] theorem pairOf_abortBist (cause p : Nat) : pairOf (abortBist cause s) p = pairOf s p := pairOf_of_wld_eq (wld_abortBist s cause) p
@[simp] theorem pairOf_endMessages (w p : Nat) : pairOf (endMessages w s) p = pairOf s p := pairOf_of_wld_eq (wld_endMessages s w) p

@[simp] theorem pairOf_dropLoads (p : Nat) : pairOf (dropLoads s) p = pairOf s p :=
  forEach_keeps (pairOf · p) _ (fun w s => modWorld w (fun x => { x with st := .stopped, loadJob := none }) (returnPages w s)) (fun _ _ => rfl) s

@[simp] theorem pairOf_cancelWhere (q : Request → Bool) (p : Nat) : pairOf (cancelWhere q s) p = pairOf s p := by
  refine forEach_keeps (pairOf · p) _ cancelRequest (fun n u => ?_) s
  rw [cancelRequest]
  split
  · rfl
  · rw [pairOf_endJob]
    rfl

/-- The absence of Keeper leaves the pairs, but for the instant it began. -/
theorem pairOf_keeperLost (p : Nat) : ∃ l, pairOf (keeperLost s) p = { pairOf s p with absentL := l } := by
  have hjobs : ∀ u : State, pairOf (forEach ((liveJobs u).filter (fun e => e.2.desc.cls == 3 && !inCommit e.2)) (fun e => endJob e.1 0x7001 0 0 0) u) p = pairOf u p :=
    fun u => forEach_keeps (pairOf · p) _ (fun e : Nat × Job => endJob e.1 0x7001 0 0 0) (fun e u => pairOf_endJob u e.1 _ _ _ _ p) u
  rw [keeperLost]
  dsimp only
  rw [hjobs, pairOf_cancelWhere, pairOf_abortBist]
  by_cases hp : p = 0
  · subst hp
    rw [pairOf_modPair_self, pairOf_dropLoads]
    exact ⟨_, rfl⟩
  · rw [pairOf_modPair_zero_of_ne _ hp, pairOf_dropLoads]
    exact ⟨_, rfl⟩

end

/-! ### The commands of the pairs -/

section
variable {s : State} {p : Nat}

theorem wld_abandonIntent (cause : Nat) (s : State) : (abandonIntent cause s).wld = s.wld := by
  unfold abandonIntent
  split
  · rfl
  · dsimp only
    split <;> simp [closeIntentCell_keeps]

theorem pairOf_resolveIntent (s : State) (p : Nat) : pairOf (resolveIntent s) p = pairOf s p := by
  unfold resolveIntent
  split
  · rfl
  · dsimp only
    split
    · rfl
    · exact pairOf_of_wld_eq (wld_abandonIntent 0 s) p

theorem pairOf_restartWorld (w : Nat) (s : State) (p : Nat) : pairOf (restartWorld w s) p = pairOf s p := by
  rw [restartWorld, pairOf_modWorld, pairOf_endMessages, pairOf_clearPages]

theorem comparatorDead_of_live (hp : p < 2) (hlive : (pairOf s p).dead = false) (cause : Nat) :
    (pairOf (comparatorDead p cause s) p).dead = true ∧ (comparatorDead p cause s).wld.holdDue.isSome = true := by
  have hpair := pairOf_modPair_self s p (fun x => { x with dead := true })
  rw [comparatorDead, if_neg (by simp [Nat.not_lt.2 (Nat.le_of_lt_succ hp), hlive])]
  refine ⟨?_, rfl⟩
  show (pairOf (raiseEv 0xD012 6 p cause 0 (modPair p (fun x => { x with dead := true }) s)) p).dead = true
  rw [pairOf_raiseEv, hpair]

/-- A mismatch takes a pair that is up down. -/
theorem lockstepMismatch_of_up (hp : p < 2) (hup : (pairOf s p).up = true) (cause : Nat) : (pairOf (lockstepMismatch p cause s) p).up = false := by
  rw [lockstepMismatch]
  dsimp only
  rw [if_neg (by simp [Nat.not_lt.2 (Nat.le_of_lt_succ hp), hup]), if_pos hup]
  generalize hu : modPair p _ _ = u
  have hdown : (pairOf u p).up = false := by rw [← hu, pairOf_modPair_self]
  split
  · obtain ⟨l, h⟩ := pairOf_keeperLost u p
    rw [h]
    exact hdown
  · exact hdown

theorem pairRestartComplete_of_restarting (h : (pairOf s p).restartL ≠ none) (bad : List Nat) :
    (pairOf (pairRestartComplete p bad s) p).up = true ∧ (pairOf (pairRestartComplete p bad s) p).restartL = none := by
  rw [pairRestartComplete]
  dsimp only
  rw [if_neg h]
  generalize hu : raiseEv _ _ _ _ _ _ = u
  have hpair : (pairOf u p).up = true ∧ (pairOf u p).restartL = none := by
    rw [← hu, pairOf_raiseEv, pairOf_modPair_self]
    exact ⟨rfl, rfl⟩
  split
  · rwa [pairOf_resolveIntent]
  · have hworlds : ∀ l : List Nat, pairOf (forEach l (fun w s =>
        if bad.contains w then
          raiseFrom (source 3 w) 0xD015 3 w 2 0 (modWorld w (fun x => { x with st := .stopped }) (returnPages w (endMessages w s)))
        else restartWorld w s) u) p = pairOf u p := by
      refine fun l => forEach_keeps (pairOf · p) l _ (fun w v => ?_) u
      split
      · rw [pairOf_raiseFrom, pairOf_modWorld, pairOf_returnPages, pairOf_endMessages]
      · exact pairOf_restartWorld w v p
    rwa [hworlds]

theorem pairOf_attemptFailed (outcome : Nat) : pairOf (attemptFailed p outcome s) p = { pairOf s p with restartL := none, downL := some s.time.L } := by
  rw [attemptFailed, pairOf_raiseEv, pairOf_modPair_self]

theorem glb_watched (g : State → State) : (watched g s).glb = (g s).glb := by
  simp only [watched]
  split <;> split <;> simp

theorem wld_watched (g : State → State) : (watched g s).wld = (g s).wld := by
  simp only [watched]
  split <;> split <;> simp

theorem orr_watched (g : State → State) : (watched g s).orr = (g s).orr := by
  simp only [watched]
  split <;> split <;> simp

theorem job_watched (g : State → State) : (watched g s).job = (g s).job := by
  simp only [watched]
  split <;> split <;> simp

/-- What is left to HOLD once a dead comparator's boundary has come. -/
def heldBack (s : State) : State :=
  modPair 1 (fun p => { p with up := false, restartL := none })
    { withdrawAll none (abortBist 3 { s with pwr := { s.pwr with nightJob := none } }) with
      wld := { (withdrawAll none (abortBist 3 { s with pwr := { s.pwr with nightJob := none } })).wld with holdDue := none, holdLatched := true } }

theorem ended_heldBack {e : Nat × Job} (he : e ∈ liveJobs s) (hcommit : inCommit e.2 = false) : Ended e.1 (heldBack s) := by
  have haborted : JobsOnlyEnd s (abortBist 3 { s with pwr := { s.pwr with nightJob := none } }) :=
    (JobsOnlyEnd.of_job_eq (t := { s with pwr := { s.pwr with nightJob := none } }) rfl).trans (jobsOnlyEnd_abortBist _ 3)
  exact ended_of_job_eq (s := withdrawAll none (abortBist 3 { s with pwr := { s.pwr with nightJob := none } })) rfl
    (haborted.ended he (fun hlive => ended_withdrawAll _ hlive hcommit) fun _ => ended_withdrawAll_of_ended _ none)

theorem holdEntry_of_due {l : Nat} (hdue : s.wld.holdDue = some l) (hlate : l < s.time.L) (hrun : s.time.genRunning = true) :
    holdEntry s = watched (fun s => { s with glb := { s.glb with hold := true } }) (heldBack s) := by
  simp only [holdEntry, hdue, Nat.not_le.2 hlate, hrun, false_or, Bool.true_eq_false, if_false]
  rfl

end

/-- Settles O16: each command's own lemma; HOLD through the jobs that have only ended. -/
theorem corePairs : Obligations.CorePairs := by
  refine fun s p hp => ⟨fun cause hup => ?mismatch, fun cause hrun hlive => ?dead, fun hL hup hlive => ⟨fun cycles hfew => ?answered, fun rail cycles hbad => ?silent⟩,
    fun hdown hnone hrun hlight hhold hlate => ?restart, fun bad hsome => ?complete, fun l hl hlate => ?timeout, fun habsent hlong hopen => ?close,
    fun hclosed hback => ?reopen, fun l hdue hlate hrun => ?hold⟩
  case mismatch =>
    apply yields_of_exec_eq_done rfl
    exact lockstepMismatch_of_up hp hup cause
  case dead =>
    apply yields_of_exec_eq_done rfl
    rw [whenAwake_of_run hrun]
    exact comparatorDead_of_live hp hlive cause
  case answered =>
    refine does_of_exec_eq_done (congrArg (done s) ?_)
    simp [comparatorProbe, hfew]
  case silent =>
    apply yields_of_exec_eq_done rfl
    have hprobe : s.time.L % orbitL = 2 ^ 19 ∧ (pairOf s p).up ∧ !(rail == 1 && decide (cycles ≤ 4)) := by
      refine ⟨hL, hup, ?_⟩
      rcases hbad with h | h
      · simp [h]
      · simp [Nat.not_le.2 h]
    rw [comparatorProbe, if_pos hprobe]
    exact (comparatorDead_of_live hp hlive 0).1
  case restart =>
    apply yields_of_exec_eq_done rfl
    have hcond : p ≤ 1 ∧ (pairOf s p).up = false ∧ (pairOf s p).restartL = none ∧ (s.glb.phase = .run ∨ s.glb.phase = .dawn) ∧
        (pairOf s p).downL.all (fun l => decide (l < s.time.L)) ∧ !((umbral s && (p == 1 || s.tam.zeroDue.isSome)) || (s.glb.hold && p == 1)) := by
      refine ⟨Nat.le_of_lt_succ hp, hdown, hnone, Or.inl hrun, ?_, ?_⟩
      · cases hd : (pairOf s p).downL with
        | none => rfl
        | some l => exact decide_eq_true (hlate l hd)
      · rcases hhold with h | h <;> simp [hlight, h]
    rw [pairRestart, if_pos hcond, pairOf_withPending, pairOf_modPair_self]
    exact ⟨rfl, rfl⟩
  case complete =>
    apply yields_of_exec_eq_done rfl
    exact pairRestartComplete_of_restarting hsome bad
  case timeout =>
    apply yields_of_exec_eq_done rfl
    have hcase : pairRestartTimeout p s = attemptFailed p 2 s := by
      rw [pairRestartTimeout, hl]
      exact if_pos hlate
    rw [hcase, pairOf_withPending, pairOf_attemptFailed]
    exact ⟨rfl, rfl⟩
  case close =>
    apply yields_of_exec_eq_done rfl
    rw [keeperAbsentClose, if_pos ⟨habsent, hlong, hopen⟩]
    generalize hu : watched _ s = u
    have horr : u.orr.admitOpen = false := by rw [← hu, orr_watched]
    have hglb : u.glb.keeperClosed = true := by rw [← hu, glb_watched]
    exact ⟨by simpa using horr, by simpa using hglb⟩
  case reopen =>
    apply yields_of_exec_eq_done rfl
    rw [admissionReopen, if_pos (by simp [hclosed, hback])]
    generalize hu : watched _ s = u
    exact ⟨by rw [← hu]; exact congrArg (·.admitOpen) (orr_watched _), by rw [← hu]; exact congrArg (·.keeperClosed) (glb_watched _)⟩
  case hold =>
    apply yields_of_exec_eq_done rfl
    rw [holdEntry_of_due hdue hlate hrun]
    have hwld := wld_watched (s := heldBack s) (fun s => { s with glb := { s.glb with hold := true } })
    refine ⟨congrArg (·.hold) (glb_watched _), congrArg (·.holdLatched) hwld, congrArg (·.holdDue) hwld, congrArg (·.pair1.up) hwld, fun e he hcommit => ?_⟩
    exact ended_of_job_eq (job_watched _) (ended_heldBack he hcommit)

end Sys2Proof.Machine
end

section
/-! PROOFS. The debug port (R453, R455, R461): TAP instructions, the mailbox of a BLANK or TEST device, halts of a core pair. -/

namespace Sys2Proof.Machine

section
variable {s : State}

/-! ### TAP instructions -/

theorem glb_tapLog (c : Nat) : (tapLog c s).glb = s.glb := by
  rw [tapLog]
  split <;> simp

/-- The state in which a TAP instruction takes its effect. -/
def tapTaken (c : Nat) (s : State) : State := { tapLog (c % 256) s with lcs := { (tapLog (c % 256) s).lcs with tap := tapEffective s (c % 256) } }

theorem glb_tapTaken (c : Nat) : (tapTaken c s).glb = s.glb := glb_tapLog (c % 256)

theorem tapInstruction_of_not_scan {c : Nat} (hphase : s.glb.phase ≠ .scan) (hcode : scanCode (tapEffective s (c % 256)) = false) :
    tapInstruction c s = tapTaken c s := by
  have hstay : (tapTaken c s).glb.phase ≠ .scan := by rwa [glb_tapTaken]
  rw [tapInstruction]
  exact (if_neg hstay).trans (if_pos (Or.inl (by simp [hcode])))

theorem tapInstruction_of_run {c : Nat} (hrun : s.glb.phase = .run) (hcode : scanCode (tapEffective s (c % 256)) = true) :
    tapInstruction c s =
      let u := resetVolatile (copyTime (umbraLine (tapTaken c s)))
      { u with glb := { u.glb with phase := .scan }, pwr := { u.pwr with cause := none } } := by
  have hphase : (tapTaken c s).glb.phase = .run := by rw [glb_tapTaken, hrun]
  rw [tapInstruction]
  refine (if_neg (show ¬(tapTaken c s).glb.phase = .scan by simp [hphase])).trans (if_neg ?_)
  rintro (hother | ⟨hoff, -⟩)
  · simp [hcode] at hother
  · exact Phase.noConfusion (hphase.symm.trans hoff)

theorem tapInstruction_of_scan {c : Nat} (hscan : s.glb.phase = .scan) (hcode : scanCode (tapEffective s (c % 256)) = false) :
    tapInstruction c s = endRun 2 { tapTaken c s with glb := { (tapTaken c s).glb with pwrReq := true } } := by
  have hphase : (tapTaken c s).glb.phase = .scan := by rw [glb_tapTaken, hscan]
  rw [tapInstruction]
  exact (if_pos hphase).trans (if_neg (by simp [hcode]))

/-! ### The mailbox -/

theorem lcs_withdrawAll (but : Option Nat) (s : State) : (withdrawAll but s).lcs = s.lcs :=
  forEach_keeps (·.lcs) _ (fun e : Nat × Job => endJob e.1 0x7001 0 0 0) (fun e u => by simp) s

theorem runTransition_of_nextStep {but : Option Nat} {to_ bits i : Nat} (h : nextStep s to_ = some i) :
    (runTransition but to_ bits s).lcs.pendingReset = true ∧ (runTransition but to_ bits s).lcs.otp = programStep i (2 ^ min 8 bits - 1) s.lcs.otp := by
  rw [runTransition, h]
  refine ⟨rfl, ?_⟩
  show programStep i (2 ^ min 8 bits - 1) (eraseFor s.lcs.code to_ (withdrawAll but s)).lcs.otp = _
  rw [eraseFor_otp, withdrawAll_otp]

theorem lcsDapDoorbell_of_bad {d : Desc} {e : Nat × Nat × Nat} {bits : Nat} (hcode : s.lcs.code < 2) (hlock : s.glb.lockdown = false)
    (hrun : s.glb.phase = .run) (hd : d = Desc.parse s.lcs.dapDesc)
    (hbad : mailboxBad s d (s.lcs.dapToken ++ zeros (32 - s.lcs.dapToken.length)) = some e) :
    lcsDapDoorbell bits s = mailboxEntry d e (if e.1 = 0x5040 then raiseFrom (source 7 0) 0x0411 5 (d.par 40 1) 0 0 s else s) := by
  subst hd
  simp only [lcsDapDoorbell, Nat.not_le.2 hcode, hlock, hrun, hbad, Bool.false_eq_true, or_self, if_false]

theorem lcsDapDoorbell_of_good {d : Desc} {bits : Nat} (hcode : s.lcs.code < 2) (hlock : s.glb.lockdown = false)
    (hrun : s.glb.phase = .run) (hd : d = Desc.parse s.lcs.dapDesc)
    (hgood : mailboxBad s d (s.lcs.dapToken ++ zeros (32 - s.lcs.dapToken.length)) = none) :
    lcsDapDoorbell bits s =
      let u := runTransition none (d.par 40 1) bits s
      if bits < 8 then u else mailboxEntry d (0, d.par 40 1, lo32 (alarmInstantL u)) (transitionDone s.lcs.code (d.par 40 1) u) := by
  subst hd
  simp only [lcsDapDoorbell, Nat.not_le.2 hcode, hlock, hrun, hgood, Bool.false_eq_true, or_self, if_false]

theorem mailboxEntry_spec (d : Desc) (e : Nat × Nat × Nat) (u : State) :
    (mailboxEntry d e u).lcs.dapCompletion.map (fun c => (c.status, c.w0, c.w1)) = some e ∧ (mailboxEntry d e u).lcs.otp = u.lcs.otp ∧
      (mailboxEntry d e u).lcs.pendingReset = u.lcs.pendingReset :=
  ⟨rfl, rfl, rfl⟩

theorem lcs_transitionDone (from_ to_ : Nat) (u : State) : (transitionDone from_ to_ u).lcs = u.lcs := by simp [transitionDone]

/-! ### Halts -/

theorem debugPairHalt_of_allowed {p : Nat} (hp : p < 2) (hmay : mayDebug s p = true) (hup : (pairOf s p).up = true) (hgoes : (pairOf s p).halted = false) :
    (pairOf (debugPairHalt p s) p).halted = true := by
  rw [debugPairHalt, if_pos ⟨Nat.le_of_lt_succ hp, hmay, hup, by simp [hgoes]⟩]
  generalize hu : modPair p _ _ = u
  have hhalted : (pairOf u p).halted = true := by rw [← hu, pairOf_modPair_self]
  split
  · obtain ⟨l, h⟩ := pairOf_keeperLost u p
    rw [h]
    exact hhalted
  · exact hhalted

end

/-- Settles O21: TAP instructions, the mailbox, then the pairs. -/
theorem tapMailboxAndPairs : Obligations.TapMailboxAndPairs := by
  refine fun s => ⟨fun c hphase hcode => ?bypass, fun c hrun hcode => ?balls, fun c hscan hcode => ?leave, fun bits d hcode hlock hrun hd => ?mailbox,
    fun hcode bits => ?later, fun p hp hmay hup hgoes => ?halt, fun p hp hhalted => ?resume⟩
  case bypass =>
    apply yields_of_exec_eq_done rfl
    rw [tapInstruction_of_not_scan hphase hcode]
    exact ⟨rfl, glb_tapTaken c⟩
  case balls =>
    apply yields_of_exec_eq_done rfl
    rw [tapInstruction_of_run hrun hcode]
    exact ⟨rfl, rfl, rfl⟩
  case leave =>
    apply yields_of_exec_eq_done rfl
    rw [tapInstruction_of_scan hscan hcode]
    exact ⟨rfl, rfl⟩
  case mailbox =>
    apply yields_of_exec_eq_done rfl
    cases hbad : mailboxBad s d (s.lcs.dapToken ++ zeros (32 - s.lcs.dapToken.length)) with
    | some e =>
      rw [lcsDapDoorbell_of_bad hcode hlock hrun hd hbad]
      obtain ⟨hentry, hotp, -⟩ := mailboxEntry_spec d e (if e.1 = 0x5040 then raiseFrom (source 7 0) 0x0411 5 (d.par 40 1) 0 0 s else s)
      refine ⟨hentry, hotp.trans ?_⟩
      split <;> simp
    | none =>
      intro i hi
      rw [lcsDapDoorbell_of_good hcode hlock hrun hd hbad]
      obtain ⟨hpending, hotp⟩ := runTransition_of_nextStep (but := none) (bits := bits) hi
      dsimp only
      split
      · exact ⟨hpending, hotp⟩
      · obtain ⟨-, hotp', hpending'⟩ := mailboxEntry_spec d (0, d.par 40 1, lo32 (alarmInstantL (runTransition none (d.par 40 1) bits s)))
          (transitionDone s.lcs.code (d.par 40 1) (runTransition none (d.par 40 1) bits s))
        rw [lcs_transitionDone] at hotp' hpending'
        exact ⟨hpending'.trans hpending, hotp'.trans hotp⟩
  case later =>
    refine does_of_exec_eq_done (congrArg (done s) ?_)
    simp [lcsDapDoorbell, hcode]
  case halt =>
    apply yields_of_exec_eq_done rfl
    exact debugPairHalt_of_allowed hp hmay hup hgoes
  case resume =>
    apply yields_of_exec_eq_done rfl
    rw [debugPairResume, if_pos ⟨Nat.le_of_lt_succ hp, hhalted⟩, pairOf_withPending, pairOf_modPair_self]
    exact ⟨rfl, rfl⟩

end Sys2Proof.Machine
end

section
/-! PROOFS. The ledger's cells, its counters (R355, R360), and what lane cycles and cells leave alone. -/

namespace Sys2Proof.Machine

/-! ### Counters under the cells -/

section
variable (s : State)

/-- The counters and the lane ledgers, which writing rows leaves alone; the anchor that waits with them. -/
def counts (s : State) : Tab Counter × Tab LaneLedger × Option Anchor := (s.ldg.counters, s.ldg.lanes, s.ldg.anchorWait)

theorem counterOf_of_counts {s t : State} (h : counts t = counts s) (k : Nat) : counterOf t k = counterOf s k :=
  congrArg (fun v : Tab Counter × Tab LaneLedger × Option Anchor => Tab.getD v.1 k {}) h

theorem laneLdg_of_counts {s t : State} (h : counts t = counts s) (n : Nat) : laneLdg t n = laneLdg s n :=
  congrArg (fun v : Tab Counter × Tab LaneLedger × Option Anchor => Tab.getD v.2.1 n {}) h

@[simp] theorem counts_setRow (r : Nat) (bs : List Byte) : counts (setRow r bs s) = counts s := rfl
@[simp] theorem counts_programRow (r : Nat) (bs : List Byte) : counts (programRow r bs s) = counts s := rfl
@[simp] theorem counts_programBit (r n : Nat) : counts (programBit r n s) = counts s := rfl
@[simp] theorem counts_markDone (j : Nat) : counts (markDone j s) = counts s := rfl
@[simp] theorem counts_writeIntent (id b k : Nat) : counts (writeIntent id b k s) = counts s := rfl
@[simp] theorem counts_raiseEv (code sev a b c : Nat) : counts (raiseEv code sev a b c s) = counts s := by simp [counts]

@[simp] theorem counts_readyRow (r : Nat) : counts (readyRow r s) = counts s := by
  rw [readyRow]
  split
  · rfl
  · exact counts_setRow s r _

@[simp] theorem counts_setRows (r : Nat) (bs : List Byte) : counts (setRows r bs s) = counts s :=
  forEach_keeps counts _ (fun i => setRow (r + i) (slice bs (32 * i) 32)) (fun _ _ => rfl) s

@[simp] theorem counts_writeRecord (id mark : Nat) (bs : List Byte) : counts (writeRecord id mark bs s) = counts s := by
  rw [writeRecord, counts_setRows, counts_setRows]

@[simp] theorem counts_prepareLane (n : Nat) (r : LaneRecord) : counts (prepareLane n r s) = counts s := counts_writeRecord _ _ _ _

/-- What the opening of a carry leaves of the counters. -/
theorem counterOf_openCarry (id b k m : Nat) : ∃ slot, counterOf (openCarry id b k s) m =
    if m = id then { counterOf s id with base := b, count := 0, k := k, intent := true, slot := slot } else counterOf s m := by
  have hready : ∀ m, counterOf (readyRow (thermRow id k) s) m = counterOf s m := counterOf_of_counts (counts_readyRow s _)
  refine ⟨(readyRow (thermRow id k) s).ldg.ringAt, ?_⟩
  rw [openCarry, counterOf_of_counts (counts_writeIntent _ id b k), counterOf_modCounter, hready, hready]

@[simp] theorem laneLdg_openCarry (id b k n : Nat) : laneLdg (openCarry id b k s) n = laneLdg s n := by
  rw [openCarry, laneLdg_of_counts (counts_writeIntent _ id b k), laneLdg_modCounter]
  exact laneLdg_of_counts (counts_readyRow s _) n

end

section
variable {s : State} {id : Nat}

/-- An increment changes no counter but its own (R355). -/
theorem counterOf_increment_of_ne {k : Nat} (hne : k ≠ id) (ok : Bool) : counterOf (increment id ok s) k = counterOf s k := by
  rw [increment]
  split
  · rfl
  · split
    · rw [counterOf_of_counts (counts_programBit _ _ _), counterOf_modCounter, if_neg hne]
    · rw [carry, counterOf_of_counts (counts_raiseEv _ _ _ _ _ _)]
      obtain ⟨slot, h⟩ := counterOf_openCarry s id (counterValue (counterOf s id) + 1) (nextK id (counterOf s id)) k
      rw [h, if_neg hne]

/-- An increment of an open counter raises its value by one, by a thermometer bit or by a carry (R355). -/
theorem counterValue_increment (hopen : counterOpen s id = true) (ok : Bool) :
    counterValue (counterOf (increment id ok s) id) = counterValue (counterOf s id) + 1 := by
  rw [increment, hopen, if_neg (by decide)]
  split
  · rw [counterOf_of_counts (counts_programBit _ _ _), counterOf_modCounter, if_pos rfl]
    exact Nat.add_assoc _ _ 1
  · rw [carry, counterOf_of_counts (counts_raiseEv _ _ _ _ _ _)]
    obtain ⟨slot, h⟩ := counterOf_openCarry s id (counterValue (counterOf s id) + 1) (nextK id (counterOf s id)) id
    rw [h, if_pos rfl]
    rfl

@[simp] theorem laneLdg_increment (ok : Bool) (n : Nat) : laneLdg (increment id ok s) n = laneLdg s n := by
  rw [increment]
  split
  · rfl
  · split
    · rw [laneLdg_of_counts (counts_programBit _ _ _), laneLdg_modCounter]
    · rw [carry, laneLdg_of_counts (counts_raiseEv _ _ _ _ _ _), laneLdg_openCarry]

/-- A carry that closes: its counter loses the open intent and nothing else (R355). -/
theorem counterOf_closeCarry (k : Nat) : counterOf (closeCarry id s) k = if k = id then { counterOf s id with intent := false } else counterOf s k := by
  rw [closeCarry]
  dsimp only
  rw [counterOf_of_counts (counts_markDone _ _), counterOf_of_counts (counts_setRow _ _ _), counterOf_modCounter,
    counterOf_of_counts (counts_setRow _ _ _), counterOf_of_counts (counts_setRow _ _ _)]

theorem anchorWait_closeCarry : (closeCarry id s).ldg.anchorWait = s.ldg.anchorWait := rfl

theorem publishAnchor_of_none (h : s.ldg.anchorWait = none) (ok : Bool) : publishAnchor ok s = s := by
  rw [publishAnchor, h]

theorem carryCompletion_of_good (hintent : (counterOf s id).intent = true) (hgo : sequencerStopped s = false ∨ id = 0) :
    carryCompletion id 0 s = publishAnchor true (closeCarry id s) := by
  have hcond : ¬(!(counterOf s id).intent || (sequencerStopped s && id != 0)) = true := by
    rcases hgo with h | h
    · simp [hintent, h]
    · subst h
      simp [hintent]
  rw [carryCompletion]
  exact (if_neg hcond).trans (if_pos rfl)

theorem counterValue_closeCarry (k : Nat) : counterValue (counterOf (closeCarry id s) k) = counterValue (counterOf s k) := by
  rw [counterOf_closeCarry]
  split
  next h => rw [h, counterValue, counterValue]
  next => rfl

theorem laneRecordWrite_of_open {n : Nat} {r : LaneRecord} {rest : List LaneRecord} (hwait : (laneLdg s n).wait = r :: rest)
    (hgen : s.time.genStopped = false) (hgo : sequencerStopped s = false) (hopen : counterOpen s (markId n) = true) (hseal : sealPrepared s n = false)
    (ok : Bool) : laneRecordWrite n ok s = publishLane n { r with seq := (laneLdg s n).view.seq } ok
      (prepareLane n { r with seq := (laneLdg s n).view.seq } (modLaneLdg n (fun l => { l with wait := rest }) s)) := by
  simp only [laneRecordWrite, hwait, hgen, hgo, hopen, hseal, Bool.not_true, Bool.or_self, Bool.false_eq_true, if_false]

end

theorem carriesCompleteAndLaneRecordsAreWritten : Claims.CarriesCompleteAndLaneRecordsAreWritten := by
  refine ⟨fun s id hintent hgo hnone => ?carry, fun s n ok r rest hwait hgen hgo hopen hseal => ?record⟩
  case carry =>
    apply yields_of_exec_eq_done rfl
    rw [carryCompletion_of_good hintent hgo, publishAnchor_of_none (by rw [anchorWait_closeCarry, hnone])]
    refine ⟨?_, fun k => ?_⟩
    · rw [counterOf_withPending, counterOf_closeCarry, if_pos rfl]
    · rw [counterOf_withPending, counterValue_closeCarry]
  case record =>
    apply yields_of_exec_eq_done rfl
    rw [laneRecordWrite_of_open hwait hgen hgo hopen hseal]
    generalize hu : prepareLane n _ (modLaneLdg n _ s) = u
    have hcounts : counts u = counts (modLaneLdg n (fun l => { l with wait := rest }) s) := by rw [← hu, counts_prepareLane]
    have hlane : (laneLdg u n).wait = rest := by rw [laneLdg_of_counts hcounts, laneLdg_modLaneLdg, if_pos rfl]
    have hcounter : ∀ k, counterOf u k = counterOf s k := fun k => by rw [counterOf_of_counts hcounts, counterOf_modLaneLdg]
    rw [laneLdg_withPending, counterOf_withPending, publishLane, laneLdg_increment, laneLdg_modLaneLdg, if_pos rfl]
    refine ⟨hlane, rfl, ?_⟩
    rw [counterValue_increment, counterOf_modLaneLdg, hcounter]
    rw [counterOpen, counterOf_modLaneLdg, hcounter]
    exact hopen

/-- Settles O34: an increment, then the two commands. -/
theorem countersAndLaneRecords : Obligations.CountersAndLaneRecords :=
  ⟨fun _ _ ok hopen => counterValue_increment hopen ok, carriesCompleteAndLaneRecordsAreWritten⟩

end Sys2Proof.Machine
end

section
/-! PROOFS. What lane cycles and the ledger's cells leave alone. -/

namespace Sys2Proof.Machine

/-! ### A lane's own commands -/

/-- What a lane's decision leaves alone: every unit but the lanes, the ledger, the notices, the events and what is sent; and the other lanes. -/
def besideLane (n : Nat) (s : State) : State × (Nat → Option (Lane × LaneLedger)) :=
  ({ s with out := [], hlk := {}, evt := {}, mtr := [], ldg := {} }, fun m => if m = n then none else some (s.lane m, laneLdg s m))

theorem besideLane_withPending {n : Nat} {s u : State} (h : besideLane n u = besideLane n s) :
    besideLane n (u.withPending s.pending) = besideLane n s :=
  congrArg (fun v : State × (Nat → Option (Lane × LaneLedger)) => (v.1.withPending s.pending, v.2)) h

theorem eq_of_besideLane {n : Nat} {s t : State} (h : besideLane n t = besideLane n s) :
    t = { s with out := t.out, hlk := t.hlk, evt := t.evt, mtr := t.mtr, ldg := t.ldg } ∧
      ∀ m, m ≠ n → t.lane m = s.lane m ∧ laneLdg t m = laneLdg s m := by
  refine ⟨?_, fun m hm => ?_⟩
  · exact congrArg (fun v : State × (Nat → Option (Lane × LaneLedger)) =>
      { v.1 with out := t.out, hlk := t.hlk, evt := t.evt, mtr := t.mtr, ldg := t.ldg }) h
  · have hlane := congrFun (congrArg Prod.snd h) m
    simp only [besideLane, if_neg hm, Option.some.injEq, Prod.mk.injEq] at hlane
    exact hlane

section
variable (n : Nat) (s : State)

@[simp] theorem besideLane_modLane (g : Lane → Lane) : besideLane n (modLane n g s) = besideLane n s := by
  refine Prod.ext rfl (funext fun m => ?_)
  by_cases hm : m = n <;> simp [besideLane, hm]

@[simp] theorem besideLane_modLaneLdg (g : LaneLedger → LaneLedger) : besideLane n (modLaneLdg n g s) = besideLane n s := by
  refine Prod.ext rfl (funext fun m => ?_)
  by_cases hm : m = n <;> simp [besideLane, hm]

theorem besideLane_of_keeps {t : State} (h : { t with out := [], hlk := {}, evt := {}, mtr := [], ldg := {} } =
    ({ s with out := [], hlk := {}, evt := {}, mtr := [], ldg := {} } : State)) (hmtr : t.mtr = s.mtr) (hldg : t.ldg = s.ldg) :
    besideLane n t = besideLane n s := by
  refine Prod.ext h (funext fun m => ?_)
  simp only [besideLane, lane_of_mtr_eq hmtr, laneLdg_of_ldg_eq hldg]

@[simp] theorem besideLane_raiseFrom (src code sev a b c : Nat) : besideLane n (raiseFrom src code sev a b c s) = besideLane n s := by
  refine besideLane_of_keeps n s ?_ (by simp) (by simp)
  simp

@[simp] theorem besideLane_notify (type subject p0 p1 p2 p3 f : Nat) : besideLane n (notify type subject p0 p1 p2 p3 f s) = besideLane n s := by
  refine besideLane_of_keeps n s ?_ (by simp) (by simp)
  simp

@[simp] theorem besideLane_laneNotice (m cause p1 p2 : Nat) : besideLane n (laneNotice m cause p1 p2 s) = besideLane n s := by
  rw [laneNotice, notifyZeroAndCab, besideLane_notify]
  exact forEach_keeps (besideLane n) _ _ (fun f u => besideLane_notify n u _ _ _ _ _ _ f) s

@[simp] theorem besideLane_checkpoint (kind : Nat) : besideLane n (checkpoint n kind s) = besideLane n s := besideLane_modLaneLdg n s _

@[simp] theorem besideLane_taint : besideLane n (taint n s) = besideLane n s := by
  rw [taint]
  dsimp only
  split <;> simp

@[simp] theorem besideLane_enterSuspect (cause p1 p2 : Nat) : besideLane n (enterSuspect n cause p1 p2 s) = besideLane n s := by
  rw [enterSuspect]
  dsimp only
  split
  · split <;> simp
  · split <;> simp

@[simp] theorem besideLane_handOver (imp exp : Nat) (c : Cycle) : besideLane n (handOver n imp exp c s) = besideLane n s := by
  rw [handOver]
  split <;> simp

@[simp] theorem besideLane_crossCheck (imp : Nat) (c : Cycle) : besideLane n (crossCheck n imp c s) = besideLane n s := by
  rw [crossCheck]
  split
  · rfl
  · split
    · simp
    · dsimp only
      split
      · rfl
      · split <;> simp

@[simp] theorem besideLane_acceptReading (imp exp : Nat) (c : Cycle) : besideLane n (acceptReading n imp exp c s) = besideLane n s := by
  rw [acceptReading, besideLane_crossCheck]
  split <;> simp

@[simp] theorem besideLane_newBaseline (imp exp : Nat) (c : Cycle) : besideLane n (newBaseline n imp exp c s) = besideLane n s := by simp [newBaseline]

@[simp] theorem besideLane_endJoin (imp exp : Nat) (c : Cycle) : besideLane n (endJoin n imp exp c s) = besideLane n s := by
  rw [endJoin]
  dsimp only
  split
  · simp
  · split <;> split <;> simp

@[simp] theorem besideLane_decideReading (c : Cycle) (p : List Byte) : besideLane n (decideReading n c p s) = besideLane n s := by
  rw [decideReading]
  dsimp only
  split
  · simp
  · split
    · simp
    · split
      · simp
      · split <;> simp

@[simp] theorem besideLane_decideIdentity : besideLane n (decideIdentity n s) = besideLane n s := by
  rw [decideIdentity]
  dsimp only
  split
  · split
    · simp
    · split <;> simp
  · split <;> simp

@[simp] theorem besideLane_decideMissed (c : Cycle) : besideLane n (decideMissed n c s) = besideLane n s := by
  rw [decideMissed]
  dsimp only
  split
  · rfl
  · split <;> simp

@[simp] theorem besideLane_closeAtDecision : besideLane n (closeAtDecision n s) = besideLane n s := by
  rw [closeAtDecision]
  split
  · split
    · rw [closePeriod]
      simp [raiseEv]
    · rfl
  · rfl

theorem besideLane_decisionPoint : besideLane n (decisionPoint n s) = besideLane n s := by
  rw [decisionPoint]
  split
  · rfl
  · dsimp only
    rw [besideLane_closeAtDecision]
    split
    · split
      · split
        · split <;> simp
        · simp
      · rfl
    · rfl

theorem besideLane_sendRequest (identify : Bool) : besideLane n (sendRequest n identify s) = besideLane n s := rfl

end

theorem laneRequestsChangeTheirLane {s t : State} {n : Nat} {c : Instr} (hc : c = .laneCycleStart n ∨ c = .laneRetry n) (hexec : exec c s = .next t) :
    t = { s with out := t.out, mtr := t.mtr } ∧ ∀ m, m ≠ n → t.lane m = s.lane m := by
  rcases hc with rfl | rfl
  · rw [done_next (t := laneCycleStart n s) hexec, laneCycleStart]
    split
    · exact ⟨rfl, fun m hm => by rw [lane_withPending, lane_modLane, if_neg hm]; rfl⟩
    · exact ⟨rfl, fun m _ => rfl⟩
  · rw [done_next (t := laneRetry n s) hexec, laneRetry]
    split
    · exact ⟨rfl, fun m _ => rfl⟩
    · split
      · exact ⟨rfl, fun m hm => by rw [lane_withPending, lane_modLane, if_neg hm]; rfl⟩
      · exact ⟨rfl, fun m _ => rfl⟩

/-! ### The cells -/

/-- All but the events and the ledger. -/
def besideCells (s : State) : State := { s with evt := {}, ldg := {} }

theorem besideCells_withPending {s u : State} (h : besideCells u = besideCells s) : besideCells (u.withPending s.pending) = besideCells s :=
  congrArg (fun v : State => v.withPending s.pending) h

theorem eq_of_besideCells {s t : State} (h : besideCells t = besideCells s) : t = { s with evt := t.evt, ldg := t.ldg } :=
  congrArg (fun u : State => { u with evt := t.evt, ldg := t.ldg }) h

section
variable (s : State)

@[simp] theorem besideCells_raiseEv (code sev a b c : Nat) : besideCells (raiseEv code sev a b c s) = besideCells s := by simp [besideCells]
@[simp] theorem besideCells_setRow (r : Nat) (bs : List Byte) : besideCells (setRow r bs s) = besideCells s := rfl
@[simp] theorem besideCells_programRow (r : Nat) (bs : List Byte) : besideCells (programRow r bs s) = besideCells s := rfl
@[simp] theorem besideCells_modCounter (id : Nat) (g : Counter → Counter) : besideCells (modCounter id g s) = besideCells s := rfl
@[simp] theorem besideCells_modLaneLdg (n : Nat) (g : LaneLedger → LaneLedger) : besideCells (modLaneLdg n g s) = besideCells s := rfl

@[simp] theorem besideCells_setRows (r : Nat) (bs : List Byte) : besideCells (setRows r bs s) = besideCells s :=
  forEach_keeps besideCells _ (fun i => setRow (r + i) (slice bs (32 * i) 32)) (fun _ _ => rfl) s

@[simp] theorem besideCells_writeRecord (id mark : Nat) (bs : List Byte) : besideCells (writeRecord id mark bs s) = besideCells s := by simp [writeRecord]

@[simp] theorem besideCells_markDone (j : Nat) : besideCells (markDone j s) = besideCells s := besideCells_programRow s _ _
@[simp] theorem besideCells_programBit (r n : Nat) : besideCells (programBit r n s) = besideCells s := besideCells_programRow s _ _

@[simp] theorem besideCells_writeIntent (id b k : Nat) : besideCells (writeIntent id b k s) = besideCells s := by
  rw [writeIntent]
  rfl

@[simp] theorem besideCells_readyRow (r : Nat) : besideCells (readyRow r s) = besideCells s := by
  rw [readyRow]
  split
  · rfl
  · exact besideCells_setRow s _ _

@[simp] theorem besideCells_openCarry (id b k : Nat) : besideCells (openCarry id b k s) = besideCells s := by
  rw [openCarry, besideCells_writeIntent, besideCells_modCounter, besideCells_readyRow]

@[simp] theorem besideCells_increment (id : Nat) (ok : Bool) : besideCells (increment id ok s) = besideCells s := by
  rw [increment]
  split
  · rfl
  · split
    · rw [besideCells_programBit, besideCells_modCounter]
    · rw [carry, besideCells_raiseEv, besideCells_openCarry]

@[simp] theorem besideCells_publishAnchor (ok : Bool) : besideCells (publishAnchor ok s) = besideCells s := by
  rw [publishAnchor]
  split
  · rfl
  · split
    · simp
      rfl
    · rfl

@[simp] theorem besideCells_closeCarry (id : Nat) : besideCells (closeCarry id s) = besideCells s := by
  rw [closeCarry, besideCells_markDone, besideCells_setRow, besideCells_modCounter, besideCells_setRow]

@[simp] theorem besideCells_wear (id : Nat) : besideCells (wear id s) = besideCells s := by
  rw [wear]
  split <;> simp

/-- An anchor that is published changes the anchor's counter alone. -/
theorem counterOf_publishAnchor_of_ne {k : Nat} (h : k = 2 → s.ldg.anchorWait = none) (ok : Bool) : counterOf (publishAnchor ok s) k = counterOf s k := by
  cases hwait : s.ldg.anchorWait with
  | none => rw [publishAnchor_of_none hwait]
  | some a =>
    have hk : k ≠ 2 := fun h2 => by simp [h h2] at hwait
    rw [publishAnchor, hwait]
    dsimp only
    split
    · rw [counterOf_increment_of_ne hk, counterOf_of_counts (counts_writeRecord _ _ _ _)]
      rfl
    · rfl

end

theorem besideCells_carryCompletion (s : State) (id fail : Nat) : besideCells (carryCompletion id fail s) = besideCells s := by
  rw [carryCompletion]
  dsimp only
  split
  · rfl
  · split
    · simp
    · generalize hu : raiseEv _ _ _ _ _ (modCounter id _ s) = u
      have hkept : besideCells u = besideCells s := by rw [← hu, besideCells_raiseEv, besideCells_modCounter]
      split
      · rw [besideCells_wear, hkept]
      · rw [besideCells_markDone, besideCells_openCarry, hkept]

theorem counterOf_carryCompletion_of_ne {s : State} {id k : Nat} (hne : k ≠ id) (hanchor : k = 2 → s.ldg.anchorWait = none) (fail : Nat) :
    counterOf (carryCompletion id fail s) k = counterOf s k := by
  rw [carryCompletion]
  dsimp only
  split
  · rfl
  · split
    · rw [counterOf_publishAnchor_of_ne (closeCarry id s) hanchor, counterOf_closeCarry, if_neg hne]
    · generalize hu : raiseEv _ _ _ _ _ (modCounter id _ s) = u
      have hcounter : counterOf u k = counterOf s k := by
        rw [← hu, counterOf_of_counts (counts_raiseEv _ _ _ _ _ _), counterOf_modCounter, if_neg hne]
      split
      · rw [wear]
        split
        · rw [counterOf_modCounter, if_neg hne, hcounter]
        · rw [counterOf_of_counts (counts_raiseEv _ _ _ _ _ _), counterOf_modCounter, if_neg hne, hcounter]
      · rw [counterOf_of_counts (counts_markDone _ _)]
        obtain ⟨slot, h⟩ := counterOf_openCarry u id (counterOf u id).base (nextK id (counterOf u id)) k
        rw [h, if_neg hne, hcounter]

theorem besideCells_laneRecordWrite (s : State) (n : Nat) (ok : Bool) : besideCells (laneRecordWrite n ok s) = besideCells s := by
  rw [laneRecordWrite]
  split
  · rfl
  · split
    · rfl
    · simp [publishLane, prepareLane]

theorem laneLdg_laneRecordWrite_of_ne {s : State} {n m : Nat} (hne : m ≠ n) (ok : Bool) : laneLdg (laneRecordWrite n ok s) m = laneLdg s m := by
  rw [laneRecordWrite]
  split
  · rfl
  · split
    · rfl
    · dsimp only
      rw [publishLane, laneLdg_increment, laneLdg_modLaneLdg, if_neg hne, laneLdg_of_counts (counts_prepareLane _ _ _), laneLdg_modLaneLdg, if_neg hne]

/-- Settles O24: each command by what it leaves beside its lane or its cells. -/
theorem laneAndCounterFrames : Obligations.LaneAndCounterFrames := by
  refine fun s t n => ⟨fun c hc hexec => laneRequestsChangeTheirLane hc hexec, fun hexec => ?decision, fun k hexec => ?carry, fun ok hexec => ?record⟩
  case decision =>
    rw [done_next (t := decisionPoint n s) hexec]
    exact eq_of_besideLane (besideLane_withPending (besideLane_decisionPoint n s))
  case carry =>
    rw [done_next (t := carryCompletion n k s) hexec]
    exact ⟨eq_of_besideCells (besideCells_withPending (besideCells_carryCompletion s n k)), fun m hm hanchor => counterOf_carryCompletion_of_ne hm hanchor k⟩
  case record =>
    rw [done_next (t := laneRecordWrite n ok s) hexec]
    exact ⟨eq_of_besideCells (besideCells_withPending (besideCells_laneRecordWrite s n ok)), fun m hm => laneLdg_laneRecordWrite_of_ne hm ok⟩

end Sys2Proof.Machine
end

section
/-! PROOFS. Commands that change one unit alone. -/

namespace Sys2Proof.Machine

theorem eq_of_done {s t u : State} (hexec : done s u = .next t) (hpending : u.pending = s.pending) : t = u := by
  rw [done_next hexec, ← hpending]
  rfl

/-! ### Reading jobs -/

/-- Only a job's record has changed. -/
def OnlyJob (j : Nat) (s t : State) : Prop := t = { s with job := t.job } ∧ ∀ k, k ≠ j → t.jobOf k = s.jobOf k

theorem onlyJob_refl (j : Nat) (s : State) : OnlyJob j s s := ⟨rfl, fun _ _ => rfl⟩

theorem onlyJob_setResult (j : Nat) (r : Result) (s : State) : OnlyJob j s (setResult j r s) :=
  ⟨rfl, fun k hk => by rw [jobOf_setResult, if_neg hk]⟩

theorem onlyJob_of_done {j : Nat} {s t u : State} (hexec : done s u = .next t) (h : OnlyJob j s u) : OnlyJob j s t := by
  rwa [eq_of_done hexec (by rw [h.1])]

theorem readingJobsChangeTheirRecord {c : Instr} {s t : State} (hexec : exec c s = .next t) (j : Nat)
    (hc : c = .nop j ∨ c = .dovetailQuery j ∨ c = .laneStatus j ∨ c = .ledgerRead j ∨ c = .ledgerIdentity j ∨ c = .pageQuery j ∨ c = .eventSnapshot j ∨
      c = .journalRead j) : OnlyJob j s t := by
  rcases hc with rfl | rfl | rfl | rfl | rfl | rfl | rfl | rfl
  all_goals
    refine onlyJob_of_done hexec ?_
    simp only [nopJob, dovetailQuery, laneStatus, ledgerRead, ledgerIdentity, pageQuery, eventSnapshot, journalRead]
    split
    · exact onlyJob_refl j s
    · exact onlyJob_setResult j _ s

/-! ### Lines of the lanes -/

/-- Only a lane has changed. -/
def OnlyLane (n : Nat) (s t : State) : Prop := t = { s with mtr := t.mtr } ∧ ∀ m, m ≠ n → t.lane m = s.lane m

theorem onlyLane_refl (n : Nat) (s : State) : OnlyLane n s s := ⟨rfl, fun _ _ => rfl⟩

theorem onlyLane_modLane (n : Nat) (g : Lane → Lane) (s : State) : OnlyLane n s (modLane n g s) :=
  ⟨rfl, fun m hm => by rw [lane_modLane, if_neg hm]⟩

theorem onlyLane_of_done {n : Nat} {s t u : State} (hexec : done s u = .next t) (h : OnlyLane n s u) : OnlyLane n s t := by
  rwa [eq_of_done hexec (by rw [h.1])]

theorem onlyLane_laneResponse (n : Nat) (clean : Bool) (bs : List Byte) (s : State) : OnlyLane n s (laneResponse n clean bs s) := by
  rw [laneResponse]
  split
  · exact onlyLane_refl n s
  · split
    · exact onlyLane_refl n s
    · split
      · exact onlyLane_modLane n _ s
      · split
        · exact onlyLane_modLane n _ s
        · exact onlyLane_modLane n _ s

theorem lineEventsChangeTheirLane {c : Instr} {s t : State} (hexec : exec c s = .next t) (n : Nat) (k : Bool) (bs : List Byte)
    (hc : c = .reading n k bs ∨ c = .identity n k bs ∨ c = .laneResponseTimeout n ∨ c = .pulse n ∨ c = .laneJoin n) : OnlyLane n s t := by
  rcases hc with rfl | rfl | rfl | rfl | rfl
  · exact onlyLane_of_done (u := reading n k bs s) hexec (onlyLane_laneResponse n k bs s)
  · exact onlyLane_of_done (u := identity n k bs s) hexec (onlyLane_laneResponse n k bs s)
  · refine onlyLane_of_done (u := laneResponseTimeout n s) hexec ?_
    rw [laneResponseTimeout]
    split
    · exact onlyLane_modLane n _ s
    · exact onlyLane_refl n s
  · refine onlyLane_of_done (u := pulse n s) hexec ?_
    rw [pulse]
    split
    · exact onlyLane_modLane n _ s
    · exact onlyLane_refl n s
  · refine onlyLane_of_done (u := laneJoin n s) hexec ?_
    rw [laneJoin]
    split
    · exact onlyLane_refl n s
    · split
      · exact onlyLane_modLane n _ s
      · exact onlyLane_refl n s

/-! ### The monitor's calls -/

/-- Only a world has changed, and its memory not. -/
def OnlyWorld (w : Nat) (s t : State) : Prop := t = { s with wld := t.wld } ∧ t.wld.mem = s.wld.mem ∧ ∀ v, v ≠ w → t.world v = s.world v

theorem onlyWorld_refl (w : Nat) (s : State) : OnlyWorld w s s := ⟨rfl, rfl, fun _ _ => rfl⟩

theorem onlyWorld_modWorld (w : Nat) (g : World → World) (s : State) : OnlyWorld w s (modWorld w g s) :=
  ⟨rfl, rfl, fun v hv => by rw [world_modWorld, if_neg hv]⟩

theorem onlyWorld_of_done {w : Nat} {s t u : State} (hexec : done s u = .next t) (h : OnlyWorld w s u) : OnlyWorld w s t := by
  rwa [eq_of_done hexec (by rw [h.1])]

theorem callsChangeTheirWorld {c : Instr} {s t : State} (hexec : exec c s = .next t) (w : Nat)
    (hc : c = .yield w ∨ c = .msgRecv w ∨ c = .msgDone w ∨ c = .lNow w) : OnlyWorld w s t := by
  rcases hc with rfl | rfl | rfl | rfl
  · refine onlyWorld_of_done (u := yield w s) hexec ?_
    rw [yield]
    split
    · exact onlyWorld_modWorld w _ { s with wld := { s.wld with yielded := true } }
    · exact onlyWorld_refl w s
  · refine onlyWorld_of_done (u := msgRecv w s) hexec ?_
    rw [msgRecv]
    split
    · split
      · split
        · exact onlyWorld_modWorld w _ s
        · exact onlyWorld_modWorld w _ s
      · exact onlyWorld_modWorld w _ s
    · exact onlyWorld_refl w s
  · refine onlyWorld_of_done (u := msgDone w s) hexec ?_
    rw [msgDone]
    split
    · exact onlyWorld_modWorld w _ s
    · exact onlyWorld_refl w s
  · refine onlyWorld_of_done (u := lNow w s) hexec ?_
    rw [lNow]
    split
    · exact onlyWorld_modWorld w _ s
    · exact onlyWorld_refl w s

/-! ### The recorder -/

/-- All but the events. -/
def besideEvents (s : State) : State := { s with evt := {} }

theorem eq_of_besideEvents {s t u : State} (hexec : done s u = .next t) (h : besideEvents u = besideEvents s) : t = { s with evt := t.evt } := by
  rw [eq_of_done hexec (congrArg (·.pending) h)]
  exact congrArg (fun v : State => { v with evt := u.evt }) h

section
variable (s : State)

@[simp] theorem besideEvents_raiseEv (code sev a b c : Nat) : besideEvents (raiseEv code sev a b c s) = besideEvents s := by simp [besideEvents]
@[simp] theorem besideEvents_countLost (code : Nat) : besideEvents (countLost code s) = besideEvents s := by simp [besideEvents]
@[simp] theorem besideEvents_countOver (code sev : Nat) : besideEvents (countOver code sev s) = besideEvents s := rfl

@[simp] theorem besideEvents_journalQueue (r : Record) : besideEvents (journalQueue r s) = besideEvents s := by
  rw [journalQueue]
  split
  · rfl
  · split
    · rfl
    · rw [besideEvents_raiseEv]
      rfl

theorem besideEvents_place (r : Record) : besideEvents (place r s) = besideEvents s := by
  have hqueue := besideEvents_journalQueue s r
  rw [place]
  generalize journalQueue r s = u at hqueue ⊢
  dsimp only
  split
  · exact hqueue
  · split
    · exact hqueue
    · split
      · rw [besideEvents_countLost]
        split <;> exact hqueue
      · refine Eq.trans ?_ hqueue
        split
        · rfl
        · rfl

theorem besideEvents_eventIntake : besideEvents (eventIntake s) = besideEvents s := by
  rw [eventIntake]
  split
  · rfl
  · split
    · exact besideEvents_place _ _
    · rfl

theorem besideEvents_ackRing (w : Word) : besideEvents (ackRing w s) = besideEvents s := by
  rw [ackRing]
  split <;> rfl

theorem besideEvents_ackJournal (w : Word) : besideEvents (ackJournal w s) = besideEvents s := by
  rw [ackJournal]
  split <;> rfl

theorem besideEvents_selectRecord (w : Word) : besideEvents (selectRecord w s) = besideEvents s := by
  rw [selectRecord]
  dsimp only
  split
  · rfl
  · split <;> rfl

theorem besideEvents_openBlock (first : Word) : besideEvents (openBlock first s) = besideEvents s := by
  rw [openBlock]
  dsimp only
  split
  · rfl
  · split
    · rfl
    · split
      · rfl
      · refine (besideEvents_raiseEv _ _ _ _ _ _ : _).trans ?_
        rfl

theorem besideEvents_appendJournal (r : Record) : besideEvents (appendJournal r s) = besideEvents s := by
  rw [appendJournal]
  split <;> rfl

theorem besideEvents_journalProgram (ok : Bool) : besideEvents (journalProgram ok s) = besideEvents s := by
  rw [journalProgram]
  split
  · rfl
  next r rest _ =>
    generalize hu : (if blockOpen s then s else openBlock r.seq s) = u
    have hopen : besideEvents u = besideEvents s := by
      rw [← hu]
      split
      · rfl
      · exact besideEvents_openBlock s r.seq
    dsimp only
    split
    · exact (besideEvents_appendJournal _ r).trans hopen
    · split
      · exact hopen
      · rw [besideEvents_raiseEv]
        exact hopen

theorem besideEvents_whenAwake {g : State → State} (h : besideEvents (g s) = besideEvents s) : besideEvents (whenAwake g s) = besideEvents s := by
  rw [whenAwake]
  split
  · exact h
  · rfl

theorem besideEvents_onHost {f : Nat} {g : State → State} (h : besideEvents (g s) = besideEvents s) : besideEvents (onHost f g s) = besideEvents s := by
  rw [onHost]
  split
  · exact h
  · rfl

end

theorem recorderChangesTheEvents {c : Instr} {s t : State} (hexec : exec c s = .next t) (w : Word) (ok : Bool)
    (hc : c = .eventIntake ∨ c = .evtAckSeq w ∨ c = .evtSelSeq w ∨ c = .evtJournalAck w ∨ c = .journalProgram ok) : t = { s with evt := t.evt } := by
  rcases hc with rfl | rfl | rfl | rfl | rfl
  · exact eq_of_besideEvents hexec (besideEvents_whenAwake s (besideEvents_eventIntake s))
  · exact eq_of_besideEvents hexec (besideEvents_onHost s (besideEvents_ackRing s w))
  · exact eq_of_besideEvents hexec (besideEvents_onHost s (besideEvents_selectRecord s w))
  · exact eq_of_besideEvents hexec (besideEvents_onHost s (besideEvents_ackJournal s w))
  · exact eq_of_besideEvents hexec (besideEvents_whenAwake s (besideEvents_journalProgram s ok))

/-! ### The clock and the link -/

theorem besideTime_ppsEdge (stamp cycle : Nat) (s : State) : ∃ t, ppsEdge stamp cycle s = { s with time := t } := by
  rw [ppsEdge]
  dsimp only
  split
  · exact ⟨s.time, rfl⟩
  · split
    · exact ⟨_, rfl⟩
    · split
      · exact ⟨_, rfl⟩
      · exact ⟨_, rfl⟩

theorem clockEventsChangeTheTime {c : Instr} {s t : State} (hexec : exec c s = .next t) (stamp cycle : Nat)
    (hc : c = .ppsEdge stamp cycle ∨ c = .ppsIntervalTimeout) : t = { s with time := t.time } := by
  rcases hc with rfl | rfl
  · obtain ⟨u, hu⟩ := besideTime_ppsEdge stamp cycle s
    rw [eq_of_done (u := ppsEdge stamp cycle s) hexec (by rw [hu]), hu]
  · rw [done_next (t := ppsIntervalTimeout s) hexec, ppsIntervalTimeout]
    split <;> rfl

theorem trainingChangesTheLink {s t : State} {a b : Nat} {v : Bool} (hexec : exec (.linkTraining a b v) s = .next t) : t = { s with hlk := t.hlk } := by
  rw [done_next (t := linkTraining a b v s) hexec, linkTraining]
  split <;> rfl

/-! ### Sources -/

/-- What a source's raw bits leave alone: all but the random numbers, the events and the jobs; and the other sources. -/
def besideSource (n : Nat) (s : State) : State × (Nat → Option Source) :=
  ({ s with rng := {}, evt := {}, job := {} }, fun m => if m = n then none else some (sourceOf s m))

theorem eq_of_besideSource {n : Nat} {s t u : State} (hexec : done s u = .next t) (h : besideSource n u = besideSource n s) :
    t = { s with rng := t.rng, evt := t.evt, job := t.job } ∧ ∀ m, m ≠ n → sourceOf t m = sourceOf s m := by
  rw [eq_of_done hexec (congrArg (·.1.pending) h)]
  refine ⟨congrArg (fun v : State × (Nat → Option Source) => { v.1 with rng := u.rng, evt := u.evt, job := u.job }) h, fun m hm => ?_⟩
  have hsource := congrFun (congrArg Prod.snd h) m
  simpa [besideSource, hm] using hsource

section
variable (n : Nat) (s : State)

@[simp] theorem besideSource_modSource (g : Source → Source) : besideSource n (modSource n g s) = besideSource n s := by
  refine Prod.ext rfl (funext fun m => ?_)
  by_cases hm : m = n <;> simp [besideSource, hm]

theorem besideSource_credits (l : List (List Byte)) : besideSource n { s with rng := { s.rng with credits := l } } = besideSource n s := rfl

@[simp] theorem besideSource_modJob (j : Nat) (g : Job → Job) : besideSource n (modJob j g s) = besideSource n s := rfl

@[simp] theorem besideSource_raiseEv (code sev a b c : Nat) : besideSource n (raiseEv code sev a b c s) = besideSource n s := by
  refine Prod.ext ?_ (funext fun m => ?_)
  · simp [besideSource]
  · simp [besideSource]

@[simp] theorem besideSource_failSource (test : Nat) : besideSource n (failSource n test s) = besideSource n s := by
  rw [failSource]
  split <;> simp

@[simp] theorem besideSource_healthIntermittent (test : Nat) : besideSource n (healthIntermittent n test s) = besideSource n s := by
  rw [healthIntermittent]
  split <;> simp

@[simp] theorem besideSource_windowClose : besideSource n (windowClose n s) = besideSource n s := by
  rw [windowClose]
  dsimp only
  split
  · split
    · simp
    · rw [besideSource_credits, besideSource_modSource, besideSource_modSource]
  · simp

@[simp] theorem besideSource_tapSample (b : Bool) : besideSource n (tapSample n b s) = besideSource n s := by
  rw [tapSample]
  split
  · rfl
  · dsimp only
    split
    · split
      · simp
      · split <;> simp
    · simp

@[simp] theorem besideSource_takeSample (b : Bool) : besideSource n (takeSample n b s) = besideSource n s := by
  rw [takeSample]
  dsimp only
  split
  · simp
  · split
    · simp
    · split <;> simp

@[simp] theorem besideSource_rawBit (b : Bool) : besideSource n (rawBit n b s) = besideSource n s := by
  rw [rawBit]
  dsimp only
  split
  · split <;> simp
  · simp

theorem besideSource_takeRaw (raw : List Bool) : besideSource n (whenAwake (takeRaw n raw) s) = besideSource n s := by
  rw [whenAwake]
  split
  · rw [takeRaw]
    split
    · exact forEach_keeps (besideSource n) raw (rawBit n) (fun b u => besideSource_rawBit n u b) s
    · rfl
  · rfl

end

/-- Settles O23: unit by unit. -/
theorem commandsOfOneUnitChangeItAlone : Obligations.CommandsOfOneUnitChangeItAlone := by
  refine fun c s t hexec => ⟨readingJobsChangeTheirRecord hexec, lineEventsChangeTheirLane hexec, callsChangeTheirWorld hexec, recorderChangesTheEvents hexec,
    clockEventsChangeTheTime hexec, fun n raw hc => ?source, fun a b v hc => ?link⟩
  case source =>
    rcases hc with rfl | rfl
    · exact eq_of_besideSource hexec (besideSource_takeRaw n s raw)
    · exact eq_of_besideSource hexec (besideSource_takeRaw n s raw)
  case link =>
    subst hc
    exact trainingChangesTheLink hexec

end Sys2Proof.Machine
end

section
/-! PROOFS. The boundaries of transits, meter frames and orbits (R33, R34, R38). -/

namespace Sys2Proof.Machine

/-! ### Transits -/

/-- What a transit's end and its noise samples leave for the boundary. -/
def transitEnded (inp : TransitInput) (s : State) : State := forEach inp.tiles tileReading (noiseSamples inp (transitEnd inp s))

theorem L_transitEnded (inp : TransitInput) (s : State) : (transitEnded inp s).time.L = s.time.L :=
  (forEach_keeps (·.time.L) _ tileReading (fun r u => tileReading_clk r u) _).trans (by simp)

theorem transitBoundary_of_not_held {inp : TransitInput} {s : State} (hrun : s.time.genRunning = true)
    (hfree : ¬((s.time.L + 1) % orbitL = 0 ∧ counterValue (counterOf s 0) < (s.time.L + 1) / orbitL)) :
    transitBoundary inp s = nightGoesOn (inOneCycle boundaryWork (transitEnded inp s)) := by
  rw [transitBoundary, hrun, if_neg (by decide)]
  dsimp only
  rw [if_neg (fun h => hfree h.1), if_neg hfree]
  rfl

/-- The order of the events of one cycle touches no time. -/
theorem time_inOneCycle (f : State → State) (s : State) : (inOneCycle f s).time = (f s).time := rfl

theorem transitBoundary_of_held {inp : TransitInput} {s : State} (hrun : s.time.genRunning = true)
    (hheld : (s.time.L + 1) % orbitL = 0 ∧ counterValue (counterOf s 0) < (s.time.L + 1) / orbitL) (hworn : (counterOf s 0).worn = false) :
    transitBoundary inp s = s := by
  rw [transitBoundary, hrun, if_neg (by decide)]
  dsimp only
  rw [if_pos ⟨hheld, hworn⟩]

theorem L_transit (inp : TransitInput) (s : State) : (inOneCycle boundaryWork (transitEnded inp s)).time.L = s.time.L + 1 := by
  rw [time_inOneCycle, boundaryWork_L, L_transitEnded]

theorem transitBoundaryBeginsTheNextTransit : Claims.TransitBoundaryBeginsTheNextTransit := by
  refine fun inp s hrun => ⟨fun hfree => ⟨inOneCycle boundaryWork (transitEnded inp s), L_transit inp s, ?_⟩, fun hheld hworn => ?_⟩
  · exact does_of_exec_eq_done (congrArg (done s) (transitBoundary_of_not_held hrun hfree))
  · exact does_of_exec_eq_done (congrArg (done s) (transitBoundary_of_held hrun hheld hworn))

/-! ### Meter frames -/

section
variable (s : State)

@[simp] theorem time_increment (id : Nat) (ok : Bool) : (increment id ok s).time = s.time := by simp

@[simp] theorem time_recordsLost : (recordsLost s).time = s.time := by
  simp only [recordsLost]
  split
  · rfl
  · simp

@[simp] theorem time_rejoinThawed : (rejoinThawed s).time = s.time := rfl

@[simp] theorem time_writeAnchor (ok : Bool) : (writeAnchor ok s).time = s.time := by
  rw [writeAnchor]
  split
  · rfl
  · simp

@[simp] theorem aonL_periodClose (ok : Bool) : (periodClose ok s).time.aonL = s.time.aonL := by
  rw [periodClose]
  dsimp only
  split
  · rfl
  · refine (forEach_keeps (·.time.aonL) _ _ (fun n u => ?_) _).trans ?_
    · rfl
    · rw [time_writeAnchor]
      rfl

theorem aonL_frameWork (ok : Bool) : (frameWork ok s).time.aonL = s.time.L := by
  rw [frameWork]
  dsimp only
  rw [aonL_periodClose]
  split <;> split <;> split <;> simp

end

/-! ### Orbits -/

theorem orbitBoundary_of_orbit {s : State} (hrun : s.time.genRunning = true) (hL : s.time.L % orbitL = 0) :
    (orbitBoundary s).orr.tiles = Tab.mapAll s.orr.tiles (fun _ x => { x with verifyFails := 0 }) ∧
      (orbitBoundary s).rng.sources = Tab.mapAll s.rng.sources (fun _ x => { x with faults := 0 }) ∧ (orbitBoundary s).tam.repeats = [] := by
  have hnotices : ∀ u : State, (untestedNotice (splitNotice u)).orr = u.orr ∧ (untestedNotice (splitNotice u)).rng = u.rng ∧
      (untestedNotice (splitNotice u)).tam = u.tam := by
    intro u
    have hsplit : (splitNotice u).orr = u.orr ∧ (splitNotice u).rng = u.rng ∧ (splitNotice u).tam = u.tam := by
      rw [splitNotice]
      split
      · split <;> simp
      · exact ⟨rfl, rfl, rfl⟩
    rw [untestedNotice]
    split
    · simpa using hsplit
    · exact hsplit
  rw [orbitBoundary, if_pos ⟨hrun, hL⟩]
  obtain ⟨horr, hrng, htam⟩ := hnotices (orbitSources { s with
    orr := { s.orr with tiles := Tab.mapAll s.orr.tiles (fun _ x => { x with verifyFails := 0 }) }, tam := { s.tam with repeats := [] } })
  exact ⟨congrArg (·.tiles) horr, congrArg (·.sources) hrng, congrArg (·.repeats) htam⟩

theorem aonL_meterFrameBoundary {s : State} (hrun : s.time.genRunning = true) (hL : s.time.L % frameL = 0) (hnew : s.time.aonL ≠ s.time.L) (ok : Bool) :
    (meterFrameBoundary ok s).time.aonL = s.time.L := by
  rw [meterFrameBoundary, if_pos ⟨hrun, hL, hnew⟩, time_inOneCycle, aonL_frameWork]

theorem frameAndOrbitBoundaries : Claims.FrameAndOrbitBoundaries := by
  refine fun s hrun => ⟨fun ok hL hnew => ?frame, fun hL => ?orbit⟩
  case frame =>
    apply yields_of_exec_eq_done rfl
    exact ⟨aonL_meterFrameBoundary hrun hL hnew ok, meterFrameBoundary_clk ok s⟩
  case orbit =>
    apply yields_of_exec_eq_done rfl
    obtain ⟨htiles, hsources, hrepeats⟩ := orbitBoundary_of_orbit hrun hL
    refine ⟨fun e he => ?_, fun e he => ?_, hrepeats⟩
    · obtain ⟨d, -, rfl⟩ := List.mem_map.1 (htiles ▸ he : e ∈ Tab.mapAll s.orr.tiles (fun _ x => { x with verifyFails := 0 }))
      rfl
    · obtain ⟨d, -, rfl⟩ := List.mem_map.1 (hsources ▸ he : e ∈ Tab.mapAll s.rng.sources (fun _ x => { x with faults := 0 }))
      rfl

/-- Settles O32: transits, then meter frames and orbits. -/
theorem boundariesOfTransitsFramesAndOrbits : Obligations.BoundariesOfTransitsFramesAndOrbits :=
  ⟨transitBoundaryBeginsTheNextTransit, frameAndOrbitBoundaries⟩

end Sys2Proof.Machine
end

section
/-! PROOFS. The phases of a transit: planning (R62, R303), operands (R61, R64, R216) and commit phases (R75, R169, R191). -/

namespace Sys2Proof.Machine

/-! ### The planning tail -/

/-- What the planned books rest on. -/
def bookBase (s : State) : JobState × OrrState × Bool × Nat × Nat := (s.job, s.orr, s.hlk.up, s.hlk.lanes, s.hlk.gts)

theorem needPlanned_of_job_eq {s t : State} (h : t.job = s.job) (k tau j : Nat) : needPlanned t k tau j = needPlanned s k tau j := by
  rw [needPlanned, bookings, liveJobs, h, needPlanned, bookings, liveJobs]

/-- The books of the planned transit and the allowance of the read backing. -/
theorem planBooks_spec (u : State) : (planBooks u).orr.maskPlanned = needPlanned (planBooks u) 0 (u.time.L + 1) (planBooks u).job.nextJob ∧
    (planBooks u).orr.kgPlanned = needPlanned (planBooks u) 2 (u.time.L + 1) (planBooks u).job.nextJob ∧
    (planBooks u).orr.portPlanned ≤ allowOf (planBooks u) 1 :=
  ⟨rfl, rfl, Nat.min_le_left _ _⟩

theorem bookBase_reportMask (u : State) : bookBase (reportMask u) = bookBase u := by
  rw [reportMask]
  split <;> simp [bookBase]

theorem planned_of_bookBase {u v : State} {L : Nat} (h : bookBase v = bookBase u)
    (hu : u.orr.maskPlanned = needPlanned u 0 (L + 1) u.job.nextJob ∧ u.orr.kgPlanned = needPlanned u 2 (L + 1) u.job.nextJob ∧
      u.orr.portPlanned ≤ allowOf u 1) :
    v.orr.maskPlanned = needPlanned v 0 (L + 1) v.job.nextJob ∧ v.orr.kgPlanned = needPlanned v 2 (L + 1) v.job.nextJob ∧
      v.orr.portPlanned ≤ allowOf v 1 := by
  simp only [bookBase, Prod.mk.injEq] at h
  obtain ⟨hjob, horr, hup, hlanes, hgts⟩ := h
  have hallow : allowOf v 1 = allowOf u 1 := by simp only [allowOf, if_true, bLink, hup, hlanes, hgts]
  rwa [needPlanned_of_job_eq hjob, needPlanned_of_job_eq hjob, horr, hjob, hallow]

theorem bookBase_underStructure (c : Carcass) (f : State → State) (u : State) :
    bookBase (underStructure c f u) = bookBase (f { u with car := { u.car with active := c } }) := rfl

theorem planTail_eq (s : State) : ∃ u, planTail s = reportMask (planBooks u) ∧ u.time.L = s.time.L := by
  refine ⟨_, rfl, ?_⟩
  have hL := planTail_clk s
  rw [planTail] at hL
  rwa [reportMask_clk, planBooks_clk] at hL

/-- PLANNING_TAIL in a running device: the plan of the next transit, under its structure. -/
theorem planningTail_of_run {s : State} (hgen : s.time.genRunning = true) (hrun : s.glb.phase = .run) :
    ∃ u, bookBase (planningTail s) = bookBase (planBooks u) ∧ u.time.L = s.time.L := by
  obtain ⟨u, hplan, hL⟩ := planTail_eq { abandonTimely (bistTail s) with car := { (abandonTimely (bistTail s)).car with active := nextStructure s } }
  refine ⟨u, ?_, hL.trans (by simp)⟩
  have hopen : ∀ v : State, bookBase (openTail v) = bookBase v := fun v => by
    rw [openTail]
    split <;> rfl
  rw [planningTail, if_pos ⟨hgen, hrun⟩, hopen, bookBase_underStructure, hplan, bookBase_reportMask]

/-! ### Operands -/

section
variable {s : State} {j : Nat} {x : Job} {input aux extra : List Byte}

theorem operandStaged_of_ok (hx : s.jobOf j = some x) (hlive : x.finished = false) (hnew : x.staged = false) (hpark : x.park = none)
    (hplace : x.desc.cls = 0 ∨ x.st ≠ .queued) (hok : ∀ p ∈ stagePages x input aux extra, meetPage s x.fn 1 p.1 = .ok) :
    operandStaged j input aux extra s = modJob j (stageBytes s.time.L input aux extra) s := by
  have hcond : ¬(x.finished ∨ x.staged ∨ x.park.isSome ∨ (x.desc.cls ≠ 0 ∧ x.st = .queued)) := by
    rcases hplace with h | h <;> simp [hlive, hnew, hpark, h]
  rw [operandStaged, hx]
  dsimp only
  rw [if_neg hcond]
  split
  case h_3 => rfl
  all_goals
    next hfound =>
    obtain ⟨q, hq, hmeet⟩ := List.exists_of_findSome?_eq_some hfound
    simp [hok q hq] at hmeet

theorem operandStaged_of_fault (hx : s.jobOf j = some x) (hlive : x.finished = false) (hnew : x.staged = false) (hpark : x.park = none)
    (hplace : x.desc.cls = 0 ∨ x.st ≠ .queued) {page a : Nat} {l : List (Nat × Nat)} (hpages : stagePages x input aux extra = (page, a) :: l)
    (hmeet : meetPage s x.fn 1 page = .fault) :
    operandStaged j input aux extra s = if x.desc.cls = 0 then modJob j (fun y => { y with missing := some page }) s
      else if x.plane = 1 then abandonJob j page s else parkJob j page 1 (2 ^ 32) s := by
  have hcond : ¬(x.finished ∨ x.staged ∨ x.park.isSome ∨ (x.desc.cls ≠ 0 ∧ x.st = .queued)) := by
    rcases hplace with h | h <;> simp [hlive, hnew, hpark, h]
  rw [operandStaged, hx]
  dsimp only
  rw [if_neg hcond, hpages, List.findSome?_cons]
  simp only [hmeet]
  rfl

/-- Operands that are not a ferried blob's, or not all there, are taken as they are. -/
theorem takeOperands_of_other (h : ∀ y, (operandStaged j input aux extra s).jobOf j = some y → ¬(y.desc.opcode = 0x7005 ∧ y.staged ∧ y.finished = false ∧ y.answer = none)) :
    takeOperands j input aux extra s = operandStaged j input aux extra s := by
  rw [takeOperands]
  split
  · rfl
  next y hy => rw [if_neg (h y hy)]

theorem refuseLong_of_finished (h : ∀ y, s.jobOf j = some y → y.finished = true) : refuseLong j s = s := by
  rw [refuseLong]
  split
  · rfl
  next y hy => rw [if_neg (by simp [h y hy])]

theorem jobOf_parkJob (hx : s.jobOf j = some x) (page right ran : Nat) :
    (parkJob j page right ran s).jobOf j = some (Job.parkedOn s.time.L page right ran x) := by
  rw [parkJob_eq hx]
  split <;> simp [hx]

theorem staged_parkedOn (L page right ran : Nat) (x : Job) : (Job.parkedOn L page right ran x).staged = x.staged := by
  rw [Job.parkedOn, keepRan]
  split <;> rfl

/-- A job that a missing page stopped has taken no operands, or has ended. -/
theorem unstaged_or_ended_of_fault (hx : s.jobOf j = some x) (hnew : x.staged = false) (page : Nat) {y : Job}
    (hy : (if x.desc.cls = 0 then modJob j (fun y => { y with missing := some page }) s
      else if x.plane = 1 then abandonJob j page s else parkJob j page 1 (2 ^ 32) s).jobOf j = some y) : y.staged = false ∨ y.finished = true := by
  split at hy
  · rw [jobOf_modJob, if_pos rfl, hx] at hy
    obtain rfl := Option.some.inj hy
    exact Or.inl hnew
  · split at hy
    · have hend : Ended j (abandonJob j page s) := ended_abandonJob hx
      rw [Ended, hy] at hend
      exact Or.inr (Option.some.inj hend)
    · rw [jobOf_parkJob hx] at hy
      obtain rfl := Option.some.inj hy
      exact Or.inl ((staged_parkedOn _ _ _ _ x).trans hnew)

theorem takeOperands_of_ferried (hx : s.jobOf j = some x) (hlive : x.finished = false)
    (htaken : operandStaged j input aux extra s = modJob j (stageBytes s.time.L input aux extra) s)
    (hstaged : (stageBytes s.time.L input aux extra x).staged = true) (hanswer : x.answer = none) (hop : x.desc.opcode = 0x7005)
    (hforeign : leAt (stageBytes s.time.L input aux extra x).input 6 1 ≠ cabOfFn s x.fn) :
    (takeOperands j input aux extra s).jobOf j = some { stageBytes s.time.L input aux extra x with answer := some (0x3001, 16, 6, 0), plan := [] } := by
  generalize hu : modJob j (stageBytes s.time.L input aux extra) s = u
  have hy : u.jobOf j = some (stageBytes s.time.L input aux extra x) := by rw [← hu, jobOf_modJob, if_pos rfl, hx]; rfl
  have hcab : cabOfFn u x.fn = cabOfFn s x.fn := by rw [← hu]; rfl
  have hrefused : ferriedRefusal u (stageBytes s.time.L input aux extra x) = some (0x3001, 16, 6, 0) := by
    rw [← hcab] at hforeign
    rw [ferriedRefusal]
    exact if_pos hforeign
  have hcond : (stageBytes s.time.L input aux extra x).desc.opcode = 0x7005 ∧ (stageBytes s.time.L input aux extra x).staged ∧
      (stageBytes s.time.L input aux extra x).finished = false ∧ (stageBytes s.time.L input aux extra x).answer = none := ⟨hop, hstaged, hlive, hanswer⟩
  rw [takeOperands, htaken, hu]
  simp only [hy, if_pos hcond, hrefused, jobOf_modJob, if_true, Option.map_some]

theorem refuseLong_of_answered (h : ∀ y, s.jobOf j = some y → y.answer ≠ none) : refuseLong j s = s := by
  rw [refuseLong]
  split
  · rfl
  next y hy => rw [if_neg (fun hc => h y hy hc.2.1)]

end

theorem planningAndStaging : Claims.PlanningAndStaging := by
  refine ⟨fun s hgen hrun => ?plan, fun s j input aux extra x hx hlive hnew hpark hplace => ⟨fun hop hok => ?stage, fun page a l hpages hmeet => ?fault,
    fun y hy hstaged hanswer hop hforeign hok => ?ferried⟩⟩
  case plan =>
    apply yields_of_exec_eq_done rfl
    obtain ⟨u, hbase, hL⟩ := planningTail_of_run hgen hrun
    rw [← hL]
    exact planned_of_bookBase (v := (planningTail s).withPending s.pending) hbase (planBooks_spec u)
  case stage =>
    refine does_of_exec_eq_done (congrArg (done s) ?_)
    have htaken := operandStaged_of_ok hx hlive hnew hpark hplace hok
    rw [stageJob, takeOperands_of_other, htaken]
    intro y hy
    rw [htaken, jobOf_modJob, if_pos rfl, hx] at hy
    obtain rfl : stageBytes s.time.L input aux extra x = y := Option.some.inj hy
    exact fun h => hop h.1
  case fault =>
    refine does_of_exec_eq_done (congrArg (done s) ?_)
    have htaken := operandStaged_of_fault hx hlive hnew hpark hplace hpages hmeet
    have hother : takeOperands j input aux extra s = operandStaged j input aux extra s := by
      refine takeOperands_of_other fun y hy h => ?_
      rw [htaken] at hy
      rcases unstaged_or_ended_of_fault hx hnew page hy with hy | hy
      · exact Bool.noConfusion (hy.symm.trans h.2.1)
      · exact Bool.noConfusion (hy.symm.trans h.2.2.1)
    rw [stageJob, hother, htaken]
    split
    · rfl
    · split
      · refine refuseLong_of_finished fun y hy => ?_
        have hend : Ended j (abandonJob j page s) := ended_abandonJob hx
        rw [Ended, hy] at hend
        exact Option.some.inj hend
      · rfl
  case ferried =>
    apply yields_of_exec_eq_done rfl
    subst hy
    have hjob := takeOperands_of_ferried hx hlive (operandStaged_of_ok hx hlive hnew hpark hplace hok) hstaged hanswer hop hforeign
    have hkept : refuseLong j (takeOperands j input aux extra s) = takeOperands j input aux extra s := by
      refine refuseLong_of_answered fun y hy => ?_
      rw [hjob] at hy
      obtain rfl := Option.some.inj hy
      exact Option.some_ne_none _
    rw [stageJob, hkept, jobOf_withPending, hjob]
    exact ⟨rfl, rfl⟩

/-! ### Commit phases -/

section
variable {s : State} {j n : Nat} {ok : Bool} {x : Job} {r : Result}

theorem burstLen_of_nothing (hout : r.output = []) (hrecord : r.record = none) : burstLen x r = 0 := by
  simp [burstLen, commitRanges, hout, hrecord]

theorem prepareUpdate_of_no_effect (hx : s.jobOf j = some x) (hresult : x.result = some r) (heffects : r.effects = []) : prepareUpdate j s = s := by
  simp [prepareUpdate, hx, hresult, resultGroups, heffects]

theorem finalHeld_of_commitReady (h : commitReady s j x = true) : finalHeld s j x = false := by
  simp only [commitReady, Bool.and_eq_true, Bool.not_eq_true'] at h
  obtain ⟨⟨⟨_, hheld⟩, _⟩, _⟩ := h
  exact hheld

theorem finished_of_commitReady (h : commitReady s j x = true) : x.finished = false := by
  simp only [commitReady, Bool.and_eq_true, Bool.not_eq_true'] at h
  obtain ⟨⟨⟨⟨⟨⟨_, hlive⟩, _⟩, _⟩, _⟩, _⟩, _⟩ := h
  exact hlive

theorem ended_finishCommit (hx : (s.jobOf j).isSome = true) (heffects : r.effects = []) : Ended j (finishCommit j x r s) := by
  obtain ⟨y, hy⟩ := Option.isSome_iff_exists.1 hx
  rw [finishCommit, heffects]
  exact ended_endJob hy _ _ _ _

/-- A burst of no bytes ends its job at once. -/
theorem ended_advanceBurst (hx : (s.jobOf j).isSome = true) (hout : r.output = []) (hrecord : r.record = none) (heffects : r.effects = [])
    (hfree : finalHeld s j x = false) (b : Burst) : Ended j (advanceBurst j n x r b s) := by
  have hlen : burstLen x r = 0 := burstLen_of_nothing hout hrecord
  rw [advanceBurst, hlen, Nat.zero_min]
  generalize hu : modJob j _ (emitPieces _ s) = u
  have hheld : finalHeld u j x = false := by rw [← hu]; exact hfree
  have hjob : (u.jobOf j).isSome = true := by
    rw [← hu, jobOf_modJob, if_pos rfl, Option.isSome_map]
    exact hx
  simp only [hheld, Bool.not_false, and_self, if_true]
  exact ended_finishCommit hjob heffects

/-- The commit phase of a job that writes nothing but its entry. -/
theorem ended_commitPhase (hx : s.jobOf j = some x) (hresult : x.result = some r) (hburst : x.burst = none) (hready : commitReady s j x = true)
    (hout : r.output = []) (hrecord : r.record = none) (heffects : r.effects = []) (hmeet : firstMeet s x.fn 2 (checkedPages x r) = none) :
    Ended j (commitPhase j n ok s) := by
  have hlive := finished_of_commitReady hready
  have hseal : sealBlocked s x r = none := by simp [sealBlocked, heffects]
  have hcase : commitPhase j n ok s = beginCommit j n ok x r s := by
    simp only [commitPhase, hx, hresult, hburst, hlive, Bool.false_eq_true, if_false, prepareUpdate_of_no_effect hx hresult heffects, hready, if_true]
  rw [hcase, beginCommit]
  simp only [hseal, hmeet, heffects, List.foldl_nil]
  have hheld : finalHeld s j x = false := finalHeld_of_commitReady hready
  have hfree : ∀ g, finalHeld (modJob j g s) j x = false := fun _ => hheld
  refine ended_advanceBurst ?_ hout hrecord heffects (hfree _) _
  rw [jobOf_modJob, if_pos rfl, hx]
  rfl

theorem enterNight_spec (delay : Nat) (s : State) : (enterNight delay ok s).glb.phase = .night ∧ (enterNight delay ok s).pwr.wakeDelay = delay ∧
    (enterNight delay ok s).time.genRunning = false :=
  ⟨rfl, rfl, rfl⟩

end

theorem commitPhaseEndsTheJob : Claims.CommitPhaseEndsTheJob := by
  intro s j n ok x r hx hresult hburst hready hout hrecord heffects hmeet
  have hend : Ended j (commitPhase j n ok s) := ended_commitPhase hx hresult hburst hready hout hrecord heffects hmeet
  refine ⟨fun hother => ?plain, fun L hnight => ?night⟩
  case plain =>
    apply yields_of_exec_eq_done rfl
    have hnone : s.pwr.nightJob.any (fun e => e.1 == j) = false := by
      cases h : s.pwr.nightJob with
      | none => rfl
      | some e =>
        rw [h] at hother
        simpa using hother
    rw [commitNow, hnone]
    exact hend
  case night =>
    apply yields_of_exec_eq_done rfl
    have hcond : (s.pwr.nightJob.any (fun e => e.1 == j) && (s.jobOf j).any (fun x => !x.finished) &&
        ((commitPhase j n ok s).jobOf j).any (·.finished)) = true := by
      obtain ⟨y, hy, hfin⟩ := Option.map_eq_some_iff.1 hend
      simp [hnight, hx, finished_of_commitReady hready, hy, hfin]
    rw [commitNow, if_pos hcond]
    exact enterNight_spec s.pwr.wakeDelay _

/-- Settles O33: planning and staging, then commit phases. -/
theorem jobsArePlannedStagedAndCommitted : Obligations.JobsArePlannedStagedAndCommitted := ⟨planningAndStaging, commitPhaseEndsTheJob⟩

end Sys2Proof.Machine
end

section
/-! PROOFS. Frames of the mesh: what a good frame does (R399 to R402, R406). -/

namespace Sys2Proof.Machine

section
variable {s : State} {port m type rx : Nat} {b : List Byte} {x : Member}

/-- A frame that arrives is judged by `frameIn`. -/
theorem portFrame_of_arrives (h : Arrives s port m type b x) : portFrame (some type) port rx b s = frameIn m port (rx % 24576) b s := by
  obtain ⟨hup, hpcs, hfec, hport, hm, hst, -, hlen, hcrc, hheader, htype, -⟩ := h
  have hlong : ¬b.length < 28 := Nat.not_lt.2 hlen
  simp only [portFrame, hport, hup, hpcs, hfec, htype, receive, hm, hst, hlong, hcrc, hheader, Option.all_some, BEq.rfl, Bool.and_self, if_true, if_false,
    ne_eq, not_true, or_self, Bool.not_true, Bool.false_eq_true]
  rfl

/-- An unfragmented message is whole (R402). -/
theorem gather_of_single (t : Nat) (p : List Byte) (u : State) : gather m t 0x8000 p u = .whole p (dropPlaces m u) := by
  rw [gather]
  exact if_pos (by decide)

theorem frameBody_of_single {h : FrameHdr} (hfrag : h.frag = 0x8000) (path : Nat) (p : List Byte) (u : State) :
    (frameBody m path rx h p u).1 = taken m path rx h p u := by
  simp only [frameBody, hfrag, gather_of_single, taken]
  split <;> rfl

/-- What a frame that arrives does, by its seal. -/
theorem frameIn_of_arrives (h : Arrives s port m type b x) : (frameIn m port rx b s).1 =
    if bit (frameHdr b).flags 0 then
      match rxKey x (frameHdr b).epoch with
      | none => tagFailed m port (bufferUsed m type s)
      | some (key, last, old) =>
        if gcmOpens key (frameNonce (frameHdr b).counter (frameHdr b).epoch) (b.take 24) (slice b 24 ((frameHdr b).len + 16)) = false then
          tagFailed m port (bufferUsed m type s)
        else if (frameHdr b).counter ≤ last then freezePeer m 0x21 (bufferUsed m type s)
        else taken m port rx (frameHdr b)
          (gcmPlain key (frameNonce (frameHdr b).counter (frameHdr b).epoch) (b.take 24) (slice b 24 ((frameHdr b).len + 16)))
          (modMember m (heard (frameHdr b) old s.time.L) (bufferUsed m type s))
    else taken m port rx (frameHdr b) (slice b 24 (frameHdr b).len) (bufferUsed m type s) := by
  obtain ⟨-, -, -, -, hm, -, hfreed, -, -, -, htype, hfrag⟩ := h
  have hfree : ¬((frameHdr b).type ≠ 0x01 ∧ 32 ≤ x.freed) := fun hc => Nat.not_le.2 hfreed hc.2
  have hused : (if (frameHdr b).type = 0x01 then s else modMember m (buffered s.time.L) s) = bufferUsed m type s := by rw [← htype]; rfl
  rw [frameIn]
  simp only [hm, hfree, if_false, hused]
  cases hseal : bit (frameHdr b).flags 0 with
  | false => exact frameBody_of_single hfrag port _ _
  | true =>
    simp only [if_true]
    cases hkey : rxKey x (frameHdr b).epoch with
    | none => rfl
    | some k =>
      obtain ⟨key, last, old⟩ := k
      dsimp only
      cases hopens : gcmOpens key (frameNonce (frameHdr b).counter (frameHdr b).epoch) (b.take 24) (slice b 24 ((frameHdr b).len + 16)) with
      | false => rfl
      | true =>
        simp only [Bool.not_true, Bool.false_eq_true, if_false, Bool.true_eq_false]
        split
        · rfl
        · exact frameBody_of_single hfrag port _ _

end

/-- Settles O17: the command hears its port, and the frame that arrives has its effect. -/
theorem meshFramesHaveTheirEffect : Obligations.MeshFramesHaveTheirEffect := by
  intro s port m type rx b x c hc harrives
  have hexec : exec c s = done s (frameIn m port (if type = 0x10 then rx % 24576 else 0) b s).1 := by
    have hheard : exec c s = done s (portFrame (some type) port (if type = 0x10 then rx else 0) b s).1 := by
      rcases hc with ⟨rfl, rfl⟩ | ⟨rfl, rfl⟩ | ⟨rfl, rfl⟩ | ⟨rfl, rfl⟩ | ⟨rfl, rfl⟩ | ⟨rfl, rfl⟩ | ⟨rfl, rfl⟩ | ⟨rfl, rfl⟩ | ⟨rfl, rfl⟩ | ⟨rfl, rfl⟩ |
        ⟨rfl, rfl⟩ | ⟨rfl, rfl⟩ | ⟨rfl, rfl⟩ | ⟨rfl, rfl⟩ | ⟨rfl, rfl⟩ | ⟨rfl, rfl⟩ | ⟨rfl, rfl⟩ | ⟨rfl, rfl⟩ <;> rfl
    rw [hheard, portFrame_of_arrives harrives]
    split <;> rfl
  rw [frameIn_of_arrives harrives] at hexec
  refine ⟨fun hclear => ?clear, fun hseal hnone => ?unknown, fun key last old sealed hseal hkey hsealed => ?opened⟩
  case clear =>
    rw [hclear] at hexec
    exact does_of_exec_eq_done hexec
  case unknown =>
    rw [hseal, hnone] at hexec
    exact does_of_exec_eq_done hexec
  case opened =>
    subst hsealed
    rw [hseal, hkey] at hexec
    exact does_of_exec_eq_done hexec

end Sys2Proof.Machine
end

section
/-! PROOFS. Links of the mesh: frames sent, HELLO, keying, heartbeats (R400 to R412), timers and ports (R396, R405, R408 to R410). -/

namespace Sys2Proof.Machine

/-! ### A member under the frames sent to it -/

/-- A member after a frame to it: the freed buffers went with it, a sealed one counted. -/
def Member.framed (type : Nat) (x : Member) : Member :=
  { x with freed := 0, link := if sealedType type then x.link.map (fun l => { l with txCount := l.txCount + 1 }) else x.link }

/-- A member after a HELLO has reset its link (R401). -/
def Member.unused (x : Member) : Member := { x with credits := 32, freed := 0, queue := [] }

/-- A frame that waits for a credit. -/
def Member.waitsWith (f : QFrame) (x : Member) : Member := { x with queue := x.queue ++ [f] }

section
variable (s : State)

@[simp] theorem memberOf_putFrame (m : Nat) (bytes : List Byte) (k : Nat) : (putFrame m bytes s).memberOf k = s.memberOf k := by
  rw [putFrame]
  dsimp only
  split <;> rfl

@[simp] theorem memberOf_drawFree (n k : Nat) : (drawFree n s).memberOf k = s.memberOf k := rfl
@[simp] theorem memberOf_dropPlaces (m k : Nat) : (dropPlaces m s).memberOf k = s.memberOf k := rfl

theorem memberOf_resetLink (m k : Nat) : (resetLink m s).memberOf k = if k = m then (s.memberOf k).map Member.unused else s.memberOf k :=
  memberOf_modMember m k Member.unused s

theorem memberOf_frameOut_of_ne {m k : Nat} (h : k ≠ m) (type frag flags epoch : Nat) (payload : List Byte) :
    (frameOut m type frag flags epoch payload s).memberOf k = s.memberOf k := by
  rw [frameOut]
  split
  · rfl
  · dsimp only
    split
    · split <;> simp [h]
    · simp [h]

theorem memberOf_sendFrame_of_ne {m k : Nat} (h : k ≠ m) (type frag epoch : Nat) (payload : List Byte) :
    (sendFrame m type frag epoch payload s).memberOf k = s.memberOf k := by
  rw [sendFrame, sendFlagged]
  split
  · rfl
  · split
    · rfl
    · split
      · simp [h]
      · rw [memberOf_frameOut_of_ne _ h, memberOf_modMember, if_neg h]

end

section
variable {s : State} {m : Nat} {x : Member}

theorem memberOf_frameOut (hx : s.memberOf m = some x) (type frag flags epoch : Nat) (payload : List Byte) :
    (frameOut m type frag flags epoch payload s).memberOf m = some (x.framed type) := by
  cases hl : x.link with
  | none => simp [frameOut, hx, hl, Member.framed]
  | some l => cases ht : sealedType type <;> simp [frameOut, hx, hl, ht, Member.framed]

/-- What a frame to a member leaves of it: its place, its keying, what it advertised and its keys. -/
def Member.settled (x : Member) : Member :=
  { x with credits := 0, freed := 0, queue := [], link := x.link.map (fun l => { l with txCount := 0 }) }

theorem settled_framed (type : Nat) (x : Member) : (x.framed type).settled = x.settled := by
  cases hl : x.link <;> cases ht : sealedType type <;> simp [Member.framed, Member.settled, hl, ht]

theorem fields_of_settled_eq {y : Member} (h : y.settled = x.settled) : y.helloSerial = x.helloSerial ∧ y.st = x.st ∧ y.keying = x.keying ∧
    y.seq = x.seq ∧ y.link.map (fun l => (l.epoch, l.tx, l.rx)) = x.link.map (fun l => (l.epoch, l.tx, l.rx)) := by
  refine ⟨?_, ?_, ?_, ?_, ?_⟩
  · simpa [Member.settled] using congrArg Member.helloSerial h
  · simpa [Member.settled] using congrArg Member.st h
  · simpa [Member.settled] using congrArg Member.keying h
  · simpa [Member.settled] using congrArg Member.seq h
  · have hlink : y.link.map (fun l => { l with txCount := 0 }) = x.link.map (fun l => { l with txCount := 0 }) := congrArg Member.link h
    have hkeys := congrArg (Option.map (fun l : Link => (l.epoch, l.tx, l.rx))) hlink
    rwa [Option.map_map, Option.map_map] at hkeys

theorem memberOf_sendFrame (hx : s.memberOf m = some x) (type frag epoch : Nat) (payload : List Byte) :
    ∃ y, (sendFrame m type frag epoch payload s).memberOf m = some y ∧ y.settled = x.settled := by
  rw [sendFrame, sendFlagged, hx]
  dsimp only
  split
  · exact ⟨x, hx, rfl⟩
  · split
    · refine ⟨x.waitsWith { type := type, flags := 0, frag := frag, epoch := epoch, payload := payload }, ?_, rfl⟩
      rw [memberOf_modMember, if_pos rfl, hx]
      rfl
    · refine ⟨_, memberOf_frameOut (by rw [memberOf_modMember, if_pos rfl, hx]; rfl) _ _ _ _ _, ?_⟩
      rw [settled_framed]
      rfl

theorem memberOf_sendFrame_of_credit (hx : s.memberOf m = some x) (hst : x.st ≠ .frozen) (hcredit : 0 < x.credits) (hqueue : x.queue = [])
    (type frag epoch : Nat) (payload : List Byte) :
    (sendFrame m type frag epoch payload s).memberOf m = some ({ x with credits := x.credits - 1 }.framed type) := by
  have hgo : ¬(x.credits = 0 ∨ x.queue ≠ []) := by simp [hqueue, Nat.pos_iff_ne_zero.1 hcredit]
  rw [sendFrame, sendFlagged, hx]
  dsimp only
  rw [if_neg hst, if_neg hgo]
  exact memberOf_frameOut (by rw [memberOf_modMember, if_pos rfl, hx]; rfl) _ _ _ _ _

/-- A HELLO resets the link and dates the next one. -/
theorem memberOf_sendHello (hx : s.memberOf m = some x) : ∃ next, (sendHello m s).memberOf m =
    some { x.unused with helloSent := true, helloAt := some next } := by
  have hreset : (resetLink m s).memberOf m = some x.unused := by rw [memberOf_resetLink, if_pos rfl, hx]; rfl
  have hframe := memberOf_frameOut hreset 0x01 0x8000 0 0 (helloPayload s)
  refine ⟨(frameOut m 0x01 0x8000 0 0 (helloPayload s) (resetLink m s)).time.L + 2048 + leAt (freeBytes s 2) 0 2 % 1024, ?_⟩
  rw [sendHello]
  dsimp only
  rw [memberOf_drawFree, memberOf_modMember, if_pos rfl, hframe]
  rfl

/-- A KEY_INIT begins a keying under the next epoch (R408). -/
theorem memberOf_sendKeyInit (hx : s.memberOf m = some x) : ∃ y, (sendKeyInit m s).memberOf m = some y ∧ y.helloSerial = x.helloSerial ∧ y.st = x.st ∧
    y.keying.map (·.epoch) = some (x.lastEpoch + 1) := by
  rw [sendKeyInit, hx]
  dsimp only
  generalize hu : drawFree 128 (modMember m _ s) = u
  have hmember : ∃ k : Keying, u.memberOf m = some { x with keying := some k } ∧ k.epoch = x.lastEpoch + 1 := by
    rw [← hu, memberOf_drawFree, memberOf_modMember, if_pos rfl, hx]
    exact ⟨_, rfl, rfl⟩
  obtain ⟨k, hk, hepoch⟩ := hmember
  obtain ⟨y, hy, hsettled⟩ := memberOf_sendFrame hk 0x02 0x8000 (x.lastEpoch + 1)
    (slice (freeBytes s 128) 0 32 ++ xPublic (slice (freeBytes s 128) 32 32) ++ kemEncKey (standardBytes 0x4001 [2] [slice (freeBytes s 128) 64 64] 96))
  obtain ⟨hserial, hst, hkeying, -, -⟩ := fields_of_settled_eq hsettled
  refine ⟨y, hy, hserial, hst, ?_⟩
  rw [hkeying]
  exact congrArg some hepoch

theorem memberOf_keyingFailed (hx : s.memberOf m = some x) (step : Nat) : (keyingFailed m step s).memberOf m =
    some { x with keying := none, st := if x.st = .keying then .down else x.st } := by
  rw [keyingFailed, memberOf_raiseEv, memberOf_modMember, if_pos rfl, hx]
  rfl

/-- A keyed link begins under its epoch and keys. -/
theorem memberOf_linkKeyed (hx : s.memberOf m = some x) (epoch : Nat) (tx rx : List Byte) : ∃ y, (linkKeyed m epoch tx rx s).memberOf m = some y ∧
    y.keying = none ∧ y.link.map (fun l => (l.epoch, l.tx, l.rx)) = some (epoch, tx, rx) := by
  rw [linkKeyed, memberOf_raiseEv, memberOf_modMember, if_pos rfl, hx]
  exact ⟨_, rfl, rfl, rfl⟩

end

/-! ### Messages to a link -/

section
variable {s : State} {m epoch : Nat} {p : List Byte} {x : Member}

/-- A member whose HELLO came: the link is reset, its serial kept. -/
def Member.greeted (serial : Nat) (x : Member) : Member := { x.unused with helloSerial := some serial }

theorem onHello_of_not_mayKey (hx : s.memberOf m = some x) (h : mayKey s = false) : (onHello m p s).memberOf m = some (x.greeted (leAt p 0 8)) := by
  generalize hu : modMember m (fun x => { x with helloSerial := some (leAt p 0 8) }) (resetLink m s) = u
  have hmember : u.memberOf m = some (x.greeted (leAt p 0 8)) := by
    rw [← hu, memberOf_modMember, if_pos rfl, memberOf_resetLink, if_pos rfl, hx]
    rfl
  have hkey : mayKey u = false := by rw [← hu]; exact h
  rw [onHello, hu]
  dsimp only
  rw [hkey]
  exact hmember

theorem onHello_of_mayKey (hx : s.memberOf m = some x) (h : mayKey s = true) :
    ((onHello m p s).memberOf m).map (fun y => (y.helloSerial, y.st)) =
      some (some (leAt p 0 8), if x.st = .down ∨ x.st = .lost then .keying else x.st) := by
  generalize hu : modMember m (fun x => { x with helloSerial := some (leAt p 0 8) }) (resetLink m s) = u
  have hkey : mayKey u = true := by rw [← hu]; exact h
  generalize hv : modMember m (fun x => { x with st := if x.st = .down ∨ x.st = .lost then .keying else x.st }) u = v
  have hmember : ∃ y : Member, v.memberOf m = some y ∧ y.helloSerial = some (leAt p 0 8) ∧ y.st = if x.st = .down ∨ x.st = .lost then .keying else x.st := by
    rw [← hv, ← hu, memberOf_modMember, if_pos rfl, memberOf_modMember, if_pos rfl, memberOf_resetLink, if_pos rfl, hx]
    exact ⟨_, rfl, rfl, rfl⟩
  obtain ⟨y, hy, hserial, hst⟩ := hmember
  have hgreeted : ∃ z, (if (v.memberOf m).any (·.helloSent) then v else sendHello m v).memberOf m = some z ∧ z.helloSerial = y.helloSerial ∧ z.st = y.st := by
    split
    · exact ⟨y, hy, rfl, rfl⟩
    · obtain ⟨next, hz⟩ := memberOf_sendHello hy
      exact ⟨_, hz, rfl, rfl⟩
  rw [onHello, hu]
  dsimp only
  rw [hkey, if_pos rfl, hv, ← hserial, ← hst]
  split
  · obtain ⟨z, hz, hzserial, hzst⟩ := hgreeted
    obtain ⟨w, hw, hwserial, hwst, -⟩ := memberOf_sendKeyInit hz
    rw [hw, ← hzserial, ← hzst, ← hwserial, ← hwst]
    rfl
  · obtain ⟨next, hz⟩ := memberOf_sendHello hy
    rw [hz]
    rfl

theorem onKeyInit_of_responder (hx : s.memberOf m = some x) (h : mayKey s = true) (hself : m < (meshSelf s).getD 0) :
    ((onKeyInit m epoch p s).memberOf m).map (fun y => (y.keying.map (·.epoch))) =
      some (if x.helloSerial ≠ some (serialOfMember s m) ∨ Config.standardHolds 0x4002 [2] [p.drop 64] = false ∨
          allZero (xShared (slice (freeBytes s 96) 32 32) (slice p 32 32)) = true then none else some epoch) := by
  have hrole : ¬(!mayKey s || decide ((meshSelf s).getD 0 < m)) = true := by simp [h, Nat.le_of_lt hself]
  rw [onKeyInit, hx]
  dsimp only
  rw [if_neg hrole]
  by_cases hbad : x.helloSerial ≠ some (serialOfMember s m) ∨ Config.standardHolds 0x4002 [2] [p.drop 64] = false ∨
      allZero (xShared (slice (freeBytes s 96) 32 32) (slice p 32 32)) = true
  · rw [if_pos hbad, if_pos (by simpa using hbad), memberOf_keyingFailed hx]
    rfl
  · rw [if_neg hbad, if_neg (by simpa using hbad)]
    generalize hu : drawFree 32 (modMember m _ (drawFree 96 s)) = u
    have hmember : ∃ k : Keying, u.memberOf m = some { x with keying := some k } ∧ k.epoch = epoch := by
      rw [← hu, memberOf_drawFree, memberOf_modMember, if_pos rfl, memberOf_drawFree, hx]
      exact ⟨_, rfl, rfl⟩
    obtain ⟨k, hk, hepoch⟩ := hmember
    obtain ⟨y, hy, hsettled⟩ := memberOf_sendFrame hk 0x03 0x8000 epoch _
    obtain ⟨-, -, hkeying, -, -⟩ := fields_of_settled_eq hsettled
    rw [hy, Option.map_some, hkeying, ← hepoch]
    rfl

theorem onKeyReply_of_initiator {k : Keying} (hx : s.memberOf m = some x) (h : mayKey s = true) (hself : (meshSelf s).getD 0 < m)
    (hkeying : x.keying = some k) (hepoch : k.epoch = epoch) :
    ((onKeyReply m epoch p s).1.memberOf m).map (fun y => (y.keying.isSome, y.link.map (·.epoch))) =
      some (if idVerifies s m (transcript epoch (serialOf s) (serialOfMember s m) k.init p) 0x52 (slice p 1152 1952) (slice p 3104 3309) = true ∧
          allZero (xShared k.x (slice p 32 32)) = false
        then (false, some epoch) else (false, x.link.map (·.epoch))) := by
  have hrole : ¬(!mayKey s || decide (m < (meshSelf s).getD 0) || k.epoch != epoch) = true := by simp [h, Nat.le_of_lt hself, hepoch]
  have hk : (s.memberOf m).bind (·.keying) = some k := by rw [hx]; exact hkeying
  rw [onKeyReply, hk]
  dsimp only
  rw [if_neg hrole]
  by_cases hgood : idVerifies s m (transcript epoch (serialOf s) (serialOfMember s m) k.init p) 0x52 (slice p 1152 1952) (slice p 3104 3309) = true ∧
      allZero (xShared k.x (slice p 32 32)) = false
  · rw [if_pos hgood, if_neg (by rw [hgood.1, hgood.2]; decide)]
    obtain ⟨y, hy, -⟩ := memberOf_sendFrame (s := drawFree 32 s) (by rw [memberOf_drawFree, hx]) 0x04 0x8000 epoch
      (idKey s ++ idSign s (digestBytes (transcript epoch (serialOf s) (serialOfMember s m) k.init p) ++ [0x49]))
    obtain ⟨z, hz, hnone, hlink⟩ := memberOf_linkKeyed hy epoch
      ((linkKeys (transcript epoch (serialOf s) (serialOfMember s m) k.init p) (standardBytes 0x4003 [2] [k.kem, slice p 64 1088] 32)
        (xShared k.x (slice p 32 32))).take 32)
      ((linkKeys (transcript epoch (serialOf s) (serialOfMember s m) k.init p) (standardBytes 0x4003 [2] [k.kem, slice p 64 1088] 32)
        (xShared k.x (slice p 32 32))).drop 32)
    rw [hz]
    have hepoch' : z.link.map (·.epoch) = some epoch := by
      have := congrArg (Option.map Prod.fst) hlink
      rwa [Option.map_map] at this
    rw [Option.map_some, hnone, hepoch']
    rfl
  · rw [if_neg hgood, if_pos (by simpa [← Bool.not_eq_true, imp_iff_not_or] using hgood), memberOf_keyingFailed hx]
    rfl

theorem onKeyConfirm_of_responder {k : Keying} (hx : s.memberOf m = some x) (h : mayKey s = true) (hself : m < (meshSelf s).getD 0)
    (hkeying : x.keying = some k) (hepoch : k.epoch = epoch) :
    ((onKeyConfirm m epoch p s).1.memberOf m).map (fun y => (y.keying.isSome, y.link.map (fun l => (l.epoch, l.tx, l.rx)))) =
      some (if idVerifies s m k.digest 0x49 (p.take 1952) (p.drop 1952) = true then (false, some (epoch, k.keys.drop 32, k.keys.take 32))
        else (false, x.link.map (fun l => (l.epoch, l.tx, l.rx)))) := by
  have hrole : ¬(!mayKey s || decide ((meshSelf s).getD 0 < m) || k.epoch != epoch) = true := by simp [h, Nat.le_of_lt hself, hepoch]
  have hk : (s.memberOf m).bind (·.keying) = some k := by rw [hx]; exact hkeying
  rw [onKeyConfirm, hk]
  dsimp only
  rw [if_neg hrole]
  cases hgood : idVerifies s m k.digest 0x49 (p.take 1952) (p.drop 1952) with
  | false =>
    rw [if_pos (by decide), if_neg (by decide), memberOf_keyingFailed hx]
    rfl
  | true =>
    obtain ⟨z, hz, hnone, hlink⟩ := memberOf_linkKeyed hx epoch (k.keys.drop 32) (k.keys.take 32)
    rw [if_neg (by decide), if_pos rfl, hz, Option.map_some, hnone, hlink]
    rfl

theorem onHeartbeat_of_member (hx : s.memberOf m = some x) (rx : Nat) :
    ((onHeartbeat m rx p s).memberOf m).map (fun y => (y.lastSeq, y.lastPhase, y.adv)) =
      some (leAt p 20 4, if pathOf s m < 4 then rx else 0xFFFFFFFF, some (byteAt p 24, byteAt p 25, fieldSigned 32 (leAt p 28 4))) := by
  rw [onHeartbeat, hx]
  dsimp only
  generalize hu : modMember m _ s = u
  have hmember : (u.memberOf m).map (fun y => (y.lastSeq, y.lastPhase, y.adv)) =
      some (leAt p 20 4, if pathOf s m < 4 then rx else 0xFFFFFFFF, some (byteAt p 24, byteAt p 25, fieldSigned 32 (leAt p 28 4))) := by
    rw [← hu, memberOf_modMember, if_pos rfl, hx]
    simp
  rw [← memberOf_updateRef] at hmember
  split
  · split
    · exact hmember
    · exact hmember
  · exact hmember

end

/-- Settles O18: message by message. -/
theorem linkMessages : Obligations.LinkMessages :=
  fun _ _ _ _ _ hx => ⟨onHello_of_not_mayKey hx, onHello_of_mayKey hx, onKeyInit_of_responder hx, fun _ hkey hself hkeying hepoch =>
    onKeyReply_of_initiator hx hkey hself hkeying hepoch, fun _ hkey hself hkeying hepoch => onKeyConfirm_of_responder hx hkey hself hkeying hepoch,
    onHeartbeat_of_member hx⟩

end Sys2Proof.Machine
end

section
/-! PROOFS. Timers of the mesh and its ports (R396, R401, R402, R405, R408 to R410). -/

namespace Sys2Proof.Machine

/-! ### Heartbeats -/

/-- A heartbeat to a member that stands. -/
def heartbeatTo (phases : List (Nat × Nat)) (m : Nat) (s : State) : State :=
  match s.memberOf m with
  | none => s
  | some x =>
    let tx := (List.lookup m phases).getD 0 % transitCycles
    let s := modMember m (fun x => { x with seq := (x.seq + 1) % 2 ^ 32, sent := ((x.seq + 1) % 2 ^ 32, tx) :: x.sent.take 255 }) s
    sendFrame m 0x10 0x8000 0 (heartbeatPayload s m x tx) s

section
variable {s : State} {m : Nat} {x : Member} (ph : List (Nat × Nat))

theorem memberOf_heartbeatTo_of_ne {k : Nat} (h : m ≠ k) : (heartbeatTo ph k s).memberOf m = s.memberOf m := by
  rw [heartbeatTo]
  split
  · rfl
  · dsimp only
    rw [memberOf_sendFrame_of_ne _ h, memberOf_modMember, if_neg h]

theorem seq_heartbeatTo (hx : s.memberOf m = some x) : ((heartbeatTo ph m s).memberOf m).map (·.seq) = some ((x.seq + 1) % 2 ^ 32) := by
  rw [heartbeatTo, hx]
  dsimp only
  generalize hu : modMember m _ s = u
  have hmember : ∃ y, u.memberOf m = some y ∧ y.seq = (x.seq + 1) % 2 ^ 32 := by
    rw [← hu, memberOf_modMember, if_pos rfl, hx]
    exact ⟨_, rfl, rfl⟩
  obtain ⟨y, hy, hseq⟩ := hmember
  obtain ⟨z, hz, hsettled⟩ := memberOf_sendFrame hy 0x10 0x8000 0 (heartbeatPayload u m x ((List.lookup m ph).getD 0 % transitCycles))
  obtain ⟨-, -, -, hkept, -⟩ := fields_of_settled_eq hsettled
  rw [hz, Option.map_some, hkept, hseq]

theorem memberOf_forEach_heartbeatTo {l : List Nat} (h : m ∉ l) (s : State) : (forEach l (heartbeatTo ph) s).memberOf m = s.memberOf m := by
  induction l generalizing s with
  | nil => rfl
  | cons k l ih =>
    rw [List.mem_cons, not_or] at h
    rw [forEach_cons, ih h.2, memberOf_heartbeatTo_of_ne ph h.1]

/-- A member listed once counts one heartbeat. -/
theorem seq_forEach_heartbeatTo {l : List Nat} (honce : l.count m = 1) (hx : s.memberOf m = some x) :
    ((forEach l (heartbeatTo ph) s).memberOf m).map (·.seq) = some ((x.seq + 1) % 2 ^ 32) := by
  induction l generalizing s with
  | nil => simp at honce
  | cons k l ih =>
    rw [forEach_cons]
    by_cases hk : k = m
    · subst hk
      rw [List.count_cons_self, Nat.add_eq_right] at honce
      rw [memberOf_forEach_heartbeatTo ph (List.count_eq_zero.1 honce)]
      exact seq_heartbeatTo ph hx
    · rw [List.count_cons_of_ne hk] at honce
      exact ih honce (by rw [memberOf_heartbeatTo_of_ne ph (Ne.symm hk), hx])

/-- The live member listed once under its number is once among those a heartbeat goes to. -/
theorem count_live_of_once (hx : s.memberOf m = some x) (hlive : x.st = .live) (hone : (s.msh.members.filter (fun e => e.1 == m)).length = 1) :
    ((s.msh.members.filter (fun e => e.2.st == .live)).map (·.1)).count m = 1 := by
  have hmem : (m, x) ∈ s.msh.members.filter (fun e => e.1 == m) := List.mem_filter.2 ⟨Tab.mem_of_get? hx, by simp⟩
  obtain ⟨e, he⟩ := List.length_eq_one_iff.1 hone
  rw [he, List.mem_singleton] at hmem
  subst hmem
  have hboth : (s.msh.members.filter (fun e => e.2.st == .live)).filter (fun e => e.1 == m) = [(m, x)] := by
    rw [List.filter_filter]
    have hswap : s.msh.members.filter (fun e => e.1 == m && e.2.st == .live) = (s.msh.members.filter (fun e => e.1 == m)).filter (fun e => e.2.st == .live) := by
      rw [List.filter_filter]
      exact List.filter_congr fun e _ => Bool.and_comm _ _
    rw [hswap, he]
    simp [hlive]
  rw [List.count, List.countP_map, List.countP_eq_length_filter]
  exact congrArg List.length hboth

theorem heartbeatSend_of_due (hup : meshUp s = true) (hrun : s.time.genRunning = true) (hL : s.time.L % 16 = 0) :
    heartbeatSend ph s = forEach ((s.msh.members.filter (fun e => e.2.st == .live)).map (·.1)) (heartbeatTo ph) s := by
  have hcond : (meshUp s && running s && s.time.L % 16 == 0) = true := by
    have hgo : running s = true := hrun
    simp [hup, hgo, hL]
  rw [heartbeatSend]
  exact if_pos hcond

end

/-! ### The other timers -/

section
variable {s : State} {m : Nat} {x : Member}

theorem helloTimer_of_due {l : Nat} (hx : s.memberOf m = some x) (hkey : mayKey s = true) (hst : x.st = .down ∨ x.st = .lost ∨ x.st = .keying)
    (hat : x.helloAt = some l) (hl : l ≤ s.time.L) : helloTimer m s = sendHello m s := by
  have hcond : (mayKey s && (x.st == .down || x.st == .lost || x.st == .keying) && x.helloAt.any (fun l => decide (l ≤ s.time.L))) = true := by
    rcases hst with h | h | h <;> simp [hkey, h, hat, hl]
  rw [helloTimer, hx]
  exact if_pos hcond

theorem rekey_of_old {l : Link} (hx : s.memberOf m = some x) (hkey : mayKey s = true) (hself : (meshSelf s).getD 0 < m) (hkeying : x.keying = none)
    (hlink : x.link = some l) (hold : l.keyedL + 64 * orbitL ≤ s.time.L) : rekey m s = sendKeyInit m s := by
  have hbind : (s.memberOf m).bind (·.link) = some l := by rw [hx]; exact hlink
  have hcond : (mayKey s && decide ((meshSelf s).getD 0 < m) && (s.memberOf m).any (fun x => x.keying.isNone) &&
      (decide (l.keyedL + 64 * orbitL ≤ s.time.L) || decide (2 ^ 48 ≤ l.txCount) || decide (2 ^ 48 ≤ l.rxCount))) = true := by
    simp [hkey, hself, hx, hkeying, hold]
  rw [rekey, hbind]
  exact if_pos hcond

theorem creditReturn_of_due (hx : s.memberOf m = some x) (hup : meshUp s = true) (hfreed : 0 < x.freed) (hL : x.freedL < s.time.L) (hqueue : x.queue = []) :
    creditReturn m s = sendFrame m 0x11 0x8000 0 [] s := by
  rw [creditReturn, hx]
  exact if_pos ⟨hup, hfreed, hL, by rw [hqueue]; rfl⟩

theorem messageResend_of_due {ty l : Nat} {p : List Byte} (hx : s.memberOf m = some x) (hup : meshUp s = true) (hlast : x.lastMsg = some (ty, p))
    (hat : x.resendAt = some l) (hl : l ≤ s.time.L) : messageResend m s = sendMsg m ty p s := by
  simp only [messageResend, hx, hlast, hat, hup, hl, and_self, if_true]

end

/-! ### Ports -/

theorem portOf_modify (s : State) (p : Nat) (g : Port → Port) :
    ({ s with msh := { s.msh with ports := Tab.modify s.msh.ports p {} g } } : State).portOf p = g (s.portOf p) := by
  simp [State.portOf]

theorem errors_countPort {s : State} {p : Nat} (hp : p < 4) (cls : Nat) :
    ((countPort p cls s).portOf p).errors = (s.portOf p).errors.set cls (saturate 8 ((s.portOf p).errors.getD cls 0 + 1)) := by
  rw [countPort, if_pos hp, portOf_modify]

theorem portLockChange_of_named {s : State} {p : Nat} (hp : p < 4) (hup : meshUp s = true) (hnamed : s.car.active.members.any (fun r => r.path == p) = true)
    (pcs fec : Bool) : ((portLockChange p pcs fec s).portOf p).pcs = pcs ∧ ((portLockChange p pcs fec s).portOf p).fec = fec := by
  rw [portLockChange, if_pos ⟨hp, hup, hnamed⟩, portOf_modify]
  exact ⟨rfl, rfl⟩

@[simp] theorem portOf_withPending (s : State) (l : List Instr) (p : Nat) : (s.withPending l).portOf p = s.portOf p := rfl

/-- Settles O19: timer by timer, then the ports. -/
theorem meshTimersAndPorts : Obligations.MeshTimersAndPorts := by
  refine fun s m x hx hup => ⟨fun l hkey hst hat hl => ?hello, fun ph hrun hL hlive hone => ?beat, fun hlive hsilent => ?lost,
    fun l hkey hself hkeying hlink hold _ => ?rekey, fun hfreed hL hqueue hst hcredit => ?credit, fun ty p l hlast hat hl => ?resend,
    fun port pcs fec hphase hport hnamed => ?lock, fun port b hport hmember => ?fec⟩
  case hello =>
    apply yields_of_exec_eq_done rfl
    obtain ⟨next, hsent⟩ := memberOf_sendHello hx
    rw [helloTimer_of_due hx hkey hst hat hl, memberOf_withPending, hsent]
    rfl
  case beat =>
    apply yields_of_exec_eq_done rfl
    rw [heartbeatSend_of_due ph hup hrun hL, memberOf_withPending]
    exact seq_forEach_heartbeatTo ph (count_live_of_once hx hlive hone) hx
  case lost =>
    apply yields_of_exec_eq_done rfl
    rw [memberLost_of_silent hx hup hlive hsilent, memberOf_withPending, memberOf_updateRef]
    obtain ⟨r, hr⟩ := memberOf_scheduleHello (m := m) (s := raiseEv 0xE012 4 m (pathOf (lostNoticed m x s) m) 0 (lostNoticed m x s)) (x := x.closed .lost)
      (by rw [memberOf_raiseEv, memberOf_lostNoticed hx]) (lostNoticed m x s).time.L
    rw [hr]
    rfl
  case rekey =>
    apply yields_of_exec_eq_done rfl
    obtain ⟨y, hy, -, -, hepoch⟩ := memberOf_sendKeyInit hx
    rw [rekey_of_old hx hkey hself hkeying hlink hold, memberOf_withPending, hy]
    exact hepoch
  case credit =>
    apply yields_of_exec_eq_done rfl
    rw [creditReturn_of_due hx hup hfreed hL hqueue, memberOf_withPending, memberOf_sendFrame_of_credit hx hst hcredit hqueue]
    rfl
  case resend => exact does_of_exec_eq_done (congrArg (done s) (messageResend_of_due hx hup hlast hat hl))
  case lock =>
    apply yields_of_exec_eq_done rfl
    rw [whenAwake_of_run hphase, portOf_withPending]
    exact portLockChange_of_named hport hup hnamed pcs fec
  case fec =>
    apply yields_of_exec_eq_done rfl
    have hcase : meshFrameRejected port true b s = countPort port 3 s := by simp [meshFrameRejected, hup, hmember]
    rw [hcase, portOf_withPending, errors_countPort hport]

end Sys2Proof.Machine
end

section
/-! PROOFS. The recorder (R465 to R477), self-test, ceilings and NIGHT (R499 to R519). -/

namespace Sys2Proof.Machine

/-! ### The recorder -/

section
variable {s : State}

theorem journalQueue_of_room (r : Record) (hroom : s.evt.jQueue.length < 256) :
    journalQueue r s = { s with evt := { s.evt with jQueue := s.evt.jQueue ++ (if r.ev.sev < 5 then [] else [r]) } } := by
  rw [journalQueue]
  by_cases hlow : r.ev.sev < 5
  · rw [if_pos hlow, if_pos hlow, List.append_nil]
  · rw [if_neg hlow, if_neg hlow, if_pos hroom]

/-- With room everywhere a record is placed by its severity (R467). -/
theorem place_of_room (r : Record) (hring : s.evt.ring.length < 65536) (hjournal : s.evt.jQueue.length < 256) :
    (place r s).evt.next = s.evt.next ∧ (place r s).evt.queue = s.evt.queue ∧
      (if r.ev.sev = 7 ∧ s.evt.reserve.length < 1024 then (place r s).evt.reserve = s.evt.reserve ++ [r] ∧ (place r s).evt.ring = s.evt.ring
        else (place r s).evt.ring = s.evt.ring ++ [r] ∧ (place r s).evt.reserve = s.evt.reserve) ∧
      (place r s).evt.jQueue = s.evt.jQueue ++ (if r.ev.sev < 5 then [] else [r]) := by
  rw [place, journalQueue_of_room r hjournal]
  dsimp only
  by_cases hreserve : r.ev.sev = 7 ∧ s.evt.reserve.length < 1024
  · rw [if_pos hreserve, if_pos hreserve]
    exact ⟨rfl, rfl, ⟨rfl, rfl⟩, rfl⟩
  · rw [if_neg hreserve, if_neg hreserve, if_pos hring]
    exact ⟨rfl, rfl, ⟨rfl, rfl⟩, rfl⟩

theorem eventIntake_of_waiting {e : Event} {rest : List Event} (hqueue : s.evt.queue = e :: rest) (htaken : s.evt.taken < 64) :
    eventIntake s = place { seq := s.evt.next, ev := e }
      { s with evt := { s.evt with queue := rest, next := s.evt.next + 1, taken := s.evt.taken + 1 } } := by
  rw [eventIntake, hqueue]
  exact if_pos htaken

theorem ackRing_spec (w : Word) : (ackRing w s).evt.ack = (if seqBefore s.evt.ack w = true then w else s.evt.ack) ∧ (ackRing w s).evt.ring = s.evt.ring := by
  rw [ackRing]
  split <;> exact ⟨rfl, rfl⟩

theorem ackJournal_spec (w : Word) : (ackJournal w s).evt.jAck = (if seqBefore s.evt.jAck w = true then w else s.evt.jAck) := by
  rw [ackJournal]
  split <;> rfl

/-- The selection of a record (R470). -/
theorem selectRecord_spec (w : Word) : (selectRecord w s).evt.selSeq = w ∧ (selectRecord w s).evt.latch.length = 8 ∧
    (∀ r, s.evt.ring.find? (fun r => r.seq == w) = some r → (selectRecord w s).evt.found = true ∧ (selectRecord w s).evt.inReserve = false ∧
      (selectRecord w s).evt.latch.getD 0 0 = leAt (recordBytes r) 0 4) ∧
    (s.evt.ring.find? (fun r => r.seq == w) = none → s.evt.reserve.find? (fun r => r.seq == w) = none →
      (selectRecord w s).evt.found = false ∧ (selectRecord w s).evt.latch = List.replicate 8 0) := by
  cases hring : s.evt.ring.find? (fun r => r.seq == w) with
  | some r =>
    rw [selectRecord, hring]
    refine ⟨rfl, rfl, fun q hq => ?_, fun h => nomatch h⟩
    obtain rfl : r = q := Option.some.inj hq
    exact ⟨rfl, rfl, rfl⟩
  | none =>
    cases hreserve : s.evt.reserve.find? (fun r => r.seq == w) with
    | some r =>
      rw [selectRecord, hring]
      dsimp only
      rw [hreserve]
      exact ⟨rfl, rfl, fun q hq => (nomatch hq), fun _ h => nomatch h⟩
    | none =>
      rw [selectRecord, hring]
      dsimp only
      rw [hreserve]
      exact ⟨rfl, rfl, fun q hq => (nomatch hq), fun _ _ => ⟨rfl, rfl⟩⟩

theorem journal_openBlock (first : Word) (s : State) : ∃ b, (openBlock first s).evt.journal.getLast? = some b := by
  rw [openBlock]
  exact ⟨_, List.getLast?_concat⟩

/-- The last record of the last block is the one appended (R474). -/
theorem appendJournal_spec {b : JBlock} (hlast : s.evt.journal.getLast? = some b) (r : Record) : (appendJournal r s).evt.jQueue = s.evt.jQueue ∧
    ((appendJournal r s).evt.journal.getLast?).bind (fun b => b.recs.getLast?) = some r := by
  rw [appendJournal, hlast]
  refine ⟨rfl, ?_⟩
  dsimp only
  rw [List.getLast?_concat, Option.bind_some, List.getLast?_concat]

theorem journalProgram_of_queued {r : Record} {rest : List Record} (hqueue : s.evt.jQueue = r :: rest) :
    (journalProgram true s).evt.jQueue = rest ∧ ((journalProgram true s).evt.journal.getLast?).bind (fun b => b.recs.getLast?) = some r := by
  rw [journalProgram, hqueue]
  dsimp only
  rw [if_pos rfl]
  have hopen : ∃ b, (if blockOpen s then s else openBlock r.seq s).evt.journal.getLast? = some b := by
    cases hblock : blockOpen s with
    | false => exact journal_openBlock r.seq s
    | true =>
      cases hlast : s.evt.journal.getLast? with
      | none => simp [blockOpen, hlast] at hblock
      | some b => exact ⟨b, hlast⟩
  obtain ⟨b, hb⟩ := hopen
  generalize (if blockOpen s then s else openBlock r.seq s) = u at hb ⊢
  exact appendJournal_spec (s := { u with evt := { u.evt with jQueue := rest } }) hb r

end

theorem eventsAreNumberedAndRead : Claims.EventsAreNumberedAndRead := by
  refine fun s => ⟨fun e rest hphase hqueue htaken hring hjournal => ?intake, fun hup hf w => ⟨?ack, ?journalAck, ?select⟩, fun r rest hphase hqueue => ?program⟩
  case intake =>
    apply yields_of_exec_eq_done rfl
    rw [whenAwake_of_run hphase, eventIntake_of_waiting hqueue htaken]
    exact place_of_room (s := { s with evt := { s.evt with queue := rest, next := s.evt.next + 1, taken := s.evt.taken + 1 } })
      { seq := s.evt.next, ev := e } hring hjournal
  case ack =>
    apply yields_of_exec_eq_done rfl
    rw [onHost_of_exists hup hf]
    exact ackRing_spec w
  case journalAck =>
    apply yields_of_exec_eq_done rfl
    rw [onHost_of_exists hup hf]
    exact ackJournal_spec w
  case select =>
    apply yields_of_exec_eq_done rfl
    rw [onHost_of_exists hup hf]
    exact selectRecord_spec w
  case program =>
    apply yields_of_exec_eq_done rfl
    rw [whenAwake_of_run hphase]
    exact journalProgram_of_queued hqueue

theorem recordsAreRead : Claims.RecordsAreRead := by
  rintro s j room x rfl
  refine ⟨fun hrun hpool => ?snapshot, fun hrun => ?journal⟩
  case snapshot =>
    apply yields_of_exec_eq_done rfl
    obtain ⟨hx, -⟩ := jobOf_and_opcode_of_runnable hrun
    simp only [eventSnapshot, hrun, hpool, Bool.false_eq_true, if_false]
    refine ⟨_, _, recorded_withPending (recorded_setResult hx _), rfl, rfl, rfl, rfl, fun hack => ?_⟩
    rw [hack]
    rfl
  case journal =>
    apply yields_of_exec_eq_done rfl
    obtain ⟨hx, -⟩ := jobOf_and_opcode_of_runnable hrun
    simp only [journalRead, hrun]
    refine ⟨_, _, recorded_withPending (recorded_setResult hx _), rfl, rfl, rfl, rfl, fun hack => ?_⟩
    rw [hack]
    exact ⟨_, rfl, rfl⟩

/-- Settles O50: the recorder's intake, registers and journal, then its jobs. -/
theorem recordsAndJournal : Obligations.RecordsAndJournal := ⟨eventsAreNumberedAndRead, recordsAreRead⟩

/-! ### Self-test, ceilings and NIGHT -/

section
variable {s : State} {j : Nat} {x : Job}

/-- NIGHT_ENTER's closing of admission, with the jobs that end for it. -/
def nightClosed (j : Nat) (s : State) : State :=
  let s := watched (fun s => { s with orr := { s.orr with admitOpen := false } }) (abortBist 2 s)
  forEach ((liveJobs s).filter (fun e => e.1 != j && !inCommit e.2)) (fun e => endJob e.1 0x7001 0 0 0) s

theorem nightEnter_of_free (hrun : runnable s j 0xD003 = some x) (hfree : nightBusy s = false) : nightEnter j s =
    setResult j { status := 0 } (haltWorlds { nightClosed j s with
      dov := { (nightClosed j s).dov with reqs := [] }
      pwr := { (nightClosed j s).pwr with nightJob := some (j, (nightClosed j s).time.L), wakeDelay := x.desc.par 48 4 } }) := by
  simp only [nightEnter, hrun, hfree, Bool.false_eq_true, if_false]
  rfl

theorem L_nightClosed : (nightClosed j s).time.L = s.time.L := by
  rw [nightClosed]
  refine (forEach_keeps (·.time.L) _ (fun e : Nat × Job => endJob e.1 0x7001 0 0 0) (fun e u => endJob_clk _ _ _ _ _ u) _).trans ?_
  exact (watched_clk (fun s => { s with orr := { s.orr with admitOpen := false } }) (fun _ => rfl) _).trans (abortBist_clk 2 s)

theorem admitOpen_nightClosed : (nightClosed j s).orr.admitOpen = false := by
  rw [nightClosed]
  refine (forEach_keeps (·.orr.admitOpen) _ (fun e : Nat × Job => endJob e.1 0x7001 0 0 0) (fun e u => by simp) _).trans ?_
  rw [orr_watched]

theorem ended_nightClosed {e : Nat × Job} (he : e ∈ liveJobs s) (hne : e.1 ≠ j) (hcommit : inCommit e.2 = false) : Ended e.1 (nightClosed j s) := by
  generalize hu : watched (fun s => { s with orr := { s.orr with admitOpen := false } }) (abortBist 2 s) = u
  have honly : JobsOnlyEnd s u := by
    rw [← hu]
    exact (jobsOnlyEnd_abortBist s 2).trans (JobsOnlyEnd.of_job_eq (job_watched _))
  rw [nightClosed, hu]
  refine honly.ended he (fun hlive => ?_) fun k hk => ended_endJobs_of_ended (num := Prod.fst) hk
  obtain ⟨y, hy⟩ := jobOf_of_mem_liveJobs hlive
  exact ended_endJobs (num := Prod.fst) (List.mem_filter.2 ⟨hlive, by simp [hne, hcommit]⟩) hy

end

theorem testsCeilingsAndNight : Claims.TestsCeilingsAndNight := by
  refine fun s j x => ⟨fun hrun => ⟨fun hscope => ?next, fun hscope hwaiting hrunning hroom => ?queue⟩, fun hrun => ?policy, fun hrun hbusy => ?busy,
    fun hrun hfree => ?night⟩
  case next =>
    refine does_of_exec_eq_done (congrArg (done s) ?_)
    simp only [selftest, hrun, hscope, if_true]
  case queue =>
    apply yields_of_exec_eq_done rfl
    simp only [selftest, hrun, if_neg hscope, hwaiting, hrunning, Nat.not_le.2 hroom, Bool.or_self, Bool.false_eq_true, if_false]
    exact ⟨_, rfl, rfl, rfl, rfl⟩
  case policy =>
    apply yields_of_exec_eq_done rfl
    obtain ⟨hx, -⟩ := jobOf_and_opcode_of_runnable hrun
    simp only [powerPolicy, hrun]
    exact ⟨_, recorded_withPending (recorded_setResult hx _), rfl, rfl⟩
  case busy =>
    refine does_of_exec_eq_done (congrArg (done s) ?_)
    simp only [nightEnter, hrun, hbusy, if_true]
    rfl
  case night =>
    apply yields_of_exec_eq_done rfl
    rw [nightEnter_of_free hrun hfree, L_nightClosed]
    refine ⟨rfl, admitOpen_nightClosed, rfl, rfl, rfl, fun e he hne hcommit => ?_⟩
    exact ended_of_jobOf_eq (by rw [jobOf_withPending, jobOf_setResult, if_neg hne]; rfl) (ended_nightClosed he hne hcommit)

section
variable {s : State}

@[simp] theorem job_tileReturns (t : Nat) (s : State) : (tileReturns t s).job = s.job := by
  rw [tileReturns]
  split <;> simp

/-- The tiles and records of a partition whose test has ended. -/
def partDone (p : Nat) (found : List BistFound) (r : BistRun) (s : State) : State :=
  let es := (scopeRuns r.scope).map (fun k => bistEntry s p k 2 found)
  let s := forEach es (keepResult (runSource r)) s
  let s := forEach (es.filter entryFails) (fun e => raiseEv 0x0511 5 p e.run e.result) s
  if es.any entryFails then forEach (partTiles p) (fun t => modTile t (fun x => { x with bistRun := none, bistOut := true })) s
  else forEach (partTiles p) tileReturns s

theorem job_partDone (p : Nat) (found : List BistFound) (r : BistRun) (s : State) : (partDone p found r s).job = s.job := by
  rw [partDone]
  generalize (scopeRuns r.scope).map (fun k => bistEntry s p k 2 found) = es
  have hresults : (forEach (es.filter entryFails) (fun e => raiseEv 0x0511 5 p e.run e.result) (forEach es (keepResult (runSource r)) s)).job = s.job := by
    refine (forEach_keeps (·.job) _ _ (fun e u => by simp) _).trans ?_
    exact forEach_keeps (·.job) _ (keepResult (runSource r)) (fun _ _ => rfl) s
  split
  · exact (forEach_keeps (·.job) _ _ (fun t u => by simp) _).trans hresults
  · exact (forEach_keeps (·.job) _ tileReturns (fun t u => job_tileReturns t u) _).trans hresults

/-- The run once a partition's test has ended. -/
def runAfter (p : Nat) (rest : List Nat) (found : List BistFound) (r : BistRun) (s : State) : BistRun :=
  let es := (scopeRuns r.scope).map (fun k => bistEntry s p k 2 found)
  { r with
    todo := rest, entries := r.entries ++ es
    endL := if (partTiles (rest.headD 0)).all (fun t => ((partDone p found r s).tile t).bistRun.isSome) then r.endL + bistTransits r.scope else 0
    failed := r.failed + (if es.any entryFails then 2 ^ p else 0), returned := r.returned + (if es.any entryFails then 0 else 2 ^ p) }

theorem bistRunComplete_of_ended {r : BistRun} {p : Nat} {rest : List Nat} {found : List BistFound} (hrunning : s.bst.running = some r)
    (htodo : r.todo = p :: rest) (hbegun : 0 < r.endL) (hended : r.endL ≤ s.time.L) :
    bistRunComplete p found s =
      if rest.isEmpty then bistFinish (runAfter p rest found r s) (partDone p found r s)
      else { partDone p found r s with bst := { (partDone p found r s).bst with running := some (runAfter p rest found r s) } } := by
  have hcond : ¬(p ≠ p ∨ r.endL = 0 ∨ s.time.L < r.endL) := by omega
  rw [bistRunComplete, hrunning]
  dsimp only
  rw [htodo]
  dsimp only
  rw [if_neg hcond]
  rfl

theorem bistFinish_spec (r : BistRun) (s : State) : (bistFinish r s).bst.running = none ∧
    ∀ j, r.job = some j → (s.jobOf j).isSome → ∃ q, Recorded j q (bistFinish r s) ∧ q.status = 0 := by
  have hbst : (raiseEv 0x0512 3 (runSource r) r.failed r.returned { s with bst := { s.bst with running := none } }).bst.running = none := by simp
  rw [bistFinish]
  cases hjob : r.job with
  | none => exact ⟨hbst, fun j hj => nomatch hj⟩
  | some i =>
    refine ⟨hbst, fun j hj hx => ?_⟩
    obtain rfl : i = j := Option.some.inj hj
    obtain ⟨x, hx⟩ := Option.isSome_iff_exists.1 hx
    exact ⟨_, recorded_setResult (x := x) (by rw [jobOf_raiseEv]; exact hx) _, rfl⟩

end

theorem selfTestsRun : Claims.SelfTestsRun := by
  refine fun s => ⟨fun r p rest found hrunning htodo hbegun hended => ?complete, fun hright hrun => ⟨fun hrunning => ?refused, fun hnone hwaiting hlow hhigh hmap => ?queued⟩,
    fun hright => ?noRight⟩
  case complete =>
    apply yields_of_exec_eq_done rfl
    rw [bistRunComplete_of_ended hrunning htodo hbegun hended]
    refine ⟨fun hmore => ?_, fun hlast => ?_⟩
    · rw [if_neg (by simp [hmore])]
      rfl
    · rw [if_pos (by simp [hlast])]
      obtain ⟨hnone, hrecord⟩ := bistFinish_spec (runAfter p rest found r s) (partDone p found r s)
      refine ⟨hnone, fun j hj hx => ?_⟩
      obtain ⟨v, hv, hstatus⟩ := hrecord j hj (by rwa [jobOf_of_job_eq (job_partDone p found r s) j])
      exact ⟨v, recorded_withPending hv, hstatus⟩
  case refused =>
    apply yields_of_exec_eq_done rfl
    have hgo : running s = true := hrun
    simp only [bstDapStart, hright, hgo, hrunning, Bool.not_true, Bool.or_self, Bool.true_or, Bool.false_eq_true, if_false, if_true]
    exact ⟨rfl, rfl⟩
  case queued =>
    apply yields_of_exec_eq_done rfl
    have hgo : running s = true := hrun
    have hscope : 1 ≤ s.bst.dapScope ∧ s.bst.dapScope ≤ 3 ∧ mapParts s.bst.dapMap ≠ [] := ⟨hlow, hhigh, hmap⟩
    simp only [bstDapStart, hright, hgo, hnone, hwaiting, Option.isSome_none, List.isEmpty_nil, Bool.not_true, Bool.or_self, Bool.false_eq_true, if_false,
      if_pos hscope]
    exact ⟨_, rfl, rfl, rfl, rfl⟩
  case noRight =>
    refine does_of_exec_eq_done (congrArg (done s) ?_)
    simp [bstDapStart, hright]

/-- Settles O51: the jobs of self-test, power and NIGHT, then the runs. -/
theorem selfTestCeilingsAndNight : Obligations.SelfTestCeilingsAndNight := ⟨testsCeilingsAndNight, selfTestsRun⟩

end Sys2Proof.Machine
end

section
/-! PROOFS. Firmware (R492, R493), operating points (R502, R503), key banks (R211, R222) and the applet store (R381). -/

namespace Sys2Proof.Machine

/-! ### Requests -/

section
variable {s : State} {j : Nat} {x : Job}

/-- What the notices and events of a request leave alone. -/
def dovAndJobs (s : State) : DovState × JobState := (s.dov, s.job)

theorem openRequest_eq (hroom : openRequests s (cabOfFn s x.fn) < 16) (rosters : List Roster) (dig : Digest) : dovAndJobs (openRequest j x rosters dig s) =
    dovAndJobs (modJob j (fun x => { x with request := some s.dov.nextNum }) { s with dov := { s.dov with
      reqs := s.dov.reqs ++ [{ num := s.dov.nextNum, cab := cabOfFn s x.fn, opcode := x.desc.opcode, job := j, digest := dig, openL := s.time.L, rosters := rosters }]
      nextNum := s.dov.nextNum + 1 } }) := by
  have hevent : ∀ (code sev a b c : Nat) (u : State), dovAndJobs (raiseEv code sev a b c u) = dovAndJobs u := fun _ _ _ _ _ _ => by simp [dovAndJobs]
  rw [openRequest]
  dsimp only
  rw [if_neg (Nat.not_le.2 hroom), hevent]
  exact forEach_keeps dovAndJobs rosters _ (fun q u => by simp [dovAndJobs]) _

/-- A request that finds a place opens under the next number (R225). -/
theorem opened_openRequest (hx : s.jobOf j = some x) (hroom : openRequests s (cabOfFn s x.fn) < 16) (rosters : List Roster) (dig : Digest) :
    Opened j x.desc.opcode rosters s (openRequest j x rosters dig s) := by
  have heq := openRequest_eq (j := j) hroom rosters dig
  have hdov : (openRequest j x rosters dig s).dov = _ := congrArg Prod.fst heq
  have hjob : (openRequest j x rosters dig s).job = _ := congrArg Prod.snd heq
  refine ⟨congrArg (·.nextNum) hdov, ?_, _, congrArg (·.reqs) hdov, rfl, rfl, rfl, rfl, rfl⟩
  rw [jobOf_of_job_eq hjob j, jobOf_modJob, if_pos rfl]
  show ((s.jobOf j).map _).map _ = _
  rw [hx]
  rfl

/-- With sixteen open a request finds no place. -/
theorem openRequest_of_full (hfull : 16 ≤ openRequests s (cabOfFn s x.fn)) (rosters : List Roster) (dig : Digest) :
    openRequest j x rosters dig s = endJob j 0x4001 0 0 0 s := by
  rw [openRequest]
  exact if_pos hfull

theorem opened_withPending {op : Nat} {rosters : List Roster} {u : State} {l : List Instr} (h : Opened j op rosters s u) :
    Opened j op rosters s (u.withPending l) := h

end

/-! ### Firmware -/

section
variable {s : State} {j : Nat} {x : Job}

theorem write_beginWrite (place : Nat) (img : List Byte) : (beginWrite j place img s).pwr.write.map (fun w => (w.job, w.place, w.image)) = some (j, place, img) := rfl

theorem runFirmwareCommit_spec (hx : s.jobOf j = some x) (hfree : s.pwr.write = none) :
    if fwStagedOk s s.pwr.staging = true then
      (runFirmwareCommit j s).pwr.write.map (fun w => (w.job, w.place, w.image)) = some (j, commitPlace s (fwKind s.pwr.staging), s.pwr.staging)
    else Ended j (runFirmwareCommit j s) ∧ (runFirmwareCommit j s).pwr = s.pwr := by
  have hcase : runFirmwareCommit j s = if !fwStagedOk s s.pwr.staging then failJob j 0x2001 16 0 0 s
      else beginWrite j (commitPlace s (fwKind s.pwr.staging)) s.pwr.staging s := by
    rw [runFirmwareCommit, hfree]
    rfl
  rw [hcase]
  cases fwStagedOk s s.pwr.staging with
  | true => exact write_beginWrite _ _
  | false => exact ⟨ended_endJob hx _ _ _ _, (endJob_keeps _ _ _ _ _ _).2.2.2.2.2.2.2.2.2.2.1⟩

end

theorem firmwareIsStagedAndCommitted : Claims.FirmwareIsStagedAndCommitted := by
  refine fun s j x => ⟨fun hrun hfree => ?stage, fun hrun hfree hawait => ⟨fun happroved => ?commit, fun happroved hsite hroom => ?request⟩,
    fun hreset hgen hL => ?reset⟩
  case stage =>
    apply yields_of_exec_eq_done rfl
    obtain ⟨hx, -⟩ := jobOf_and_opcode_of_runnable hrun
    simp only [firmwareStage, hrun, hfree, Option.isSome_none, Bool.false_eq_true, if_false]
    by_cases hok : fwStagedOk s x.input = true
    · by_cases hnew : runningSeq s (fwKind x.input) < fwSeq x.input
      · rw [if_pos ⟨hok, hnew⟩, hok, if_neg (by decide), if_neg (Nat.not_le.2 hnew)]
        exact write_beginWrite _ _
      · rw [if_neg (fun h => hnew h.2), hok, if_neg (by decide), if_pos (Nat.not_lt.1 hnew)]
        exact ⟨ended_endJob hx _ _ _ _, by simp [failJob]⟩
    · rw [if_neg (fun h => hok h.1), if_pos (by simpa using hok)]
      exact ⟨ended_endJob hx _ _ _ _, by simp [failJob]⟩
  case commit =>
    apply yields_of_exec_eq_done rfl
    obtain ⟨hx, -⟩ := jobOf_and_opcode_of_runnable hrun
    have hidle : ¬(s.pwr.write.any (fun w => w.job == j) ∨ awaiting s j) := by simp [hfree, hawait]
    have hgo : x.approved ∨ s.car.site.isNone := happroved.imp id fun h => by rw [h]; rfl
    have hcase : firmwareCommit j s = runFirmwareCommit j s := by simp only [firmwareCommit, hrun, if_neg hidle, if_pos hgo]
    rw [hcase]
    exact runFirmwareCommit_spec hx hfree
  case request =>
    apply yields_of_exec_eq_done rfl
    obtain ⟨hx, hop⟩ := jobOf_and_opcode_of_runnable hrun
    have hidle : ¬(s.pwr.write.any (fun w => w.job == j) ∨ awaiting s j) := by simp [hfree, hawait]
    have hgo : ¬(x.approved ∨ s.car.site.isNone) := by simp [happroved, hsite]
    have hcase : firmwareCommit j s = openRequest j x [rosterFor s 0 (some rightCarcass)] (commandDigest s (cabOfFn s x.fn) x) s := by
      simp only [firmwareCommit, hrun, if_neg hidle, if_neg hgo]
    rw [hcase, ← hop]
    exact opened_withPending (opened_openRequest hx hroom _ _)
  case reset =>
    apply yields_of_exec_eq_done rfl
    rw [firmwareReset, if_pos ⟨hreset, hgen, hL⟩, endRun, copyTime, if_pos hgen]
    exact ⟨rfl, rfl, rfl, rfl, rfl⟩

/-! ### Operating points and flash copies -/

section
variable {s : State} {t : Nat}

theorem tile_raiseFrom (src code sev a b c k : Nat) (s : State) : (raiseFrom src code sev a b c s).tile k = s.tile k := by simp [State.tile]

theorem tile_lowerLimit (hlow : (s.tile t).limit < 3) (cause : Nat) : (lowerLimit t cause s).tile t =
    { s.tile t with limit := (s.tile t).limit + 1, limitDue := true, limitCause := cause + 1 } := by
  rw [lowerLimit]
  dsimp only
  rw [if_neg (Nat.not_le.2 hlow), tile_raiseFrom, tile_modTile, if_pos rfl]

/-- What a flash copy's write leaves beside power and events: the jobs. -/
theorem job_setPlace (k : Nat) (bs : List Byte) (s : State) : (setPlace k bs s).job = s.job := by
  rw [setPlace]
  split <;> rfl

theorem write_setPlace (k : Nat) (bs : List Byte) (s : State) : (setPlace k bs s).pwr.write = s.pwr.write := by
  rw [setPlace]
  split <;> rfl

theorem setPlace_spec (k : Nat) (bs : List Byte) (s : State) :
    if k < 4 then (setPlace k bs s).pwr.copies = s.pwr.copies.set k bs else (setPlace k bs s).pwr.staging = bs := by
  by_cases hk : k < 4
  · rw [if_pos hk, setPlace, if_pos hk]
  · rw [if_neg hk, setPlace, if_neg hk]

/-- The flash place of a write once it has been read back. -/
def readBack (w : FwWrite) (found : List Byte) (s : State) : State := setPlace w.place found { s with pwr := { s.pwr with write := none } }

/-- The jobs and the flash, beside a reset that is asked for. -/
def jobsAndFlash (s : State) : JobState × Option FwWrite × List (List Byte) × List Byte := (s.job, s.pwr.write, s.pwr.copies, s.pwr.staging)

theorem jobsAndFlash_raiseEv (code sev a b c : Nat) (s : State) : jobsAndFlash (raiseEv code sev a b c s) = jobsAndFlash s := by simp [jobsAndFlash]
theorem jobsAndFlash_reset (atOrbit : Bool) (s : State) : jobsAndFlash { s with pwr := { s.pwr with resetAtOrbit := atOrbit } } = jobsAndFlash s := rfl

theorem firmwareCopyWritten_of_image {w : FwWrite} {x : Job} (hw : s.pwr.write = some w) (hx : s.jobOf w.job = some x) (hlive : x.finished = false) :
    ∃ r v, firmwareCopyWritten w.image s = setResult w.job r v ∧ r.status = 0 ∧ jobsAndFlash v = jobsAndFlash (readBack w w.image s) := by
  have hjob : (readBack w w.image s).job = s.job := job_setPlace _ _ _
  have hgo : ((readBack w w.image s).jobOf w.job).any (fun x => !x.finished) = true := by simp [jobOf_of_job_eq hjob, hx, hlive]
  rw [firmwareCopyWritten, hw]
  dsimp only
  rw [if_neg (fun h => h rfl)]
  by_cases hplace : w.place = 4
  · rw [if_pos hplace]
    exact ⟨_, _, if_pos hgo, rfl, jobsAndFlash_raiseEv _ _ _ _ _ _⟩
  · rw [if_neg hplace]
    refine ⟨_, _, if_pos hgo, rfl, ?_⟩
    rw [jobsAndFlash_reset, jobsAndFlash_raiseEv]
    rfl

theorem firmwareCopyWritten_of_other {w : FwWrite} {x : Job} (hw : s.pwr.write = some w) (hx : s.jobOf w.job = some x) (hlive : x.finished = false)
    {found : List Byte} (hbad : found ≠ w.image) : firmwareCopyWritten found s = endJob w.job 0x7010 0 0 0 (readBack w found s) := by
  have hjob : (readBack w found s).job = s.job := job_setPlace _ _ _
  have hgo : ((readBack w found s).jobOf w.job).any (fun x => !x.finished) = true := by simp [jobOf_of_job_eq hjob, hx, hlive]
  rw [firmwareCopyWritten, hw]
  dsimp only
  rw [if_pos hbad]
  exact if_pos hgo

end

theorem limitsCeilingsAndFlash : Claims.LimitsCeilingsAndFlash := by
  refine fun s => ⟨fun t ht hhot hlow => ?lower, fun t ht hcool hmargin hclean => ?raise, fun p hup => ?ceiling, fun bs hlen => ?ignored, fun w x hw hx hlive => ⟨?good, fun found hbad => ?bad⟩⟩
  case lower =>
    apply yields_of_exec_eq_done rfl
    have hcase : tileLimitChange t s = lowerLimit t 0 (modTile t (fun x => { x with hot := 0 }) s) := by
      simp only [tileLimitChange, ht, hhot, Bool.not_true, Bool.false_eq_true, if_false, if_true]
    have htile : (modTile t (fun x => { x with hot := 0 }) s).tile t = { s.tile t with hot := 0 } := by rw [tile_modTile, if_pos rfl]
    rw [hcase, tile_withPending, tile_lowerLimit (by rw [htile]; exact hlow), htile]
    exact ⟨rfl, rfl⟩
  case raise =>
    apply yields_of_exec_eq_done rfl
    have hcase : tileLimitChange t s = modTile t (fun x => { x with clean := 0, limit := x.limit - 1, limitCause := if x.limit ≤ 1 then 0 else x.limitCause }) s := by
      simp only [tileLimitChange, ht, Nat.not_le.2 hcool, Nat.not_le.2 hmargin, Bool.not_true, Bool.false_eq_true, if_false]
      exact if_pos hclean
    rw [hcase, tile_withPending, tile_modTile, if_pos rfl]
    exact ⟨rfl, rfl⟩
  case ceiling =>
    apply yields_of_exec_eq_done rfl
    have hcase : i2cCeiling [p, 0, 0, 0] s = setCeiling true p.toNat s := if_pos ⟨hup, rfl, rfl⟩
    rw [hcase]
    simp [setCeiling, State.withPending]
  case ignored =>
    refine does_of_exec_eq_done (congrArg (done s) ?_)
    rw [i2cCeiling, if_neg (fun h => hlen h.2.1)]
  case good =>
    apply yields_of_exec_eq_done rfl
    obtain ⟨r, v, hcase, hstatus, hkept⟩ := firmwareCopyWritten_of_image hw hx hlive
    have hjob : v.job = s.job := (congrArg (·.1) hkept).trans (job_setPlace _ _ _)
    have hwrite : v.pwr.write = none := (congrArg (·.2.1) hkept).trans (write_setPlace _ _ _)
    have hcopies : v.pwr.copies = (readBack w w.image s).pwr.copies := congrArg (·.2.2.1) hkept
    have hstaging : v.pwr.staging = (readBack w w.image s).pwr.staging := congrArg (·.2.2.2) hkept
    rw [hcase]
    refine ⟨hwrite, ⟨r, recorded_withPending (recorded_setResult (x := x) (by rw [jobOf_of_job_eq hjob, hx]) _), hstatus⟩, ?_⟩
    have hplace := setPlace_spec w.place w.image { s with pwr := { s.pwr with write := none } }
    show if w.place < 4 then v.pwr.copies = s.pwr.copies.set w.place w.image else v.pwr.staging = w.image
    rw [hcopies, hstaging]
    exact hplace
  case bad =>
    apply yields_of_exec_eq_done rfl
    rw [firmwareCopyWritten_of_other hw hx hlive hbad]
    have hjob : (readBack w found s).job = s.job := job_setPlace _ _ _
    refine ⟨?_, ended_endJob (x := x) (by rw [jobOf_of_job_eq hjob, hx]) _ _ _ _⟩
    exact (congrArg (·.write) (endJob_keeps _ _ _ _ _ _).2.2.2.2.2.2.2.2.2.2.1).trans (write_setPlace _ _ _)

/-! ### Key banks and the applet store -/

section
variable {s : State} {j g : Nat} {x : Job} {r : Result} {b : Burst}

/-- A job that only destroys a key ends with its burst of no bytes, once no erase is due. -/
theorem advanceBurst_of_destroyKey {h : Nat} (hx : (s.jobOf j).isSome = true) (hdue : s.key.eraseDue = []) (hop : x.desc.opcode = 0x7004)
    (hresult : x.result = some { status := 0, effects := [.destroyKey h] }) :
    (advanceBurst j 0 x { status := 0, effects := [.destroyKey h] } b s).still = s.still ∧
      Ended j (advanceBurst j 0 x { status := 0, effects := [.destroyKey h] } b s) := by
  rw [advanceBurst, burstLen_of_nothing rfl rfl, Nat.zero_min]
  generalize hu : modJob j _ (emitPieces _ s) = u
  have hdue' : u.key.eraseDue = [] := by rw [← hu]; exact hdue
  have hstill : u.still = s.still := by rw [← hu, modJob_still]; rfl
  have hjob : (u.jobOf j).isSome = true := by
    rw [← hu, jobOf_modJob, if_pos rfl, Option.isSome_map]
    exact hx
  obtain ⟨y, hy⟩ := Option.isSome_iff_exists.1 hjob
  have hfree : finalHeld u j x = false := by simp [finalHeld, hdue', hop, hresult]
  simp only [hfree, Bool.not_false, and_self, if_true]
  exact ⟨(endJob_still _ _ _ _ _ _).trans hstill, ended_endJob hy _ _ _ _⟩

/-- The commit phase that waited for the erase of a destroyed key's bank. -/
theorem commitPhase_of_destroyKey {h : Nat} (hx : s.jobOf j = some x) (hdue : s.key.eraseDue = []) (hop : x.desc.opcode = 0x7004)
    (hresult : x.result = some { status := 0, effects := [.destroyKey h] }) (hburst : x.burst = some b) (hlive : x.finished = false) (hanswer : x.answer = none) :
    (commitPhase j 0 true s).still = s.still ∧ Ended j (commitPhase j 0 true s) := by
  have hcase : commitPhase j 0 true s = advanceBurst j 0 x { status := 0, effects := [.destroyKey h] } b s := by
    simp only [commitPhase, hx, hresult, hburst, hlive, hanswer, Bool.false_eq_true, Option.isSome_none, or_self, if_false]
  rw [hcase]
  exact advanceBurst_of_destroyKey (by rw [hx]; rfl) hdue hop hresult

theorem eraseOther_of_active {α : Type} {t : TwoBank α} {a : Nat} (h : t.active = some a) :
    t.eraseOther = if a = 0 then { t with b1 := none } else { t with b0 := none } := by
  cases a with
  | zero => simp [TwoBank.eraseOther, h]
  | succ a => simp [TwoBank.eraseOther, h]

/-- The erase of the one bank that is due. -/
theorem keyBankErased_of_due (hdue : s.key.eraseDue = [(j, g)]) : keyBankErased g s = eraseInactive g { s with key := { s.key with eraseDue := [] } } := by
  simp [keyBankErased, hdue]

end

theorem banksAndStoresAreWritten : Claims.BanksAndStoresAreWritten := by
  refine fun s => ⟨fun g j x b h hdue hx hresult hburst _ hlive hanswer hop => ?bank, fun w hload hstored hkeeper => ⟨?good, ?bad⟩⟩
  case bank =>
    apply yields_of_exec_eq_done rfl
    have hgroup : groupOf (keyBankErased g s) g = (groupOf s g).eraseOther := by
      rw [keyBankErased_of_due hdue, eraseInactive, groupOf_modGroup, if_pos rfl]
      rfl
    have hnone : (keyBankErased g s).key.eraseDue = [] := by rw [keyBankErased_of_due hdue]; rfl
    have hx' : (keyBankErased g s).jobOf j = some x := by rw [keyBankErased_of_due hdue, ← hx]; rfl
    have hcase : bankErased g s = commitPhase j 0 true (keyBankErased g s) := by
      rw [bankErased, hdue]
      simp [forEach]
    obtain ⟨hstill, hended⟩ := commitPhase_of_destroyKey hx' hnone hop hresult hburst hlive hanswer
    have hkey : (bankErased g s).key = (keyBankErased g s).key := by rw [hcase]; exact congrArg (·.2.2.1) hstill
    refine ⟨(congrArg (·.eraseDue) hkey).trans hnone, by rw [hcase]; exact hended, fun a hactive => ?_⟩
    have hgroup' : groupOf ((bankErased g s).withPending s.pending) g = (groupOf s g).eraseOther := by
      rw [← hgroup]
      exact congrArg (fun k : KeyState => Tab.getD k.groups g {}) hkey
    rw [hgroup', eraseOther_of_active hactive]
    by_cases ha : a = 0
    · simp [ha]
    · simp [ha]
  case good =>
    apply yields_of_exec_eq_done rfl
    have hcond : ¬((s.world w).st ≠ .loading ∨ (s.world w).stored = true ∨ keeperAbsent s = true) := by simp [hload, hstored, hkeeper]
    rw [appletStoreWritten, if_neg hcond]
    refine ⟨by simp, ?_⟩
    show Tab.get? (Tab.put s.wld.store w (s.world w).image) w = _
    rw [Tab.get?_put, if_pos rfl]
  case bad =>
    apply yields_of_exec_eq_done rfl
    have hcond : ¬((s.world w).st ≠ .loading ∨ (s.world w).stored = true ∨ keeperAbsent s = true) := by simp [hload, hstored, hkeeper]
    rw [appletStoreWritten, if_neg hcond]
    generalize hu : modWorld w (fun x => { x with st := .stopped, loadJob := none }) (returnPages w s) = u
    have hst : (u.world w).st = .stopped := by rw [← hu]; simp
    have hjob : u.job = s.job := by rw [← hu]; rfl
    simp only [Bool.false_eq_true, if_false]
    cases hwait : (s.world w).loadJob with
    | none => exact ⟨hst, fun i hi => nomatch hi⟩
    | some k =>
      refine ⟨by simpa using hst, fun i hi hsome => ?_⟩
      obtain rfl : k = i := Option.some.inj hi
      obtain ⟨x, hx⟩ := Option.isSome_iff_exists.1 hsome
      exact ended_endJob (x := x) (by rw [jobOf_of_job_eq hjob, hx]) _ _ _ _

/-- Settles O52: the images staged and committed, the limits with the ceilings and flash copies, the banks with the applet store, each by the case its checks select. -/
theorem firmwareLimitsAndStores : Obligations.FirmwareLimitsAndStores := ⟨firmwareIsStagedAndCommitted, limitsCeilingsAndFlash, banksAndStoresAreWritten⟩

end Sys2Proof.Machine
end

section
/-!
PROOFS. The always-on domain, its supplies and zeroization; the monitor's ticks (O58).
-/
namespace Sys2Proof.Machine

/-! ### The page owner table while rings fault -/

/-- The tamper state with the page owner table. -/
def pageTables (s : State) : TamState × Tab PageEntry × List Wanted := (s.tam, s.job.pot, s.job.wanted)

section
variable (s : State)

@[simp] theorem pageTables_dropJob (j : Nat) : pageTables (dropJob j s) = pageTables s := rfl

@[simp] theorem pageTables_ringFaultEvent (f ring error : Nat) : pageTables (ringFaultEvent f ring error s) = pageTables s := by simp [pageTables]

@[simp] theorem pageTables_dropSqJobs (f n : Nat) : pageTables (dropSqJobs f n s) = pageTables s :=
  forEach_keeps pageTables _ (fun e : Nat × Job => dropJob e.1) (fun e u => pageTables_dropJob u e.1) s

@[simp] theorem pageTables_faultSq (f n error : Nat) : pageTables (faultSq f n error s) = pageTables s := by
  rw [faultSq, pageTables_dropSqJobs, pageTables_ringFaultEvent]
  rfl

@[simp] theorem pageTables_faultCq (f n error : Nat) : pageTables (faultCq f n error s) = pageTables s := by
  rw [faultCq]
  refine (forEach_keeps pageTables _ (fun k => faultSq f k 0x05) (fun k u => pageTables_faultSq u f k 0x05) _).trans ?_
  rw [pageTables_ringFaultEvent]
  rfl

/-- Rings that fault for revoked pages leave the tables as they are. -/
theorem pageTables_revokeRings : pageTables (revokeRings s) = pageTables s := by
  refine forEach_keeps pageTables _ _ (fun e u => ?_) s
  have hsqs : ∀ l v, pageTables (forEach l (fun n => faultSq e.1 n 0x0A) v) = pageTables v := fun l v =>
    forEach_keeps pageTables l (fun n => faultSq e.1 n 0x0A) (fun n w => pageTables_faultSq w e.1 n 0x0A) v
  have hcqs : ∀ l v, pageTables (forEach l (fun n => faultCq e.1 n 0x0A) v) = pageTables v := fun l v =>
    forEach_keeps pageTables l (fun n => faultCq e.1 n 0x0A) (fun n w => pageTables_faultCq w e.1 n 0x0A) v
  dsimp only
  split
  · rw [pageTables_ringFaultEvent]
    exact (hcqs _ _).trans (hsqs _ _)
  · exact (hcqs _ _).trans (hsqs _ _)

theorem pageTables_pairRestart (p : Nat) : pageTables (pairRestart p s) = pageTables s := by
  unfold pairRestart
  dsimp only
  split
  · simp [pageTables]
  · rfl

/-- The log of an alarm takes what was kept for it and touches no due zeroization. -/
theorem logAlarm_spec (p3 : Nat) : (logAlarm p3 s).tam.zeroDue = s.tam.zeroDue ∧ (logAlarm p3 s).job = s.job := by
  unfold logAlarm
  split
  · exact ⟨rfl, rfl⟩
  · dsimp only
    split <;> exact ⟨rfl, rfl⟩

end

/-! ### Seeds and the reports of a brief discrepancy -/

/-- A seed of a meander's register is neither 0 nor wider than the register (R428). -/
theorem lfsrSeed_range (bs : List Byte) : 0 < lfsrSeed bs ∧ lfsrSeed bs < 2 ^ 31 := by
  have := Nat.mod_lt (leAt bs 0 4) (show 0 < 2 ^ 31 - 1 by decide)
  rw [lfsrSeed]
  omega

/-- What a brief discrepancy leaves alone: the latch, the keys and the global state. -/
def briefView (s : State) : Bool × KeyState × GlbState := (s.tam.latched, s.key, s.glb)

@[simp] theorem briefView_raiseEv (code sev a b c : Nat) (s : State) : briefView (raiseEv code sev a b c s) = briefView s := by simp [briefView]

theorem briefView_reportBrief (n : Nat) (e : Nat × Nat) (s : State) : briefView (reportBrief n e s) = briefView s := by
  unfold reportBrief
  dsimp only
  split
  · rfl
  · split
    · rw [briefView_raiseEv, briefView_raiseEv]
      rfl
    · rw [briefView_raiseEv]
      rfl

theorem briefView_discrepancyBrief (n : Nat) (s : State) : briefView (discrepancyBrief n s) = briefView s := by
  unfold discrepancyBrief
  split
  · rfl
  · exact (forEach_keeps briefView _ (reportBrief n) (briefView_reportBrief n) _).trans rfl

/-! ### The claims -/

/-- Disarming pulls the umbra line and drops every job. -/
theorem sensorDisarm_of_pwrfail {s : State} (hphase : s.glb.phase = .pwrfail) (harmed : s.tam.disarmed = false) :
    (sensorDisarm s).tam.disarmed = true ∧ (sensorDisarm s).time.genRunning = false ∧ (sensorDisarm s).eng.ctxKeys = [] := by
  rw [sensorDisarm, if_pos ⟨hphase, harmed⟩]
  refine ⟨rfl, rfl, ?_⟩
  exact (forEach_keeps (fun u : State => u.eng.ctxKeys) _ (fun e : Nat × Job => dropJob e.1) (fun e u => by simp) _).trans (ctxKeys_umbraLine s)

theorem zeroizeComplete_of_due {s : State} {a : Nat} (v r : Bool) (hdue : s.tam.zeroDue = some a) (hlate : a + 256 ≤ s.time.L) :
    (zeroizeComplete v r s).tam.zeroDue = none ∧ (zeroizeComplete v r s).job.pot = [] ∧ (zeroizeComplete v r s).job.wanted = [] := by
  have hcond : ¬(s.time.L < a + 2 ∨ ((liveJobs s).any (fun e => e.2.answer.isSome) ∧ s.time.L < a + 256)) := by
    rintro (h | ⟨-, h⟩) <;> omega
  simp only [zeroizeComplete, hdue, if_neg hcond]
  generalize hu : ({ (forEach ((liveJobs s).filter (fun e => e.2.answer.isSome)) (fun e => dropJob e.1) s) with job := _ } : State) = u
  have hpages : u.job.pot = [] ∧ u.job.wanted = [] := by rw [← hu]; exact ⟨rfl, rfl⟩
  have hrings := pageTables_revokeRings u
  generalize revokeRings u = w at hrings
  obtain ⟨hdue', hjob⟩ := logAlarm_spec { w with tam := { w.tam with zeroDue := none } } (flag v + flag r * 2)
  generalize logAlarm (flag v + flag r * 2) { w with tam := { w.tam with zeroDue := none } } = y at hdue' hjob
  have hend := pageTables_pairRestart y 0
  refine ⟨(congrArg (·.1.zeroDue) hend).trans hdue', ?_, ?_⟩
  · exact (congrArg (·.2.1) hend).trans ((congrArg (·.pot) hjob).trans ((congrArg (·.2.1) hrings).trans hpages.1))
  · exact (congrArg (·.2.2) hend).trans ((congrArg (·.wanted) hjob).trans ((congrArg (·.2.2) hrings).trans hpages.2))

theorem suppliesAndZeroization : Claims.SuppliesAndZeroization := by
  refine fun s => ⟨fun mv hup hlow hnight => ?low, fun mv hgood => ?good, ?lost, fun hdown => ?up, fun hphase harmed => ?disarm, fun a hdue hlate v r => ?zero⟩
  case low =>
    apply yields_of_exec_eq_done rfl
    have hcond : ¬((!s.tam.up || decide (2400 ≤ mv)) = true) := by
      rw [hup, decide_eq_false (by omega)]
      decide
    simp only [lowBattery, if_neg hcond, if_neg hnight]
    split
    next hlogged => exact ⟨rfl, rfl, hlogged⟩
    next => simp
  case good =>
    refine does_of_exec_eq_done (congrArg (done s) ?_)
    rw [lowBattery, decide_eq_true hgood, Bool.or_true, if_pos rfl]
  case lost =>
    apply yields_of_exec_eq_done rfl
    exact ⟨rfl, rfl, rfl, rfl, rfl, rfl, rfl, rfl⟩
  case up =>
    apply yields_of_exec_eq_done rfl
    rw [alwaysOnPowerUp, if_neg (by rw [hdown]; decide)]
    obtain ⟨hlid, hlid'⟩ := lfsrSeed_range (freeBytes s 8)
    obtain ⟨hboard, hboard'⟩ := lfsrSeed_range ((freeBytes s 8).drop 4)
    exact ⟨rfl, rfl, hlid, hlid', hboard, hboard'⟩
  case disarm =>
    apply yields_of_exec_eq_done rfl
    exact sensorDisarm_of_pwrfail hphase harmed
  case zero =>
    apply yields_of_exec_eq_done rfl
    exact zeroizeComplete_of_due v r hdue hlate

theorem tamperSamples : Claims.TamperSamples := by
  refine fun s => ⟨fun a b lid board temp mv present hup => ?tick, fun a b lid board temp mv present hdown => ?off, fun n => ?brief⟩
  case tick =>
    apply yields_of_exec_eq_done rfl
    rw [tamperSample, if_neg (by rw [hup]; decide)]
    exact ⟨rfl, rfl, rfl, rfl, rfl, rfl, rfl, rfl⟩
  case off =>
    refine does_of_exec_eq_done (congrArg (done s) ?_)
    rw [tamperSample, if_pos (by rw [hdown]; decide)]
  case brief =>
    apply yields_of_exec_eq_done rfl
    have hview := briefView_discrepancyBrief n s
    exact ⟨congrArg (·.1) hview, congrArg (·.2.1) hview, congrArg (·.2.2) hview⟩

/-- Settles O58: the supplies with zeroization, and the monitor's ticks. -/
theorem tamperMonitorAndSupplies : Obligations.TamperMonitorAndSupplies := ⟨suppliesAndZeroization, tamperSamples⟩

end Sys2Proof.Machine
end

section
/-!
PROOFS. How a run ends, a Dawn begins, ends or fails, and NIGHT ends (O59).
-/
namespace Sys2Proof.Machine

/-! ### What the steps of a Dawn leave alone

The phase with the cause of the Dawn, and the attempts with the cause that waits, through every step of the Dawn timeline. -/

/-- The phase, the cause of the Dawn, the failed attempts and the cause of the next one. -/
def dawnView (s : State) : Phase × Nat × Nat × Option Nat := (s.glb.phase, s.glb.resetCause, s.pwr.fails, s.pwr.cause)

section
variable (s : State)

theorem dawnView_of_still {s t : State} (h : t.still = s.still) : dawnView t = dawnView s := by
  have hglb : t.glb = s.glb := congrArg (·.1) h
  have hpwr : t.pwr = s.pwr := congrArg (·.2.2.2.2.2.2.1) h
  rw [dawnView, hglb, hpwr, dawnView]

@[simp] theorem dawnView_raiseEv (code sev a b c : Nat) : dawnView (raiseEv code sev a b c s) = dawnView s := dawnView_of_still (by simp)
@[simp] theorem dawnView_raiseFrom (src code sev a b c : Nat) : dawnView (raiseFrom src code sev a b c s) = dawnView s := dawnView_of_still (by simp)
@[simp] theorem dawnView_endJob (j status w0 w1 w2 : Nat) : dawnView (endJob j status w0 w1 w2 s) = dawnView s := dawnView_of_still (by simp)
@[simp] theorem dawnView_modTile (t : Nat) (g : Tile → Tile) : dawnView (modTile t g s) = dawnView s := dawnView_of_still (by simp)

theorem dawnView_withTime (c : TimeState) : dawnView { s with time := c } = dawnView s := rfl

/-! #### The always-on check and the boot ROM -/

@[simp] theorem dawnView_dawnFlash (e : Nat × List Byte) : dawnView (dawnFlash e s) = dawnView s := by
  rw [dawnFlash]
  split
  · exact dawnView_of_still (writeCopy_still _ _ _)
  · split <;> rfl

@[simp] theorem dawnView_factoryWords (ws : List (Nat × Nat)) : dawnView (factoryWords ws s) = dawnView s := by
  rw [factoryWords]
  split <;> rfl

@[simp] theorem dawnView_latchAlarm (cls src : Nat) : dawnView (latchAlarm cls src s) = dawnView s := by
  unfold latchAlarm
  extract_lets L since tam src u v
  have hv : dawnView v = dawnView s := by simp only [v]; split <;> rfl
  split
  · split
    · exact hv
    · exact (dawnView_raiseEv _ _ _ _ _ _).trans hv
  · rfl

@[simp] theorem dawnView_alwaysOnCheck (a : Option (Nat × Nat)) : dawnView (alwaysOnCheck a s) = dawnView s := by
  cases a with
  | none => simp only [alwaysOnCheck]; split <;> rfl
  | some a => rw [← dawnView_latchAlarm s a.1 a.2]; rfl

@[simp] theorem dawnView_logAlarm (p3 : Nat) : dawnView (logAlarm p3 s) = dawnView s := by
  unfold logAlarm
  split
  · rfl
  · dsimp only
    split <;> rfl

@[simp] theorem dawnView_logNight : dawnView (logNight s) = dawnView s := by
  refine forEach_keeps dawnView _ _ (fun n u => ?_) s
  dsimp only
  refine (forEach_keeps dawnView _ (fun k => raiseEv 0xF012 4 n 3 k) (fun k v => dawnView_raiseEv v _ _ _ _ _) _).trans ?_
  split
  · rfl
  · exact dawnView_raiseEv u _ _ _ _ _

@[simp] theorem dawnView_logAlwaysOn : dawnView (logAlwaysOn s) = dawnView s := by
  unfold logAlwaysOn
  extract_lets t src u src' v
  have hu : dawnView u = dawnView s := by
    simp only [u]
    split
    · exact (dawnView_raiseEv _ _ _ _ _ _).trans (dawnView_logAlarm s 3)
    · exact dawnView_logAlarm s 3
  have hv : dawnView v = dawnView s := by
    simp only [v]
    split
    · exact (dawnView_raiseEv _ _ _ _ _ _).trans hu
    · exact hu
  clear_value v
  split
  · exact ((dawnView_raiseEv _ _ _ _ _ _).trans (dawnView_logNight _)).trans hv
  · exact hv

@[simp] theorem dawnView_otpStep (agree : Bool) : dawnView (otpStep agree s) = dawnView s := by
  unfold otpStep
  split
  · rfl
  · exact (dawnView_raiseEv _ _ _ _ _ _).trans rfl
  · exact (dawnView_raiseEv _ _ _ _ _ _).trans rfl

/-! #### Firmware selection and the recorder -/

@[simp] theorem dawnView_checkFirmware : dawnView (checkFirmware s) = dawnView s := by
  unfold checkFirmware
  dsimp only
  refine (forEach_keeps dawnView _ _ (fun k u => ?_) _).trans rfl
  split
  · rfl
  · exact dawnView_raiseEv _ _ _ _ _ _

@[simp] theorem dawnView_applyPick (best : Option (Nat × Nat)) : dawnView (applyPick best s) = dawnView s := by
  cases best <;> simp [applyPick, dawnView]

@[simp] theorem dawnView_selectPair : dawnView (selectPair s) = dawnView s := by
  unfold selectPair
  dsimp only
  rw [dawnView_applyPick]
  split <;> rfl

@[simp] theorem dawnView_eventStep (kept : Bool) : dawnView (eventStep kept s) = dawnView s := by
  unfold eventStep
  simp only [dawnView]

theorem dawnView_eventsTaken (n : Nat) :
    dawnView (forEach (List.range n) (fun _ u => eventIntake { u with evt := { u.evt with taken := 0 } }) s) = dawnView s := by
  refine forEach_keeps dawnView _ _ (fun _ u => ?_) s
  exact (dawnView_of_still (eventIntake_still _)).trans rfl

theorem dawnView_journaled (n : Nat) : dawnView (forEach (List.range n) (fun _ => journalProgram true) s) = dawnView s := by
  refine forEach_keeps dawnView _ _ (fun _ u => ?_) s
  exact dawnView_of_still (journalProgram_still _ _)

@[simp] theorem dawnView_drainRecorder : dawnView (drainRecorder s) = dawnView s :=
  (dawnView_journaled _ _).trans (dawnView_eventsTaken s _)

/-! #### The ledger step -/

@[simp] theorem dawnView_carryCompletion (id fail : Nat) : dawnView (carryCompletion id fail s) = dawnView s := by
  unfold carryCompletion
  extract_lets c row u d
  have hu : dawnView u = dawnView s := by simp [u, dawnView]
  split
  · rfl
  · split
    · simp [dawnView]
    · clear_value u
      rw [← hu]
      split <;> simp [dawnView]

@[simp] theorem dawnView_endCarry (id : Nat) (fails : List Nat) : dawnView (endCarry id fails s) = dawnView s :=
  (dawnView_carryCompletion _ id 0).trans (forEach_keeps dawnView _ (carryCompletion id) (fun n u => dawnView_carryCompletion u id n) s)

@[simp] theorem dawnView_readCounter (id : Nat) : dawnView (readCounter id s) = dawnView s := by
  unfold readCounter
  dsimp only
  split
  · exact (dawnView_raiseEv _ _ _ _ _ _).trans (by simp [dawnView])
  · simp [dawnView]

@[simp] theorem dawnView_recoverCounter (inp : DawnInput) (id : Nat) : dawnView (recoverCounter inp id s) = dawnView s := by
  unfold recoverCounter
  split
  · exact dawnView_readCounter s id
  · extract_lets i u v w
    have hu : dawnView u = dawnView s := by simp [u, dawnView]
    have hv : dawnView v = dawnView s := (dawnView_endCarry _ _ _).trans hu
    have hw : dawnView w = dawnView s := (forEach_keeps dawnView _ markDone (fun n u => by simp [dawnView]) v).trans hv
    clear_value w
    split
    · exact hw
    · exact ((dawnView_readCounter _ _).trans (dawnView_raiseEv _ _ _ _ _ _)).trans hw

@[simp] theorem dawnView_recordGone (id : Nat) : dawnView (recordGone id s) = dawnView s := by
  unfold recordGone
  extract_lets src u
  have hu : dawnView u = dawnView s := (dawnView_raiseEv _ _ _ _ _ _).trans (by simp [dawnView])
  clear_value u
  split
  · exact hu
  · split
    · rw [← hu]; simp [dawnView]
    · exact hu

@[simp] theorem dawnView_recoverRecord (id : Nat) : dawnView (recoverRecord id s) = dawnView s := by
  unfold recoverRecord
  dsimp only
  split
  · rfl
  · split
    · exact dawnView_recordGone s id
    · split
      · rfl
      · split
        · rfl
        · simp [dawnView]

theorem dawnView_rowsSet (rows : List (Nat × List Byte)) : dawnView (forEach rows (fun r => setRow r.1 r.2) s) = dawnView s := by
  refine forEach_keeps dawnView _ _ (fun r u => ?_) s
  simp [dawnView]

@[simp] theorem dawnView_ledgerRecovery (inp : DawnInput) : dawnView (ledgerRecovery inp s) = dawnView s := by
  unfold ledgerRecovery
  extract_lets u src v ids w x
  have hu : dawnView u = dawnView s := dawnView_rowsSet s _
  have hw : dawnView w = dawnView s := (forEach_keeps dawnView _ (recoverCounter inp) (fun id v => dawnView_recoverCounter v inp id) v).trans hu
  have hx : dawnView x = dawnView s := (forEach_keeps dawnView _ recoverRecord (fun id v => dawnView_recoverRecord v id) w).trans hw
  exact hx

@[simp] theorem dawnView_bump (inp : DawnInput) (id k : Nat) : dawnView (bump inp id k s) = dawnView s := by
  rw [bump, dawnView_endCarry]
  simp [dawnView]

@[simp] theorem dawnView_countAttempts (inp : DawnInput) : dawnView (countAttempts inp s) = dawnView s := by
  unfold countAttempts
  extract_lets u v
  have hu : dawnView u = dawnView s := forEach_keeps dawnView _ (bump inp 3) (fun k v => dawnView_bump v inp 3 k) s
  exact (forEach_keeps dawnView _ _ (fun c v => dawnView_raiseEv v _ _ _ _ _) u).trans hu

@[simp] theorem dawnView_setIdentity : dawnView (setIdentity s) = dawnView s := by
  rw [setIdentity]
  split <;> simp [dawnView]

@[simp] theorem dawnView_closePeriod (n kind cause : Nat) : dawnView (closePeriod n kind cause s) = dawnView s := by
  simp [closePeriod, checkpoint, dawnView]

@[simp] theorem dawnView_seqSkip (n cause : Nat) : dawnView (seqSkip n cause s) = dawnView s := by
  unfold seqSkip
  split
  · split
    · simp [dawnView]
    · rfl
  · rfl

@[simp] theorem dawnView_startGenerator (inp : DawnInput) (was : Bool) : dawnView (startGenerator inp was s) = dawnView s := by
  unfold startGenerator
  dsimp only
  split
  · split
    · exact dawnView_bump s inp 0 0
    · exact (dawnView_raiseEv _ _ _ _ _ _).trans (dawnView_bump s inp 0 0)
  · exact dawnView_bump s inp 0 0

@[simp] theorem dawnView_stampEvents : dawnView (stampEvents s) = dawnView s := by simp only [stampEvents, dawnView]

/-! #### The selection of the carcass image -/

@[simp] theorem dawnView_dropIntent : dawnView (dropIntent s) = dawnView s := by
  unfold dropIntent
  split
  · split
    · simp [dawnView]
    · rfl
  · rfl

@[simp] theorem dawnView_logCopy (k : Nat) (r : Except Bad Carcass) : dawnView (logCopy k r s) = dawnView s := by
  cases r with
  | ok c => rfl
  | error b => exact dawnView_raiseEv _ _ _ _ _ _

@[simp] theorem dawnView_runBare (reason : Nat) : dawnView (runBare reason s) = dawnView s := rfl

@[simp] theorem dawnView_runCopy (k : Nat) (c : Carcass) (same : Bool) : dawnView (runCopy k c same s) = dawnView s := by
  unfold runCopy
  split
  · rfl
  · extract_lets old u
    have hu : dawnView u = dawnView s := by
      simp only [u]
      split
      · simp [completeCommit, dawnView]
      · rfl
    exact (dawnView_raiseEv _ _ _ _ _ _).trans hu

@[simp] theorem dawnView_setCopyReason (k : Nat) (r : Bad) : dawnView (setCopyReason k r s) = dawnView s :=
  dawnView_of_still (by simp)

@[simp] theorem dawnView_selectCarcass : dawnView (selectCarcass s) = dawnView s := by
  unfold selectCarcass
  extract_lets src u a b v carried src' w
  have hu : dawnView u = dawnView s := rfl
  have hv : dawnView v = dawnView s := by simp [v, hu]
  have hw : dawnView w = dawnView s := by
    simp only [w]
    split
    · split
      · exact hv
      · rw [dawnView_raiseEv, ← hv]; simp [dawnView]
    · exact hv
  clear_value w u a b
  split
  · exact (dawnView_runBare _ _).trans hu
  · split
    · rw [dawnView_raiseEv]; exact hw
    · rw [dawnView_runCopy, hw]
    · rw [dawnView_runCopy, hw]
    · split
      · rw [dawnView_runCopy, hw]
      · split
        · rw [dawnView_runCopy, hw]
        · split
          · rw [dawnView_runCopy, hw]
          · rw [dawnView_raiseEv]; exact hw

@[simp] theorem dawnView_eraseCsk (cab : Nat) : dawnView (eraseCsk cab s) = dawnView s := rfl

@[simp] theorem dawnView_keepEntries (g : Nat) (keep : BankEntry → Bool) : dawnView (keepEntries g keep s) = dawnView s := by
  rw [keepEntries]
  split
  · rfl
  · simp [dawnView]

@[simp] theorem dawnView_closeMoved (old new : Carcass) : dawnView (closeMoved old new s) = dawnView s :=
  forEach_keeps dawnView _ (fun l : LaneRec => closePeriod l.lane 5 2) (fun _ u => dawnView_closePeriod u _ _ _) s

@[simp] theorem dawnView_sendMsg (m ty : Nat) (bs : List Byte) : dawnView (sendMsg m ty bs s) = dawnView s := dawnView_of_still (by simp)
@[simp] theorem dawnView_eraseShares (p : Share → Bool) : dawnView (eraseShares p s) = dawnView s := rfl
@[simp] theorem dawnView_askRotation (cab : Nat) (job : Option Nat) : dawnView (askRotation cab job s) = dawnView s := rfl

@[simp] theorem dawnView_dropBackup (holders : List Nat) (cab : Nat) : dawnView (dropBackup holders cab s) = dawnView s := by
  unfold dropBackup
  extract_lets c self u v src
  have hu : dawnView u = dawnView s := by
    simp only [u]
    split
    · exact dawnView_endJob _ _ _ _ _ _
    · rfl
  refine (forEach_keeps dawnView _ _ (fun m w => ?_) v).trans hu
  exact forEach_keeps dawnView _ (fun g => sendMsg m 0x27 (setPayload cab g)) (fun g y => dawnView_sendMsg y _ _ _) w

@[simp] theorem dawnView_shareCommit (old : Carcass) : dawnView (shareCommit old s) = dawnView s := by
  unfold shareCommit
  extract_lets new src u gone v w
  have hu : dawnView u = dawnView s := by simp only [u]; split <;> rfl
  have hv : dawnView v = dawnView s := (forEach_keeps dawnView _ _ (fun m w => dawnView_eraseShares w _) u).trans hu
  have hw : dawnView w = dawnView s := (forEach_keeps dawnView _ (fun c : Custody => dropBackup c.holders c.cab) (fun c y => dawnView_dropBackup y c.holders c.cab) v).trans hv
  refine (forEach_keeps dawnView _ _ (fun c y => ?_) w).trans hw
  split
  · rfl
  · exact dawnView_askRotation y _ _

@[simp] theorem dawnView_carriedChanges (old new : Carcass) : dawnView (carriedChanges old new s) = dawnView s := by
  unfold carriedChanges
  extract_lets u v w
  have hu : dawnView u = dawnView s := forEach_keeps dawnView _ eraseCsk (fun c y => dawnView_eraseCsk y c) s
  have hv : dawnView v = dawnView s := (forEach_keeps dawnView _ _ (fun g y => dawnView_keepEntries y g _) u).trans hu
  have hw : dawnView w = dawnView s := by
    refine (forEach_keeps dawnView _ _ (fun a y => ?_) v).trans hv
    rfl
  rw [dawnView_shareCommit, dawnView_closeMoved, hw]

@[simp] theorem dawnView_selectStep (inp : DawnInput) : dawnView (selectStep inp s) = dawnView s := by
  unfold selectStep
  dsimp only
  split
  · rw [dawnView_carriedChanges, floorBump, dawnView_endCarry]
    refine Eq.trans ?_ ((dawnView_selectCarcass _).trans (dawnView_dropIntent s))
    simp [dawnView]
  · exact (dawnView_selectCarcass _).trans (dawnView_dropIntent s)

/-! #### BIST and the key store -/

@[simp] theorem dawnView_bistStep (full : Bool) (inp : DawnInput) : dawnView (bistStep full inp s) = dawnView s := by
  unfold bistStep
  extract_lets es u failed v map pass
  have hu : dawnView u = dawnView s := forEach_keeps dawnView _ (keepResult 0) (fun e y => rfl) s
  have hv : dawnView v = dawnView s := by
    refine (forEach_keeps dawnView _ _ (fun p y => ?_) u).trans hu
    split
    · exact (forEach_keeps dawnView _ _ (fun t z => dawnView_modTile z t _) _).trans (dawnView_raiseEv _ _ _ _ _ _)
    · rfl
  clear_value v
  exact (dawnView_raiseEv _ _ _ _ _ _).trans hv

@[simp] theorem dawnView_rngDawn : dawnView (rngDawn s) = dawnView s := rfl

@[simp] theorem dawnView_dropBank (g k : Nat) (b : Option (RecBank (List BankEntry))) : dawnView (dropBank g k b s) = dawnView s := by
  unfold dropBank
  split
  · split
    · rfl
    · exact dawnView_raiseEv _ _ _ _ _ _
  · rfl

@[simp] theorem dawnView_loadEntry (e : BankEntry) : dawnView (loadEntry e s) = dawnView s := by
  unfold loadEntry
  dsimp only
  split <;> rfl

end

/-- A fold that keeps the view of its state part in each step keeps it. -/
theorem dawnView_foldl {α : Type} (f : State × Emptied → α → State × Emptied) (hf : ∀ a e, dawnView (f a e).1 = dawnView a.1) (l : List α) :
    ∀ a, dawnView (l.foldl f a).1 = dawnView a.1 := by
  induction l with
  | nil => exact fun _ => rfl
  | cons e l ih => exact fun a => (ih (f a e)).trans (hf a e)

theorem dawnView_loadGroup (a : State × Emptied) (g : Nat) : dawnView (loadGroup a g).1 = dawnView a.1 := by
  unfold loadGroup
  extract_lets s x u v src
  have hu : dawnView u = dawnView s := by
    simp only [u]
    split
    · rw [dawnView_dropBank, dawnView_dropBank]
    · rw [dawnView_dropBank]
  split
  · exact (dawnView_raiseEv _ _ _ _ _ _).trans hu
  · refine (dawnView_foldl _ (fun a e => ?_) _ _).trans hu
    split
    · exact dawnView_raiseEv _ _ _ _ _ _
    · exact dawnView_loadEntry _ _

theorem dawnView_loadGroups (gs : List Nat) (s : State) : dawnView (loadGroups gs s).1 = dawnView s :=
  dawnView_foldl loadGroup dawnView_loadGroup gs (s, {})

theorem dawnView_storeReady (empty : Bool) (r : State × Emptied) : dawnView (storeReady empty r) = dawnView r.1 := by simp only [storeReady, dawnView]

section
variable (s : State)

@[simp] theorem dawnView_keyStoreStep (inp : DawnInput) : dawnView (keyStoreStep inp s) = dawnView s :=
  (dawnView_storeReady _ _).trans ((dawnView_loadGroups _ _).trans rfl)

/-! #### Keeper starts -/

@[simp] theorem dawnView_modPair (p : Nat) (g : Pair → Pair) : dawnView (modPair p g s) = dawnView s := by simp [dawnView]

@[simp] theorem dawnView_loadTamper (recs : List TamperRec) (cover : Bool) : dawnView (loadTamper recs cover s) = dawnView s := by
  refine forEach_keeps dawnView _ _ (fun n u => ?_) s
  split <;> rfl

@[simp] theorem dawnView_meshVault (bad : List Nat) : dawnView (meshVault bad s) = dawnView s := by
  rw [meshVault]
  split <;> rfl

@[simp] theorem dawnView_endMessages (w : Nat) : dawnView (endMessages w s) = dawnView s :=
  (forEach_keeps dawnView _ (fun j => endJob j 0x7001 0 0 0) (fun j u => dawnView_endJob u j _ _ _ _) _).trans rfl

@[simp] theorem dawnView_offPair (w : Nat) : dawnView (offPair w s) = dawnView s := by
  rw [offPair]
  split <;> rfl

@[simp] theorem dawnView_loadWorld (w : Nat) (img : List Byte) (job : Option Nat) (stored : Bool) :
    dawnView (loadWorld w img job stored s) = dawnView s := by
  unfold loadWorld
  extract_lets u c d ps v src x
  have hu : dawnView u = dawnView s := (dawnView_offPair _ w).trans (dawnView_endMessages s w)
  clear_value u
  exact hu

@[simp] theorem dawnView_dawnWorlds : dawnView (dawnWorlds s) = dawnView s := by
  refine forEach_keeps dawnView _ _ (fun a u => ?_) s
  split
  · split
    · exact dawnView_loadWorld u _ _ _ _
    · exact dawnView_raiseFrom u _ _ _ _ _ _
  · exact dawnView_raiseFrom u _ _ _ _ _ _

@[simp] theorem dawnView_dawnLanes (frame : Nat) : dawnView (dawnLanes frame s) = dawnView s := by
  refine (forEach_keeps dawnView _ _ (fun n u => ?_) _).trans rfl
  rfl

@[simp] theorem dawnView_carcassStep (inp : DawnInput) : dawnView (carcassStep inp s) = dawnView s := by
  unfold carcassStep
  extract_lets dark u v w x y src a b
  have hv : dawnView v = dawnView s := by simp [v, u]
  have hw : dawnView w = dawnView s := by
    simp only [w]
    split
    · split <;> rw [dawnView_loadTamper, hv]
    · rw [dawnView_loadTamper, hv]
  have hx : dawnView x = dawnView s := (dawnView_keyStoreStep w inp).trans hw
  clear_value x
  have hy : dawnView y = dawnView s := by
    simp only [y]
    split
    · exact hx
    · rw [← hx, ← dawnView_meshVault x inp.sharesBad]; simp [dawnView]
  have hb : dawnView b = dawnView s := by
    simp only [b]
    split
    · exact hy
    · exact (dawnView_dawnWorlds a).trans hy
  clear_value b
  split
  · exact hb
  · exact (dawnView_dawnLanes b _).trans hb

end

/-! ### The end of a Dawn -/

/-- An attempt at a Dawn goes on, or ends in the back-off with one failure more. -/
def GoesOnOrFails (s t : State) : Prop :=
  dawnView t = dawnView s ∨ t.glb.phase = .backoff ∧ t.pwr.fails = s.pwr.fails + 1 ∧ t.pwr.cause = none

section
variable {s u t : State}

theorem GoesOnOrFails.trans_eq (h : GoesOnOrFails u t) (hview : dawnView u = dawnView s) : GoesOnOrFails s t := by
  have hfails : u.pwr.fails = s.pwr.fails := congrArg (·.2.2.1) hview
  exact h.imp (·.trans hview) (fun ⟨hphase, hcount, hcause⟩ => ⟨hphase, by rw [hcount, hfails], hcause⟩)

theorem goesOnOrFails_failAttempt (cause : Nat) (s : State) : GoesOnOrFails s (failAttempt cause s) := .inr ⟨rfl, rfl, rfl⟩

theorem goesOnOrFails_laterDawn (inp : DawnInput) (kept : Bool) (s : State) : GoesOnOrFails s (laterDawn inp kept s) := by
  unfold laterDawn
  extract_lets was full a L0 src b c d e f g src' h i
  have ha : dawnView a = dawnView s := (dawnView_ledgerRecovery _ inp).trans (dawnView_eventStep s kept)
  clear_value a
  have hb : dawnView b = dawnView s := (dawnView_countAttempts _ inp).trans ((dawnView_withTime a _).trans ha)
  clear_value b
  have hd : dawnView d = dawnView s := by rw [dawnView_selectStep, dawnView_setIdentity, dawnView_raiseEv, hb]
  clear_value d
  have he : dawnView e = dawnView s := (forEach_keeps dawnView _ (fun n => seqSkip n 0) (fun n u => dawnView_seqSkip u n 0) d).trans hd
  clear_value e
  have hf : dawnView f = dawnView s := ((dawnView_stampEvents _).trans (dawnView_startGenerator e inp was)).trans he
  clear_value f
  have hi : dawnView i = dawnView s := by
    rw [dawnView_rngDawn, dawnView_bistStep]
    exact hf
  clear_value i
  have hdrained : dawnView (drainRecorder i) = dawnView s := (dawnView_drainRecorder i).trans hi
  split
  · exact (goesOnOrFails_failAttempt 4 _).trans_eq hdrained
  · split
    · exact (goesOnOrFails_failAttempt 3 _).trans_eq hdrained
    · exact .inl ((dawnView_of_still (timeAnchor_still _)).trans ((dawnView_carcassStep i inp).trans hi))

/-- A Dawn has begun with its cause, or its attempt has ended in the back-off with one failure more. -/
def DawnBegins (cause fails : Nat) (t : State) : Prop :=
  t.glb.phase = .dawn ∧ t.glb.resetCause = cause ∧ t.pwr.cause = none ∨
    t.glb.phase = .backoff ∧ t.pwr.fails = fails + 1 ∧ t.pwr.cause = none

theorem dawnBegins_of_goesOnOrFails {cause fails : Nat} (hview : dawnView u = (.dawn, cause, fails, none)) (h : GoesOnOrFails u t) :
    DawnBegins cause fails t := by
  obtain hsame | ⟨hphase, hcount, hcause⟩ := h
  · have hend := hsame.trans hview
    exact .inl ⟨congrArg (·.1) hend, congrArg (·.2.1) hend, congrArg (·.2.2.2) hend⟩
  · exact .inr ⟨hphase, hcount.trans (congrArg (·.2.2.1 + 1) hview), hcause⟩

theorem dawnBegins_earlyDawn (inp : DawnInput) (s : State) : DawnBegins (dawnCause inp s) s.pwr.fails (earlyDawn inp s) := by
  unfold earlyDawn
  extract_lets cause kept before last a orr b glb pwr c d e f lcs h l
  have hb : b.pwr.fails = s.pwr.fails := by simp only [b]; split <;> rfl
  have hc : dawnView c = (.dawn, cause, s.pwr.fails, none) := by rw [← hb]; rfl
  have hd : dawnView d = (.dawn, cause, s.pwr.fails, none) :=
    ((dawnView_factoryWords _ _).trans (forEach_keeps dawnView _ dawnFlash (fun r u => dawnView_dawnFlash u r) c)).trans hc
  have he : dawnView e = (.dawn, cause, s.pwr.fails, none) := ((dawnView_logAlwaysOn _).trans (dawnView_alwaysOnCheck d _)).trans hd
  have hh : dawnView h = (.dawn, cause, s.pwr.fails, none) := (dawnView_otpStep e inp.otpAgree).trans he
  have hl : dawnView l = (.dawn, cause, s.pwr.fails, none) := by rw [dawnView_selectPair, dawnView_checkFirmware, hh]
  split
  · exact dawnBegins_of_goesOnOrFails hh (.inl rfl)
  · split
    · exact dawnBegins_of_goesOnOrFails hh (goesOnOrFails_failAttempt 2 h)
    · split
      · exact dawnBegins_of_goesOnOrFails hl (goesOnOrFails_failAttempt 1 _)
      · exact dawnBegins_of_goesOnOrFails hl (goesOnOrFails_laterDawn inp kept _)

end

end Sys2Proof.Machine
end

section
/-!
PROOFS. How a run ends, a Dawn opens admission, power fails and NIGHT ends (O59).
-/
namespace Sys2Proof.Machine

/-! ### The opening of admission -/

/-- The global state, power and the orrery, which the opening of admission sets. -/
def admitView (s : State) : GlbState × PwrState × OrrState := (s.glb, s.pwr, s.orr)

section
variable (s : State)

@[simp] theorem admitView_raiseEv (code sev a b c : Nat) : admitView (raiseEv code sev a b c s) = admitView s := by simp [admitView]
@[simp] theorem admitView_modPair (p : Nat) (g : Pair → Pair) : admitView (modPair p g s) = admitView s := by simp [admitView]
@[simp] theorem admitView_attnAll (b : Nat) : admitView (attnAll b s) = admitView s := by simp [admitView]

theorem admitView_watched (g : State → State) : admitView (watched g s) = admitView (g s) := by
  unfold watched
  dsimp only
  split <;> split <;> simp

@[simp] theorem admitView_scheduleHello (h m : Nat) : admitView (scheduleHello h m s) = admitView s := by
  unfold scheduleHello
  split
  · rfl
  · dsimp only
    split <;> rfl

@[simp] theorem admitView_updateRef : admitView (updateRef s) = admitView s := by
  obtain ⟨c, hcase | hcase⟩ := updateRef_cases s
  · rw [hcase]
    rfl
  · rw [hcase, admitView_raiseEv]
    rfl

@[simp] theorem admitView_meshStart (h : Nat) : admitView (meshStart h s) = admitView s := by
  unfold meshStart
  split
  · rfl
  · rw [admitView_updateRef]
    refine forEach_keeps admitView _ _ (fun m u => ?_) s
    rw [admitView_scheduleHello]
    rfl

@[simp] theorem admitView_drbgLate : admitView (drbgLate s) = admitView s := by
  rw [drbgLate]
  split
  · rfl
  · rw [admitView_raiseEv]
    rfl

end

theorem admissionOpen_spec {s : State} (ms : Nat) (hphase : s.glb.phase = .dawn) (hrun : s.time.genRunning = true) (hworn : s.glb.counterWorn = false)
    (hup : s.wld.pair0.up = true) : (admissionOpen ms s).glb.phase = .run ∧ (admissionOpen ms s).orr.admitOpen = true ∧
      (admissionOpen ms s).glb.dawnMs = saturate 16 ms ∧ (admissionOpen ms s).pwr.fails = 0 ∧ (admissionOpen ms s).pwr.excluded = [] := by
  have hcond : s.glb.phase = .dawn ∧ s.time.genRunning = true ∧ s.glb.counterWorn = false ∧ s.wld.pair0.up = true := ⟨hphase, hrun, hworn, hup⟩
  rw [admissionOpen, if_pos hcond]
  extract_lets u v w
  have hview : admitView (meshStart (w.time.L + ceilDiv ((700 - ms) * 1000000) 8192) w) = admitView u := by
    rw [admitView_meshStart]
    simp only [w, admitView_raiseEv, v]
    split
    · exact admitView_modPair _ _ _
    · rfl
  have hopen := hview.trans (admitView_watched (drbgLate s) _)
  exact ⟨congrArg (·.1.phase) hopen, congrArg (·.2.2.admitOpen) hopen, congrArg (·.1.dawnMs) hopen, congrArg (·.2.1.fails) hopen,
    congrArg (·.2.1.excluded) hopen⟩

/-! ### Failing power -/

/-- The firmware write, the erases that are due, the always-on copy of L and whether the generator runs. -/
def failView (s : State) : Option FwWrite × List (Nat × Nat) × Nat × Bool := (s.pwr.write, s.key.eraseDue, s.time.aonL, s.time.genRunning)

section
variable (s : State)

@[simp] theorem failView_raiseEv (code sev a b c : Nat) : failView (raiseEv code sev a b c s) = failView s := by simp [failView]
@[simp] theorem failView_attnAll (b : Nat) : failView (attnAll b s) = failView s := by simp [failView]
@[simp] theorem failView_modJob (j : Nat) (g : Job → Job) : failView (modJob j g s) = failView s := rfl
@[simp] theorem failView_markFinished (j : Nat) : failView (markFinished j s) = failView s := rfl
@[simp] theorem failView_giveBack (f n k : Nat) : failView (giveBack f n k s) = failView s := by simp [failView]
@[simp] theorem failView_writeEntry (f n : Nat) (e : Bool → Completion) : failView (writeEntry f n e s) = failView s := by simp [failView]

@[simp] theorem failView_jobEntry (j : Nat) (x : Job) (e : Bool → Completion) : failView (jobEntry j x e s) = failView s := by
  rw [jobEntry]
  split <;> simp

@[simp] theorem failView_releaseReserve (j : Nat) : failView (releaseReserve j s) = failView s := by
  unfold releaseReserve
  split
  · rfl
  · split <;> simp

@[simp] theorem failView_endJob (j status w0 w1 w2 : Nat) : failView (endJob j status w0 w1 w2 s) = failView s := by
  unfold endJob
  split
  · rfl
  · split <;> simp

/-- Without open requests the end of a job leaves none. -/
theorem reqs_endJob (h : s.dov.reqs = []) (j status w0 w1 w2 : Nat) : (endJob j status w0 w1 w2 s).dov.reqs = [] := by
  unfold endJob
  split
  · exact h
  · split
    · exact h
    · generalize hu : releaseReserve j _ = u
      have hreqs : u.dov.reqs = [] := by rw [← hu]; simp [h]
      show u.dov.reqs.filter _ = []
      rw [hreqs, List.filter_nil]

/-- A break leaves no open request. -/
theorem reqs_breakJobs : (breakJobs s).dov.reqs = [] := by
  unfold breakJobs
  extract_lets dov time pwr u
  have hu : u.dov.reqs = [] := rfl
  clear_value u
  rw [forEach]
  generalize liveJobs u = l
  induction l generalizing u with
  | nil => exact hu
  | cons e l ih =>
    refine ih _ ?_
    dsimp only
    split <;> split
    · simpa using hu
    · exact reqs_endJob _ (by simpa using hu) _ _ _ _ _
    · exact hu
    · exact reqs_endJob _ hu _ _ _ _ _

@[simp] theorem failView_breakJobs : failView (breakJobs s) = failView s := by
  unfold breakJobs
  refine (forEach_keeps failView _ _ (fun e u => ?_) _).trans rfl
  dsimp only
  split <;> split <;> simp

@[simp] theorem failView_dropWaiting : failView (dropWaiting s) = failView s :=
  forEach_keeps failView _ (fun j => endJob j 0x7001 0 0 0) (fun j u => failView_endJob u j _ _ _ _) _

@[simp] theorem failView_underTest (p : Nat) (f : Option Nat) : failView (underTest p f s) = failView s :=
  forEach_keeps failView _ (fun t => modTile t (fun x => { x with bistRun := f })) (fun _ _ => rfl) s

@[simp] theorem failView_abortBist (cause : Nat) : failView (abortBist cause s) = failView s := by
  unfold abortBist
  split
  · exact failView_dropWaiting s
  next r _ =>
    extract_lets p u v
    have hu : failView u = failView s := forEach_keeps failView _ _ (fun k w => by rfl) s
    have hv : failView v = failView s := (forEach_keeps failView _ (fun q => underTest q none) (fun q w => failView_underTest w q none) u).trans hu
    rw [failView_dropWaiting, failView_raiseEv]
    exact hv

theorem genRunning_copyTime : (copyTime s).time.genRunning = s.time.genRunning := by
  rw [copyTime]
  split <;> rfl

theorem failView_watched (g : State → State) : failView (watched g s) = failView (g s) := by
  unfold watched
  dsimp only
  split <;> split <;> simp

theorem dov_watched (g : State → State) : (watched g s).dov = (g s).dov := by
  unfold watched
  dsimp only
  split <;> split <;> simp

end

/-- Failing power leaves no firmware write and no erase; L is copied where the generator runs; then the jobs break and admission closes. -/
theorem powerFail_cases {s : State} (h : s.glb.phase = .run ∨ s.glb.phase = .dawn) :
    ∃ lost writes u, failView u = (none, [], if s.time.genRunning then s.time.L else (abortBist 1 (copyTime s)).time.aonL, s.time.genRunning) ∧
      powerFail s = watched (fun s => { s with orr := { s.orr with admitOpen := false }, glb := { s.glb with phase := .pwrfail } })
        (raiseEv 0x0120 5 lost writes 0 (breakJobs u)) := by
  have hrun : (abortBist 1 (copyTime s)).time.genRunning = s.time.genRunning :=
    (congrArg (·.2.2.2) (failView_abortBist (copyTime s) 1)).trans (genRunning_copyTime s)
  have hL : (abortBist 1 (copyTime s)).time.L = s.time.L := by simp
  rw [← hrun, ← hL]
  unfold powerFail
  obtain h | h := h <;> rw [h] <;> exact ⟨_, _, _, rfl, rfl⟩

theorem powerFail_spec {s : State} (h : s.glb.phase = .run ∨ s.glb.phase = .dawn) :
    (powerFail s).glb.phase = .pwrfail ∧ (powerFail s).orr.admitOpen = false ∧ (powerFail s).pwr.write = none ∧ (powerFail s).key.eraseDue = [] ∧
      (powerFail s).dov.reqs = [] ∧ (s.time.genRunning = true → (powerFail s).time.aonL = s.time.L) := by
  obtain ⟨lost, writes, u, hview, hcase⟩ := powerFail_cases h
  rw [hcase]
  generalize hv : raiseEv 0x0120 5 lost writes 0 (breakJobs u) = v
  have hview' : failView v = failView u := by rw [← hv, failView_raiseEv, failView_breakJobs]
  have hreqs : v.dov.reqs = [] := by rw [← hv]; simpa using reqs_breakJobs u
  have hend := (failView_watched v (fun s => { s with orr := { s.orr with admitOpen := false }, glb := { s.glb with phase := .pwrfail } })).trans
    (hview'.trans hview)
  refine ⟨congrArg (·.phase) (glb_watched _), congrArg (·.admitOpen) (orr_watched _), congrArg (·.1) hend, congrArg (·.2.1) hend,
    (congrArg (·.reqs) (dov_watched _ _)).trans hreqs, fun hrun => ?_⟩
  rw [hrun, if_pos rfl] at hend
  exact congrArg (·.2.2.1) hend

/-! ### The claims -/

theorem copyTime_eq (s : State) : ∃ c, copyTime s = { s with time := c } := by
  rw [copyTime]
  split
  · exact ⟨_, rfl⟩
  · exact ⟨s.time, rfl⟩

/-- A run has ended for a cause: what a reset leaves stands, the main domains are at their reset values. -/
def RunEnded (cause : Nat) (s t : State) : Prop :=
  t.pwr.cause = some cause ∧ t.glb.phase = .off ∧ t.tam = s.tam ∧ t.lcs.otp = s.lcs.otp ∧ t.ldg.counters = s.ldg.counters ∧
    t.key.csk = s.key.csk ∧ t.key.groups = s.key.groups ∧ t.evt.ring = s.evt.ring ∧ t.job = State.reset.job ∧ t.hlk = State.reset.hlk ∧
    t.key.slots = [] ∧ t.time.genRunning = false

theorem runEnded_endRun (cause : Nat) (s : State) : RunEnded cause s ((endRun cause s).withPending s.pending) := by
  obtain ⟨c, hc⟩ := copyTime_eq s
  rw [endRun, hc]
  exact ⟨rfl, rfl, rfl, rfl, rfl, rfl, rfl, rfl, rfl, rfl, rfl, rfl⟩

theorem runsEnd : Claims.RunsEnd := by
  rintro s c cause (⟨rfl, rfl, hphase⟩ | ⟨rfl, rfl, hphase⟩ | ⟨rfl, rfl, hphase, hdisarmed⟩)
  · have hcase : warmReset s = endRun 1 s := by
      unfold warmReset
      obtain h | h | h | h := hphase <;> rw [h]
    apply yields_of_exec_eq_done rfl
    rw [hcase]
    exact runEnded_endRun 1 s
  · apply yields_of_exec_eq_done rfl
    rw [bootRetry, if_pos hphase]
    exact runEnded_endRun 6 s
  · apply yields_of_exec_eq_done rfl
    rw [powerRecovered, if_pos ⟨hphase, hdisarmed⟩]
    exact runEnded_endRun 4 s

theorem dawnFailureAndWake : Claims.DawnFailureAndWake := by
  refine fun s => ⟨fun inp hoff hcause hup hedges => ?good, fun ms hphase hrun hworn hup => ?opens, fun hphase => ?fail, fun cause secs hnight hcause hdelay => ?wake,
    fun secs hnight hearly => ?early⟩
  case good =>
    apply yields_of_exec_eq_done rfl
    rw [powerGood, if_pos ⟨hoff, hcause, hup, hedges⟩]
    obtain ⟨hphase, hcause, hnone⟩ | ⟨hphase, hfails, hnone⟩ := dawnBegins_earlyDawn inp s
    · exact ⟨.inl ⟨hphase, hcause⟩, hnone⟩
    · exact ⟨.inr ⟨hphase, hfails⟩, hnone⟩
  case opens =>
    apply yields_of_exec_eq_done rfl
    exact admissionOpen_spec ms hphase hrun hworn hup
  case fail =>
    apply yields_of_exec_eq_done rfl
    exact powerFail_spec hphase
  case wake =>
    apply yields_of_exec_eq_done rfl
    rw [wake, if_pos ⟨hnight, hcause, hdelay⟩]
    exact ⟨rfl, rfl, rfl, rfl⟩
  case early =>
    refine does_of_exec_eq_done (congrArg (done s) ?_)
    have hcond : ¬(s.glb.phase = .night ∧ 1 ≤ 2 ∧ (1 = 1 → s.pwr.wakeDelay ≠ 0 ∧ s.pwr.wakeDelay ≤ secs)) := by
      rintro ⟨-, -, h⟩
      obtain ⟨hset, hle⟩ := h rfl
      omega
    rw [wake, if_neg hcond]

/-- Settles O59: the ends of a run, and the Dawn with its failure and the wake. -/
theorem runsEndAndBegin : Obligations.RunsEndAndBegin := ⟨runsEnd, dawnFailureAndWake⟩

end Sys2Proof.Machine
end

section
/-! PROOFS. The lapse of a request (R229): what two requests of one job do to the requests that stay. -/

namespace Sys2Proof.Machine

/-- A request of job 0. -/
def requestOfJobZero (num : Nat) : Request := { num := num, cab := 0, opcode := 0x7001, job := 0, digest := 0, openL := 0, rosters := [] }

/-- A state in which one job has two open requests, the window of the first being over. No step opens a second request of a job, but the statement
speaks of every state. -/
def twoRequestsOfOneJob : State :=
  { State.reset with
    time := { State.reset.time with L := 2 ^ 20 }
    job := { State.reset.job with jobs := [(0, plainJob)] }
    dov := { State.reset.dov with reqs := [requestOfJobZero 0, requestOfJobZero 1] } }

/-- The job's end takes its other request off as well. -/
theorem reqs_dovetailLapse_twoRequestsOfOneJob : (dovetailLapse 0 twoRequestsOfOneJob).dov.reqs = [] := by decide +kernel

/-- Refutes O48: the lapse of a request ends its job, which takes every request of that job with it, so a second request of the job does not
stay as the statement says. -/
theorem not_requestsAreApprovedReadAndLapse : ¬ Obligations.RequestsAreApprovedReadAndLapse := by
  rintro ⟨-, -, hlapse⟩
  obtain ⟨t, hexec, -, hreqs, -⟩ := hlapse twoRequestsOfOneJob 0 (requestOfJobZero 0) (by decide) (by decide) (by decide)
  rw [done_next hexec] at hreqs
  have hnone : [] = twoRequestsOfOneJob.dov.reqs.filter (fun q => q.num != 0) := reqs_dovetailLapse_twoRequestsOfOneJob.symm.trans hreqs
  exact absurd hnone (by decide)

end Sys2Proof.Machine
end

section
/-! PROOFS. Governed key commands: their requests (R224, R225) and what runs once they are approved (R201, R219 to R222). -/

namespace Sys2Proof.Machine

/-! ### The request a governed command opens -/

section
variable {s : State} {j op right : Nat} {x : Job}

/-- A command opens its own request under its first roster, or finds no place. -/
theorem openOwn_spec {c : Instr} (hexec : exec c s = done s (openOwn j x right s)) (hrun : runnable s j op = some x) :
    (openRequests s (cabOfFn s x.fn) < 16 → Yields c s (Opened j op [rosterFor s (cabOfFn s x.fn) (some right)] s)) ∧
      (16 ≤ openRequests s (cabOfFn s x.fn) → Does c s (endJob j 0x4001 0 0 0 s)) := by
  obtain ⟨hx, hop⟩ := jobOf_and_opcode_of_runnable hrun
  refine ⟨fun hroom => ?_, fun hfull => ?_⟩
  · apply yields_of_exec_eq_done hexec
    rw [← hop]
    exact opened_withPending (opened_openRequest hx hroom _ _)
  · refine does_of_exec_eq_done (hexec.trans (congrArg (done s) ?_))
    exact openRequest_of_full hfull _ _

theorem runnable_of_openable (h : openable s j op = some x) : runnable s j op = some x := by
  rw [openable] at h
  split at h
  · exact nomatch h
  · exact (Option.filter_eq_some_iff.1 h).1

end

theorem governedCommandsOpenTheirRequest : Claims.GovernedCommandsOpenTheirRequest := by
  refine ⟨fun s j op right x c hc hopen => ?own, fun s j x hopen => ?imported⟩
  case own =>
    have hexec : exec c s = done s (openOwn j x right s) := by
      obtain ⟨tile, o, rfl, rfl, rfl⟩ | ⟨rfl, rfl, rfl⟩ | ⟨rfl, rfl, rfl⟩ | ⟨rfl, rfl, rfl⟩ | ⟨rfl, rfl, rfl⟩ | ⟨rfl, rfl, rfl⟩ |
        ⟨rfl, rfl, rfl, hgood⟩ | ⟨rfl, rfl, rfl⟩ := hc
      · exact congrArg (done s) (by simp only [keyGenerate, hopen])
      · exact congrArg (done s) (by simp only [keyExport, hopen])
      · exact congrArg (done s) (by simp only [keyDestroy, hopen])
      · exact congrArg (done s) (by simp only [thaw, hopen])
      · exact congrArg (done s) (by simp only [custodyRotate, hopen])
      · exact congrArg (done s) (by simp only [custodyRestore, hopen])
      · exact congrArg (done s) (by simp only [appletLoad, hopen, hgood])
      · exact congrArg (done s) (by simp only [cabinetZeroize, hopen])
    exact openOwn_spec hexec (runnable_of_openable hopen)
  case imported =>
    have hrun := runnable_of_openable hopen
    obtain ⟨hx, hop⟩ := jobOf_and_opcode_of_runnable hrun
    apply yields_of_exec_eq_done rfl
    cases hm : importMaterial s x with
    | error e =>
      simp only [keyImport, hopen, hm]
      exact ended_endJob hx _ _ _ _
    | ok m =>
      simp only [keyImport, hopen, hm]
      split
      next hroom =>
        rw [← hop]
        exact opened_withPending (opened_openRequest hx hroom _ _)
      next hfull =>
        have hend : openOwn j x rightKeyCreate s = endJob j 0x4001 0 0 0 s := openRequest_of_full (Nat.not_lt.1 hfull) _ _
        have hpending : (endJob j 0x4001 0 0 0 s).pending = s.pending := (endJob_keeps _ _ _ _ _ _).1
        rw [hend, ← hpending]
        rfl

/-! ### What runs after the quorum -/

section
variable {s : State} {j : Nat} {x : Job} {r : Result}

/-- The preparation of a bank touches neither the jobs nor the slots. -/
theorem prepareUpdate_spec (j : Nat) (s : State) : ((prepareUpdate j s).job, (prepareUpdate j s).key.slots) = (s.job, s.key.slots) := by
  unfold prepareUpdate
  split
  · rfl
  · dsimp only
    split
    · rfl
    · refine forEach_keeps (fun u => (u.job, u.key.slots)) _ _ (fun g u => ?_) s
      rfl

/-- A result that waits for the key store is recorded. -/
theorem recorded_setKeyResult (hx : s.jobOf j = some x) (r : Result) : Recorded j r (setKeyResult j r s) := by
  have hjob : (setKeyResult j r s).job = (setResult j r s).job := congrArg Prod.fst (prepareUpdate_spec _ _)
  exact recorded_of_jobOf_eq (jobOf_of_job_eq hjob j) (recorded_setResult hx r)

theorem slots_setKeyResult (r : Result) : (setKeyResult j r s).key.slots = s.key.slots := congrArg Prod.snd (prepareUpdate_spec _ _)

/-- An approved generation whose checks pass puts its key, persistent, into the span found. -/
theorem recorded_createKey {cab cls flags slot : Nat} {c : Csk} {m : List Byte} (hx : s.jobOf j = some x) (hcsk : Tab.get? s.key.csk cab = some c)
    (hplain : x.desc.par 42 1 ≠ 1) (hspan : freeSpan s cab (max 1 (ceilDiv m.length 432)) = some slot) :
    ∃ r a, Recorded j r (createKey j x cab cls flags m s) ∧ r.status = 0 ∧ r.w0 = mkHandle cab cls slot (slotGen s slot) ∧
      r.effects = [.putKey slot a m] ∧ a.handle = r.w0 ∧ a.type = x.desc.par 40 2 ∧ a.policy = x.desc.par 44 4 ∧ a.flags = flags + 1 := by
  simp only [createKey, hcsk, if_neg hplain, hspan]
  exact ⟨_, _, recorded_setKeyResult hx _, rfl, rfl, rfl, rfl, rfl, rfl, rfl⟩

theorem openable_of_approved (op : Nat) (hrun : runnable s j op = some x) (happroved : x.approved = true) : openable s j op = none := by
  rw [openable, hrun]
  split
  · rfl
  · simp [Option.filter, happroved]

/-- An approved key generation that has its reseed generates. -/
theorem keyGenerate_of_approved {tile outcome : Nat} (hrun : runnable s j 0x7001 = some x) (happroved : x.approved = true) (hready : prReady s = true) :
    keyGenerate j tile outcome s = generate j tile outcome x s := by
  have hfilter : (runnable s j 0x7001).filter (·.approved) = some x := by rw [hrun]; simp [Option.filter, happroved]
  simp only [keyGenerate, openable_of_approved 0x7001 hrun happroved, hfilter, hready, if_true]

/-- A destroyed key's command waits for its commit phase. -/
theorem runKeyDestroy_spec {k : KeySlot} (hx : s.jobOf j = some x) (hk : keyOf? s x.desc.handleA = some k) :
    Recorded j { status := 0, effects := [.destroyKey x.desc.handleA] } (runKeyDestroy j x s) ∧ (runKeyDestroy j x s).key.slots = s.key.slots := by
  simp only [runKeyDestroy, hk]
  have hkept : (withdrawNaming x.desc.handleA j s).key = s.key :=
    forEach_keeps (fun u => u.key) _ (fun e : Nat × Job => endJob e.1 0x7001 0 0 0) (fun e u => by simp) s
  exact ⟨recorded_setKeyResult (by rw [jobOf_withdrawNaming_self, hx]) _, (slots_setKeyResult _).trans (congrArg (·.slots) hkept)⟩

/-- With the commit phase the key goes from its slot and the erase of its bank is due. -/
theorem dropKey_spec {h : Nat} {k : KeySlot} (hk : keyOf? s h = some k) :
    Tab.get? (dropKey j h s).key.slots (hSlot h) = none ∧ (dropKey j h s).key.eraseDue = s.key.eraseDue ++ [(j, hSlot h / 16)] := by
  have hkey : (dropKey j h s).key = (removeKey (hSlot h) (commitGroup j (hSlot h / 16) s)).key := by simp [dropKey, hk]
  rw [hkey]
  refine ⟨slots_removeKey _ _, ?_⟩
  rw [removeKey]
  split <;> rfl

theorem runKeyExport_spec {a b : KeySlot} {serial : Nat} (hx : s.jobOf j = some x) (ha : keyOf? s x.desc.handleA = some a) (hb : keyOf? s x.desc.handleB = some b) :
    ∃ q, Recorded j q (runKeyExport serial j x s) ∧ q.status = 0 ∧ q.output = standardBytes 0x7003 [x.desc.par 42 1, b.attr.type]
      [b.material, transferHeader a.attr serial ++ a.material, freeBytes s 32] (exportLen (x.desc.par 42 1) a.material.length b.attr.type) := by
  simp only [runKeyExport, ha, hb]
  exact ⟨_, recorded_setKeyResult (x := x) (by simp [hx]) _, rfl, by simp [freeBytes]⟩

end

theorem approvedKeyCommandsRun : Claims.ApprovedKeyCommandsRun := by
  refine fun s j tile x => ⟨fun slot c m hrun happroved hready hcsk hplain hm hspan => ?made, fun hrun happroved hready => ?bad, fun r hr hx hlive =>
    ⟨fun hop k hk => ?destroy, fun hop hfrozen => ?thaw, fun hop a b ha hb => ?exported⟩⟩
  case made =>
    apply yields_of_exec_eq_done rfl
    rw [keyGenerate_of_approved hrun happroved hready, generate, if_neg (by decide), if_neg (fun h => absurd h.1 (by decide)), ← hm]
    obtain ⟨r, a, hrec, hstatus, hw0, heffects, hhandle, htype, hpolicy, hflags⟩ :=
      recorded_createKey (s := drawFree (materialLen (x.desc.par 40 2) (sizeParam x.desc) + 64) (takeSeed s)) (j := j) (cls := 0) (flags := 2)
        (jobOf_and_opcode_of_runnable hrun).1 hcsk hplain hspan
    exact ⟨r, a, recorded_withPending hrec, hstatus, hw0, heffects, hhandle, htype, hpolicy, by rw [persistent, hflags]; decide⟩
  case bad =>
    apply yields_of_exec_eq_done rfl
    rw [keyGenerate_of_approved hrun happroved hready, generate, if_pos rfl]
    exact ended_verifyFailed (jobOf_and_opcode_of_runnable hrun).1 _ _ _
  case destroy =>
    subst hr
    have hcase : runApproved r s = runKeyDestroy r.job x s := by simp [runApproved, hx, hlive, hop]
    rw [hcase]
    obtain ⟨hrec, hslots⟩ := runKeyDestroy_spec hx hk
    exact ⟨hrec, hslots, fun ok => dropKey_spec hk⟩
  case thaw =>
    subst hr
    have hcase : runApproved r s = runThaw r.job x s := by simp [runApproved, hx, hlive, hop]
    rw [hcase, runThaw]
    dsimp only
    rw [if_pos hfrozen]
    exact ⟨rfl, recorded_setResult (x := x) hx _⟩
  case exported =>
    subst hr
    have hcase : runApproved r s = runKeyExport (serialOf s) r.job x s := by simp [runApproved, hx, hlive, hop]
    rw [hcase]
    exact runKeyExport_spec hx ha hb

/-- Settles O47: the requests that open, and the approved key commands. -/
theorem governedCommandsAskAndRun : Obligations.GovernedCommandsAskAndRun := ⟨governedCommandsOpenTheirRequest, approvedKeyCommandsRun⟩

end Sys2Proof.Machine
end

section
/-! PROOFS. Life-cycle transitions (R447, R451, R452) and debug authorizations (R457, R458). -/

namespace Sys2Proof.Machine

/-! ### LCS_TRANSITION -/

section
variable {s : State} {j bits : Nat} {x : Job}

theorem lcs_endJob (j status w0 w1 w2 : Nat) (s : State) : (endJob j status w0 w1 w2 s).lcs = s.lcs :=
  congrArg (·.2.2.2.1) (endJob_still j status w0 w1 w2 s)

theorem lcsTransition_of_approved (hrun : runnable s j 0xB001 = some x) (hfree : awaiting s j = false) (hreset : s.lcs.pendingReset = false)
    (happroved : x.approved = true) :
    lcsTransition j bits s = setResult j { status := 0, w0 := x.desc.par 40 1, effects := [.transition (x.desc.par 40 1) bits] } s := by
  simp only [lcsTransition, hrun, hfree, hreset, happroved, Bool.false_eq_true, or_self, if_false, if_true]

/-- Before an approval: the table, then the token, then the quorum that SHIPPED asks for while an image is active. -/
theorem lcsTransition_of_unapproved (hrun : runnable s j 0xB001 = some x) (hfree : awaiting s j = false) (hreset : s.lcs.pendingReset = false)
    (happroved : x.approved = false) : lcsTransition j bits s =
      if (nextStep s (x.desc.par 40 1)).isNone then endJob j 0x3002 40 0 0 s
      else if !tokenOk s (tokenOf s.lcs.code (x.desc.par 40 1)) x.input then endJob j 0x5040 0 0 0 (tokenBad (x.desc.par 40 1) x.fn s)
      else if s.lcs.code = 3 ∧ !s.car.active.bare then openOwn j x rightCarcass s
      else setResult j { status := 0, w0 := x.desc.par 40 1, effects := [.transition (x.desc.par 40 1) bits] } s := by
  simp only [lcsTransition, hrun, hfree, hreset, happroved, Bool.false_eq_true, or_self, if_false, failJob]

theorem ended_tokenBad (hx : s.jobOf j = some x) (to_ f status w0 w1 w2 : Nat) :
    Ended j (endJob j status w0 w1 w2 (tokenBad to_ f s)) ∧ (endJob j status w0 w1 w2 (tokenBad to_ f s)).lcs = s.lcs := by
  refine ⟨ended_endJob (x := x) (by simp [tokenBad, hx]) _ _ _ _, ?_⟩
  rw [lcs_endJob]
  simp [tokenBad]

end

theorem lifecycleTransitions : Claims.LifecycleTransitions := by
  rintro s j to_ x hrun rfl hfree hreset
  obtain ⟨hx, hop⟩ := jobOf_and_opcode_of_runnable hrun
  have hbad := ended_tokenBad hx (x.desc.par 40 1) x.fn 0x5040 0 0 0
  refine ⟨fun bits happroved => ?approved, fun i bits hstep happroved => ⟨fun hown => ?own, fun hcode hbare hroom => ?quorum, ?token⟩,
    fun i bits ok hstep => ?effect, fun bits hstep happroved => ?unlisted⟩
  case approved => exact does_of_exec_eq_done (congrArg (done s) (lcsTransition_of_approved hrun hfree hreset happroved))
  case own =>
    apply yields_of_exec_eq_done rfl
    have hcond : ¬(s.lcs.code = 3 ∧ (!s.car.active.bare) = true) := by
      rintro ⟨hcode, hbare⟩
      obtain h | h := hown
      · exact h hcode
      · simp [h] at hbare
    rw [lcsTransition_of_unapproved hrun hfree hreset happroved, hstep]
    simp only [Option.isNone_some, Bool.false_eq_true, if_false, if_neg hcond]
    cases htoken : tokenOk s (tokenOf s.lcs.code (x.desc.par 40 1)) x.input with
    | true => rfl
    | false => exact hbad
  case quorum =>
    apply yields_of_exec_eq_done rfl
    rw [lcsTransition_of_unapproved hrun hfree hreset happroved, hstep]
    have hcond : s.lcs.code = 3 ∧ (!s.car.active.bare) = true := ⟨hcode, by simp [hbare]⟩
    simp only [Option.isNone_some, Bool.false_eq_true, if_false, if_pos hcond]
    cases htoken : tokenOk s (tokenOf s.lcs.code (x.desc.par 40 1)) x.input with
    | true =>
      have hopened := opened_openRequest hx hroom [rosterFor s (cabOfFn s x.fn) (some rightCarcass)] (commandDigest s (cabOfFn s x.fn) x)
      rw [hop] at hopened
      exact opened_withPending hopened
    | false => exact hbad
  case token =>
    apply yields_of_exec_eq_done rfl
    intro htoken
    rw [lcsTransition_of_unapproved hrun hfree hreset happroved, hstep, htoken]
    exact hbad
  case effect => exact runTransition_of_nextStep hstep
  case unlisted =>
    refine does_of_exec_eq_done (congrArg (done s) ?_)
    rw [lcsTransition_of_unapproved hrun hfree hreset happroved, hstep]
    rfl

/-! ### Debug authorizations -/

section
variable {s : State} {j : Nat} {x : Job}

/-- Rights within reach that force no zeroization are granted. -/
theorem authorize_of_within {rights reach source : Nat} {ack : Bool} (hwithin : rightsWithin rights reach = true) (hforced : forcedZeroize s rights = false) :
    authorize j x rights reach ack source s = setResult j { status := 0, w0 := rights, effects := [.openRights rights source false] } s := by
  simp only [authorize, hwithin, hforced, Bool.not_true, Bool.not_false, Bool.false_eq_true, if_false, if_true, grant]

theorem ended_and_lcs_endJob (hx : s.jobOf j = some x) (status w0 w1 w2 : Nat) :
    Ended j (endJob j status w0 w1 w2 s) ∧ (endJob j status w0 w1 w2 s).lcs = s.lcs :=
  ⟨ended_endJob hx _ _ _ _, lcs_endJob _ _ _ _ _ _⟩

/-- The bytes of a list between a head and a rest. -/
theorem slice_append {off n : Nat} (a b c : List Byte) (ha : a.length = off) (hb : b.length = n) : slice (a ++ (b ++ c)) off n = b := by
  rw [slice, ← ha, List.drop_left, ← hb, List.take_left]

/-- The 96 bytes of a challenge: its head, the state, serial, hardware revision, rights and L, 32 fresh bytes and a rest of zeros. -/
def challengeBytes (s : State) (rights : Nat) : List Byte :=
  leBytes 4 0x4843474B ++ leBytes 2 1 ++ leBytes 1 s.lcs.code ++ zeros 1 ++ leBytes 8 (serialOf s) ++ leBytes 4 (otpWord s 10)
    ++ leBytes 4 rights ++ leBytes 8 s.time.L ++ freeBytes s 32 ++ zeros 32

theorem debugChallenge_of_runnable (hrun : runnable s j 0xB003 = some x) : debugChallenge j s =
    { setResult j (okBytes (challengeBytes s (x.desc.par 44 4))) (drawFree 32 s) with
      lcs := { s.lcs with challenge := some { bytes := challengeBytes s (x.desc.par 44 4), rights := x.desc.par 44 4, issueL := s.time.L } } } := by
  unfold debugChallenge challengeBytes
  rw [hrun]
  rfl

theorem length_challengeBytes (s : State) (rights : Nat) : (challengeBytes s rights).length = 96 := by
  simp [challengeBytes, length_leBytes, length_freeBytes, zeros]

theorem serial_challengeBytes (s : State) (rights : Nat) : slice (challengeBytes s rights) 8 8 = leBytes 8 (serialOf s) := by
  simp only [challengeBytes, List.append_assoc]
  generalize (0x4843474B : Nat) = head
  rw [← List.append_assoc (leBytes 1 s.lcs.code), ← List.append_assoc (leBytes 2 1), ← List.append_assoc (leBytes 4 head)]
  exact slice_append _ _ _ (by simp [length_leBytes, zeros]) (length_leBytes _ _)

theorem fresh_challengeBytes (s : State) (rights : Nat) : slice (challengeBytes s rights) 32 32 = freeBytes s 32 := by
  rw [challengeBytes, List.append_assoc _ (freeBytes s 32)]
  exact slice_append _ _ _ (by simp [length_leBytes, zeros]) (length_freeBytes _ _)

end

theorem debugAuthorizations : Claims.DebugAuthorizations := by
  refine fun s j x => ⟨fun hopen hform hwithin hforced => ?cert, fun c hopen hform hc hwithin hforced hserial => ?response, fun hrun => ?challenge,
    fun rights source ok => ?rights⟩
  case cert =>
    apply yields_of_exec_eq_done rfl
    have hx := (jobOf_and_opcode_of_runnable (runnable_of_openable hopen)).1
    simp only [debugCert, hopen, hform, Bool.not_true, Bool.false_eq_true, if_false]
    cases hhere : certHere s x.input <;> cases hkey : debugKeyOk s x.input <;> cases hsig : debugSigOk x.input
    case true.true.true =>
      simp only [Bool.not_true, Bool.or_self, Bool.false_eq_true, if_false, Bool.and_self, if_true]
      rw [authorize_of_within hwithin hforced]
      exact ⟨rfl, recorded_withPending (recorded_setResult hx _)⟩
    all_goals exact ended_and_lcs_endJob hx _ _ _ _
  case response =>
    apply yields_of_exec_eq_done rfl
    have hx := (jobOf_and_opcode_of_runnable (runnable_of_openable hopen)).1
    simp only [debugResponse, hopen, hform, hc, hserial, Bool.not_true, Bool.false_eq_true, if_false, ne_eq, not_true, false_or]
    by_cases hgood : slice x.input 24 32 = digestBytes (Config.sha3 c.bytes) ∧ debugKeyOk s x.input = true ∧ debugSigOk x.input = true
    · obtain ⟨hdigest, hkey, hsig⟩ := hgood
      simp only [hdigest, hkey, hsig, Bool.not_true, Bool.false_eq_true, not_true, or_self, if_false, and_self, if_true]
      rw [authorize_of_within (s := { s with lcs := { s.lcs with challenge := none } }) hwithin hforced]
      exact ⟨recorded_withPending (recorded_setResult (x := x) hx _), rfl⟩
    · rw [if_neg hgood, if_pos]
      · exact ended_and_lcs_endJob hx _ _ _ _
      · by_contra hnone
        simp only [not_or, not_not, Bool.not_eq_true', Bool.not_eq_false] at hnone
        exact hgood hnone
  case challenge =>
    apply yields_of_exec_eq_done rfl
    have hx := (jobOf_and_opcode_of_runnable hrun).1
    rw [debugChallenge_of_runnable hrun]
    exact ⟨_, rfl, rfl, rfl, length_challengeBytes _ _, serial_challengeBytes _ _, fresh_challengeBytes _ _, recorded_setResult (x := x) hx _⟩
  case rights => rfl

/-- Settles O49: the transitions, and the debug authorizations. -/
theorem lifecycleAndDebug : Obligations.LifecycleAndDebug := ⟨lifecycleTransitions, debugAuthorizations⟩

end Sys2Proof.Machine
end

section
/-! PROOFS. Ledger time (R53): what a step past the end of an accounting period leaves of its own mark. -/

namespace Sys2Proof.Machine

/-- A step of one minute, approved before. -/
def minuteStep : StepReq := { target := 60000000, digest := 0, request := 0, job := 0, approvedL := some 0 }

/-- At a meter frame boundary of a running device with accounting periods of a minute, an approved step stands at the first period's end. -/
def stepAtPeriodEnd : State :=
  { State.reset with
    car := { State.reset.car with active := { State.reset.car.active with periodMin := 1 } }
    time := { State.reset.time with L := 128, genRunning := true, stepDue := [minuteStep] } }

/-- The step closes the period, and with it the mark of a step in the period goes. -/
theorem stepped_timeStepApply_stepAtPeriodEnd : (timeStepApply stepAtPeriodEnd).time.stepped = false := by decide +kernel

/-- Refutes O14: a step that reaches the end of an accounting period closes that period in the same command, which takes the mark of the step
back, so the mark does not stand after it as the statement says. -/
theorem not_ledgerTimeIsStated : ¬ Obligations.LedgerTimeIsStated := by
  intro h
  obtain ⟨-, -, -, -, happly⟩ := h stepAtPeriodEnd 0 plainJob
  obtain ⟨t, hexec, -, -, -, hstepped, -⟩ := happly minuteStep [] 0 rfl rfl (by decide) (by decide) rfl
  rw [done_next hexec] at hstepped
  have hfalse : true = false := hstepped.symm.trans stepped_timeStepApply_stepAtPeriodEnd
  exact Bool.noConfusion hfalse

end Sys2Proof.Machine
end

section
/-! PROOFS. The staging of carcass images (R126, R127). -/

namespace Sys2Proof.Machine

section
variable {s : State} {j : Nat} {x : Job} {c : Carcass}

/-! ### What the end of a job leaves of the image store -/

/-- The end of a job leaves the image store as it is, but for a staged image of that job, which goes. -/
theorem car_endJob (j status w0 w1 w2 : Nat) (s : State) :
    ∃ g, (endJob j status w0 w1 w2 s).car = { s.car with staged := g } ∧ (s.car.staged = none → g = none) := by
  unfold endJob
  split
  · exact ⟨s.car.staged, rfl, id⟩
  · split
    · exact ⟨s.car.staged, rfl, id⟩
    · generalize hu : releaseReserve j _ = u
      have hcar : u.car = s.car := by rw [← hu]; simp
      rw [← hcar]
      refine ⟨_, rfl, fun h => ?_⟩
      simp only [modJob, h]

theorem staged_endJob (h : s.car.staged = none) (j status w0 w1 w2 : Nat) : (endJob j status w0 w1 w2 s).car.staged = none := by
  obtain ⟨g, hg, hnone⟩ := car_endJob j status w0 w1 w2 s
  rw [hg]
  exact hnone h

theorem discardStaged_of_none (h : s.car.staged = none) : discardStaged s = s := by
  rw [discardStaged, h]

theorem staged_discardStaged (s : State) : (discardStaged s).car.staged = none := by
  unfold discardStaged
  split
  next h => exact h
  next => rfl

/-! ### CARCASS_STAGE -/

/-- The image as it is staged, without its request. -/
def stagedImage (j : Nat) (x : Job) (c : Carcass) : Staged :=
  { bytes := x.input, image := c, imageDigest := imageDigest x.input, alg := (imageRoot x.input).1, root := (imageRoot x.input).2, job := j, request := none }

theorem carcassStage_of_image (hopen : openable s j 0x8001 = some x) (humbra : s.glb.umbra = false) (hhold : s.glb.hold = false) (hintent : s.car.intent = none)
    (hrepair : s.car.repairPending = false) (hstaged : s.car.staged = none) (hgood : checkStaged s x.input = .ok c) : carcassStage j s =
      if stageFree s then
        openIntent (stagedImage j x c) (modJob j (fun y => { y with approved := true }) { s with car := { s.car with staged := some (stagedImage j x c) } })
      else if awaiting (openRequest j x (stageRosters s c) (imageDigest x.input) s) j then
        { openRequest j x (stageRosters s c) (imageDigest x.input) s with
          car := { (openRequest j x (stageRosters s c) (imageDigest x.input) s).car with
            staged := some { stagedImage j x c with request := some s.dov.nextNum } } }
      else openRequest j x (stageRosters s c) (imageDigest x.input) s := by
  simp only [carcassStage, hopen, humbra, hhold, hintent, hrepair, hgood, discardStaged_of_none hstaged, Option.isSome_none, Bool.or_self,
    Bool.false_eq_true, if_false, stagedImage]

theorem carcassStage_of_bad {e : Bad} (hopen : openable s j 0x8001 = some x) (humbra : s.glb.umbra = false) (hhold : s.glb.hold = false) (hintent : s.car.intent = none)
    (hrepair : s.car.repairPending = false) (hbad : checkStaged s x.input = .error e) : carcassStage j s = endJob j 0x2030 e.1 e.2 0 s := by
  simp only [carcassStage, hopen, humbra, hhold, hintent, hrepair, hbad, Option.isSome_none, Bool.or_self, Bool.false_eq_true, if_false, failJob]

/-- A commit intent opens for the image, which stays staged. -/
theorem car_openIntent (g : Staged) (s : State) : (openIntent g s).car.staged = s.car.staged ∧
    (openIntent g s).car.intent.map (fun i => (i.seq, i.openL, i.written)) = some (g.image.seq, s.time.L, false) := by
  unfold openIntent
  extract_lets k i
  have hcar : (setRows 96 (commitIntentBytes i) { s with car := { s.car with intent := some i } }).car = { s.car with intent := some i } := by simp
  rw [setCopyActive]
  split <;> exact ⟨congrArg (·.staged) hcar, congrArg (fun c : CarState => c.intent.map (fun i => (i.seq, i.openL, i.written))) hcar⟩

theorem awaiting_of_opened {op : Nat} {rosters : List Roster} {t : State} (h : Opened j op rosters s t) : awaiting t j = true := by
  obtain ⟨-, -, r, hreqs, -, hjob, -⟩ := h
  simp [awaiting, hreqs, hjob]

end

/-- Settles O12: what a bad image, a good one, an approval-free one and the other two commands leave. -/
theorem imagesAreStagedUnstagedAndRead : Obligations.ImagesAreStagedUnstagedAndRead := by
  refine fun s j x => ⟨fun hopen humbra hhold hintent hrepair hstaged hroom => ?stage, fun hrun hintent hstaged => ?unstage, fun hrun hintent hstaged => ?nothing,
    fun hrun => ?read⟩
  case stage =>
    apply yields_of_exec_eq_done rfl
    obtain ⟨hx, hop⟩ := jobOf_and_opcode_of_runnable (runnable_of_openable hopen)
    cases hcheck : checkStaged s x.input with
    | error e =>
      rw [carcassStage_of_bad hopen humbra hhold hintent hrepair hcheck]
      exact ⟨ended_endJob hx _ _ _ _, staged_endJob hstaged _ _ _ _ _⟩
    | ok c =>
      rw [carcassStage_of_image hopen humbra hhold hintent hrepair hstaged hcheck]
      by_cases hfree : stageFree s = true
      · obtain ⟨hkept, hopened⟩ := car_openIntent (stagedImage j x c)
          (modJob j (fun y => { y with approved := true }) { s with car := { s.car with staged := some (stagedImage j x c) } })
        simp only [if_pos hfree]
        exact ⟨stagedImage j x c, hkept, rfl, rfl, rfl, hopened⟩
      · have hopened := opened_openRequest hx hroom (stageRosters s c) (imageDigest x.input)
        rw [hop] at hopened
        simp only [if_neg hfree, awaiting_of_opened hopened, if_true]
        exact ⟨_, rfl, rfl, rfl, rfl, rfl, hopened⟩
  case unstage =>
    apply yields_of_exec_eq_done rfl
    simp only [carcassUnstage, hrun, hintent, Option.isSome_none, Bool.false_eq_true, if_false]
    exact staged_discardStaged s
  case nothing =>
    refine does_of_exec_eq_done (congrArg (done s) ?_)
    simp only [carcassUnstage, hrun, hintent, Option.isSome_none, Bool.false_eq_true, if_false, discardStaged_of_none hstaged]
  case read =>
    refine does_of_exec_eq_done (congrArg (done s) ?_)
    simp only [carcassRead, hrun, failJob]
    split <;> rfl

end Sys2Proof.Machine
end

section
/-! PROOFS. The commit of carcass images (R129, R132) and the repair of a copy (R124). -/

namespace Sys2Proof.Machine

/-! ### What sending leaves alone -/

/-- The state beside the mesh and what has been put out. -/
def besideMesh (s : State) : State := { s with out := [], msh := {} }

section
variable (s : State)

@[simp] theorem besideMesh_modMember (m : Nat) (g : Member → Member) : besideMesh (modMember m g s) = besideMesh s := rfl

@[simp] theorem besideMesh_putFrame (m : Nat) (bs : List Byte) : besideMesh (putFrame m bs s) = besideMesh s := by
  unfold putFrame
  dsimp only
  split <;> rfl

@[simp] theorem besideMesh_frameOut (m type frag flags epoch : Nat) (payload : List Byte) :
    besideMesh (frameOut m type frag flags epoch payload s) = besideMesh s := by
  unfold frameOut
  split
  · rfl
  · dsimp only
    split
    · split <;> rw [besideMesh_putFrame, besideMesh_modMember]
    · rw [besideMesh_putFrame, besideMesh_modMember]

@[simp] theorem besideMesh_sendFlagged (m flags type frag epoch : Nat) (payload : List Byte) :
    besideMesh (sendFlagged m flags type frag epoch payload s) = besideMesh s := by
  unfold sendFlagged
  split
  · rfl
  · split
    · rfl
    · split
      · rfl
      · rw [besideMesh_frameOut, besideMesh_modMember]

@[simp] theorem besideMesh_sendMsg (m type : Nat) (payload : List Byte) : besideMesh (sendMsg m type payload s) = besideMesh s := by
  unfold sendMsg
  split
  · rfl
  · dsimp only
    split
    · rfl
    · refine (forEach_keeps besideMesh _ (fun f : Nat × List Byte => sendFrame m type f.1 0 f.2) (fun f u => besideMesh_sendFlagged u _ _ _ _ _ _) _).trans ?_
      split <;> rfl

end

/-! ### What keeps the active image

A step of a commit keeps the structure, the floor and the intent, stages nothing, and keeps the site record unless an alarm is latched. -/

/-- The active image, its floor and intent stay, nothing is staged anew, the site record stays unless an alarm is latched, and a latched alarm stays. -/
def ImageStays (s t : State) : Prop :=
  t.car.active = s.car.active ∧ t.car.floor = s.car.floor ∧ t.car.intent = s.car.intent ∧ (s.car.staged = none → t.car.staged = none) ∧
    (t.car.siteBanks = s.car.siteBanks ∨ t.tam.latched = true) ∧ (s.tam.latched = true → t.tam.latched = true)

namespace ImageStays

theorem of_eq {s t : State} (hcar : t.car = s.car) (htam : t.tam.latched = s.tam.latched) : ImageStays s t :=
  ⟨congrArg (·.active) hcar, congrArg (·.floor) hcar, congrArg (·.intent) hcar, fun h => (congrArg (·.staged) hcar).trans h,
    .inl (congrArg (·.siteBanks) hcar), fun h => htam.trans h⟩

theorem refl (s : State) : ImageStays s s := of_eq rfl rfl

theorem trans {s t u : State} (h : ImageStays s t) (k : ImageStays t u) : ImageStays s u := by
  obtain ⟨hactive, hfloor, hintent, hstaged, hsite, hlatched⟩ := h
  obtain ⟨kactive, kfloor, kintent, kstaged, ksite, klatched⟩ := k
  refine ⟨kactive.trans hactive, kfloor.trans hfloor, kintent.trans hintent, fun h => kstaged (hstaged h), ?_, fun h => klatched (hlatched h)⟩
  obtain hsite | hsite := hsite
  · exact ksite.imp (·.trans hsite) id
  · exact .inr (klatched hsite)

theorem forEach {α : Type} (l : List α) (f : α → State → State) (h : ∀ a s, ImageStays s (f a s)) (s : State) : ImageStays s (forEach l f s) := by
  induction l generalizing s with
  | nil => exact refl s
  | cons a l ih => exact (h a s).trans (ih (f a s))

theorem endJob (j status w0 w1 w2 : Nat) (s : State) : ImageStays s (endJob j status w0 w1 w2 s) := by
  obtain ⟨g, hg, hnone⟩ := car_endJob j status w0 w1 w2 s
  have htam : (Machine.endJob j status w0 w1 w2 s).tam = s.tam := by simp
  refine ⟨congrArg (·.active) hg, congrArg (·.floor) hg, congrArg (·.intent) hg, fun h => ?_, .inl (congrArg (·.siteBanks) hg), fun h => ?_⟩
  · rw [hg]
    exact hnone h
  · rw [htam]
    exact h

theorem dropJob (j : Nat) (s : State) : ImageStays s (dropJob j s) := by
  refine ⟨rfl, rfl, rfl, fun h => ?_, .inl rfl, id⟩
  rw [Machine.dropJob, markFinished, dropHolds]
  simp [modJob, h]

theorem endJobs (l : List (Nat × Job)) (status w0 w1 w2 : Nat) (s : State) :
    ImageStays s (Machine.forEach l (fun e => Machine.endJob e.1 status w0 w1 w2) s) := forEach l _ (fun e u => endJob e.1 status w0 w1 w2 u) s

theorem dropJobs (l : List (Nat × Job)) (s : State) : ImageStays s (Machine.forEach l (fun e => Machine.dropJob e.1) s) :=
  forEach l _ (fun e u => dropJob e.1 u) s

theorem raiseEv (code sev a b c : Nat) (s : State) : ImageStays s (raiseEv code sev a b c s) := of_eq (by simp) (by simp)
theorem raiseFrom (src code sev a b c : Nat) (s : State) : ImageStays s (raiseFrom src code sev a b c s) := of_eq (by simp) (by simp)
theorem notify (type subject a b c d f : Nat) (s : State) : ImageStays s (notify type subject a b c d f s) := of_eq (by simp) (by simp)
theorem attnAll (b : Nat) (s : State) : ImageStays s (attnAll b s) := of_eq (by simp) (by simp)

theorem watched (g : State → State) {s : State} (h : ImageStays s (g s)) : ImageStays s (watched g s) := by
  unfold Machine.watched
  dsimp only
  split <;> split
  · exact h
  · exact h.trans (attnAll 3 _)
  · exact h.trans (attnAll 5 _)
  · exact (h.trans (attnAll 3 _)).trans (attnAll 5 _)

end ImageStays

section
variable (s : State)

/-! #### Keys and requests -/

theorem imageStays_cancelRequest (n : Nat) : ImageStays s (cancelRequest n s) := by
  unfold cancelRequest
  split
  · exact .refl s
  · exact .trans (t := { s with dov := { s.dov with reqs := s.dov.reqs.filter (fun q => q.num != n) } }) (.of_eq rfl rfl) (.endJob _ _ _ _ _ _)

theorem imageStays_cancelWhere (p : Request → Bool) : ImageStays s (cancelWhere p s) := .forEach _ _ (fun n u => imageStays_cancelRequest u n) s

theorem imageStays_removeKey (slot : Nat) : ImageStays s (removeKey slot s) := by
  unfold removeKey
  split <;> exact .of_eq rfl rfl

theorem imageStays_keepEntries (g : Nat) (keep : BankEntry → Bool) : ImageStays s (keepEntries g keep s) := by
  rw [keepEntries]
  split <;> exact .of_eq rfl rfl

theorem imageStays_eraseKey (slot : Nat) : ImageStays s (eraseKey slot s) := by
  unfold eraseKey
  split
  · exact .refl s
  · exact (imageStays_removeKey s slot).trans (imageStays_keepEntries _ _ _)

theorem imageStays_withdrawNaming (h n : Nat) : ImageStays s (withdrawNaming h n s) := by
  refine .forEach _ _ (fun e u => ?_) s
  exact .endJob _ _ _ _ _ u

theorem imageStays_clearHandles (p : HeRec → Bool) : ImageStays s (clearHandles p s) := .forEach _ freeRecord (fun _ _ => .of_eq rfl rfl) s

theorem imageStays_eraseCabinet (cab : Nat) : ImageStays s (eraseCabinet cab s) := by
  unfold eraseCabinet
  extract_lets u v
  have hv : ImageStays s v := (ImageStays.forEach _ removeKey (fun n u => imageStays_removeKey u n) s).trans (imageStays_clearHandles u _)
  exact hv.trans (.of_eq rfl rfl)

theorem imageStays_eraseCsk (cab : Nat) : ImageStays s (eraseCsk cab s) := .of_eq rfl rfl

theorem imageStays_removeCabinet (cab : Nat) : ImageStays s (removeCabinet cab s) := by
  unfold removeCabinet
  extract_lets u v
  have hu : ImageStays s u := .endJobs _ _ _ _ _ s
  have hv : ImageStays u v := .forEach _ _ (fun g w => imageStays_keepEntries w g _) u
  exact (hu.trans hv).trans (((imageStays_cancelWhere v _).trans (imageStays_eraseCabinet _ cab)).trans (imageStays_eraseCsk _ cab))

theorem imageStays_eraseLeaving (new : Carcass) : ImageStays s (eraseLeaving new s) := by
  refine .forEach _ _ (fun e u => ?_) s
  exact (imageStays_withdrawNaming u _ _).trans (imageStays_eraseKey _ e.1)

theorem imageStays_freeMovedLanes (old new : Carcass) : ImageStays s (freeMovedLanes old new s) := by
  refine .forEach _ _ (fun e u => ?_) s
  exact .endJob e.1 0x7001 0 0 0 u

/-! #### Lanes and worlds -/

theorem imageStays_closePeriod (n kind cause : Nat) : ImageStays s (closePeriod n kind cause s) :=
  .of_eq (by simp [closePeriod, checkpoint]) (by simp [closePeriod, checkpoint])

theorem imageStays_closeMoved (old new : Carcass) : ImageStays s (closeMoved old new s) := .forEach _ _ (fun _ u => imageStays_closePeriod u _ _ _) s

theorem imageStays_offPair (w : Nat) : ImageStays s (offPair w s) := by
  rw [offPair]
  split <;> exact .of_eq rfl rfl

theorem imageStays_endMessages (w : Nat) : ImageStays s (endMessages w s) :=
  ImageStays.trans (t := modWorld w (fun x => { x with queue := [], inbox := none, taken := false, awaiting := [] }) s) (.of_eq rfl rfl)
    (.forEach _ _ (fun j u => .endJob j 0x7001 0 0 0 u) _)

theorem imageStays_returnPages (w : Nat) : ImageStays s (returnPages w s) := .of_eq rfl rfl

theorem imageStays_modWorld (w : Nat) (g : World → World) : ImageStays s (modWorld w g s) := .of_eq rfl rfl

theorem imageStays_stopWorld (w cause : Nat) : ImageStays s (stopWorld w cause s) := by
  unfold stopWorld
  extract_lets u v x
  have hends : ImageStays s (offPair w (endMessages w s)) := (imageStays_endMessages s w).trans (imageStays_offPair _ w)
  have hu : ImageStays s u := hends.trans (imageStays_returnPages _ w)
  have hv : ImageStays u v := imageStays_modWorld u w _
  have hstore : ImageStays v { v with wld := { v.wld with store := Tab.del v.wld.store w } } := .of_eq rfl rfl
  exact ((hu.trans hv).trans hstore).trans (.raiseFrom _ _ _ _ _ _ _)

theorem imageStays_stopChanged (old new : Carcass) : ImageStays s (stopChanged old new s) := by
  refine .forEach _ _ (fun a u => ?_) s
  dsimp only
  split
  · exact .of_eq rfl rfl
  · split
    · exact (imageStays_stopWorld u _ _).trans (.of_eq rfl rfl)
    · exact imageStays_stopWorld u _ _

theorem imageStays_modLane (n : Nat) (g : Lane → Lane) : ImageStays s (modLane n g s) := .of_eq rfl rfl

theorem imageStays_rejoinLanes (old new : Carcass) : ImageStays s (rejoinLanes old new s) := by
  unfold rejoinLanes
  extract_lets u v changed w
  have hu : ImageStays s u := .of_eq rfl rfl
  have hv : ImageStays u v := .forEach _ _ (fun l y => imageStays_modLane y _ _) u
  have hw : ImageStays v w := .forEach _ _ (fun l y => imageStays_modLane y _ _) v
  exact ((hu.trans hv).trans hw).trans (.forEach _ _ (fun l y => imageStays_modLane y _ _) w)

/-! #### Rings and functions -/

theorem imageStays_ringFaultEvent (f ring error : Nat) : ImageStays s (ringFaultEvent f ring error s) := .of_eq (by simp) (by simp)

theorem imageStays_modFn (f : Nat) (g : Fn → Fn) : ImageStays s (modFn f g s) := .of_eq (by simp) (by simp)

theorem imageStays_faultSq (f n error : Nat) : ImageStays s (faultSq f n error s) := by
  unfold faultSq
  refine .trans ?_ (.dropJobs _ _)
  exact .trans (t := modSq f n _ s) (.of_eq rfl rfl) (imageStays_ringFaultEvent _ _ _ _)

theorem imageStays_faultCq (f n error : Nat) : ImageStays s (faultCq f n error s) := by
  unfold faultCq
  refine .trans ?_ (.forEach _ _ (fun k u => imageStays_faultSq u f k 0x05) _)
  exact .trans (t := modCq f n _ s) (.of_eq rfl rfl) (imageStays_ringFaultEvent _ _ _ _)

theorem imageStays_dropEntries (new : Carcass) : ImageStays s (dropEntries new s) := by
  unfold dropEntries
  refine .trans (t := { s with job := { s.job with pot := Tab.keep s.job.pot (entryStays new) } }) (.of_eq rfl rfl) ?_
  refine .forEach _ _ (fun e u => ?_) _
  extract_lets f v w
  have hv : ImageStays u v := .forEach _ (fun q : Nat × Sq => faultSq f q.1 0x0A) (fun q y => imageStays_faultSq y f q.1 0x0A) u
  have hw : ImageStays v w := .forEach _ (fun q : Nat × Cq => faultCq f q.1 0x0A) (fun q y => imageStays_faultCq y f q.1 0x0A) v
  have huw := hv.trans hw
  clear_value w
  split
  · exact huw.trans ((imageStays_modFn w f _).trans (imageStays_ringFaultEvent _ _ _ _))
  · exact huw

theorem imageStays_releaseCredits (f n : Nat) : ImageStays s (releaseCredits f n s) :=
  .of_eq (by simp [releaseCredits]) (by simp [releaseCredits])

theorem imageStays_endReset (r : ResetDue) : ImageStays s (endReset r s) := by
  unfold endReset
  refine .trans ?_ (.raiseFrom _ _ _ _ _ _ _)
  exact (ImageStays.forEach _ _ (fun n u => imageStays_releaseCredits u r.fn n) s).trans (.of_eq rfl rfl)

theorem imageStays_fnReset (f cause : Nat) : ImageStays s (fnReset f cause s) := by
  unfold fnReset
  extract_lets ws u r
  have hu : ImageStays s u :=
    (ImageStays.dropJobs ws s).trans (.of_eq rfl rfl)
  clear_value u
  split
  · exact hu.trans (imageStays_endReset u r)
  · exact hu.trans (.of_eq rfl rfl)

/-! #### The mesh -/

theorem imageStays_updateRef : ImageStays s (updateRef s) := by
  obtain ⟨c, hcase | hcase⟩ := updateRef_cases s
  · rw [hcase]
    exact .of_eq rfl rfl
  · rw [hcase]
    exact .trans (t := withRef c s) (.of_eq rfl rfl) (.raiseEv _ _ _ _ _ _)

theorem imageStays_scheduleHello (h m : Nat) : ImageStays s (scheduleHello h m s) := by
  unfold scheduleHello
  split
  · exact .refl s
  · dsimp only
    split <;> exact .of_eq rfl rfl

theorem imageStays_sendMsg (m ty : Nat) (bs : List Byte) : ImageStays s (sendMsg m ty bs s) :=
  have h := besideMesh_sendMsg s m ty bs
  .of_eq (congrArg (·.car) h) (congrArg (·.tam.latched) h)

theorem imageStays_dropBackup (holders : List Nat) (cab : Nat) : ImageStays s (dropBackup holders cab s) := by
  unfold dropBackup
  extract_lets c self u v src
  have hu : ImageStays s u := by
    simp only [u]
    split
    · exact .endJob _ _ _ _ _ s
    · exact .refl s
  have hv : ImageStays u v := .of_eq rfl rfl
  clear_value v
  refine (hu.trans hv).trans (.trans (.forEach _ _ (fun m w => ?_) v) (.of_eq rfl rfl))
  exact .forEach _ (fun g => sendMsg m 0x27 (setPayload cab g)) (fun g y => imageStays_sendMsg y _ _ _) w

theorem imageStays_askRotation (cab : Nat) (job : Option Nat) : ImageStays s (askRotation cab job s) := .of_eq rfl rfl

theorem imageStays_eraseShares (p : Share → Bool) : ImageStays s (eraseShares p s) := .of_eq rfl rfl

theorem imageStays_shareCommit (old : Carcass) : ImageStays s (shareCommit old s) := by
  unfold shareCommit
  extract_lets new src u gone v w
  have hu : ImageStays s u := by simp only [u]; split <;> exact .of_eq rfl rfl
  have hv : ImageStays u v := .forEach _ _ (fun m y => imageStays_eraseShares y _) u
  have hw : ImageStays v w := .forEach _ (fun c : Custody => dropBackup c.holders c.cab) (fun c y => imageStays_dropBackup y c.holders c.cab) v
  refine ((hu.trans hv).trans hw).trans (.forEach _ _ (fun c y => ?_) w)
  split
  · exact .refl y
  · exact imageStays_askRotation y _ _

theorem imageStays_closeLink (m : Nat) (st : MemberState) : ImageStays s (closeLink m st s) := .of_eq rfl rfl

theorem imageStays_dropTunnel (m : Nat) : ImageStays s (dropTunnel m s) := .of_eq rfl rfl

theorem imageStays_meshCommit (old : Carcass) : ImageStays s (meshCommit old s) := by
  unfold meshCommit
  extract_lets new L oldSelf allClosed src u gone v w
  have hu : ImageStays s u := by simp only [u]; split <;> exact .of_eq rfl rfl
  have hv : ImageStays u v := by
    refine .forEach _ _ (fun m y => ?_) u
    exact .of_eq rfl rfl
  have hw : ImageStays v w := by
    simp only [w]
    split
    · exact .refl v
    · refine .forEach _ _ (fun r y => ?_) v
      split
      · exact .trans (t := { y with msh := _ }) (.of_eq rfl rfl) (imageStays_scheduleHello _ _ _)
      · split
        · exact .refl y
        · exact ((imageStays_closeLink y _ _).trans (imageStays_dropTunnel _ _)).trans (imageStays_scheduleHello _ _ _)
  exact ((hu.trans hv).trans hw).trans ((imageStays_shareCommit w old).trans (imageStays_updateRef _))

/-! #### Alarms -/

theorem imageStays_dropWaiting : ImageStays s (dropWaiting s) :=
  .trans (t := { s with bst := { s.bst with waiting := [] } }) (.of_eq rfl rfl) (.forEach _ _ (fun j u => .endJob j 0x7001 0 0 0 u) _)

theorem imageStays_underTest (p : Nat) (f : Option Nat) : ImageStays s (underTest p f s) :=
  .forEach _ (fun t => modTile t (fun x => { x with bistRun := f })) (fun _ _ => .of_eq rfl rfl) s

theorem imageStays_abortBist (cause : Nat) : ImageStays s (abortBist cause s) := by
  unfold abortBist
  split
  · exact imageStays_dropWaiting s
  next r _ =>
    extract_lets p u v
    have hu : ImageStays s u := by
      refine .forEach _ _ (fun k w => ?_) s
      exact .of_eq rfl rfl
    have hv : ImageStays u v := .forEach _ (fun q => underTest q none) (fun q w => imageStays_underTest w q none) u
    have huv := hu.trans hv
    clear_value v
    exact huv.trans (.trans (.trans (t := { v with bst := { v.bst with running := none } }) (.of_eq rfl rfl) (.raiseEv _ _ _ _ _ _)) (imageStays_dropWaiting _))

theorem imageStays_alarmNotice (cls src L : Nat) : ImageStays s (alarmNotice cls src L s) := by
  unfold alarmNotice
  split
  · exact .forEach _ _ (fun f u => .notify _ _ _ _ _ _ f u) s
  · exact .of_eq rfl rfl

theorem imageStays_umbraLine : ImageStays s (umbraLine s) := by
  unfold umbraLine
  extract_lets eng u
  have hu : ImageStays s u := .of_eq rfl rfl
  refine hu.trans (.trans (.forEach _ _ (fun e v => ?_) u) (imageStays_updateRef _))
  exact imageStays_closeLink v e.1 .down

theorem imageStays_breakJobs : ImageStays s (breakJobs s) := by
  unfold breakJobs
  extract_lets dov time pwr u
  have hu : ImageStays s u := .of_eq rfl rfl
  refine hu.trans (.forEach _ _ (fun e v => ?_) u)
  extract_lets a w
  have hw : ImageStays v w := by
    simp only [w]
    split
    · exact .raiseEv _ _ _ _ _ v
    · exact .refl v
  clear_value w
  split
  · exact hw.trans (.of_eq rfl rfl)
  · exact hw.trans (.endJob _ _ _ _ _ w)

theorem imageStays_pairsDown : ImageStays s (pairsDown s) := .of_eq (by simp [pairsDown]) (by simp [pairsDown])

theorem imageStays_clearSram : ImageStays s (clearSram s) := by
  unfold clearSram
  extract_lets key eng u
  have hu : ImageStays s u :=
    .trans (t := clearDrawers { s with key := { s.key with slots := [], draws := [], preps := [], eraseDue := [] }, eng := { s.eng with results := [] } })
      (.of_eq rfl rfl) (imageStays_clearHandles _ _)
  clear_value u
  refine hu.trans ⟨rfl, rfl, rfl, fun h => ?_, .inl rfl, id⟩
  simp [h]

theorem latched_latchAlarm (cls src : Nat) : (latchAlarm cls src s).tam.latched = true := by
  have h : (latchAlarm cls src s).tam.latched = (latchedTam s cls src).latched := congrArg (·.1.latched) (alarmView_latchAlarm s cls src)
  rw [h, latchedTam]
  split <;> rfl

theorem car_latchAlarm (cls src : Nat) : (latchAlarm cls src s).car = { s.car with siteBanks := {} } := by
  unfold latchAlarm
  extract_lets L since tam u src v
  have hv : v.car = u.car := by simp only [v]; split <;> rfl
  split
  · split
    · exact hv
    · exact (raiseEv_keeps _ _ _ _ _ _).2.2.2.2.2.2.2.1.trans hv
  · rfl

theorem imageStays_latchAlarm (cls src : Nat) : ImageStays s (latchAlarm cls src s) := by
  have hcar := car_latchAlarm s cls src
  exact ⟨congrArg (·.active) hcar, congrArg (·.floor) hcar, congrArg (·.intent) hcar, fun h => (congrArg (·.staged) hcar).trans h,
    .inr (latched_latchAlarm s cls src), fun _ => latched_latchAlarm s cls src⟩

theorem imageStays_alarm (cls src : Nat) : ImageStays s (alarm cls src s) := by
  unfold alarm
  extract_lets first L u v w y msh z a
  have hu : ImageStays s u := imageStays_latchAlarm s cls src
  clear_value u
  split
  · have hv : ImageStays u v :=
      ((imageStays_abortBist u 0).trans (.of_eq rfl rfl)).trans (.watched (fun s => { s with glb := { s.glb with umbra := true, dark := false } }) (.of_eq rfl rfl))
    clear_value v
    have hw : ImageStays v w := by
      simp only [w]
      split
      · exact imageStays_alarmNotice v cls src L
      · exact .refl v
    clear_value w
    have hy : ImageStays w y := ((imageStays_umbraLine w).trans (imageStays_breakJobs _)).trans (imageStays_pairsDown _)
    clear_value y
    have hz : ImageStays y z := .of_eq rfl rfl
    have ha : ImageStays z a := imageStays_clearSram z
    clear_value a
    exact ((((hu.trans hv).trans hw).trans hy).trans (hz.trans ha)).trans (.of_eq rfl rfl)
  · exact hu

/-! #### The tamper configuration and the draws of a commit -/

theorem imageStays_modTin (n : Nat) (g : TamInput → TamInput) : ImageStays s (modTin n g s) := .of_eq rfl rfl

theorem imageStays_loadTamper (recs : List TamperRec) (cover : Bool) : ImageStays s (loadTamper recs cover s) := by
  unfold loadTamper
  extract_lets u tam
  have hu : ImageStays s u := by
    refine .forEach _ _ (fun n v => ?_) s
    split <;> exact imageStays_modTin v n _
  clear_value u
  exact hu.trans (.of_eq rfl rfl)

theorem imageStays_commitTamper (new : Carcass) : ImageStays s (commitTamper new s) := by
  unfold commitTamper
  extract_lets u
  refine (imageStays_loadTamper s _ _).trans (.forEach _ _ (fun n v => ?_) u)
  dsimp only
  split
  · exact (imageStays_modTin v n _).trans (imageStays_alarm _ _ _)
  · exact .refl v

theorem imageStays_makeDraw (d : Draw) : ImageStays s (makeDraw d s) := by
  cases d with
  | identity =>
    rw [makeDraw, makeIdentity]
    split <;> exact .of_eq rfl rfl
  | csk cab => exact .of_eq rfl rfl
  | ctx cab => exact .of_eq rfl rfl
  | escutcheon => exact .of_eq rfl rfl

theorem imageStays_serveDraw (d : Draw) : ImageStays s (serveDraw d s) := by
  rw [serveDraw]
  split
  · exact .refl s
  · split
    · exact .trans (t := takeSeed s) (.of_eq rfl rfl) (imageStays_makeDraw _ d)
    · exact .of_eq rfl rfl

theorem imageStays_serveDraws : ImageStays s (serveDraws s) :=
  .trans (t := { s with key := { s.key with draws := [] } }) (.of_eq rfl rfl) (.forEach s.key.draws serveDraw (fun d u => imageStays_serveDraw u d) _)

end

end Sys2Proof.Machine
end

section
/-! PROOFS. The commit of carcass images (R129, R132) and the repair of a copy (R124). -/

namespace Sys2Proof.Machine

/-! ### The change of the structure -/

section
variable (s : State)

/-- The effects of R132 before and after the new structure applies keep the image store. -/
theorem applyStructure_cases (old new : Carcass) : ∃ u, ImageStays s u ∧
    ImageStays { u with car := { u.car with active := new } } (applyStructure old new s) := by
  unfold applyStructure
  extract_lets u v w y car z a b
  have hu : ImageStays s u := .forEach _ removeCabinet (fun c t => imageStays_removeCabinet t c) s
  have hv : ImageStays u v := imageStays_cancelWhere u _
  have hw : ImageStays v w :=
    ((imageStays_eraseLeaving v new).trans (imageStays_freeMovedLanes _ old new)).trans (imageStays_closeMoved _ old new)
  have hy : ImageStays w y := imageStays_stopChanged w old new
  have ha : ImageStays z a := imageStays_dropEntries z new
  have hb : ImageStays a b := .forEach _ _ (fun f t => imageStays_fnReset t f 3) a
  exact ⟨y, ((hu.trans hv).trans hw).trans hy, (ha.trans hb).trans ((imageStays_rejoinLanes b old new).trans (imageStays_meshCommit _ old))⟩

theorem imageStays_setCopyReason (k : Nat) (r : Bad) : ImageStays s (setCopyReason k r s) := by
  rw [setCopyReason]
  split <;> exact ⟨rfl, rfl, rfl, id, .inl rfl, id⟩

theorem car_closeIntentCell (abandoned : Bool) : (closeIntentCell abandoned s).car = s.car := by simp

/-- The site record of a completed commit is the new image's. -/
theorem site_completeCommit (c : Carcass) (i : CommitIntent) : (completeCommit c i s).car.site = siteOf c i.alg i.root := by
  rw [completeCommit, car_closeIntentCell, CarState.site]
  dsimp only
  split
  next r h => rw [h, TwoBank.value_store]
  next h => rw [h]; rfl

theorem floor_completeCommit (c : Carcass) (i : CommitIntent) : (completeCommit c i s).car.floor = c.seq ∧ (completeCommit c i s).car.intent = none ∧
    (completeCommit c i s).tam = s.tam := by
  have htam : (completeCommit c i s).tam = s.tam := by simp [completeCommit]
  rw [completeCommit, car_closeIntentCell]
  exact ⟨rfl, rfl, htam⟩

end

/-! ### Abandoned intents -/

section
variable {s : State} {i : CommitIntent}

/-- An abandoned intent leaves the active image; its job ends. -/
theorem abandonIntent_spec (cause : Nat) (hi : s.car.intent = some i) :
    (abandonIntent cause s).car.intent = none ∧ (abandonIntent cause s).car.staged = none ∧ (abandonIntent cause s).car.active = s.car.active ∧
      ∀ j, i.job = some j → (s.jobOf j).isSome → Ended j (abandonIntent cause s) := by
  unfold abandonIntent
  rw [hi]
  dsimp only
  generalize hu : raiseEv 0x2014 5 _ _ _ _ = u
  have hcar : u.car = { s.car with intent := none, repairPending := s.car.repairPending || !s.car.active.bare } := by rw [← hu]; simp
  have hjob : u.job = s.job := by rw [← hu]; simp
  cases hj : i.job with
  | none => exact ⟨congrArg (·.intent) hcar, rfl, congrArg (·.active) hcar, fun j h => nomatch h⟩
  | some k =>
    obtain ⟨g, hg, -⟩ := car_endJob k 0x7010 0 0 0 u
    rw [hcar] at hg
    refine ⟨congrArg (·.intent) hg, rfl, congrArg (·.active) hg, fun j h hsome => ?_⟩
    obtain rfl : k = j := Option.some.inj h
    obtain ⟨x, hx⟩ := Option.isSome_iff_exists.1 hsome
    exact ended_endJob (s := u) (x := x) (by rw [jobOf_of_job_eq hjob, hx]) _ _ _ _

theorem car_writeCopy (k : Nat) (bs : List Byte) (s : State) : (writeCopy k bs s).car.intent = s.car.intent ∧
    (writeCopy k bs s).car.staged = s.car.staged ∧ (writeCopy k bs s).car.active = s.car.active ∧
    (if k = 0 then (writeCopy k bs s).car.copyA else (writeCopy k bs s).car.copyB).take bs.length = bs := by
  rw [writeCopy]
  by_cases hk : k = 0
  · simp [hk]
  · simp [hk]

/-- The first copy is read back: as the image within an orbit, or the intent is abandoned. -/
theorem carcassCopyWritten_of_intent {g : Staged} (hi : s.car.intent = some i) (hg : s.car.staged = some g) (hfresh : i.written = false) (found : List Byte) :
    carcassCopyWritten found s =
      if i.openL + 2 ^ 20 ≤ s.time.L then abandonIntent 2 (writeCopy i.firstCopy found s)
      else if found = g.bytes then
        { writeCopy i.firstCopy found s with car := { (writeCopy i.firstCopy found s).car with intent := some { i with written := true } } }
      else abandonIntent 1 (writeCopy i.firstCopy found s) := by
  have hL : (writeCopy i.firstCopy found s).time.L = s.time.L := by simp
  simp only [carcassCopyWritten, hi, hg, hfresh, Bool.false_eq_true, if_false, hL, orbitL]

/-! ### The commit -/

/-- The floor and the site record of a new image are in force, unless an alarm is latched, and no intent is open. -/
def SiteTaken (c : Carcass) (i : CommitIntent) (t : State) : Prop :=
  t.car.floor = c.seq ∧ t.car.intent = none ∧ (t.car.site = siteOf c i.alg i.root ∨ t.tam.latched = true)

theorem SiteTaken.of_imageStays {c : Carcass} {t u : State} (h : SiteTaken c i t) (hstays : ImageStays t u) : SiteTaken c i u := by
  obtain ⟨hfloor, hintent, hsite⟩ := h
  obtain ⟨-, kfloor, kintent, -, ksite, klatched⟩ := hstays
  refine ⟨kfloor.trans hfloor, kintent.trans hintent, ?_⟩
  obtain hsite | hsite := hsite
  · exact ksite.imp (fun h => (congrArg TwoBank.value h).trans hsite) id
  · exact .inr (klatched hsite)

/-- What a commit leaves: the new image, nothing staged, its floor and its site record. -/
def CommitLeaves (c : Carcass) (i : CommitIntent) (t : State) : Prop := t.car.active = c ∧ t.car.staged = none ∧ SiteTaken c i t

/-- A commit that may go on leaves the new image. -/
theorem commitLeaves_carcassCommit {g : Staged} (bitOk : Bool) (hi : s.car.intent = some i) (hg : s.car.staged = some g) (hwritten : i.written = true)
    (hL : s.time.L % 2 ^ 20 = 0) (hphase : s.glb.phase = .run) (humbra : s.glb.umbra = false) (hkeeper : keeperAbsent s = false)
    (hworn : (counterOf s 1).worn = false) : CommitLeaves g.image i (carcassCommit bitOk s) := by
  have horbit : s.time.L % orbitL = 0 := hL
  have hcond : (!i.written || s.time.L % orbitL != 0 || s.glb.phase != .run || s.glb.umbra || keeperAbsent s) = false := by
    simp [hwritten, horbit, hphase, humbra, hkeeper]
  unfold carcassCommit
  rw [hi, hg]
  simp -zeta only [hcond, hworn, Bool.false_eq_true, if_false]
  extract_lets old new floor n a b c d car e f added
  have ha : SiteTaken new i a := by
    obtain ⟨hfloor, hintent, -⟩ := floor_completeCommit s new i
    have hcar : a.car = (completeCommit new i s).car := by simp [a]
    exact ⟨(congrArg (·.floor) hcar).trans hfloor, (congrArg (·.intent) hcar).trans hintent,
      .inl ((congrArg CarState.site hcar).trans (site_completeCommit s new i))⟩
  clear_value a
  have hb : ImageStays a b := by
    simp only [b]
    split
    · exact .endJob _ _ _ _ _ a
    · exact .refl a
  have hc : ImageStays a c := hb.trans (.raiseEv _ _ _ _ _ b)
  clear_value c
  obtain ⟨y, hy, hd⟩ := applyStructure_cases (setCopyReason i.firstCopy (0, 0) c) old new
  have htaken : SiteTaken new i y := ((ha.of_imageStays hc).of_imageStays (imageStays_setCopyReason c _ _)).of_imageStays hy
  have htaken' : SiteTaken new i { y with car := { y.car with active := new } } := htaken
  have hdone : SiteTaken new i d := htaken'.of_imageStays hd
  have hactive : d.car.active = new := hd.1
  clear_value d
  have he : SiteTaken new i e := hdone
  have hf : ImageStays e f := .watched _ (.of_eq rfl rfl)
  clear_value f
  have hask : ∀ ds, ImageStays f (askDraws ds f) := fun ds => .of_eq rfl rfl
  have hend := ((hf.trans (hask (added.map Draw.csk ++ added.map Draw.ctx))).trans (imageStays_commitTamper _ new)).trans (imageStays_serveDraws _)
  clear_value added
  exact ⟨hend.1.trans hactive, hend.2.2.2.1 rfl, he.of_imageStays hend⟩

/-! ### The repair of a copy -/

theorem firstDiff_self (bs : List Byte) (n : Nat) : firstDiff bs bs n = none := by
  induction bs generalizing n with
  | nil => rfl
  | cons b bs ih => simp [firstDiff, ih]

/-- A copy that reads back as the image is repaired. -/
theorem car_copyRepair_of_same {found : List Byte} (hopen : repairOpen s = true) (hsame : firstDiff found (activeImage s) 0 = none) :
    (copyRepair found s).car = (setCopyReason (if s.car.aActive then 1 else 0) (0, 0) (setCopyActive (if s.car.aActive then 1 else 0) true
      { writeCopy (if s.car.aActive then 1 else 0) found s with
        car := { (writeCopy (if s.car.aActive then 1 else 0) found s).car with repairPending := false, repairFailed := none } })).car := by
  simp only [copyRepair, hopen, hsame, if_true]
  exact (raiseEv_keeps _ _ _ _ _ _).2.2.2.2.2.2.2.1

/-- A copy that reads back otherwise stays to be repaired. -/
theorem repairPending_copyRepair_of_diff {found : List Byte} (hopen : repairOpen s = true) (hdiff : firstDiff found (activeImage s) 0 ≠ none) :
    (copyRepair found s).car.repairPending = true := by
  obtain ⟨o, ho⟩ := Option.ne_none_iff_exists'.1 hdiff
  have hpending : s.car.repairPending = true := by
    simp only [repairOpen, Bool.and_eq_true] at hopen
    obtain ⟨⟨⟨⟨h, _⟩, _⟩, _⟩, _⟩ := hopen
    exact h
  simp only [copyRepair, hopen, ho, if_true]
  rw [(raiseEv_keeps _ _ _ _ _ _).2.2.2.2.2.2.2.1, writeCopy]
  split <;> split <;> exact hpending

end

/-- Settles O13: the read-back of the first copy, the timeout, the commit and the repair. -/
theorem imagesAreCommitted : Obligations.ImagesAreCommitted := by
  refine fun s i => ⟨fun g hi hg hfresh => ⟨fun hyoung => ?good, fun found hbad => ?bad⟩, fun hi hfresh hlate => ?timeout,
    fun g bitOk hi hg hwritten hL hphase humbra hkeeper hworn => ?commit, fun hrepair => ⟨?repaired, fun found hdiff => ?failed⟩⟩
  case good =>
    apply yields_of_exec_eq_done rfl
    rw [carcassCopyWritten_of_intent hi hg hfresh, if_neg (Nat.not_le.2 hyoung), if_pos rfl]
    exact ⟨rfl, (car_writeCopy i.firstCopy g.bytes s).2.2.2⟩
  case bad =>
    apply yields_of_exec_eq_done rfl
    obtain ⟨hintent, -, hactive, -⟩ := car_writeCopy i.firstCopy found s
    have habandoned : ∀ cause, let t := abandonIntent cause (writeCopy i.firstCopy found s)
        t.car.intent = none ∧ t.car.staged = none ∧ t.car.active = s.car.active := fun cause =>
      have h := abandonIntent_spec cause (hintent.trans hi)
      ⟨h.1, h.2.1, h.2.2.1.trans hactive⟩
    rw [carcassCopyWritten_of_intent hi hg hfresh]
    by_cases hlate : i.openL + 2 ^ 20 ≤ s.time.L
    · rw [if_pos hlate]
      exact habandoned 2
    · rw [if_neg hlate, if_neg (hbad.resolve_right hlate)]
      exact habandoned 1
  case timeout =>
    apply yields_of_exec_eq_done rfl
    have hcond : i.openL + orbitL ≤ s.time.L ∧ i.written = false := ⟨hlate, hfresh⟩
    have hcase : carcassIntentTimeout s = abandonIntent 2 s := by simp only [carcassIntentTimeout, hi, if_pos hcond]
    rw [hcase]
    exact abandonIntent_spec 2 hi
  case commit =>
    apply yields_of_exec_eq_done rfl
    obtain ⟨hactive, hstaged, hfloor, hintent, hsite⟩ := commitLeaves_carcassCommit bitOk hi hg hwritten hL hphase humbra hkeeper hworn
    exact ⟨hactive, hfloor, hintent, hstaged, hsite⟩
  case repaired =>
    apply yields_of_exec_eq_done rfl
    have hcase := car_copyRepair_of_same hrepair (firstDiff_self (activeImage s) 0)
    show (copyRepair (activeImage s) s).car.repairPending = false ∧
      (if s.car.aActive = true then (copyRepair (activeImage s) s).car.bActive = true else (copyRepair (activeImage s) s).car.aActive = true)
    rw [hcase]
    cases haActive : s.car.aActive <;> simp [writeCopy, setCopyActive, setCopyReason]
  case failed =>
    apply yields_of_exec_eq_done rfl
    exact repairPending_copyRepair_of_diff hrepair hdiff

end Sys2Proof.Machine
end

section
/-! PROOFS. Custody over the mesh (R414 to R418). -/

namespace Sys2Proof.Machine

/-! ### What sending keeps of the mesh

A message sent moves its member's link and the tunnel only: the shares, the custody state, the restores and the rounds stay. -/

/-- What the mesh stores beside its members and the frames of the tunnel. -/
def meshStores (s : State) : MshState := { s.msh with members := [], tunnel := [] }

theorem shares_of_meshStores {s t : State} (h : meshStores t = meshStores s) : t.msh.shares = s.msh.shares := congrArg (·.shares) h

theorem restores_of_meshStores {s t : State} (h : meshStores t = meshStores s) : t.msh.restores = s.msh.restores := congrArg (·.restores) h

theorem custodyOf_of_meshStores {s t : State} (h : meshStores t = meshStores s) (cab : Nat) : t.custodyOf cab = s.custodyOf cab := by
  have hcustody : t.msh.custody = s.msh.custody := congrArg (·.custody) h
  rw [State.custodyOf, hcustody, State.custodyOf]

theorem roundOf_of_meshStores {s t : State} (h : meshStores t = meshStores s) (id : Nat) : t.roundOf id = s.roundOf id := by
  have hrounds : t.msh.rounds = s.msh.rounds := congrArg (·.rounds) h
  rw [State.roundOf, hrounds, State.roundOf]

theorem meshStores_of_msh {s t : State} (h : t.msh = s.msh) : meshStores t = meshStores s := by
  rw [meshStores, h, meshStores]

section
variable (s : State)

@[simp] theorem meshStores_modMember (m : Nat) (g : Member → Member) : meshStores (modMember m g s) = meshStores s := rfl

@[simp] theorem meshStores_putFrame (m : Nat) (bs : List Byte) : meshStores (putFrame m bs s) = meshStores s := by
  unfold putFrame
  dsimp only
  split <;> rfl

@[simp] theorem meshStores_frameOut (m type frag flags epoch : Nat) (payload : List Byte) :
    meshStores (frameOut m type frag flags epoch payload s) = meshStores s := by
  unfold frameOut
  split
  · rfl
  · dsimp only
    split
    · split <;> rw [meshStores_putFrame, meshStores_modMember]
    · rw [meshStores_putFrame, meshStores_modMember]

@[simp] theorem meshStores_sendFlagged (m flags type frag epoch : Nat) (payload : List Byte) :
    meshStores (sendFlagged m flags type frag epoch payload s) = meshStores s := by
  unfold sendFlagged
  split
  · rfl
  · split
    · rfl
    · split
      · rfl
      · rw [meshStores_frameOut, meshStores_modMember]

@[simp] theorem meshStores_sendMsg (m type : Nat) (payload : List Byte) : meshStores (sendMsg m type payload s) = meshStores s := by
  unfold sendMsg
  split
  · rfl
  · dsimp only
    split
    · rfl
    · refine (forEach_keeps meshStores _ (fun f : Nat × List Byte => sendFrame m type f.1 0 f.2)
        (fun f u => meshStores_sendFlagged u _ _ _ _ _ _) _).trans ?_
      split <;> rfl

/-- Messages to a list of members keep what the mesh stores. -/
theorem meshStores_sendEach {α : Type} (l : List α) (to_ : α → Nat) (type : Nat) (payload : α → List Byte) :
    meshStores (forEach l (fun a => sendMsg (to_ a) type (payload a)) s) = meshStores s :=
  forEach_keeps meshStores l (fun a => sendMsg (to_ a) type (payload a)) (fun a u => meshStores_sendMsg u (to_ a) type (payload a)) s

/-- Messages to a list of members keep all beside the mesh. -/
theorem besideMesh_sendEach {α : Type} (l : List α) (to_ : α → Nat) (type : Nat) (payload : α → List Byte) :
    besideMesh (forEach l (fun a => sendMsg (to_ a) type (payload a)) s) = besideMesh s :=
  forEach_keeps besideMesh l (fun a => sendMsg (to_ a) type (payload a)) (fun a u => besideMesh_sendMsg u (to_ a) type (payload a)) s

end

/-- Two states that agree beside the mesh list the same jobs. -/
theorem jobOf_of_besideMesh {s t : State} (h : besideMesh t = besideMesh s) (j : Nat) : t.jobOf j = s.jobOf j :=
  jobOf_of_job_eq (congrArg (·.job) h) j

/-! ### Custody messages (R414 to R418) -/

section
variable {s : State} {m : Nat} {p : List Byte}

theorem onSharePut_stores (hmay : mayCustody s = true) (hkey : s.msh.shareKey.isSome = true) (hroom : s.msh.shares.length < 16384) :
    ∃ slot, { shareOf s m p with slot := slot, nonce := freeBytes s 12 } ∈ (onSharePut m p s).msh.shares := by
  refine ⟨freeShare (s.msh.shares.filter (fun d =>
    !(d.owner == (shareOf s m p).owner && d.cab == (shareOf s m p).cab && d.gen == (shareOf s m p).gen))), ?_⟩
  have hfits : (eraseShares (fun d => d.owner == (shareOf s m p).owner && d.cab == (shareOf s m p).cab && d.gen == (shareOf s m p).gen) s).msh.shares.length
      < 16384 := (List.length_filter_le _ _).trans_lt hroom
  simp only [onSharePut, hmay, storeShare, hkey, hfits, and_self, Bool.not_true, Bool.false_eq_true, if_true, if_false]
  rw [shares_of_meshStores (meshStores_sendMsg _ _ _ _), drawFree_msh]
  exact List.mem_append_right _ (List.mem_singleton.2 rfl)

theorem onSharePut_of_shut (hmay : mayCustody s = false) : onSharePut m p s = s := by simp [onSharePut, hmay]

/-- An acknowledgement of the set under rotation by one of its holders counts once (R416). -/
theorem rot_onShareAck {rot : Rotation} (hrot : (s.custodyOf (byteAt p 0)).rot = some rot) (hgen : rot.gen = leAt p 4 4)
    (hholder : (holdersFor s (byteAt p 0)).contains m = true) :
    ((onShareAck m p s).custodyOf (byteAt p 0)).rot = some (if rot.acks.contains m then rot else { rot with acks := rot.acks ++ [m] }) := by
  unfold onShareAck
  simp only [hrot, hgen, hholder, true_and, and_true]
  cases hmem : rot.acks.contains m
  · simp
  · simpa using hrot

theorem mem_onShareCommit {e : Share} (he : e ∈ s.msh.shares) (howner : e.owner = m) (hcab : e.cab = byteAt p 0) (hgen : e.gen = leAt p 4 4) :
    { e with committed := true } ∈ (onShareCommit m p s).msh.shares :=
  List.mem_map.2 ⟨e, he, by rw [if_pos ⟨howner, hcab⟩, if_pos hgen]⟩

theorem mem_onShareDrop {e : Share} (he : e ∈ (onShareDrop m p s).msh.shares) :
    e ∈ s.msh.shares ∧ ¬(e.owner = m ∧ e.cab = byteAt p 0 ∧ e.gen = leAt p 4 4) := by
  obtain ⟨hmem, hkept⟩ := List.mem_filter.1 he
  refine ⟨hmem, ?_⟩
  rintro ⟨howner, hcab, hgen⟩
  simp [howner, hcab, hgen] at hkept

/-- A restore that fails ends its job. -/
theorem ended_restoreFails {r : Restore} {t : State} (hjob : (t.jobOf r.job).isSome) : Ended r.job (restoreFails r t) := by
  obtain ⟨x, hx⟩ := Option.isSome_iff_exists.1 hjob
  exact ended_endJob (s := dropRestore r.job t) hx _ _ _ _

/-- A restore ends with the refusal that leaves fewer than t holders (R417). -/
theorem ended_onShareRefuse {r : Restore} (hr : s.msh.restores.find? (fun r => r.cab == byteAt p 0 && r.holders.contains m) = some r)
    (hnew : r.refused.contains m = false) (hshort : r.holders.length < r.t + (r.refused.length + 1)) (hjob : (s.jobOf r.job).isSome) :
    Ended r.job (onShareRefuse m p s) := by
  have hlen : r.holders.length < r.t + (r.refused ++ [m]).length := by simpa using hshort
  simp only [onShareRefuse, hr, hnew, hlen, Bool.false_eq_true, if_true, if_false]
  exact ended_restoreFails (r := { r with refused := r.refused ++ [m] }) hjob

theorem onShareRelease_joins {r : Restore} (hr : s.msh.restores.find? (fun r => r.cab == byteAt p 0 && r.holders.contains m) = some r)
    (hnew : (r.shares.any (fun d => d.x == m + 1)) = false) (hx : leAt p 2 2 = m + 1) (hwanted : r.wanted = 0 ∨ r.wanted = leAt p 4 4) :
    onShareRelease m p s = tryRestore { r with shares := r.shares ++ [shareOf s ((meshSelf s).getD 0) p] }
      { s with msh := { s.msh with restores := s.msh.restores.map (fun q =>
        if q.job = r.job then { r with shares := r.shares ++ [shareOf s ((meshSelf s).getD 0) p] } else q) } } := by
  have hok : ¬(r.shares.any (fun d => d.x == m + 1) = true ∨ (shareOf s ((meshSelf s).getD 0) p).x ≠ m + 1 ∨
      (r.wanted ≠ 0 ∧ r.wanted ≠ (shareOf s ((meshSelf s).getD 0) p).gen)) := by
    rintro (hold | hother | ⟨hzero, hgen⟩)
    · rw [hnew] at hold; contradiction
    · exact hother hx
    · exact hwanted.elim hzero hgen
  unfold onShareRelease
  dsimp only
  rw [show (shareOf s ((meshSelf s).getD 0) p).cab = byteAt p 0 from rfl, hr]
  exact if_neg hok

/-- A probe is answered with the set, or refused where it is not held (R418). -/
theorem onShareProbe_of_service (hkeeper : keeperAbsent s = false) (hst : devState s = .service) :
    onShareProbe m p s = sendMsg m (if (readable s).any (fun e => e.owner == m && e.cab == byteAt p 0 && e.gen == leAt p 4 4) = true then 0x21 else 0x25)
      (if (readable s).any (fun e => e.owner == m && e.cab == byteAt p 0 && e.gen == leAt p 4 4) = true then setPayload (byteAt p 0) (leAt p 4 4)
        else refusePayload (byteAt p 0) 1 (leAt p 4 4)) s := by
  cases hheld : (readable s).any (fun e => e.owner == m && e.cab == byteAt p 0 && e.gen == leAt p 4 4) <;> simp [onShareProbe, hkeeper, hst, hheld]

/-- Where no share of the sender's is held for the cabinet, its request is refused (R417). -/
theorem onShareRequest_of_none (hmay : mayCustody s = true) (hnone : ∀ e ∈ readable s, e.cab = byteAt p 0 → e.owner = m → False) :
    onShareRequest m p s =
      sendMsg m 0x25 (refusePayload (byteAt p 0) (if (readable s).any (fun e => e.cab == byteAt p 0) = true then 4 else 1) (leAt p 4 4)) s := by
  have hkeeper : keeperAbsent s = false := by
    rw [mayCustody, Bool.and_eq_true, Bool.and_eq_true, Bool.not_eq_true'] at hmay
    exact hmay.1.2
  have hown : ∀ q : Share → Bool, ((readable s).filter (fun e => e.cab == byteAt p 0)).filter (fun e => e.owner == m && q e) = [] := by
    intro q
    rw [List.filter_filter, List.filter_eq_nil_iff]
    intro e he h
    simp only [Bool.and_eq_true, beq_iff_eq] at h
    exact hnone e he h.2 h.1.1
  have hmine : ((readable s).filter (fun e => e.cab == byteAt p 0)).any (fun e => e.owner == m) = false := by
    rw [List.any_eq_false]
    intro e he
    obtain ⟨hmem, hcab⟩ := List.mem_filter.1 he
    exact fun howner => hnone e hmem (by simpa using hcab) (by simpa using howner)
  have hempty : ((readable s).filter (fun e => e.cab == byteAt p 0)).isEmpty = !(readable s).any (fun e => e.cab == byteAt p 0) := by
    rw [Bool.eq_iff_iff]
    simp
  unfold onShareRequest
  simp only [hkeeper, hmay, hown, hmine, hempty, Bool.false_eq_true, Bool.not_true, if_false, Bool.false_or]
  cases (readable s).any (fun e => e.cab == byteAt p 0) <;> rfl

end

theorem claims_custodyMessages : Claims.CustodyMessages := by
  intro s m p
  refine ⟨onSharePut_stores, onSharePut_of_shut, fun rot => rot_onShareAck, fun e he => mem_onShareCommit he, fun e he => mem_onShareDrop he,
    fun r => ended_onShareRefuse, fun r => onShareRelease_joins, onShareProbe_of_service, onShareRequest_of_none⟩

/-! ### Custody's boundaries (R416 to R418) -/

section
variable {s : State} {cab : Nat} {rot : Rotation}

/-- The set of a rotation is the cabinet's current one, no rotation is left, and the job that asked for it has its record. -/
def SetInForce (s : State) (cab : Nat) (rot : Rotation) (t : State) : Prop :=
  (t.custodyOf cab).gen = rot.gen ∧ (t.custodyOf cab).committed = true ∧ (t.custodyOf cab).rot = none ∧
    ∀ j, rot.job = some j → (s.jobOf j).isSome → Recorded j { status := 0 } t

/-- Custody state that `c` holds for the cabinet, with the jobs as they were, puts the set in force once its job has its record. -/
theorem setInForce_of_record {c : CabCustody} {u : State} {q : List Instr} (hc : u.custodyOf cab = c) (hgen : c.gen = rot.gen) (hcommitted : c.committed = true)
    (hnone : c.rot = none) (hjobs : ∀ j, u.jobOf j = s.jobOf j) :
    SetInForce s cab rot ((match rot.job with
      | some j => setResult j { status := 0 } u
      | none => u).withPending q) := by
  have hcust : ∀ v : State, v.msh = u.msh → (v.withPending q).custodyOf cab = c := fun v hv => by
    rw [← hc, State.custodyOf, State.withPending_msh, hv, State.custodyOf]
  cases hjob : rot.job with
  | none =>
    refine ⟨?_, ?_, ?_, fun j h => nomatch hjob.symm.trans h⟩
    all_goals rw [hcust u rfl]
    exacts [hgen, hcommitted, hnone]
  | some k =>
    have hk := hcust (setResult k { status := 0 } u) (setResult_msh _ _ _)
    refine ⟨by rw [hk, hgen], by rw [hk, hcommitted], by rw [hk, hnone], fun j h hsome => ?_⟩
    obtain rfl : k = j := Option.some.inj (hjob.symm.trans h)
    obtain ⟨x, hx⟩ := Option.isSome_iff_exists.1 hsome
    exact recorded_withPending (recorded_setResult ((hjobs k).trans hx) _)

theorem setInForce_shareSetCommit {r : Custody} {q : List Instr} (hrot : (s.custodyOf cab).rot = some rot) (hr : custodyRec? s cab = some r)
    (hmay : mayCustody s = true) (hbound : s.time.L % 2 ^ 20 = 0) (hinTime : s.time.L ≤ rot.startL + 2 ^ 20) (hacks : ∀ h ∈ r.holders, h ∈ rot.acks)
    (henough : r.t ≤ rot.acks.length) : SetInForce s cab rot ((shareSetCommit cab s).withPending q) := by
  have hheld : ∀ b : Nat → Bool, r.holders.all (fun m => rot.acks.contains m || b m) = true := fun b => by
    rw [List.all_eq_true]
    intro h hh
    rw [List.contains_iff_mem.2 (hacks h hh), Bool.true_or]
  have hcond : ∀ b : Nat → Bool, (mayCustody s && s.time.L % orbitL == 0 && decide (s.time.L ≤ rot.startL + orbitL) &&
      r.holders.all (fun m => rot.acks.contains m || b m) && decide (r.t ≤ rot.acks.length)) = true := fun b => by
    simp only [hmay, hheld, henough, show s.time.L % orbitL = 0 from hbound, show s.time.L ≤ rot.startL + orbitL from hinTime, beq_self_eq_true,
      decide_true, Bool.and_self]
  unfold shareSetCommit
  simp -zeta only [hrot, hr]
  extract_lets self excused had u v w y z
  rw [if_pos (hcond excused)]
  have hstores : meshStores z = meshStores w := (meshStores_of_msh (raiseEv_msh _ _ _ _ _ _)).trans (meshStores_sendEach w _ _ _ _)
  have hcustody : z.custodyOf cab = u.custodyOf cab := custodyOf_of_meshStores hstores cab
  have hjobs : ∀ j, z.jobOf j = s.jobOf j := fun j =>
    (jobOf_raiseEv _ _ _ _ _ _ j).trans (jobOf_of_besideMesh (besideMesh_sendEach w _ _ _ _) j)
  rw [custodyOf_modCustody, if_pos rfl] at hcustody
  clear_value z
  exact setInForce_of_record hcustody (by simp [CabCustody.gen]) (by simp [CabCustody.committed]) rfl hjobs

/-- The cabinet has no rotation, its current set is the one it had, and the job that asked for the rotation has ended. -/
def RotationGone (s : State) (cab : Nat) (rot : Rotation) (t : State) : Prop :=
  (t.custodyOf cab).rot = none ∧ (t.custodyOf cab).gen = (s.custodyOf cab).gen ∧ ∀ j, rot.job = some j → (s.jobOf j).isSome → Ended j t

theorem rotationGone_dropRotation {q : List Instr} (hrot : (s.custodyOf cab).rot = some rot) :
    RotationGone s cab rot ((dropRotation cab s).withPending q) := by
  unfold dropRotation
  simp -zeta only [hrot]
  extract_lets self u v
  have hcustody : v.custodyOf cab = { s.custodyOf cab with rot := none } := by
    have hu : u.custodyOf cab = (modCustody cab (fun c => { c with rot := none }) s).custodyOf cab := rfl
    rw [custodyOf_of_meshStores (meshStores_sendEach u _ _ _ _) cab, hu, custodyOf_modCustody, if_pos rfl]
  have hjobs : ∀ j, v.jobOf j = s.jobOf j := fun j => jobOf_of_besideMesh (besideMesh_sendEach u _ _ _ _) j
  clear_value v
  cases hjob : rot.job with
  | none => exact ⟨congrArg (·.rot) hcustody, congrArg (·.gen) hcustody, fun j h => nomatch hjob.symm.trans h⟩
  | some k =>
    have hk : (failJob k 0x7001 rot.acks.length 0 0 v).custodyOf cab = { s.custodyOf cab with rot := none } := by
      rw [State.custodyOf, failJob_msh]
      exact hcustody
    refine ⟨congrArg (·.rot) hk, congrArg (·.gen) hk, fun j h hsome => ?_⟩
    obtain rfl : k = j := Option.some.inj (hjob.symm.trans h)
    obtain ⟨x, hx⟩ := Option.isSome_iff_exists.1 hsome
    exact ended_endJob ((hjobs k).trans hx) _ _ _ _

end

/-- A restore that fails is dropped, and with it every restore of its job. -/
theorem restores_restoreFails {r q : Restore} {s : State} (hq : q ∈ (restoreFails r s).msh.restores) : q.job ≠ r.job := by
  rw [restoreFails, failJob_msh] at hq
  simpa using (List.mem_filter.1 hq).2

theorem claims_custodyBoundaries : Claims.CustodyBoundaries := by
  intro s cab
  refine ⟨fun rot r hrot hr hmay hbound hinTime hacks henough => ?_, fun rot hrot hlate => ?_, fun r hr hlate => ?_, ?_⟩
  · exact yields_of_exec_eq_done (u := shareSetCommit cab s) rfl (setInForce_shareSetCommit hrot hr hmay hbound hinTime hacks henough)
  · have heffect : rotationTimeout cab s = dropRotation cab s := by
      rw [rotationTimeout, hrot]
      exact if_pos hlate
    refine yields_of_exec_eq_done (u := rotationTimeout cab s) rfl ?_
    rw [heffect]
    exact rotationGone_dropRotation hrot
  · have heffect : restoreTimeout r.job s = restoreFails r s := by
      rw [restoreTimeout, hr]
      exact if_pos hlate
    refine yields_of_exec_eq_done (u := restoreTimeout r.job s) rfl ?_
    rw [heffect]
    exact ⟨fun q => restores_restoreFails, ended_restoreFails⟩
  · exact yields_of_exec_eq_done (u := shareSetErase s) rfl rfl

/-- Settles O57: each message's and each boundary's effect on the custody state, the messages sent with it keeping what the mesh stores. -/
theorem custodyOverTheMesh : Obligations.CustodyOverTheMesh := ⟨claims_custodyMessages, claims_custodyBoundaries⟩

end Sys2Proof.Machine
end

section
/-! PROOFS. The tunnel jobs and the aggregation of values over the mesh (R413, R420 to R422). -/

namespace Sys2Proof.Machine

/-! ### Tunnel jobs (R413) -/

section
variable {s : State} {j : Nat} {x : Job}

/-- A fold that counts each element in one of two counters counts them all. -/
theorem foldl_counts {α β : Type} (f : α × Nat × Nat → β → α × Nat × Nat) (h : ∀ a e, (f a e).2.1 + (f a e).2.2 = a.2.1 + a.2.2 + 1) (l : List β)
    (a : α × Nat × Nat) : (l.foldl f a).2.1 + (l.foldl f a).2.2 = a.2.1 + a.2.2 + l.length := by
  induction l generalizing a with
  | nil => rfl
  | cons e l ih =>
    rw [List.foldl_cons, ih, h, List.length_cons]
    omega

/-- MESH_TUNNEL_IN counts each frame of its buffer as taken or as refused. -/
theorem meshTunnelIn_counts (hrun : runnable s j 0x9001 = some x) (hmem : s.car.active.members.any (fun r => r.path == 4) = true) :
    ∃ u a b, meshTunnelIn j s = setResult j { status := 0, w0 := a, w1 := b } u ∧
      a + b = (tunnelFrames (x.input.length / 8 + 1) x.input).length := by
  unfold meshTunnelIn
  simp -zeta only [hrun, hmem, Bool.not_true, Bool.false_eq_true, if_false]
  extract_lets one r
  refine ⟨r.1, r.2.1, r.2.2, rfl, ?_⟩
  refine (foldl_counts one (fun a f => ?_) _ (s, 0, 0)).trans (Nat.zero_add _)
  simp only [one]
  split
  · rfl
  · split
    · split
      · exact Nat.add_right_comm _ _ _
      · rfl
    · rfl

/-- The frames taken are the first ones. -/
theorem takeFrames_append_drop (room : Nat) (fs : List (Nat × List Byte)) :
    takeFrames room fs ++ fs.drop (takeFrames room fs).length = fs := by
  induction fs generalizing room with
  | nil => simp [takeFrames]
  | cons f fs ih =>
    unfold takeFrames
    split
    · rw [List.length_cons, List.drop_succ_cons, List.cons_append, ih]
    · rfl

/-- The frames that MESH_TUNNEL_OUT gave are the first of the tunnel's, the rest stays, and the job's record says so. -/
def TunnelGiven (s : State) (j : Nat) (fs : List (Nat × List Byte)) (t : State) : Prop :=
  t.msh.tunnel = s.msh.tunnel.drop fs.length ∧ fs ++ t.msh.tunnel = s.msh.tunnel ∧
    Recorded j { status := 0, output := fs.flatMap tunnelBytes, w0 := fs.length, w1 := t.msh.tunnel.length } t

theorem tunnelGiven_meshTunnelOut (hrun : runnable s j 0x9002 = some x) (q : List Instr) :
    TunnelGiven s j (takeFrames (min x.desc.outCap (maxOutput s)) s.msh.tunnel) ((meshTunnelOut j s).withPending q) := by
  have hjob := (jobOf_and_opcode_of_runnable hrun).1
  unfold meshTunnelOut
  simp -zeta only [hrun]
  extract_lets fs rest
  have hrest : fs ++ rest = s.msh.tunnel := takeFrames_append_drop _ _
  exact ⟨rfl, hrest, recorded_setResult (s := { s with msh := { s.msh with tunnel := rest } }) hjob _⟩

end

/-! ### Rounds -/

section
variable {s : State} {id : Nat} {r : Round}

theorem roundOf_modRound (g : Round → Round) (hg : ∀ r, (g r).id = r.id) : (modRound id g s).roundOf id = (s.roundOf id).map g := by
  have hkey : (fun r : Round => r.id == id) ∘ (fun r => if r.id = id then g r else r) = fun r => r.id == id := by
    funext r
    by_cases h : r.id = id <;> simp [h, hg]
  simp only [State.roundOf, modRound, List.find?_map, hkey]
  cases h : s.msh.rounds.find? (fun r => r.id == id) with
  | none => rfl
  | some r => simp [show r.id = id by simpa using List.find?_some h]

theorem roundOf_dropRound : (dropRound id s).roundOf id = none := by
  simp [State.roundOf, dropRound, List.find?_filter]

/-- A round this device has not joined only waits. -/
theorem roundGoes_of_unowned (hr : s.roundOf id = some r) (hjob : r.job = none) : roundGoes id s = s := by
  simp [roundGoes, hr, hjob]

/-- A round that a peer has not joined only waits. -/
theorem roundGoes_of_unjoined (hr : s.roundOf id = some r) {q : Nat} (hpeer : q ∈ peersOf s r) (hq : joined r q = false) : roundGoes id s = s := by
  have hall : (peersOf s r).all (joined r) = false := List.all_eq_false.2 ⟨q, hpeer, by simp [hq]⟩
  unfold roundGoes
  simp only [hr, hall]
  cases r.job <;> rfl

/-- A change of a round this device has not joined is all that a message about it does. -/
theorem roundOf_roundGoes_modRound (g : Round → Round) (hg : ∀ r, (g r).id = r.id) (hgjob : ∀ r, (g r).job = r.job) (hr : s.roundOf id = some r)
    (hjob : r.job = none) : (roundGoes id (modRound id g s)).roundOf id = some (g r) := by
  have hnew : (modRound id g s).roundOf id = some (g r) := by rw [roundOf_modRound g hg, hr, Option.map_some]
  rw [roundGoes_of_unowned hnew ((hgjob r).trans hjob), hnew]

/-- A bitmap of three members names a peer, whichever of them this device is. -/
theorem exists_peer (hthree : 3 ≤ (bitmapMembers r.bitmap).length) : ∃ q, q ∈ peersOf s r := by
  have hnodup : (bitmapMembers r.bitmap).Nodup := List.nodup_range.filter _
  by_contra hno
  have hall : ∀ m ∈ bitmapMembers r.bitmap, meshSelf s = some m := fun m hm => by
    by_contra hself
    exact hno ⟨m, List.mem_filter.2 ⟨hm, by simpa using hself⟩⟩
  match hms : bitmapMembers r.bitmap with
  | [] => simp [hms] at hthree
  | [_] => simp [hms] at hthree
  | a :: b :: _ =>
    rw [hms] at hnodup hall
    have hab : a = b := Option.some.inj ((hall a (by simp)).symm.trans (hall b (by simp)))
    simp [hab] at hnodup

/-- A round of three members that nobody has offered to join only waits. -/
theorem roundGoes_of_no_offers (hr : s.roundOf id = some r) (hnone : r.offers = []) (hthree : 3 ≤ (bitmapMembers r.bitmap).length) :
    roundGoes id s = s := by
  obtain ⟨q, hq⟩ := exists_peer (s := s) hthree
  exact roundGoes_of_unjoined hr hq (by simp [joined, hnone])

end

/-! ### Aggregation messages (R420 to R422) -/

section
variable {s : State} {m id : Nat} {p : List Byte} {r : Round}

theorem roundOf_onAggOffer_of_none (hid : id = leAt p 0 8) (hnone : s.roundOf id = none) :
    (onAggOffer m p s).roundOf id = some { id := id, firstL := s.time.L, offers := [(m, byteAt p 8, byteAt p 9, slice p 16 32)] } := by
  subst hid
  unfold onAggOffer
  dsimp only
  rw [hnone, if_neg (by simp)]
  refine roundOf_roundGoes_modRound (r := { id := leAt p 0 8, firstL := s.time.L }) _ (fun _ => rfl) (fun _ => rfl) ?_ rfl
  have hold : s.msh.rounds.find? (fun r => r.id == leAt p 0 8) = none := hnone
  simp [State.roundOf, hold]

theorem roundOf_onAggShare (hid : id = leAt p 0 8) (hr : s.roundOf id = some r) (hjob : r.job = none) :
    ((onAggShare m p s).roundOf id).map (·.shares) =
      some (r.shares.filter (fun e => e.1 != m) ++ [(m, bytesValues ((p.length - 8) / 8) (p.drop 8))]) := by
  subst hid
  rw [onAggShare, roundOf_roundGoes_modRound (hr := hr) (hjob := hjob), Option.map_some]
  all_goals exact fun _ => rfl

theorem roundOf_onAggPartial (hid : id = leAt p 0 8) (hr : s.roundOf id = some r) (hjob : r.job = none) :
    ((onAggPartial m p s).roundOf id).map (·.partials) =
      some (r.partials.filter (fun e => e.1 != m) ++ [(m, bytesValues ((p.length - 8) / 8) (p.drop 8))]) := by
  subst hid
  rw [onAggPartial, roundOf_roundGoes_modRound (hr := hr) (hjob := hjob), Option.map_some]
  all_goals exact fun _ => rfl

theorem roundOf_onAggCipher (hid : id = leAt p 0 8) (hr : s.roundOf id = some r) (hjob : r.job = none) :
    ((onAggCipher m p s).roundOf id).map (fun r => r.ciphers.map (·.member)) =
      some ((r.ciphers.filter (fun e => e.member != m)).map (·.member) ++ [m]) := by
  subst hid
  rw [onAggCipher, roundOf_roundGoes_modRound (hr := hr) (hjob := hjob), Option.map_some, List.map_append, List.map_singleton]
  all_goals exact fun _ => rfl

/-- The round is gone and the job that joined it has ended. -/
def RoundGone (s : State) (id : Nat) (r : Round) (t : State) : Prop :=
  t.roundOf id = none ∧ ∀ j, r.job = some j → (s.jobOf j).isSome → Ended j t

theorem roundGone_aggRoundTimeout (hr : s.roundOf id = some r) (hlate : r.firstL + 2 ^ 20 ≤ s.time.L)
    (hshort : r.job = none ∨ ∃ q ∈ peersOf s r, joined r q = false) (q : List Instr) : RoundGone s id r ((aggRoundTimeout id s).withPending q) := by
  have hlate' : r.firstL + orbitL ≤ s.time.L := hlate
  unfold aggRoundTimeout
  simp only [hr, hlate', if_true]
  cases hjob : r.job with
  | none => exact ⟨roundOf_dropRound, fun j h => nomatch hjob.symm.trans h⟩
  | some k =>
    have hmissing : ¬((peersOf s r).filter (fun m => !joined r m)).length = 0 := by
      obtain hnone | ⟨q, hpeer, hq⟩ := hshort
      · rw [hjob] at hnone; contradiction
      · exact (List.length_pos_of_mem (List.mem_filter.2 ⟨hpeer, by simp [hq]⟩)).ne'
    simp only [hmissing, if_false]
    refine ⟨?_, fun j h hsome => ?_⟩
    · rw [State.roundOf, State.withPending_msh, failJob_msh]
      exact roundOf_dropRound
    · obtain rfl : k = j := Option.some.inj (hjob.symm.trans h)
      obtain ⟨x, hx⟩ := Option.isSome_iff_exists.1 hsome
      exact ended_endJob (s := dropRound id s) hx _ _ _ _

end

theorem claims_aggregationMessages : Claims.AggregationMessages := by
  intro s m id p hid
  exact ⟨roundOf_onAggOffer_of_none hid,
    fun r hr hjob => ⟨roundOf_onAggShare hid hr hjob, roundOf_onAggPartial hid hr hjob, roundOf_onAggCipher hid hr hjob⟩,
    fun r hr hlate hshort => yields_of_exec_eq_done (u := aggRoundTimeout id s) rfl (roundGone_aggRoundTimeout hr hlate hshort _)⟩

/-! ### MESH_AGGREGATE (R420) -/

section
variable {s : State} {j self : Nat} {x : Job} {back : List Byte}

/-- A bitmap of three members or more, this device and known peers, passes the checks of MESH_AGGREGATE. -/
theorem meshAggregate_checks (hself : meshSelf s = some self) (hmine : (bitmapMembers x.aux).contains self = true)
    (hthree : 3 ≤ (bitmapMembers x.aux).length) (hknown : (bitmapMembers x.aux).all (fun m => m == self || (meshRec? s m).isSome) = true) :
    (!(meshSelf s).isSome || !(bitmapMembers x.aux).contains ((meshSelf s).getD 0) || decide ((bitmapMembers x.aux).length < 3) ||
      !(bitmapMembers x.aux).all (fun m => m == (meshSelf s).getD 0 || (meshRec? s m).isSome)) = false := by
  simp only [hself, Option.isSome_some, Option.getD_some, hmine, hknown, Bool.not_true, Bool.false_or, Bool.or_false, decide_eq_false_iff_not]
  omega

theorem meshAggregate_of_few (hrun : runnable s j 0x9020 = some x) (hfew : (bitmapMembers x.aux).length < 3) :
    meshAggregate j back s = endJob j 0x2001 32 0 0 s := by
  unfold meshAggregate
  simp only [hrun, hfew, decide_true, Bool.or_true, Bool.true_or, if_true]
  rfl

/-- A round put in the table is the one its number names. -/
theorem roundOf_put (r : Round) : ({ s with msh := { s.msh with rounds := s.msh.rounds.filter (fun q => q.id != r.id) ++ [r] } } : State).roundOf r.id = some r := by
  have hnone : (s.msh.rounds.filter (fun q => q.id != r.id)).find? (fun q => q.id == r.id) = none := by simp
  rw [State.roundOf, List.find?_append, hnone]
  simp

/-- A round put in the table that nobody has offered to join stays there, whatever is sent about it. -/
theorem roundOf_roundGoes_put {id : Nat} {r : Round} {w : State}
    (hw : meshStores w = { meshStores s with rounds := s.msh.rounds.filter (fun q => q.id != id) ++ [r] }) (hid : r.id = id)
    (hnone : r.offers = []) (hthree : 3 ≤ (bitmapMembers r.bitmap).length) : (roundGoes id w).roundOf id = some r := by
  subst hid
  have hrounds : w.msh.rounds = s.msh.rounds.filter (fun q => q.id != r.id) ++ [r] := congrArg (·.rounds) hw
  have hround : w.roundOf r.id = some r := by
    rw [State.roundOf, hrounds]
    exact roundOf_put r
  rw [roundGoes_of_no_offers hround hnone hthree, hround]

/-- Joining a round of share mode puts it in the table, and the offers and shares sent leave it there. -/
theorem roundOf_meshAggregate_shares (hrun : runnable s j 0x9020 = some x) (hself : meshSelf s = some self)
    (hmine : (bitmapMembers x.aux).contains self = true) (hthree : 3 ≤ (bitmapMembers x.aux).length)
    (hknown : (bitmapMembers x.aux).all (fun m => m == self || (meshRec? s m).isSome) = true) (hnone : s.roundOf (x.desc.par 48 8) = none)
    (hmode : x.desc.par 40 1 = 1) :
    ((meshAggregate j back s).roundOf (x.desc.par 48 8)).map (fun r => (r.job, r.mode, r.count, r.bitmap)) =
      some (some j, 1, x.desc.par 41 1, x.aux) := by
  have hchecks := meshAggregate_checks hself hmine hthree hknown
  unfold meshAggregate
  simp -zeta only [hrun]
  extract_lets d id ms me known n old r peers offer put f draws kept u v w
  have hid : s.roundOf id = none := hnone
  rw [if_neg (Bool.eq_false_iff.1 hchecks), if_neg (by simp [hid]), if_pos hmode]
  have hn : n = x.desc.par 41 1 := if_pos hmode
  have hold : old = { id := id, firstL := s.time.L } := congrArg (Option.getD · _) hid
  have hput : ∀ q, meshStores (put q s) = { meshStores s with rounds := s.msh.rounds.filter (fun q => q.id != id) ++ [q] } := fun q => rfl
  have hstores : meshStores w = { meshStores s with rounds := s.msh.rounds.filter (fun q => q.id != id) ++ [{ r with kept := kept }] } :=
    ((meshStores_sendEach v draws (·.1) 0x31 _).trans (meshStores_sendEach u peers (fun m => m) 0x30 _)).trans (hput { r with kept := kept })
  have hgo := roundOf_roundGoes_put hstores (congrArg (·.id) hold) (congrArg (·.offers) hold) hthree
  refine (congrArg (Option.map _) hgo).trans ?_
  rw [Option.map_some, ← hn, ← hmode]

/-- Joining a round of ciphertext mode with bytes that are the handle's puts it in the table; other bytes end the job. -/
theorem roundOf_meshAggregate_ciphers (hrun : runnable s j 0x9020 = some x) (hself : meshSelf s = some self)
    (hmine : (bitmapMembers x.aux).contains self = true) (hthree : 3 ≤ (bitmapMembers x.aux).length)
    (hknown : (bitmapMembers x.aux).all (fun m => m == self || (meshRec? s m).isSome) = true) (hnone : s.roundOf (x.desc.par 48 8) = none)
    (hmode : x.desc.par 40 1 = 2) {h : HeRec} (hhandle : heOf? s x.desc.handleA = some h) (hkind : h.kind = 0) (hdigest : h.digest = heDigest back) :
    ((meshAggregate j back s).roundOf (x.desc.par 48 8)).map (fun r => (r.job, r.mode, r.bitmap)) = some (some j, 2, x.aux) := by
  have hchecks := meshAggregate_checks hself hmine hthree hknown
  unfold meshAggregate
  simp -zeta only [hrun]
  extract_lets d id ms me known n old r peers offer put f draws kept u v w
  have hid : s.roundOf id = none := hnone
  rw [if_neg (Bool.eq_false_iff.1 hchecks), if_neg (by simp [hid]), if_neg (by rw [show r.mode = 2 from hmode]; decide)]
  have hh : heOf? s d.handleA = some h := hhandle
  simp -zeta only [hh]
  extract_lets c y z a
  rw [if_neg (by simp [hkind]), if_neg (by simp [hdigest])]
  have hold : old = { id := id, firstL := s.time.L } := congrArg (Option.getD · _) hid
  have hput : ∀ q, meshStores (put q s) = { meshStores s with rounds := s.msh.rounds.filter (fun q => q.id != id) ++ [q] } := fun q => rfl
  have ha : meshStores a = meshStores z := by
    simp only [a]
    split
    · rfl
    · exact meshStores_sendMsg _ _ _ _
  have hstores : meshStores a = { meshStores s with rounds := s.msh.rounds.filter (fun q => q.id != id) ++ [{ r with ciphers := r.ciphers ++ [c] }] } := by
    rw [ha]
    exact (meshStores_sendEach y peers (fun m => m) 0x30 _).trans (hput _)
  have hgo := roundOf_roundGoes_put hstores (congrArg (·.id) hold) (congrArg (·.offers) hold) hthree
  refine (congrArg (Option.map _) hgo).trans ?_
  rw [Option.map_some, ← hmode]

/-- Bytes that are not the handle's end the job. -/
theorem ended_meshAggregate (hrun : runnable s j 0x9020 = some x) (hself : meshSelf s = some self)
    (hmine : (bitmapMembers x.aux).contains self = true) (hthree : 3 ≤ (bitmapMembers x.aux).length)
    (hknown : (bitmapMembers x.aux).all (fun m => m == self || (meshRec? s m).isSome) = true) (hnone : s.roundOf (x.desc.par 48 8) = none)
    (hmode : x.desc.par 40 1 = 2) {h : HeRec} (hhandle : heOf? s x.desc.handleA = some h) (hkind : h.kind = 0) (hdigest : ¬h.digest = heDigest back) :
    Ended j (meshAggregate j back s) := by
  have hchecks := meshAggregate_checks hself hmine hthree hknown
  have hjob := (jobOf_and_opcode_of_runnable hrun).1
  unfold meshAggregate
  simp -zeta only [hrun]
  extract_lets d id ms me known n old r peers offer put
  have hid : s.roundOf id = none := hnone
  have hh : heOf? s d.handleA = some h := hhandle
  rw [if_neg (Bool.eq_false_iff.1 hchecks), if_neg (by simp [hid]), if_neg (by rw [show r.mode = 2 from hmode]; decide)]
  simp -zeta only [hh]
  rw [if_neg (by simp [hkind]), if_pos hdigest]
  exact ended_endJob ((jobOf_raiseFrom _ _ _ _ _ _ _ j).trans hjob) _ _ _ _

end

theorem claims_tunnelsAndAggregation : Claims.TunnelsAndAggregation := by
  intro s j x
  refine ⟨fun hrun hmem => ?_, fun fs hrun hfs => ?_, fun self back hrun hself hmine hthree hknown hnone => ⟨fun hmode => ?_, fun h hmode hhandle hkind => ?_⟩,
    fun back hrun hfew => does_of_exec_eq_done (congrArg (done s) (meshAggregate_of_few hrun hfew))⟩
  · obtain ⟨u, a, b, heffect, hcount⟩ := meshTunnelIn_counts hrun hmem
    exact ⟨u, a, b, does_of_exec_eq_done (congrArg (done s) heffect), hcount⟩
  · subst hfs
    exact yields_of_exec_eq_done (u := meshTunnelOut j s) rfl (tunnelGiven_meshTunnelOut hrun _)
  · exact yields_of_exec_eq_done (u := meshAggregate j back s) rfl (roundOf_meshAggregate_shares hrun hself hmine hthree hknown hnone hmode)
  · refine yields_of_exec_eq_done (u := meshAggregate j back s) rfl ?_
    split
    · next hdigest => exact roundOf_meshAggregate_ciphers hrun hself hmine hthree hknown hnone hmode hhandle hkind hdigest
    · next hdigest => exact ended_meshAggregate hrun hself hmine hthree hknown hnone hmode hhandle hkind hdigest

/-- Settles O56: the frames of a tunnel are counted and kept, and a round that not every member has joined stays in the table. -/
theorem aggregationAndTunnels : Obligations.AggregationAndTunnels := ⟨claims_tunnelsAndAggregation, claims_aggregationMessages⟩

end Sys2Proof.Machine
end
